-- ==== Sys2Proof/Word.lean ====
section
/-! DEFINITION. Bytes and octet strings, the plain data that packets, blocks, records and frames are made of (R2). -/

namespace Sys2Proof

/-- One octet. -/
abbrev Byte := BitVec 8

/-- An octet string, lowest offset first. -/
abbrev Bytes := List Byte

/-- The content of a register of up to 64 bits; a 32-bit register uses the low half. -/
abbrev Word := BitVec 64

end Sys2Proof
end

