-- ==== Sys2Proof/Syntax.lean ====
section
/-! DEFINITION. The commands of the block: one constructor per row of the opcode table, and the plain data their operands are made of. Log entries of this file: DEDUCED 219; DESIGN CHOICE 9. -/

namespace Sys2Proof

/-- What the device reads from host memory for a command packet, beside the submission entry itself: the parameter block (R46), the scatter elements as (IOVA, length, reserved) (R47), the input octets in descriptor order, and the officer keys and signatures that a quorum token points to (R145). Read data is fixed by the host; which octets the device read is all that R55 lets count. -/
structure PktData where
  pind : Bytes
  inList : List (Nat × Nat × Nat)
  outList : List (Nat × Nat × Nat)
  input : Bytes
  approvals : List (Bytes × Bytes)
  refused : Bool
  /-- How many output octets the host accepts before it refuses a write (R49): none where it refuses no write. -/
  outFail : Option Nat
deriving DecidableEq, Repr

/-- An access as a checker sees it: the master's island (0xFF for the debug port), the source code of R331 (0 secure world, 1 open world, 2 debug port, 3 host on PF0, 4 host on PF1, 5 engine), and the PASID it carried. -/
structure Master where
  island : Nat
  source : Nat
  pasid : Option Nat
deriving DecidableEq, Repr

/-- The kind of an access (R331). -/
inductive AccKind where
  | read | write | fetch
deriving DecidableEq, Repr

/-- The address map that an access uses (R32, R34, R35). -/
inductive AddrSpace where
  | pf0 | pf1 | internal
deriving DecidableEq, Repr

/-- A card in the slot, as the card host sees it (R470 to R477): its protocol, identification, the modes of `CRD_STATUS.mode` that it advertises, whether it takes 1.8 V signalling, its RPMB partition with key, write counter and block 0, its size in sectors, and its user area: label, backup areas, evidence export. -/
structure Card where
  sd : Bool
  cid : Bytes
  modes : List Nat
  v18 : Bool
  rpmb : Bool
  key : Option Bytes
  counter : Nat
  block0 : Bytes
  sectors : Nat
  label : Bytes
  area0 : Bytes
  area1 : Bytes
  evidence : Bytes
deriving DecidableEq, Repr

/-- The phases of a card command (R481). -/
inductive CardPhase where
  /-- Not begun: a hold on PER or KS covers the command, or its checks run. -/
  | checks
  /-- The card key is sent, its result not read. -/
  | keySent
  /-- The label is being written. -/
  | label
  /-- Blocks of the backup area are being written. -/
  | area
  /-- The commit frame is on its way. -/
  | commitData
  /-- The card is busy with the commit write. -/
  | commitBusy
  /-- The commit write's result is to be read. -/
  | commitResult
  /-- The backup is being read. -/
  | restore
  /-- The evidence export is being written. -/
  | export_
deriving DecidableEq, Repr

/-- The card errors of R473 that a retry follows. -/
inductive CardErr where
  | response | responseCrc | readTimeout | readCrc | writeToken
deriving DecidableEq, Repr

/-- What a DMA request of the device was for (R42, R49). -/
inductive DmaUse where
  /-- The fetch of the next submission entry of a queue pair. -/
  | fetch (ring q : Nat)
  /-- A read or an output write of a packet. -/
  | packet (pid : Nat)
  /-- A completion write to a queue pair's CQ. -/
  | completion (ring q : Nat)
  /-- A dirty-log bit of a slice. -/
  | dlog (slice : Nat)
  /-- A dump, meter or other manager write. -/
  | other
deriving DecidableEq, Repr

/-- An uncorrectable error, by the rows of R419. -/
inductive MemErr where
  | keyLine (line : Nat)
  | deviceArea (pid : Nat)
  | hwuShare (pid : Nat)
  | saContext (ctx : Nat) (mirror : Bool)
  | saIndex (pos : Nat) (fid : Nat)
  | lengthBit
  | mapEntry (index : Nat) (fid : Nat)
  | policySlot (slot : Nat)
  | flowEntry (bank pos : Nat) (stash : Bool)
  | sbFrame (fid : Nat)
  | sbLookaside (pid : Nat)
  | sbWorkspace (ws slot pid : Nat)
  | sbMeter (slice fields : Nat)
  | sbHeld (index fields : Nat)
  | operand (core : Nat)
  | pairMemory (pair : Nat)
  | handshakePacket (src dst pid : Nat)
  | handshakeFrame (src dst fid : Nat)
  | handshakeRead (src dst addr : Nat)
  | handshakeWrite (src dst : Nat)
  | keyChannel (pid : Nat)
  | seedShare
  | vaultEntry (slice : Nat)
  | recorder (index : Nat)
  | counter (index : Nat)
  | otp
deriving DecidableEq, Repr

/-- A request to the management responders: SPDM (R455), IDE_KM (R453) and MCTP control (R462). -/
inductive MgmtReq where
  | getVersion | getCapabilities
  | negotiate (offered : Bool)
  | getDigests
  | getCertificate (slot offset len : Nat)
  | challenge (slot : Nat) (nonce : Bytes)
  | getMeasurements (index : Nat) (sign : Bool) (nonce : Bytes)
  | keyExchange (reqId : Nat) (pub : Bytes)
  | finish (session : Nat) (mac : Bytes)
  | endSession (session : Nat)
  | heartbeat (session : Nat)
  | keyUpdate (session op : Nat)
  | chunkSend (handle seq : Nat) (last : Bool) (data : Bytes)
  | chunkGet (handle seq : Nat)
  | keyProg (session stream sub dir set : Nat) (key : Bytes)
  | kSetGo (session stream sub dir set : Nat)
  | kSetStop (session stream sub dir set : Nat)
  | query (session stream : Nat)
  | spdmOther (code : Nat)
  | setEid (eid : Nat) | getEid | getMctpVersion (typ : Nat) | getTypes
  | mctpOther (typ command : Nat)
deriving DecidableEq, Repr

/-- The commands: each row of the opcode table, with its operands. Every command carries `dt`, the device time in ns that has passed since the command before it. -/
inductive Instr where
  /-- POWER_ON_RESET: Main rails enter their operating range; every island except KA resets and boot begins, with the KA power-cycle count advanced (R356). -/
  | powerOnReset (dt : Nat) (cut : Bool)
  /-- COLD_RESET: PORST_N is asserted for at least 10 µs; every island except KA resets and boot runs again (R356). -/
  | coldReset (dt : Nat) (cut : Bool)
  /-- RP_RESET: The RP resets every island except KA after life-cycle steps, a class 3 erase or the end of recovery (R356). -/
  | rpReset (dt : Nat) (cut : Bool)
  /-- HOST_LINK_RESET: PERST_N, a hot reset or link down resets the HLU link; queue pairs stop and dirty logging is disabled, while keys and inline traffic are kept (R357). -/
  | hostLinkReset (dt : Nat)
  /-- FUNCTION_LEVEL_RESET: An FLR or a D3hot-to-D0 transition of PF0 or PF1 resets that function's configuration space and its queue pairs (R356). -/
  | functionLevelReset (dt : Nat) (pf1 : Bool)
  /-- BOOT_PHASE_ROM: The RP measures the ROM into MR0, resolves the life-cycle journal, decodes the state and loads trim (R358). -/
  | bootPhaseRom (dt : Nat) (xsp : Nat)
  /-- BOOT_PHASE_KEYS: Once DRBG0 is available, KS zeroes the cache, sets generations, runs the seed check and derives the identity and slot-check keys (R358). -/
  | bootPhaseKeys (dt : Nat)
  /-- BOOT_PHASE_IMAGES: The custody and steward images are read, verified and measured, and the attestation certificate is issued (R364). -/
  | bootPhaseImages (dt : Nat)
  /-- ISLAND_SELFTEST_DONE: An island finishes boot self-test and memory clearing, and is fenced if the test failed (R358). -/
  | islandSelftestDone (dt : Nat) (island : Nat) (pass : Bool)
  /-- BOOT_PHASE_FIRMWARE: When every island has finished self-test, the command pairs start custody firmware, which loads programs, locks assignments and applies the boot overlay (R358). -/
  | bootPhaseFirmware (dt : Nat)
  /-- BOOT_READY: Boot reaches READY, R64 ceases to apply and the boot cause of the device interrupt is raised (R358). -/
  | bootReady (dt : Nat)
  /-- RECOVERY_GO: A write of 1 to DEV_RCV_CTRL.go in RECOVERY makes the RP fetch, check and install a custody image and then reset (R367). -/
  | recoveryGo (dt : Nat) (image : Bytes) (refused : Bool)
  /-- QP_ENABLE: A write of 1 to CMD_QP_CTRL.enable checks the configuration and starts the queue pair, or sets cfgerr (R40). -/
  | qpEnable (dt : Nat) (pasid : Option Nat) (ring : Nat) (q : Nat)
  /-- QP_STOP: A write of 1 to CMD_QP_CTRL.stop starts the stop sequence: fetching ends and unstarted packets complete with ABORTED (R41). -/
  | qpStop (dt : Nat) (pasid : Option Nat) (ring : Nat) (q : Nat)
  /-- QP_STOP_COMPLETE: When every fetched packet has its completion posted, running, enable and stop read 0 (R41). -/
  | qpStopComplete (dt : Nat) (ring : Nat) (q : Nat)
  /-- SQ_TAIL_DOORBELL: A write to CMD_SQ_TAIL makes entries pending, or is discarded with dberr set when out of range (R39). -/
  | sqTailDoorbell (dt : Nat) (pasid : Option Nat) (ring : Nat) (q : Nat) (value : Nat)
  /-- CQ_HEAD_DOORBELL: A write to CMD_CQ_HEAD frees CQ entries, or is discarded with dberr set when it would pass the tail (R39). -/
  | cqHeadDoorbell (dt : Nat) (pasid : Option Nat) (ring : Nat) (q : Nat) (value : Nat)
  /-- SQ_ENTRY_FETCH: The device fetches and copies a pending SQ entry when a CQ entry can be reserved for it (R43). -/
  | sqEntryFetch (dt : Nat) (ring : Nat) (q : Nat) (entry : Bytes) (ahead : Nat)
  /-- RANDOMNESS_READY: A packet held for randomness has its random output generated and reserved, and proceeds (R506). -/
  | randomnessReady (dt : Nat) (pid : Nat)
  /-- RANDOMNESS_HOLD_EXPIRY: A packet held for randomness for 250 ms completes with NOT_READY (R65). -/
  | randomnessHoldExpiry (dt : Nat) (pid : Nat)
  /-- TOKEN_BUCKET_START: A symmetric packet waiting for tokens starts once the bucket level is zero or more, and its blocks are deducted (R75). -/
  | tokenBucketStart (dt : Nat) (pid : Nat)
  /-- COMPLETION_IRQ_DELAY_EXPIRY: The CMD_QP_IRQ delay timer expires after the first unsignalled completion and an MSI-X message is sent (R37). -/
  | completionIrqDelayExpiry (dt : Nat) (ring : Nat) (q : Nat)
  /-- KEY_GENERATE: Generates a key of the requested class and type, returning its mitten and handle (R218). -/
  | keyGenerate (dt : Nat) (pid : Nat) (d : PktData)
  /-- KEY_LOAD: Loads a mitten or an EVX-7200 record into a new key-cache record and returns its handle (R123). -/
  | keyLoad (dt : Nat) (pid : Nat) (d : PktData)
  /-- KEY_UNLOAD: Frees a key record once every started packet that references it has completed (R58). -/
  | keyUnload (dt : Nat) (pid : Nat) (d : PktData)
  /-- KEY_PUBLIC: Outputs the public key of an ASYM or CUSTODY key in its boundary form (R509). -/
  | keyPublic (dt : Nat) (pid : Nat) (d : PktData)
  /-- KEY_DERIVE: Derives a new key without a public part from a source secret by HKDF or KMAC and returns its mitten and handle (R510). -/
  | keyDerive (dt : Nat) (pid : Nat) (d : PktData)
  /-- KEY_EXPORT: Under a quorum token, outputs a key in signed transfer form to a recipient key block (R153). -/
  | keyExport (dt : Nat) (pid : Nat) (d : PktData)
  /-- KEY_IMPORT: Under a quorum token, imports a transfer form into a new record and outputs its mitten (R154). -/
  | keyImport (dt : Nat) (pid : Nat) (d : PktData)
  /-- KEY_DELETE: Under a quorum token, zeroes every record of the key identifier, lists the identifier and issues a new seal (R119). -/
  | keyDelete (dt : Nat) (pid : Nat) (d : PktData)
  /-- KEY_ATTR: Outputs the 64-byte attribute header of a key (R121). -/
  | keyAttr (dt : Nat) (pid : Nat) (d : PktData)
  /-- AEAD_SEAL: Encrypts and authenticates AAD and plaintext with GCM, CCM or ChaCha20-Poly1305 in a bulk cluster (R229). -/
  | aeadSeal (dt : Nat) (pid : Nat) (d : PktData)
  /-- AEAD_OPEN: Decrypts and checks an AEAD message, held or streamed according to its length (R231). -/
  | aeadOpen (dt : Nat) (pid : Nat) (d : PktData)
  /-- XTS_ENCRYPT: Encrypts a data unit with XTS-AES (R229). -/
  | xtsEncrypt (dt : Nat) (pid : Nat) (d : PktData)
  /-- XTS_DECRYPT: Decrypts a data unit with XTS-AES, without authentication (R234). -/
  | xtsDecrypt (dt : Nat) (pid : Nat) (d : PktData)
  /-- CMAC_GENERATE: Computes an AES-CMAC tag (R229). -/
  | cmacGenerate (dt : Nat) (pid : Nat) (d : PktData)
  /-- CMAC_VERIFY: Checks an AES-CMAC tag and writes no output (R234). -/
  | cmacVerify (dt : Nat) (pid : Nat) (d : PktData)
  /-- HASH: Computes a SHA-2, SHA-3 or SHAKE digest of host input (R229). -/
  | hash (dt : Nat) (pid : Nat) (d : PktData)
  /-- HMAC_GENERATE: Computes an HMAC tag (R229). -/
  | hmacGenerate (dt : Nat) (pid : Nat) (d : PktData)
  /-- HMAC_VERIFY: Checks an HMAC tag and writes no output (R234). -/
  | hmacVerify (dt : Nat) (pid : Nat) (d : PktData)
  /-- HKDF: Runs HKDF over host-supplied salt, IKM and info, filling the output capacity (R229). -/
  | hkdf (dt : Nat) (pid : Nat) (d : PktData)
  /-- TLS_PROTECT: Protects a TLS 1.3 record (R230). -/
  | tlsProtect (dt : Nat) (pid : Nat) (d : PktData)
  /-- TLS_UNPROTECT: Checks and removes TLS 1.3 record protection, holding the plaintext until the tag passes (R230). -/
  | tlsUnprotect (dt : Nat) (pid : Nat) (d : PktData)
  /-- KEY_FILE_KEY_DELIVERED: A key requested on a register-file miss arrives over the key channel, and its derived values are formed (R227). -/
  | keyFileKeyDelivered (dt : Nat) (cluster : Nat) (line : Nat)
  /-- LOOKASIDE_RESULT: A bulk cluster finishes a lookaside packet; the tag decision, any zero-fill and the completion follow (R232). -/
  | lookasideResult (dt : Nat) (pid : Nat)
  /-- SIGN: Signs a digest or message with an ASYM or CUSTODY key, verifying the result before release (R205). -/
  | sign (dt : Nat) (pid : Nat) (d : PktData)
  /-- VERIFY: Verifies a signature with a handle or a supplied public key, giving DONE or REJECTED (R220). -/
  | verify (dt : Nat) (pid : Nat) (d : PktData)
  /-- KEY_AGREE: Performs ECDH or X25519, returning the shared secret or a new TRAFFIC key (R208). -/
  | keyAgree (dt : Nat) (pid : Nat) (d : PktData)
  /-- KEM_ENCAPS: Performs ML-KEM encapsulation, returning the ciphertext with the secret or with a new key (R208). -/
  | kemEncaps (dt : Nat) (pid : Nat) (d : PktData)
  /-- KEM_DECAPS: Performs ML-KEM decapsulation with implicit rejection (R220). -/
  | kemDecaps (dt : Nat) (pid : Nat) (d : PktData)
  /-- RSA_ENCRYPT: RSA-OAEP encryption (R220). -/
  | rsaEncrypt (dt : Nat) (pid : Nat) (d : PktData)
  /-- RSA_DECRYPT: RSA-OAEP decryption, with output to the host for ASYM keys only (R220). -/
  | rsaDecrypt (dt : Nat) (pid : Nat) (d : PktData)
  /-- WS_OPEN: Opens a workspace of empty slots for the slice (R189). -/
  | wsOpen (dt : Nat) (pid : Nat) (d : PktData)
  /-- WS_CLOSE: Zeroizes and frees a workspace after any started WS_EXEC on it completes (R191). -/
  | wsClose (dt : Nat) (pid : Nat) (d : PktData)
  /-- WS_WRITE: Writes a value into a workspace slot and makes it valid (R190). -/
  | wsWrite (dt : Nat) (pid : Nat) (d : PktData)
  /-- WS_READ: Outputs the value of a valid workspace slot (R190). -/
  | wsRead (dt : Nat) (pid : Nat) (d : PktData)
  /-- WS_EXEC: Runs a workspace job descriptor as a class M job with a computed budget (R196). -/
  | wsExec (dt : Nat) (pid : Nat) (d : PktData)
  /-- PKE_DISPATCH: When a core becomes ready, firmware chooses the next main job by weighted fair queueing and dispatches it (R170). -/
  | pkeDispatch (dt : Nat) (onto : Option Nat)
  /-- VERIFY_JOB_PLACEMENT: A verification job is placed on a core in another island, or waits in the verification queue until a core qualifies (R173). -/
  | verifyJobPlacement (dt : Nat) (pid : Nat)
  /-- YIELD_POINT: At a yield point, a main job gives way to a waiting short job when the conditions hold (R183). -/
  | yieldPoint (dt : Nat) (core : Nat) (cycle : Nat)
  /-- LATTICE_QUANTUM_BOUNDARY: A quantum boundary of a quantised job starts the next quantum, or ends the job at kmax (R181). -/
  | latticeQuantumBoundary (dt : Nat) (pid : Nat)
  /-- PKE_JOB_END: A job reaches the end of its schedule, writes its output and zeroizes its slot area; a class C result is released (R198). -/
  | pkeJobEnd (dt : Nat) (core : Nat) (verify : Bool)
  /-- RELEASE_GATE: At start plus budget, or at the next start plus j times budget, the gate releases a class M result and its completion (R178). -/
  | releaseGate (dt : Nat) (pid : Nat)
  /-- FAULT_CHECK_FIRED: A check on a core, cluster or pipeline fires; the covered work releases nothing and the unit is fenced (R405). -/
  | faultCheckFired (dt : Nat) (kind : Nat) (unit : Nat) (cause : Nat) (info : Nat)
  /-- LOCKSTEP_MISMATCH: The cores of a command pair disagree; the pair halts within 20 cycles and is fenced (R21). -/
  | lockstepMismatch (dt : Nat) (pair : Nat)
  /-- VAULT_CREATE: Creates a vault root and policy, issues its seal and advances the counter (R149). -/
  | vaultCreate (dt : Nat) (pid : Nat) (d : PktData)
  /-- VAULT_LOAD: Opens a device seal and loads the vault root (R126). -/
  | vaultLoad (dt : Nat) (pid : Nat) (d : PktData)
  /-- VAULT_POLICY_SET: Under a quorum token, replaces the policy block and issues a new seal (R150). -/
  | vaultPolicySet (dt : Nat) (pid : Nat) (d : PktData)
  /-- VAULT_DELETE: Under a quorum token, destroys every record of the vault and clears exists (R151). -/
  | vaultDelete (dt : Nat) (pid : Nat) (d : PktData)
  /-- QUORUM_CHALLENGE: Issues a challenge for a vault operation class and digest (R142). -/
  | quorumChallenge (dt : Nat) (pid : Nat) (d : PktData)
  /-- CHALLENGE_EXPIRY: Device time reaches a challenge's expiry time and the challenge ends, zeroizing any import keys (R144). -/
  | challengeExpiry (dt : Nat) (ident : Nat)
  /-- RESEAL_APPROVE: Under a quorum token, makes a vault's forward seal, optionally with a new policy (R155). -/
  | resealApprove (dt : Nat) (pid : Nat) (d : PktData)
  /-- DQ_CHALLENGE: Issues a device quorum challenge under the current device policy (R158). -/
  | dqChallenge (dt : Nat) (pid : Nat) (d : PktData)
  /-- DQ_POLICY_SET: Writes a new device policy digest to the next OTP record (R157). -/
  | dqPolicySet (dt : Nat) (pid : Nat) (d : PktData)
  /-- SA_INSTALL: Installs an inline SA and returns its identifier (R265). -/
  | saInstall (dt : Nat) (pid : Nat) (d : PktData)
  /-- SA_REKEY: Replaces an outbound SA with a new one at a switch point; the old SA drains (R266). -/
  | saRekey (dt : Nat) (pid : Nat) (d : PktData)
  /-- SA_RETIRE: Removes an SA from use, waits for its frames to leave and frees its contexts (R267). -/
  | saRetire (dt : Nat) (pid : Nat) (d : PktData)
  /-- SA_DRAIN_DONE: The last frame of a draining SA leaves its tx pipeline and the contexts are freed (R267). -/
  | saDrainDone (dt : Nat) (head : Nat)
  /-- SA_QUERY_STATE: SA_QUERY mode 0x00 outputs the state and counters of one SA (R268). -/
  | saQueryState (dt : Nat) (pid : Nat) (d : PktData)
  /-- SA_QUERY_WAIT: SA_QUERY mode 0x01 waits for SA events of the slice and outputs those pending (R268). -/
  | saQueryWait (dt : Nat) (pid : Nat) (d : PktData)
  /-- SA_QUERY_TIMEOUT: A waiting SA_QUERY reaches its timeout and completes with the events then pending (R268). -/
  | saQueryTimeout (dt : Nat) (slice : Nat)
  /-- POLICY_ADD: Installs an outbound policy entry under a table barrier (R283). -/
  | policyAdd (dt : Nat) (pid : Nat) (d : PktData)
  /-- POLICY_DELETE: Removes a policy entry under a table barrier (R283). -/
  | policyDelete (dt : Nat) (pid : Nat) (d : PktData)
  /-- DIRECTED_FLUSH: Before an epoch wraps, a full-rate pass removes the kind P entries of one map index from every bank (R284). -/
  | directedFlush (dt : Nat) (index : Nat)
  /-- TBL_REHASH: Installs new way seeds and clears the selected flow cache banks (R293). -/
  | tblRehash (dt : Nat) (pid : Nat) (d : PktData)
  /-- TBL_FLUSH: Clears the selected flow cache banks and keeps their seeds (R293). -/
  | tblFlush (dt : Nat) (pid : Nat) (d : PktData)
  /-- ATTEST: Outputs a signed slice attestation statement over a nonce (R161). -/
  | attest (dt : Nat) (pid : Nat) (d : PktData)
  /-- METER_READ_INTERIM: METER_READ mode 0x00 outputs a signed interim record of the slice's open interval (R444). -/
  | meterReadInterim (dt : Nat) (pid : Nat) (d : PktData)
  /-- METER_READ_STATEMENT: METER_READ mode 0x01 outputs the meter key statement (R445). -/
  | meterReadStatement (dt : Nat) (pid : Nat) (d : PktData)
  /-- MEASURE_READ: Outputs MR0 to MR7, the identity public keys and the attestation certificate (R160). -/
  | measureRead (dt : Nat) (pid : Nat) (d : PktData)
  /-- SLICE_BIND: Binds an UNBOUND slice to a PASID with a share record (R70). -/
  | sliceBind (dt : Nat) (pid : Nat) (d : PktData)
  /-- SLICE_UNBIND: Stops the slice's queue pairs and destroys its SAs, workspaces, policies and keys (R71). -/
  | sliceUnbind (dt : Nat) (pid : Nat) (d : PktData)
  /-- SHARE_SET: Replaces a slice's share record at a switch point when the expected generation matches (R79). -/
  | shareSet (dt : Nat) (pid : Nat) (d : PktData)
  /-- MIRROR_BUILD_DONE: The last mirror of an ordinary-to-enduring change is written; the switch point falls and enduring and mirrored become 1 (R83). -/
  | mirrorBuildDone (dt : Nat) (slice : Nat)
  /-- MIRROR_REBUILD_DONE: A lost enduring copy has been rebuilt, and mirrored reads 1 again (R417). -/
  | mirrorRebuildDone (dt : Nat) (key : Bool) (head : Nat)
  /-- MODE_SWITCH: Applies a permitted mode overlay at a frame-boundary switch point (R375). -/
  | modeSwitch (dt : Nat) (pid : Nat) (d : PktData)
  /-- FW_STAGE: Writes a signed image to the inactive slot and verifies it, recording the successor measurement for custody (R420). -/
  | fwStage (dt : Nat) (pid : Nat) (d : PktData)
  /-- FW_ACTIVATE: Under device quorum, runs forward sealing and then switches the command pairs to the staged image (R422). -/
  | fwActivate (dt : Nat) (pid : Nat) (d : PktData)
  /-- RESEAL_DEADLINE: The approval deadline passes; vaults not done are withheld and their records freed (R133). -/
  | resealDeadline (dt : Nat)
  /-- PAIR_SWITCH_DONE: A command pair finishes loading the successor and the next pair is switched (R422). -/
  | pairSwitchDone (dt : Nat) (pair : Nat)
  /-- ACTIVATION_PAIR_FAILURE: A pair fails under the successor or is not ready within 100 ms; it is fenced, and a second failure abandons the activation (R424). -/
  | activationPairFailure (dt : Nat) (pair : Nat)
  /-- LC_TRANSITION: Under device quorum and consent, programs a journal record and resets the device into the transition steps (R343). -/
  | lcTransition (dt : Nat) (pid : Nat) (d : PktData) (consents : (List (Bytes × List (Bytes × Bytes))))
  /-- LC_STEPS_RUN: After its reset, the RP runs the ERASED, SHARED, COPY and DONE steps of the journalled transition, or the SCRAP sequence (R347). -/
  | lcStepsRun (dt : Nat) (steps : Nat)
  /-- SLICE_EXPORT: Export mode freezes the slice, builds and commits a migration package and unbinds the slice (R92). -/
  | sliceExport (dt : Nat) (pid : Nat) (d : PktData)
  /-- SLICE_EXPORT_SIZE_QUERY: SLICE_EXPORT mode 0x01 returns the package length the slice would need (R91). -/
  | sliceExportSizeQuery (dt : Nat) (pid : Nat) (d : PktData)
  /-- SLICE_EXPORT_SIGN_PENDING: SLICE_EXPORT mode 0x02 signs a package left pending after the commit point and clears the export record (R120). -/
  | sliceExportSignPending (dt : Nat) (pid : Nat) (d : PktData)
  /-- SLICE_EXPORT_DISCARD_PENDING: SLICE_EXPORT mode 0x03 clears a pending export record without signing (R120). -/
  | sliceExportDiscardPending (dt : Nat) (pid : Nat) (d : PktData)
  /-- SLICE_IMPORT_OFFER: SLICE_IMPORT offer mode issues a signed single-use offer and sets the slice IMPORTING (R90). -/
  | sliceImportOffer (dt : Nat) (pid : Nat) (d : PktData)
  /-- SLICE_IMPORT: SLICE_IMPORT import mode checks a migration package and installs the slice (R95). -/
  | sliceImport (dt : Nat) (pid : Nat) (d : PktData)
  /-- OFFER_EXPIRY: An offer ends after 600 s without an import; the slice returns to UNBOUND and the offer keys are zeroized (R90). -/
  | offerExpiry (dt : Nat) (slice : Nat)
  /-- CONFIG_LOAD: Under device quorum, endorses and stores a configuration image and applies its live sections at a switch point (R374). -/
  | configLoad (dt : Nat) (pid : Nat) (d : PktData)
  /-- VAULT_BACKUP_INIT: VAULT_BACKUP mode 0x01 programs or checks the RPMB card key and writes the label (R475). -/
  | vaultBackupInit (dt : Nat) (pid : Nat) (d : PktData) (stall : (Option CardPhase))
  /-- VAULT_BACKUP: Writes every current seal to the spare backup area and commits it through RPMB (R478). -/
  | vaultBackup (dt : Nat) (pid : Nat) (d : PktData) (stall : (Option CardPhase))
  /-- VAULT_RESTORE: Reads and checks the committed backup and outputs its seal table (R479). -/
  | vaultRestore (dt : Nat) (pid : Nat) (d : PktData) (stall : (Option CardPhase))
  /-- EVIDENCE_EXPORT: Writes a signed copy of the evidence log to the card (R480). -/
  | evidenceExport (dt : Nat) (pid : Nat) (d : PktData) (stall : (Option CardPhase))
  /-- CARD_INSERTED: CRD_CD_N stays low for 10 ms; the host powers the card and runs identification (R471). -/
  | cardInserted (dt : Nat) (card : Card)
  /-- CARD_OPERATING_CONDITION_POLL: The 10 ms timer repeats the operating-condition query, and the card is abandoned after 1 s (R471). -/
  | cardOperatingConditionPoll (dt : Nat) (ready : Bool)
  /-- CARD_REMOVED: CRD_CD_N stays high for 1 ms; a running card command completes with CARD_REMOVED (R481). -/
  | cardRemoved (dt : Nat)
  /-- ENTROPY_BLOCK: A block of 1,024 samples completes and is tested; it is conditioned if it passed, or discarded with a restart if it failed (R299). -/
  | entropyBlock (dt : Nat) (samples : Nat) (sampling : List Nat) (sampled : List Nat) (kat : Nat)
  /-- SIROCCO_RESTART_DONE: A restart ends its warm-up blocks and testing resumes (R300). -/
  | siroccoRestartDone (dt : Nat)
  /-- RNG_RESTART: A write of 1 to RNG_CTRL.restart forces a restart that counts as no failure (R300). -/
  | rngRestart (dt : Nat)
  /-- DRBG_KAT_REPEAT: After 65,536 generate calls the instance repeats its known-answer test and is uninstantiated if it fails (R309). -/
  | drbgKatRepeat (dt : Nat) (n : Nat) (pass : Bool)
  /-- ENTROPY_TEST_MODE_ENTER: A permitted write of 1 to RNG_TEST.enable uninstantiates the DRBGs and delivers raw samples (R310). -/
  | entropyTestModeEnter (dt : Nat) (m : Master)
  /-- ENTROPY_TEST_MODE_EXIT: A write of 0 to RNG_TEST.enable leaves test mode and reruns the start-up sequence (R310). -/
  | entropyTestModeExit (dt : Nat)
  /-- RNG_TEST_PATTERN: In FACTORY, a write of 1 to RNG_TEST.pattern replaces Sirocco with an LFSR feeding DRBG0 (R311). -/
  | rngTestPattern (dt : Nat) (m : Master)
  /-- RNG_RAW_READ: A read of RNG_RAW in test mode removes the next 64 bits from the FIFO (R310). -/
  | rngRawRead (dt : Nat)
  /-- REMASK_LINE: The re-masking engine atomically re-masks one share pair with a fresh mask (R100). -/
  | remaskLine (dt : Nat) (seed : Bool) (line : Nat) (word : Nat)
  /-- REMASK_PASS_END: A re-masking pass ends; a fresh expander key is stored and the next pass begins (R101). -/
  | remaskPassEnd (dt : Nat)
  /-- REMASK_LATE: A main-power pass not done 2 s after its start sets remask_late and records a late-pass event (R103). -/
  | remaskLate (dt : Nat)
  /-- KS_WIPE: A write of 0xC1EA to KS_WIPE starts a whole-cache wipe (R137). -/
  | ksWipe (dt : Nat) (value : Nat)
  /-- WIPE_DONE: A whole-cache wipe completes and wipe_busy clears (R138). -/
  | wipeDone (dt : Nat)
  /-- KS_COMPAT_LOCK: A write of 1 to KS_COMPAT_LOCK.lock checks and locks the compatibility regions and fixes DEV_KC_CAP (R127). -/
  | ksCompatLock (dt : Nat)
  /-- KS_SUCC_ABANDON: A write to KS_SUCC_CTRL.abandon clears the re-seal journal and the successor (R136). -/
  | ksSuccAbandon (dt : Nat)
  /-- PKE_CORE_ZERO: A write of 0x2E40 to PKE_CORE_ZERO zeroizes the core's whole operand memory (R186). -/
  | pkeCoreZero (dt : Nat) (core : Nat) (value : Nat)
  /-- DLOG_ENABLE: A write of 1 to SLC_DLOG_CTRL.enable starts dirty logging, or sets err on an invalid configuration (R89). -/
  | dlogEnable (dt : Nat) (slice : Nat)
  /-- DLOG_DISABLE: A write of 0 to SLC_DLOG_CTRL.enable stops logging after writes already issued have their bits (R85). -/
  | dlogDisable (dt : Nat) (slice : Nat)
  /-- DLOG_FLIP: A write of 1 to SLC_DLOG_CTRL.flip sends later writes to the other buffer (R88). -/
  | dlogFlip (dt : Nat) (slice : Nat)
  /-- DLOG_FLIP_DONE: The old buffer's pending bits are written; active changes and flip reads 0 (R88). -/
  | dlogFlipDone (dt : Nat) (slice : Nat)
  /-- MACSEC_OUTBOUND_FRAME: A clear-side frame on a MACSEC pair is parsed, numbered and dispatched to a cluster (R254). -/
  | macsecOutboundFrame (dt : Nat) (port : Nat) (data : Bytes) (fcs : Bool) (room : Bool)
  /-- MACSEC_INBOUND_FRAME: A sealed-side frame on a MACSEC pair is parsed, looked up, checked for replay and dispatched (R255). -/
  | macsecInboundFrame (dt : Nat) (port : Nat) (data : Bytes) (fcs : Bool) (room : Bool)
  /-- ESP_OUTBOUND_FRAME: A clear-side frame on an ESP pair is resolved by policy, numbered and dispatched (R256). -/
  | espOutboundFrame (dt : Nat) (port : Nat) (data : Bytes) (fcs : Bool) (room : Bool)
  /-- ESP_INBOUND_FRAME: A sealed-side ESP frame is looked up by SPI, checked for replay and dispatched (R257). -/
  | espInboundFrame (dt : Nat) (port : Nat) (data : Bytes) (fcs : Bool) (room : Bool)
  /-- INLINE_CLUSTER_DONE: A cluster finishes the one cryptographic operation of an inline frame and hands it to the tx pipeline (R28). -/
  | inlineClusterDone (dt : Nat) (fid : Nat)
  /-- TX_PIPELINE_FINISH: The egress pipeline commits replay state, checks the trailer and selector, finishes headers, reorders and transmits (R257). -/
  | txPipelineFinish (dt : Nat) (fid : Nat) (room : Bool)
  /-- LEARN_INSERT: A bank's insertion engine takes a queued learn request and places the entry by cuckoo kicks or in the stash (R290). -/
  | learnInsert (dt : Nat) (bank : Nat)
  /-- STASH_REINSERT: With the learn queue empty, the engine tries to move one stash entry back into the ways (R291). -/
  | stashReinsert (dt : Nat) (bank : Nat)
  /-- SWEEPER_VISIT: The sweeper visits one slot and ages or removes its entry (R294). -/
  | sweeperVisit (dt : Nat) (bank : Nat)
  /-- PORT_LINK_UP: A port's link comes up and interrupt source 0x80 + p is raised (R460). -/
  | portLinkUp (dt : Nat) (port : Nat) (c2m : Bool)
  /-- PORT_LINK_DOWN: A port's link goes down; frames for it are dropped as overflow and an interrupt is raised (R460). -/
  | portLinkDown (dt : Nat) (port : Nat)
  /-- DMA_REFUSED: A DMA completion carries UR, CA or poison, and the request is handled as refused (R452). -/
  | dmaRefused (dt : Nat) (dma : DmaUse)
  /-- DMA_COMPLETION_TIMEOUT: No completion arrives within HLU_CTO and the request is refused (R452). -/
  | dmaCompletionTimeout (dt : Nat) (dma : DmaUse)
  /-- LATE_COMPLETION: A completion arriving after its timeout is discarded and counted (R452). -/
  | lateCompletion (dt : Nat)
  /-- IDE_INTEGRITY_FAILURE: An IDE integrity check fails; the stream goes Insecure and the TLP is discarded (R454). -/
  | ideIntegrityFailure (dt : Nat) (stream : Nat) (dma : (Option DmaUse))
  /-- GET_VERSION: SPDM GET_VERSION request, answered with version 1.3 (R455). -/
  | getVersion (dt : Nat) (tr : Nat)
  /-- GET_CAPABILITIES: SPDM GET_CAPABILITIES request (R455). -/
  | getCapabilities (dt : Nat) (tr : Nat)
  /-- NEGOTIATE_ALGORITHMS: SPDM NEGOTIATE_ALGORITHMS request (R455). -/
  | negotiateAlgorithms (dt : Nat) (tr : Nat) (offered : Bool)
  /-- GET_DIGESTS: SPDM GET_DIGESTS for certificate slot 0 (R456). -/
  | getDigests (dt : Nat) (tr : Nat)
  /-- GET_CERTIFICATE: SPDM GET_CERTIFICATE for the slot 0 chain (R456). -/
  | getCertificate (dt : Nat) (tr : Nat) (slot : Nat) (offset : Nat) (len : Nat)
  /-- CHALLENGE: SPDM CHALLENGE on slot 0 with a measurement summary hash (R455). -/
  | challenge (dt : Nat) (tr : Nat) (slot : Nat) (nonce : Bytes)
  /-- GET_MEASUREMENTS: SPDM GET_MEASUREMENTS for indices 1 to 8 or 0xFF (R456). -/
  | getMeasurements (dt : Nat) (tr : Nat) (index : Nat) (sign : Bool) (nonce : Bytes)
  /-- KEY_EXCHANGE: SPDM KEY_EXCHANGE that opens a responder-authenticated session (R455). -/
  | keyExchange (dt : Nat) (tr : Nat) (reqId : Nat) (pub : Bytes)
  /-- FINISH: SPDM FINISH of a session handshake (R455). -/
  | finish (dt : Nat) (tr : Nat) (session : Nat) (mac : Bytes)
  /-- END_SESSION: SPDM END_SESSION (R455). -/
  | endSession (dt : Nat) (tr : Nat) (session : Nat)
  /-- HEARTBEAT: SPDM HEARTBEAT in a session (R455). -/
  | heartbeat (dt : Nat) (tr : Nat) (session : Nat)
  /-- KEY_UPDATE: SPDM KEY_UPDATE in a session (R455). -/
  | keyUpdate (dt : Nat) (tr : Nat) (session : Nat) (op : Nat)
  /-- CHUNK_SEND: SPDM CHUNK_SEND for a large message (R455). -/
  | chunkSend (dt : Nat) (tr : Nat) (handle : Nat) (seq : Nat) (last : Bool) (data : Bytes)
  /-- CHUNK_GET: SPDM CHUNK_GET for a large message (R455). -/
  | chunkGet (dt : Nat) (tr : Nat) (handle : Nat) (seq : Nat)
  /-- KEY_PROG: IDE_KM KEY_PROG programs an IDE key set inside a session (R453). -/
  | keyProg (dt : Nat) (tr : Nat) (session : Nat) (stream : Nat) (sub : Nat) (dir : Nat) (set : Nat) (key : Bytes)
  /-- K_SET_GO: IDE_KM K_SET_GO activates a key set (R453). -/
  | kSetGo (dt : Nat) (tr : Nat) (session : Nat) (stream : Nat) (sub : Nat) (dir : Nat) (set : Nat)
  /-- K_SET_STOP: IDE_KM K_SET_STOP stops and destroys a key set (R454). -/
  | kSetStop (dt : Nat) (tr : Nat) (session : Nat) (stream : Nat) (sub : Nat) (dir : Nat) (set : Nat)
  /-- QUERY: IDE_KM QUERY request (R453). -/
  | query (dt : Nat) (tr : Nat) (session : Nat) (stream : Nat)
  /-- SPDM_UNSUPPORTED_REQUEST: Any other SPDM request receives ERROR UnsupportedRequest, or Busy before READY (R455). -/
  | spdmUnsupportedRequest (dt : Nat) (tr : Nat) (code : Nat)
  /-- SET_ENDPOINT_ID: MCTP control Set Endpoint ID (R462). -/
  | setEndpointId (dt : Nat) (i3c : Bool) (eid : Nat)
  /-- GET_ENDPOINT_ID: MCTP control Get Endpoint ID (R462). -/
  | getEndpointId (dt : Nat) (i3c : Bool)
  /-- GET_MCTP_VERSION_SUPPORT: MCTP control Get MCTP Version Support (R462). -/
  | getMctpVersionSupport (dt : Nat) (i3c : Bool) (typ : Nat)
  /-- GET_MESSAGE_TYPE_SUPPORT: MCTP control Get Message Type Support (R462). -/
  | getMessageTypeSupport (dt : Nat) (i3c : Bool)
  /-- ENTDAA: I3C dynamic address assignment gives the management target its dynamic address (R462). -/
  | entdaa (dt : Nat) (addr : Nat)
  /-- WCALL_FROM_OPEN: WCALL in the open world saves wepc and warg and enters the monitor at wvec (R314). -/
  | wcallFromOpen (dt : Nat) (pair : Nat) (imm : Nat) (nextPc : Nat) (g : List Nat)
  /-- WCALL_FROM_SECURE: WCALL in the secure world clears secure state and returns to the open world at wepc (R314). -/
  | wcallFromSecure (dt : Nat) (pair : Nat) (g : List Nat)
  /-- YIELD: Monitor function YIELD returns once the pending secure work of the visit is done (R316). -/
  | yield (dt : Nat) (pair : Nat) (msgs : List Bytes)
  /-- MSG_SEND: Monitor function MSG_SEND queues a message from the open world (R316). -/
  | msgSend (dt : Nat) (pair : Nat) (data : Bytes)
  /-- MSG_RECV: Monitor function MSG_RECV returns the oldest message for the open world (R316). -/
  | msgRecv (dt : Nat) (pair : Nat)
  /-- INFO: Monitor function INFO returns the pair number, device time and WLD_DBG (R316). -/
  | info (dt : Nat) (pair : Nat)
  /-- SECURE_INTERRUPT: A secure interrupt during open-world execution enters the monitor with wcause 0x02 (R317). -/
  | secureInterrupt (dt : Nat) (pair : Nat) (source : Nat) (pc : Nat)
  /-- RULE_WRITE: A write to an MPU, world, peripheral, interrupt or debug rule holds new accesses, drains old ones and then takes effect (R333). -/
  | ruleWrite (dt : Nat) (m : Master) (addr : Nat) (value : Nat)
  /-- ASSIGN_LOCK: A write of 1 to WLD_LOCK.assign_lock fixes every assignment and wvec until reset (R322). -/
  | assignLock (dt : Nat)
  /-- DBG_LOCK: A write of 1 to WLD_LOCK.dbg_lock fixes WLD_DBG until reset (R335). -/
  | dbgLock (dt : Nat)
  /-- DEV_PWR_REQ: An open-world power request for an island takes effect at once, or is deferred for a secure island (R323). -/
  | devPwrReq (dt : Nat) (m : Master) (n : Nat) (value : Nat)
  /-- ISLAND_RELEASE_WRITE: A write to WLD_ISLANDn.rel releases a deferred request, or brings the island back up (R325). -/
  | islandReleaseWrite (dt : Nat) (n : Nat) (value : Bool)
  /-- ISLAND_GATED: An island finishes draining and is clock-stopped or gated (R323). -/
  | islandGated (dt : Nat) (n : Nat)
  /-- ISLAND_POWERED_UP: An island finishes powering up, clears its memories and reopens its channels (R325). -/
  | islandPoweredUp (dt : Nat) (n : Nat)
  /-- ACCESS_VIOLATION: An access from the wrong world, an excluded master, a foreign PASID or to an unmapped offset completes harmlessly and is reported (R330). -/
  | accessViolation (dt : Nat) (m : Master) (kind : AccKind) (space : AddrSpace) (addr : Nat) (len : Nat)
  /-- ASV_RECORD_POP: A read of WLD_ASV_REC7 removes the oldest access supervisor record (R331). -/
  | asvRecordPop (dt : Nat)
  /-- DEBUG_HALT_REQUEST: A debug halt request pends until the open world and takes effect only with the open invasive enable (R336). -/
  | debugHaltRequest (dt : Nat) (pair : Nat)
  /-- EXTEST: TAP instruction EXTEST drives pins by boundary scan only under reset, BLANK or SCRAP (R467). -/
  | extest (dt : Nat) (drive : (List (String × Bool)))
  /-- SAMPLE_PRELOAD: TAP instruction SAMPLE/PRELOAD (R467). -/
  | samplePreload (dt : Nat)
  /-- IDCODE: TAP instruction IDCODE selects the bypass register (R467). -/
  | idcode (dt : Nat)
  /-- CLAMP: TAP instruction CLAMP, conditioned as EXTEST (R467). -/
  | clamp (dt : Nat)
  /-- HIGHZ: TAP instruction HIGHZ, conditioned as EXTEST (R467). -/
  | highz (dt : Nat)
  /-- PDP: TAP instruction PDP selects the Pazelim debug protocol register for gated debug accesses (R468). -/
  | pdp (dt : Nat) (kind : AccKind) (addr : Nat) (value : Nat)
  /-- BYPASS: TAP instruction BYPASS, or any unassigned code (R467). -/
  | bypass (dt : Nat)
  /-- MANUFACTURING_PROGRAM_TRIM: A manufacturing command in BLANK programs the trim block (R344). -/
  | manufacturingProgramTrim (dt : Nat) (data : Bytes)
  /-- MANUFACTURING_TRANSITION_FACTORY: A manufacturing command in BLANK transitions the device to FACTORY (R344). -/
  | manufacturingTransitionFactory (dt : Nat)
  /-- MANUFACTURING_TRANSITION_SCRAP: A manufacturing command in BLANK transitions the device to SCRAP (R344). -/
  | manufacturingTransitionScrap (dt : Nat)
  /-- OASIS_VISIT_START: At the visit interval, the resting unit returns and the next unit of the kind stops taking work and drains (R408). -/
  | oasisVisitStart (dt : Nat) (kind : Nat) (island : Nat)
  /-- OASIS_DRAIN_DONE: A withdrawn unit's drain ends; its channels close and its self-test runs (R409). -/
  | oasisDrainDone (dt : Nat) (kind : Nat) (unit : Nat)
  /-- UNIT_SELFTEST_DONE: A withdrawn or fenced unit completes self-test and becomes resting or active, or is fenced or retired (R408). -/
  | unitSelftestDone (dt : Nat) (kind : Nat) (unit : Nat) (pass : Bool)
  /-- KNOWN_ANSWER_CHECK: Every 5 ms each active cluster and core runs its known-answer vector between chunks or jobs (R404). -/
  | knownAnswerCheck (dt : Nat) (kind : Nat) (unit : Nat) (pass : Bool)
  /-- MEMORY_SCRUB_PASS: A background pass reads and checks every word of TM, SB or BBRAM, correcting as needed (R407). -/
  | memoryScrubPass (dt : Nat) (which : Nat)
  /-- UNCORRECTABLE_ERROR: An uncorrectable memory or handshake error is handled by the error policy of its memory (R419). -/
  | uncorrectableError (dt : Nat) (err : MemErr)
  /-- RAIL_WARNING_EXCURSION: A rail crosses a warning level and a class 1 hold of its scope begins (R381). -/
  | railWarningExcursion (dt : Nat) (rail : Nat) (above : Bool) (mv : Nat)
  /-- UNANNOUNCED_POWER_LOSS: A rail falls below its under-voltage reset level without 5 ms of PFW_N, raising a class 2 alarm (R382). -/
  | unannouncedPowerLoss (dt : Nat) (rail : Nat) (mv : Nat) (gone : Bool) (cut : Bool)
  /-- ORDERLY_POWER_LOSS: A rail falls below its reset level after at least 5 ms of PFW_N, with no alarm (R382). -/
  | orderlyPowerLoss (dt : Nat) (rail : Nat) (mv : Nat) (gone : Bool) (cut : Bool)
  /-- OVER_VOLTAGE: A rail rises above its over-voltage reset level, raising an alarm (R382). -/
  | overVoltage (dt : Nat) (rail : Nat) (mv : Nat) (cut : Bool)
  /-- GLITCH: A rail deviates from its running mean by more than the glitch deviation for at least 2 ns (R380). -/
  | glitch (dt : Nat) (rail : Nat) (positive : Bool) (peak : Nat)
  /-- CLOCK_FREQUENCY: An island clock deviates by more than 3 % for 1 µs (R383). -/
  | clockFrequency (dt : Nat) (island : Nat)
  /-- SHORT_CYCLE: An island clock period is shorter than 70 % of nominal (R383). -/
  | shortCycle (dt : Nat) (island : Nat)
  /-- REFERENCE_LOST: A package reference clock shows no edge for 100 ns (R383). -/
  | referenceLost (dt : Nat) (clock : Nat)
  /-- MESH_CHECK: KA drives and compares every mesh line and enclosure loop, raising a condition on an open, short or mismatch (R384). -/
  | meshCheck (dt : Nat) (which : Nat) (fault : Nat) (line : Nat)
  /-- TAMPER_SWITCH: A tamper switch input leaves its armed level for 30 µs (R384). -/
  | tamperSwitch (dt : Nat) (n : Nat) (open_ : Bool)
  /-- ZEROIZE: ZEROIZE_N is held low for 10 µs, raising a class 3 condition (R384). -/
  | zeroize (dt : Nat)
  /-- TEMPERATURE: The temperature crosses a warning or alarm level (R385). -/
  | temperature (dt : Nat) (value : Nat)
  /-- VBAK_LOW: VBAK falls below 2.3 V (R385). -/
  | vbakLow (dt : Nat) (mv : Nat)
  /-- VBAK_OVER: VBAK rises above 3.8 V (R385). -/
  | vbakOver (dt : Nat) (mv : Nat)
  /-- SECOND_DECISION: After its random delay, the second decision unit adds its class and raises a disagreement if it differs (R388). -/
  | secondDecision (dt : Nat) (sensor : Nat) (sub : Nat) (cls : Nat)
  /-- CONDITION_END: A sensor condition has been absent for its recovery time and ends (R387). -/
  | conditionEnd (dt : Nat) (sensor : Nat) (sub : Nat) (value : Nat)
  /-- HOLD_LIFT: 100 µs after its condition ends, a class 1 hold lifts and held results are released (R389). -/
  | holdLift (dt : Nat) (sensor : Nat) (sub : Nat)
  /-- CLASS2_ERASE_DONE: A working-key erase completes; KS derives the device keys again and the islands resume (R389). -/
  | class2EraseDone (dt : Nat)
  /-- CLEAR_HOLD_RELEASE: 1 s after the last class 3 condition ends, BBRAM is released and a waiting boot continues from KEYS (R390). -/
  | clearHoldRelease (dt : Nat)
  /-- EVIDENCE_COMMIT: The RP programs the oldest staged record into the OTP log, reads it back and advances next (R397). -/
  | evidenceCommit (dt : Nat)
  /-- GNT_LOCK: A write of 1 to GNT_LOCK.lock fixes the sensor classes and switch polarities (R386). -/
  | gntLock (dt : Nat)
  /-- PFW_N_ASSERTED: The power-fail warning flushes the recorder and stops OTP programming, evidence commits and new card writes (R494). -/
  | pfwNAsserted (dt : Nat)
  /-- PFW_N_DEASSERTED: PFW_N deasserts with power present, and stopped work resumes (R350). -/
  | pfwNDeasserted (dt : Nat)
  /-- DEV_IRQ_MASK_WRITE: Setting a DEV_IRQ_MASK bit whose cause is set sends the device interrupt message (R378). -/
  | devIrqMaskWrite (dt : Nat) (value : Nat)
  /-- METER_TICK: At a multiple of the interval, each bound slice with a free ring entry has its interval closed and a signed record written (R441). -/
  | meterTick (dt : Nat)
  /-- METER_ENABLE: A write of 1 to PMC_METER_CTRL.enable starts ticks and writes held final records to the ring (R446). -/
  | meterEnable (dt : Nat)
  /-- DUMP_TICK: At a multiple of ms, every counter is latched and dumped to the ring, or the dump is skipped when the ring is full (R439). -/
  | dumpTick (dt : Nat)
  /-- DUMP_ENABLE: A write of 1 to PMC_DUMP_CTRL.enable starts dumps, or sets err on an invalid base (R439). -/
  | dumpEnable (dt : Nat)
  /-- SOFTWARE_EVENT: A nonzero write to REC_CTRL.soft raises event code 0xF0 (R429). -/
  | softwareEvent (dt : Nat) (value : Nat)
  /-- RECORDER_FLUSH: A flush copies unflushed entries to the CS1 region and updates next after each write (R435). -/
  | recorderFlush (dt : Nat) (ok : Bool)
  /-- RECORDER_REGION_RESET: A write of 1 to REC_NV_CFG.reset empties the region and clears stopped (R436). -/
  | recorderRegionReset (dt : Nat)
  /-- REGISTER_WRITE: A write to a register without behaviour of its own updates its fields per the access codes (R3). -/
  | registerWrite (dt : Nat) (m : Master) (space : AddrSpace) (addr : Nat) (len : Nat) (value : Nat)
  /-- UNKNOWN_OPCODE_RELEASE: The completion of a packet that failed decode is released at its fetch time plus 2,000 ns (R53). -/
  | unknownOpcodeRelease (dt : Nat) (pid : Nat)
  /-- LC_STOP_DEADLINE: 100 ms after an accepted LC_TRANSITION began its stop sequences, packets still incomplete lose their completion and the journal record is programmed (R345). -/
  | lcStopDeadline (dt : Nat)
  /-- RANDOM_DRAW_TIMEOUT: A post-start draw that its DRBG has not served within 250 ms aborts the job, leaving the residue of R200, and the packet completes with NOT_READY (R506). -/
  | randomDrawTimeout (dt : Nat) (pid : Nat)
  /-- HOST_LINK_UP: The PCIe data link layer becomes active after training, and configuration space and DMA become available (R360). -/
  | hostLinkUp (dt : Nat) (speed : Nat) (width : Nat) (flit : Bool)
  /-- KA_SUPPLY_LOST: With main power absent, VBAK falls below the level at which KA holds BBRAM, and BBRAM contents are lost (R137). -/
  | kaSupplyLost (dt : Nat)
  /-- KA_SUPPLY_RESTORED: VBAK is applied while main power is absent; the KA domain powers up, arms its sensors and begins any condition then present (R387). -/
  | kaSupplyRestored (dt : Nat)
  /-- METER_HEAD_WRITE: A write to PMC_METER_PTR.head frees ring entries, and held final or activation-close records are written into them (R446). -/
  | meterHeadWrite (dt : Nat) (value : Nat)
  /-- NET_LANE_CFG_WRITE: A write to NET_LANE_CFGn retrains the lane's port (R461). -/
  | netLaneCfgWrite (dt : Nat) (m : Master) (lane : Nat) (value : Nat)
  /-- CARD_RESPONSE_TIMEOUT: A card command response or read data fails to arrive within its timeout; the command or block is reissued, and the packet is REJECTED after the third failure (R473). -/
  | cardResponseTimeout (dt : Nat) (err : CardErr) (stall : (Option CardPhase))
  /-- CARD_BUSY_TIMEOUT: A card stays busy beyond the limit of R484, and the card command completes with REJECTED at once (R473). -/
  | cardBusyTimeout (dt : Nat)
  /-- MCTP_UNSUPPORTED_MESSAGE: An MCTP message of an unsupported type is discarded, and an unsupported control command receives the unsupported-command completion code (R462). -/
  | mctpUnsupportedMessage (dt : Nat) (i3c : Bool) (typ : Nat) (command : Nat)
  /-- DEVICE_TIMER_EXPIRY: A device timer (0 to 7) expires and asserts its interrupt source 0xA8 plus n to the world assigned by WLD_PER.tmr (R318). -/
  | deviceTimerExpiry (dt : Nat) (n : Nat)
deriving DecidableEq, Repr

end Sys2Proof
end

