-- ==== Sys2Proof/Decode.lean ====
section
/-! DEFINITION. Reading a command from a word: the table of commands gives its rows no bits, so no word spells a command. Log entries of this file: DESIGN CHOICE 7. -/

namespace Sys2Proof

/-- The command that a word spells: no row of the command table has bits, so there is none. -/
def decodeTableWord (_nbits _w : Nat) : Option Instr := none

end Sys2Proof
end

