-- ==== Sys2Proof/Config.lean ====
section
/-! DEFINITION. What the spec leaves open or takes from outside standards, as constants without a body: cryptographic primitives, random values, and the hardware's own choices. Log entries of this file: DESIGN CHOICE 5, 6, 28, 45, 46, 59, 81, 97, 103, 132, 247. -/

namespace Sys2Proof.Config

/-- The algorithms of outside standards that the spec names and does not define. -/
inductive Alg where
  | sha256 | sha384 | sha512 | sha3_256 | sha3_384 | sha3_512 | shake128 | shake256
  | hmacSha256 | hmacSha384 | hmacSha512 | hkdfSha256 | hkdfSha384 | hkdfSha512
  | kmac256 | kdfKmac256 | aesCmac
  /-- The keystream of an AEAD: the octets that are combined with the text. -/
  | gcmStream | ccmStream | chachaStream | gcmSivStream
  /-- The tag of an AEAD over its associated data and ciphertext (plaintext for GCM-SIV). -/
  | gcmTag | ccmTag | chachaTag | gcmSivTag
  | xtsEncrypt | xtsDecrypt
  | ecdhP256 | ecdhP384 | ecdhP521 | x25519
  | ecdsaP256 | ecdsaP384 | ecdsaP521 | ed25519 | mlDsa44 | mlDsa65 | mlDsa87 | slhDsa | rsaPss | rsaPkcs1
  | mlKem512Encaps | mlKem768Encaps | mlKem1024Encaps | mlKem512Decaps | mlKem768Decaps | mlKem1024Decaps
  | rsaOaepEncrypt | rsaOaepDecrypt
  /-- The private and the public part of a key generated from random octets. -/
  | keyPrivate | keyPublic
  /-- The GHASH subkey of an AES key, and the inner and outer states of an HMAC key (R227). -/
  | ghashKey | hmacStates
  | evxUnwrap | certificate | spdm | mixSeed | ntt | inverse
  /-- An attempt at an ML-DSA signature, and the octets that SampleInBall needs (R212). -/
  | mlDsaAttempt | sampleInBall
  /-- The prime search of an RSA quantum (R215), the message of a pairwise signature (R214), the secret polynomials of a lattice key (R187). -/
  | rsaSearch | pairwise | polySecret
deriving DecidableEq, Repr

/-- The output octets of an algorithm on its inputs: an outside standard's function, left open. -/
opaque prim : Alg → List Bytes → Bytes

/-- An outside standard accepts its inputs: a signature verifies, a key or a point is valid. -/
opaque accepts : Alg → List Bytes → Bool

/-- The `n`-th free value of a run: random octets and choices that the spec leaves to the hardware. -/
opaque random : Nat → Bytes

/-- The `n`-th free number of a run. -/
opaque choice : Nat → Nat

/-- The random starting generation of a key-cache line, for one reset (R109). -/
opaque genStart : Nat → Nat → Nat

/-- The lines that KS picks for an allocation of a number of lines, at one moment. -/
opaque pickLines : Nat → Nat → List Nat

/-- The next state of a bank's LFSR (R290 gives no feedback). -/
opaque lfsrNext : Nat → Nat

/-- The 1,024 samples of a block of the test pattern, by the LFSR's seed and the block's number (R311 gives no feedback). -/
opaque patternBlock : Nat → Nat → Nat

/-- A figure that the spec does not state, by a number that names it. -/
opaque unstated : Nat → Nat

/-- Cycles from a yield point of a schedule program, or from its start, to the next (R182, which bounds them), by the program and the cycle. -/
opaque yieldGap : Nat → Nat → Nat

/-- The boot ROM, which MR0 measures (R358). -/
opaque bootRom : Bytes

/-- The digest that the boot ROM holds for a vendor key slot (R364). -/
opaque vendorKeys : Nat → Bytes

/-- The MPU entries that a custody image holds (R358), as contents of `MPU_BASEn` and `MPU_CTRLn`: the layout of an image's body is not given. -/
opaque imageMpu : Bytes → Nat → Nat × Nat

/-- The PCI vendor identifier in `HLU_IDENT.vendor` (no value given). -/
opaque vendorId : BitVec 16

/-- The silicon revision in `DEV_PART.rev` (no value given). -/
opaque revision : BitVec 8

end Sys2Proof.Config
end

