-- ==== Sys2Proof/Machine/Bits.lean ====
section
/-! DEFINITION. Byte-order and bit-field helpers (R2): little-endian numbers of packets and registers, big-endian octet strings of cryptographic values, fields of a block by offset. Log entries of this file: DESIGN CHOICE 6. -/

namespace Sys2Proof.Machine

/-- The number whose little-endian octets are given. -/
def leNat : Bytes → Nat
  | [] => 0
  | b :: bs => b.toNat + 256 * leNat bs

/-- The `len` little-endian octets of a number. -/
def natLE : Nat → Nat → Bytes
  | 0, _ => []
  | len + 1, n => BitVec.ofNat 8 n :: natLE len (n / 256)

/-- The number whose big-endian octets are given. -/
def beNat (b : Bytes) : Nat := leNat b.reverse

/-- The `len` big-endian octets of a number. -/
def natBE (len n : Nat) : Bytes := (natLE len n).reverse

/-- `len` octets of a block from offset `off` on (fewer where the block ends). -/
def slice (b : Bytes) (off len : Nat) : Bytes := (b.drop off).take len

/-- The little-endian number in `len` octets of a block at offset `off`. -/
def field (b : Bytes) (off len : Nat) : Nat := leNat (slice b off len)

/-- The big-endian number in `len` octets of a block at offset `off`. -/
def fieldBE (b : Bytes) (off len : Nat) : Nat := beNat (slice b off len)

/-- `n` zero octets. -/
def zeros (n : Nat) : Bytes := List.replicate n 0

/-- An octet string brought to a given length: cut at the end, or filled with zero octets. -/
def fitLen (n : Nat) (b : Bytes) : Bytes := b.take n ++ zeros (n - b.length)

/-- All octets of a string are zero. -/
def allZero (b : Bytes) : Bool := b.all (· == 0)

/-- Bits `[hi:lo]` of a number. -/
def bits (n hi lo : Nat) : Nat := (n >>> lo) % 2 ^ (hi - lo + 1)

/-- Bit `i` of a number. -/
def bit (n i : Nat) : Bool := n.testBit i

/-- 1 for true, 0 for false. -/
def b2n (b : Bool) : Nat := if b then 1 else 0

/-- Octet-wise exclusive or, over the shorter length. -/
def xorBytes (a b : Bytes) : Bytes := List.zipWith (· ^^^ ·) a b

/-- The quotient rounded up; zero where the divisor is zero. -/
def ceilDiv (a b : Nat) : Nat := (a + b - 1) / b

/-- A field of a register value. -/
def wordField (w : Word) (hi lo : Nat) : Nat := bits w.toNat hi lo

/-- A register value with one field replaced (the new value cut to the field's width). -/
def wordSet (w : Word) (hi lo v : Nat) : Word :=
  let m := BitVec.ofNat 64 ((2 ^ (hi - lo + 1) - 1) <<< lo)
  (w &&& ~~~m) ||| (BitVec.ofNat 64 (v <<< lo) &&& m)

/-- Sort key and equality of octet strings, by value. -/
def bytesLt : Bytes → Bytes → Bool
  | [], [] => false
  | [], _ :: _ => true
  | _ :: _, [] => false
  | a :: as, b :: bs => a.toNat < b.toNat || (a == b && bytesLt as bs)

/-- A list of octet strings is strictly ascending. -/
def strictAsc : List Bytes → Bool
  | [] => true
  | [_] => true
  | a :: b :: r => bytesLt a b && strictAsc (b :: r)

end Sys2Proof.Machine
end

