-- ==== Sys2Proof/Machine/Maps.lean ====
section
/-! DEFINITION. Sparse tables by number: a list of key and value pairs in one canonical form (keys strictly rising), so that equal tables are equal data. -/

namespace Sys2Proof.Machine

/-- A sparse table: pairs of a number and an entry, keys strictly rising. -/
structure NMap (α : Type) where
  cells : List (Nat × α)
deriving DecidableEq, Repr

/-- The empty table. -/
def NMap.empty {α : Type} : NMap α := ⟨[]⟩

/-- The entry that a list of cells gives a key. -/
def cellsGet {α : Type} : List (Nat × α) → Nat → Option α
  | [], _ => none
  | (j, v) :: m, k => if k = j then some v else cellsGet m k

/-- The cells with the entry of one key set, in key order. -/
def cellsInsert {α : Type} : List (Nat × α) → Nat → α → List (Nat × α)
  | [], k, v => [(k, v)]
  | (j, w) :: m, k, v =>
    if k < j then (k, v) :: (j, w) :: m
    else if k = j then (k, v) :: m
    else (j, w) :: cellsInsert m k v

/-- The cells without those of one key. -/
def cellsErase {α : Type} (m : List (Nat × α)) (k : Nat) : List (Nat × α) :=
  m.filter (fun e => e.1 ≠ k)

/-- The keys of the cells are at least `b` and rise strictly. -/
def cellsFrom {α : Type} : Nat → List (Nat × α) → Bool
  | _, [] => true
  | b, (j, _) :: m => decide (b ≤ j) && cellsFrom (j + 1) m

namespace NMap

/-- The entry of a key, if the table lists one. -/
def get? {α : Type} (m : NMap α) (k : Nat) : Option α := cellsGet m.cells k

/-- The entry of a key, or the default where the table lists none. -/
def getD {α : Type} (m : NMap α) (k : Nat) (d : α) : α := (m.get? k).getD d

/-- The table lists the key. -/
def has {α : Type} (m : NMap α) (k : Nat) : Bool := (m.get? k).isSome

/-- The table with the entry of one key set. -/
def insert {α : Type} (m : NMap α) (k : Nat) (v : α) : NMap α := ⟨cellsInsert m.cells k v⟩

/-- The table without the entry of one key. -/
def erase {α : Type} (m : NMap α) (k : Nat) : NMap α := ⟨cellsErase m.cells k⟩

/-- The table with one key set, where a key that is not listed reads as the default: the default is never listed. -/
def setD {α : Type} [DecidableEq α] (m : NMap α) (d : α) (k : Nat) (v : α) : NMap α :=
  if v = d then m.erase k else m.insert k v

/-- The entries that a test keeps. -/
def filter {α : Type} (m : NMap α) (p : Nat → α → Bool) : NMap α :=
  ⟨m.cells.filter (fun e => p e.1 e.2)⟩

/-- Every entry replaced by its image. -/
def map {α : Type} (m : NMap α) (f : Nat → α → α) : NMap α :=
  ⟨m.cells.map (fun e => (e.1, f e.1 e.2))⟩

/-- How many entries a test keeps. -/
def count {α : Type} (m : NMap α) (p : Nat → α → Bool) : Nat := (m.filter p).cells.length

/-- Some entry meets a test. -/
def any {α : Type} (m : NMap α) (p : Nat → α → Bool) : Bool := m.cells.any (fun e => p e.1 e.2)

/-- The key of the first entry that meets a test. -/
def find? {α : Type} (m : NMap α) (p : Nat → α → Bool) : Option (Nat × α) :=
  m.cells.find? (fun e => p e.1 e.2)

/-- The keys, rising. -/
def keys {α : Type} (m : NMap α) : List Nat := m.cells.map (·.1)

/-- The sum of a number over the entries. -/
def sum {α : Type} (m : NMap α) (f : Nat → α → Nat) : Nat :=
  m.cells.foldl (fun a e => a + f e.1 e.2) 0

/-- The canonical form: keys strictly rising. -/
def wf {α : Type} (m : NMap α) : Bool := cellsFrom 0 m.cells

/-- The canonical form of a table whose unlisted keys read as a default: keys strictly rising, the default never listed. -/
def wfD {α : Type} [DecidableEq α] (d : α) (m : NMap α) : Bool :=
  m.wf && m.cells.all (fun e => decide (e.2 ≠ d))

end NMap

/-- The least number from `k` on, among the next `fuel`, that meets a test. -/
def firstFrom (p : Nat → Bool) : Nat → Nat → Option Nat
  | 0, _ => none
  | fuel + 1, k => if p k then some k else firstFrom p fuel (k + 1)

end Sys2Proof.Machine
end

