-- ==== Sys2Proof/Machine/Regs.lean ====
section
/-! DEFINITION. The register catalogue of the manual: one name per register table, its fields with their access codes and reset values (R2 to R4), and where the three address maps place it (R32 to R36, R37). -/

namespace Sys2Proof.Machine

/-- One constructor per register table of the manual; a numbered group (`NAME0`-`NAMEn`) is one name with an index. -/
inductive RegName where
  | CMD_QP_CTRL | CMD_QP_STATUS | CMD_QP_SIZE | CMD_QP_IRQ | CMD_SQ_BASE
  | CMD_CQ_BASE | CMD_SQ_TAIL | CMD_SQ_HEAD | CMD_CQ_HEAD | CMD_CQ_TAIL
  | SLC_STATE | SLC_PASID | SLC_PKE_SHARE | SLC_BULK_SHARE | SLC_KC_QUOTA
  | SLC_SA_QUOTA | SLC_RING_LIMIT | SLC_MSIX | SLC_KC_USED | SLC_SA_USED
  | DEV_KC_CAP | DEV_ENDURING | SLC_DLOG_CTRL | SLC_DLOG_BUF0 | SLC_DLOG_BUF1
  | SLC_DLOG_WIN | SLC_DLOG_PAGES | KS_STATUS | KS_FREE_LINES | KS_REMASK_LAST
  | KS_REMASK_PASSES | KS_REFUSED | KS_COMPAT_CFG | KS_COMPAT_LOCK | KS_COMPAT_BAD
  | KS_SUCC_MEAS | KS_SUCC_CTRL | KS_RESEAL_COUNT | KS_FSEAL_BYTES | KS_EXPORT_PEND
  | KS_WIPE | PKE_CORE_ID | PKE_CORE_FAULT | PKE_CORE_ECC | PKE_CORE_ZERO
  | PKE_CORE_MAP | PKE_SUMMARY | PKE_PENDING | PKE_LATE | PKE_PREEMPT
  | PKE_CAPPED | PKE_WS_FREE | BLK_CLUSTER_MAP | BLK_SUMMARY | BLK_ARB
  | BLK_KEY_LOADS | BLK_KEY_EVICTS | BLK_AUTH_FAIL | BLK_STREAMED | BLK_FAULT
  | BLK_ERASE | TBL_INL_PD | TBL_INL_DROP | TBL_INL_PROT | TBL_INL_BYP
  | TBL_FC_CTRL | TBL_FC_STATUS | TBL_FC_OCC | TBL_FC_HITS | TBL_FC_MISSES
  | TBL_FC_LEARNED | TBL_FC_AGED | TBL_FC_LEARN_DROP | TBL_FC_LOST | TBL_FC_ECC
  | TBL_IDX_USED | TBL_POL_USED | RNG_STATUS | RNG_CTRL | RNG_HEALTH
  | RNG_WINDOW | RNG_ALIVE | RNG_LOCKED | RNG_SEEDS | RNG_DRBG
  | RNG_RESEEDS | RNG_TEST | RNG_PATTERN_SEED | RNG_RAW | RNG_RAW_LEVEL
  | WLD_LOCK | WLD_DBG | WLD_PER | WLD_ISLAND | WLD_IRQ
  | WLD_ASV_STATUS | WLD_ASV_TOTAL | WLD_ASV_REC | MPU_BASE | MPU_CTRL
  | MPU_STATUS | DEV_PWR_REQ | DEV_PWR_STATE | LC_STATE | LC_FLAGS
  | LC_COPY | LC_JOURNAL | LC_DQ | LC_DQ_DIGEST | DEV_LC_STATE
  | DEV_PART | DEV_BOOT_STATUS | DEV_BOOT_ERR | DEV_BOOT_TIME | DEV_MODE
  | DEV_IRQ_CAUSE | DEV_IRQ_MASK | DEV_IRQ_VEC | DEV_RCV_ADDR | DEV_RCV_LEN
  | DEV_RCV_CTRL | CFG_STATUS | CFG_DIGEST | CFG_VDOM | CFG_OVL
  | GNT_STATUS | GNT_LAST | GNT_HOLD | GNT_COUNTS | GNT_OPSEC
  | GNT_PWRCYC | GNT_TEMP | GNT_VBAK | GNT_RAIL | GNT_EV_COUNT
  | GNT_EV_DROPPED | GNT_STAGE | GNT_LOCK | GNT_SWITCH_CFG | GNT_SENSOR
  | GNT_EV_REC | DEV_UNIT_CC | DEV_UNIT_TP | DEV_ROT | DEV_FW_STATUS
  | REC_CTRL | REC_STATUS | REC_WRITTEN | REC_NV_CFG | REC_NV_NEXT
  | REC_TRIG | REC_SNAP | PMC_SEL | PMC_CNT | PMC_OVF
  | PMC_DUMP_CTRL | PMC_DUMP_BASE | PMC_DUMP_PTR | PMC_DUMP_SKIP | PMC_METER_CTRL
  | PMC_METER_BASE | PMC_METER_PTR | PMC_METER_STATUS | HLU_IDENT | HLU_LINK
  | HLU_CTO | HLU_DMA_ERR | HLU_IDE_STATUS | HLU_IDE_FAIL | NET_PORT_STATUS
  | NET_LANE_CFG | NET_FEC_CORR | NET_FEC_UNCORR | NET_FCS_ERR | NET_SIZE_ERR
  | NET_MACCTL | XSP_STATUS | XSP_ERR | XSP_CS1_WIN | CRD_STATUS
  | CRD_CID | CRD_BACKUP | CRD_GEN | CRD_ERR | CRD_CFG
deriving DecidableEq, Repr

/-- The access codes of R3. -/
inductive Access where
  | ro | rw | wo | w1c | w1s | rwl
deriving DecidableEq, Repr

/-- A field of a register: its bit range, its access code and its reset value. Fields named `reserved` are left out: they read as zero and ignore writes (R4). -/
structure Fld where
  reg : RegName
  hi : Nat
  lo : Nat
  acc : Access
  reset : Nat
deriving DecidableEq, Repr

/-- The address map that reaches a register: the PF1 slice pages, PF0 BAR0, the internal secure space, or both of the last two (the GNT window). -/
inductive Space where
  | pf1 | pf0 | secure | both
deriving DecidableEq, Repr

/-- The world that may access a register, as its header names it; `cs1` is the world of the second xSPI chip select (R321) and `lane` the world of the lane's NET island (R320). -/
inductive RegWorld where
  | openW | secureW | both | cs1 | lane
deriving DecidableEq, Repr

/-- Where a register lies: the map, the offset of element 0, two strides with their counts, and its size in bytes. -/
structure RegLoc where
  space : Space
  base : Nat
  stride1 : Nat
  count1 : Nat
  stride0 : Nat
  count0 : Nat
  bytes : Nat
  world : RegWorld
deriving DecidableEq, Repr


-- 02_command_packets.md (R38)
def Fld.CMD_QP_CTRL_stop : Fld := ⟨.CMD_QP_CTRL, 1, 1, .w1s, 0⟩
def Fld.CMD_QP_CTRL_enable : Fld := ⟨.CMD_QP_CTRL, 0, 0, .w1s, 0⟩
def Fld.CMD_QP_STATUS_cqerr : Fld := ⟨.CMD_QP_STATUS, 4, 4, .w1c, 0⟩
def Fld.CMD_QP_STATUS_fetcherr : Fld := ⟨.CMD_QP_STATUS, 3, 3, .w1c, 0⟩
def Fld.CMD_QP_STATUS_dberr : Fld := ⟨.CMD_QP_STATUS, 2, 2, .w1c, 0⟩
def Fld.CMD_QP_STATUS_cfgerr : Fld := ⟨.CMD_QP_STATUS, 1, 1, .w1c, 0⟩
def Fld.CMD_QP_STATUS_running : Fld := ⟨.CMD_QP_STATUS, 0, 0, .ro, 0⟩
def Fld.CMD_QP_SIZE_cq_log2 : Fld := ⟨.CMD_QP_SIZE, 20, 16, .rw, 0⟩
def Fld.CMD_QP_SIZE_sq_log2 : Fld := ⟨.CMD_QP_SIZE, 4, 0, .rw, 0⟩
def Fld.CMD_QP_IRQ_ien : Fld := ⟨.CMD_QP_IRQ, 31, 31, .rw, 0⟩
def Fld.CMD_QP_IRQ_vec : Fld := ⟨.CMD_QP_IRQ, 26, 16, .rw, 0⟩
def Fld.CMD_QP_IRQ_count : Fld := ⟨.CMD_QP_IRQ, 15, 8, .rw, 1⟩
def Fld.CMD_QP_IRQ_delay : Fld := ⟨.CMD_QP_IRQ, 7, 0, .rw, 0⟩
def Fld.CMD_SQ_BASE_base : Fld := ⟨.CMD_SQ_BASE, 63, 12, .rw, 0⟩
def Fld.CMD_CQ_BASE_base : Fld := ⟨.CMD_CQ_BASE, 63, 12, .rw, 0⟩
def Fld.CMD_SQ_TAIL_tail : Fld := ⟨.CMD_SQ_TAIL, 15, 0, .rw, 0⟩
def Fld.CMD_SQ_HEAD_head : Fld := ⟨.CMD_SQ_HEAD, 15, 0, .ro, 0⟩
def Fld.CMD_CQ_HEAD_head : Fld := ⟨.CMD_CQ_HEAD, 15, 0, .rw, 0⟩
def Fld.CMD_CQ_TAIL_phase : Fld := ⟨.CMD_CQ_TAIL, 16, 16, .ro, 1⟩
def Fld.CMD_CQ_TAIL_tail : Fld := ⟨.CMD_CQ_TAIL, 15, 0, .ro, 0⟩

-- 03_slices.md (R72)
def Fld.SLC_STATE_share_gen : Fld := ⟨.SLC_STATE, 31, 16, .ro, 0⟩
def Fld.SLC_STATE_qp_running : Fld := ⟨.SLC_STATE, 15, 8, .ro, 0⟩
def Fld.SLC_STATE_mirrored : Fld := ⟨.SLC_STATE, 5, 5, .ro, 0⟩
def Fld.SLC_STATE_enduring : Fld := ⟨.SLC_STATE, 4, 4, .ro, 0⟩
def Fld.SLC_STATE_state : Fld := ⟨.SLC_STATE, 3, 0, .ro, 0⟩
def Fld.SLC_PASID_valid : Fld := ⟨.SLC_PASID, 31, 31, .ro, 0⟩
def Fld.SLC_PASID_pasid : Fld := ⟨.SLC_PASID, 19, 0, .ro, 0⟩
def Fld.SLC_PKE_SHARE_weight : Fld := ⟨.SLC_PKE_SHARE, 11, 0, .ro, 0⟩
def Fld.SLC_BULK_SHARE_burst : Fld := ⟨.SLC_BULK_SHARE, 31, 16, .ro, 0⟩
def Fld.SLC_BULK_SHARE_rate : Fld := ⟨.SLC_BULK_SHARE, 15, 0, .ro, 0⟩
def Fld.SLC_KC_QUOTA_quota : Fld := ⟨.SLC_KC_QUOTA, 20, 0, .ro, 0⟩
def Fld.SLC_SA_QUOTA_quota : Fld := ⟨.SLC_SA_QUOTA, 20, 0, .ro, 0⟩
def Fld.SLC_RING_LIMIT_qp_max : Fld := ⟨.SLC_RING_LIMIT, 19, 16, .ro, 0⟩
def Fld.SLC_RING_LIMIT_cq_log2_max : Fld := ⟨.SLC_RING_LIMIT, 12, 8, .ro, 0⟩
def Fld.SLC_RING_LIMIT_sq_log2_max : Fld := ⟨.SLC_RING_LIMIT, 4, 0, .ro, 0⟩
def Fld.SLC_MSIX_vec_count : Fld := ⟨.SLC_MSIX, 27, 16, .ro, 0⟩
def Fld.SLC_MSIX_vec_base : Fld := ⟨.SLC_MSIX, 10, 0, .ro, 0⟩
def Fld.SLC_KC_USED_used : Fld := ⟨.SLC_KC_USED, 20, 0, .ro, 0⟩
def Fld.SLC_SA_USED_used : Fld := ⟨.SLC_SA_USED, 20, 0, .ro, 0⟩
def Fld.DEV_KC_CAP_lines : Fld := ⟨.DEV_KC_CAP, 20, 0, .ro, 0⟩
def Fld.DEV_ENDURING_count : Fld := ⟨.DEV_ENDURING, 8, 0, .ro, 0⟩
def Fld.SLC_DLOG_CTRL_err : Fld := ⟨.SLC_DLOG_CTRL, 4, 4, .w1c, 0⟩
def Fld.SLC_DLOG_CTRL_outside : Fld := ⟨.SLC_DLOG_CTRL, 3, 3, .w1c, 0⟩
def Fld.SLC_DLOG_CTRL_active : Fld := ⟨.SLC_DLOG_CTRL, 2, 2, .ro, 0⟩
def Fld.SLC_DLOG_CTRL_flip : Fld := ⟨.SLC_DLOG_CTRL, 1, 1, .w1s, 0⟩
def Fld.SLC_DLOG_CTRL_enable : Fld := ⟨.SLC_DLOG_CTRL, 0, 0, .rw, 0⟩
def Fld.SLC_DLOG_BUF0_base : Fld := ⟨.SLC_DLOG_BUF0, 63, 6, .rw, 0⟩
def Fld.SLC_DLOG_BUF1_base : Fld := ⟨.SLC_DLOG_BUF1, 63, 6, .rw, 0⟩
def Fld.SLC_DLOG_WIN_win_base : Fld := ⟨.SLC_DLOG_WIN, 63, 21, .rw, 0⟩
def Fld.SLC_DLOG_WIN_win_log2 : Fld := ⟨.SLC_DLOG_WIN, 5, 0, .rw, 0⟩
def Fld.SLC_DLOG_PAGES_count : Fld := ⟨.SLC_DLOG_PAGES, 31, 0, .ro, 0⟩

-- 04_key_custody.md (R138)
def Fld.KS_STATUS_reseal : Fld := ⟨.KS_STATUS, 11, 8, .ro, 0⟩
def Fld.KS_STATUS_remask_late : Fld := ⟨.KS_STATUS, 5, 5, .w1c, 0⟩
def Fld.KS_STATUS_wipe_busy : Fld := ⟨.KS_STATUS, 4, 4, .ro, 0⟩
def Fld.KS_STATUS_seed_new : Fld := ⟨.KS_STATUS, 3, 3, .ro, 0⟩
def Fld.KS_STATUS_seed_valid : Fld := ⟨.KS_STATUS, 2, 2, .ro, 0⟩
def Fld.KS_STATUS_share_present : Fld := ⟨.KS_STATUS, 1, 1, .ro, 0⟩
def Fld.KS_STATUS_ready : Fld := ⟨.KS_STATUS, 0, 0, .ro, 0⟩
def Fld.KS_FREE_LINES_free : Fld := ⟨.KS_FREE_LINES, 20, 0, .ro, 0⟩
def Fld.KS_REMASK_LAST_ms : Fld := ⟨.KS_REMASK_LAST, 15, 0, .ro, 0⟩
def Fld.KS_REMASK_PASSES_count : Fld := ⟨.KS_REMASK_PASSES, 31, 0, .ro, 0⟩
def Fld.KS_REFUSED_count : Fld := ⟨.KS_REFUSED, 31, 0, .ro, 0⟩
def Fld.KS_COMPAT_CFG_enable : Fld := ⟨.KS_COMPAT_CFG, 31, 31, .rwl, 0⟩
def Fld.KS_COMPAT_CFG_size : Fld := ⟨.KS_COMPAT_CFG, 20, 16, .rwl, 0⟩
def Fld.KS_COMPAT_CFG_base : Fld := ⟨.KS_COMPAT_CFG, 7, 0, .rwl, 0⟩
def Fld.KS_COMPAT_LOCK_invalid : Fld := ⟨.KS_COMPAT_LOCK, 1, 1, .ro, 0⟩
def Fld.KS_COMPAT_LOCK_lock : Fld := ⟨.KS_COMPAT_LOCK, 0, 0, .w1s, 0⟩
def Fld.KS_COMPAT_BAD_bad : Fld := ⟨.KS_COMPAT_BAD, 13, 0, .ro, 0⟩
def Fld.KS_SUCC_MEAS_word : Fld := ⟨.KS_SUCC_MEAS, 31, 0, .ro, 0⟩
def Fld.KS_SUCC_CTRL_abandon : Fld := ⟨.KS_SUCC_CTRL, 1, 1, .w1s, 0⟩
def Fld.KS_SUCC_CTRL_valid : Fld := ⟨.KS_SUCC_CTRL, 0, 0, .ro, 0⟩
def Fld.KS_RESEAL_COUNT_total : Fld := ⟨.KS_RESEAL_COUNT, 28, 16, .ro, 0⟩
def Fld.KS_RESEAL_COUNT_done : Fld := ⟨.KS_RESEAL_COUNT, 12, 0, .ro, 0⟩
def Fld.KS_FSEAL_BYTES_bytes : Fld := ⟨.KS_FSEAL_BYTES, 31, 0, .ro, 0⟩
def Fld.KS_EXPORT_PEND_pending : Fld := ⟨.KS_EXPORT_PEND, 31, 31, .ro, 0⟩
def Fld.KS_EXPORT_PEND_slice : Fld := ⟨.KS_EXPORT_PEND, 11, 0, .ro, 0⟩
def Fld.KS_WIPE_code : Fld := ⟨.KS_WIPE, 15, 0, .wo, 0⟩

-- 06_pke_engine.md (R203)
def Fld.PKE_CORE_ID_island : Fld := ⟨.PKE_CORE_ID, 15, 8, .ro, 0⟩
def Fld.PKE_CORE_ID_core : Fld := ⟨.PKE_CORE_ID, 3, 0, .ro, 0⟩
def Fld.PKE_CORE_FAULT_refused : Fld := ⟨.PKE_CORE_FAULT, 5, 5, .w1c, 0⟩
def Fld.PKE_CORE_FAULT_range : Fld := ⟨.PKE_CORE_FAULT, 4, 4, .w1c, 0⟩
def Fld.PKE_CORE_FAULT_recompute : Fld := ⟨.PKE_CORE_FAULT, 3, 3, .w1c, 0⟩
def Fld.PKE_CORE_FAULT_seq : Fld := ⟨.PKE_CORE_FAULT, 2, 2, .w1c, 0⟩
def Fld.PKE_CORE_FAULT_ecc : Fld := ⟨.PKE_CORE_FAULT, 1, 1, .w1c, 0⟩
def Fld.PKE_CORE_FAULT_residue : Fld := ⟨.PKE_CORE_FAULT, 0, 0, .w1c, 0⟩
def Fld.PKE_CORE_ECC_count : Fld := ⟨.PKE_CORE_ECC, 31, 0, .ro, 0⟩
def Fld.PKE_CORE_ZERO_code : Fld := ⟨.PKE_CORE_ZERO, 15, 0, .wo, 0⟩
def Fld.PKE_CORE_MAP_busy : Fld := ⟨.PKE_CORE_MAP, 8, 8, .ro, 0⟩
def Fld.PKE_CORE_MAP_fails : Fld := ⟨.PKE_CORE_MAP, 5, 4, .ro, 0⟩
def Fld.PKE_CORE_MAP_role : Fld := ⟨.PKE_CORE_MAP, 3, 0, .ro, 0⟩
def Fld.PKE_SUMMARY_fenced : Fld := ⟨.PKE_SUMMARY, 15, 8, .ro, 0⟩
def Fld.PKE_SUMMARY_active : Fld := ⟨.PKE_SUMMARY, 7, 0, .ro, 0⟩
def Fld.PKE_PENDING_c : Fld := ⟨.PKE_PENDING, 31, 16, .ro, 0⟩
def Fld.PKE_PENDING_m : Fld := ⟨.PKE_PENDING, 15, 0, .ro, 0⟩
def Fld.PKE_LATE_count : Fld := ⟨.PKE_LATE, 31, 0, .ro, 0⟩
def Fld.PKE_PREEMPT_count : Fld := ⟨.PKE_PREEMPT, 31, 0, .ro, 0⟩
def Fld.PKE_CAPPED_count : Fld := ⟨.PKE_CAPPED, 31, 0, .ro, 0⟩
def Fld.PKE_WS_FREE_words : Fld := ⟨.PKE_WS_FREE, 19, 0, .ro, 524288⟩

-- 08_bulk_clusters.md (R243)
def Fld.BLK_CLUSTER_MAP_resident : Fld := ⟨.BLK_CLUSTER_MAP, 22, 16, .ro, 0⟩
def Fld.BLK_CLUSTER_MAP_busy : Fld := ⟨.BLK_CLUSTER_MAP, 8, 8, .ro, 0⟩
def Fld.BLK_CLUSTER_MAP_fails : Fld := ⟨.BLK_CLUSTER_MAP, 5, 4, .ro, 0⟩
def Fld.BLK_CLUSTER_MAP_role : Fld := ⟨.BLK_CLUSTER_MAP, 3, 0, .ro, 0⟩
def Fld.BLK_SUMMARY_fenced : Fld := ⟨.BLK_SUMMARY, 15, 8, .ro, 0⟩
def Fld.BLK_SUMMARY_active : Fld := ⟨.BLK_SUMMARY, 7, 0, .ro, 0⟩
def Fld.BLK_ARB_la_floor : Fld := ⟨.BLK_ARB, 7, 0, .ro, 32⟩
def Fld.BLK_KEY_LOADS_count : Fld := ⟨.BLK_KEY_LOADS, 31, 0, .ro, 0⟩
def Fld.BLK_KEY_EVICTS_count : Fld := ⟨.BLK_KEY_EVICTS, 31, 0, .ro, 0⟩
def Fld.BLK_AUTH_FAIL_count : Fld := ⟨.BLK_AUTH_FAIL, 31, 0, .ro, 0⟩
def Fld.BLK_STREAMED_count : Fld := ⟨.BLK_STREAMED, 31, 0, .ro, 0⟩
def Fld.BLK_FAULT_tagdec : Fld := ⟨.BLK_FAULT, 3, 3, .w1c, 0⟩
def Fld.BLK_FAULT_parity : Fld := ⟨.BLK_FAULT, 2, 2, .w1c, 0⟩
def Fld.BLK_FAULT_keymatch : Fld := ⟨.BLK_FAULT, 1, 1, .w1c, 0⟩
def Fld.BLK_FAULT_keycrc : Fld := ⟨.BLK_FAULT, 0, 0, .w1c, 0⟩
def Fld.BLK_ERASE_count : Fld := ⟨.BLK_ERASE, 31, 0, .ro, 0⟩

-- 09_inline_path.md (R273)
def Fld.TBL_INL_PD_mode : Fld := ⟨.TBL_INL_PD, 17, 16, .ro, 0⟩
def Fld.TBL_INL_PD_b_tx : Fld := ⟨.TBL_INL_PD, 14, 12, .ro, 3⟩
def Fld.TBL_INL_PD_a_tx : Fld := ⟨.TBL_INL_PD, 10, 8, .ro, 2⟩
def Fld.TBL_INL_PD_b_rx : Fld := ⟨.TBL_INL_PD, 6, 4, .ro, 1⟩
def Fld.TBL_INL_PD_a_rx : Fld := ⟨.TBL_INL_PD, 2, 0, .ro, 0⟩
def Fld.TBL_INL_DROP_count : Fld := ⟨.TBL_INL_DROP, 63, 0, .ro, 0⟩
def Fld.TBL_INL_PROT_count : Fld := ⟨.TBL_INL_PROT, 63, 0, .ro, 0⟩
def Fld.TBL_INL_BYP_count : Fld := ⟨.TBL_INL_BYP, 63, 0, .ro, 0⟩

-- 10_lookup_and_learning.md (R296)
def Fld.TBL_FC_CTRL_learn_en : Fld := ⟨.TBL_FC_CTRL, 31, 31, .rw, 1⟩
def Fld.TBL_FC_CTRL_pass_ms : Fld := ⟨.TBL_FC_CTRL, 15, 0, .rw, 1000⟩
def Fld.TBL_FC_STATUS_req : Fld := ⟨.TBL_FC_STATUS, 31, 31, .ro, 0⟩
def Fld.TBL_FC_STATUS_stash : Fld := ⟨.TBL_FC_STATUS, 22, 16, .ro, 0⟩
def Fld.TBL_FC_STATUS_rehashes : Fld := ⟨.TBL_FC_STATUS, 11, 0, .ro, 0⟩
def Fld.TBL_FC_OCC_entries : Fld := ⟨.TBL_FC_OCC, 19, 0, .ro, 0⟩
def Fld.TBL_FC_HITS_count : Fld := ⟨.TBL_FC_HITS, 63, 0, .ro, 0⟩
def Fld.TBL_FC_MISSES_count : Fld := ⟨.TBL_FC_MISSES, 63, 0, .ro, 0⟩
def Fld.TBL_FC_LEARNED_count : Fld := ⟨.TBL_FC_LEARNED, 63, 0, .ro, 0⟩
def Fld.TBL_FC_AGED_count : Fld := ⟨.TBL_FC_AGED, 31, 0, .ro, 0⟩
def Fld.TBL_FC_LEARN_DROP_count : Fld := ⟨.TBL_FC_LEARN_DROP, 31, 0, .ro, 0⟩
def Fld.TBL_FC_LOST_count : Fld := ⟨.TBL_FC_LOST, 31, 0, .ro, 0⟩
def Fld.TBL_FC_ECC_count : Fld := ⟨.TBL_FC_ECC, 31, 0, .ro, 0⟩
def Fld.TBL_IDX_USED_entries : Fld := ⟨.TBL_IDX_USED, 20, 0, .ro, 0⟩
def Fld.TBL_POL_USED_entries : Fld := ⟨.TBL_POL_USED, 16, 0, .ro, 0⟩

-- 11_entropy.md (R312)
def Fld.RNG_STATUS_pattern : Fld := ⟨.RNG_STATUS, 8, 8, .ro, 0⟩
def Fld.RNG_STATUS_test : Fld := ⟨.RNG_STATUS, 7, 7, .ro, 0⟩
def Fld.RNG_STATUS_fatal : Fld := ⟨.RNG_STATUS, 6, 6, .ro, 0⟩
def Fld.RNG_STATUS_startup_done : Fld := ⟨.RNG_STATUS, 5, 5, .ro, 0⟩
def Fld.RNG_STATUS_running : Fld := ⟨.RNG_STATUS, 4, 4, .ro, 0⟩
def Fld.RNG_STATUS_inst : Fld := ⟨.RNG_STATUS, 3, 0, .ro, 0⟩
def Fld.RNG_CTRL_restart : Fld := ⟨.RNG_CTRL, 0, 0, .w1s, 0⟩
def Fld.RNG_HEALTH_rct : Fld := ⟨.RNG_HEALTH, 31, 24, .ro, 0⟩
def Fld.RNG_HEALTH_apt : Fld := ⟨.RNG_HEALTH, 23, 16, .ro, 0⟩
def Fld.RNG_HEALTH_dead : Fld := ⟨.RNG_HEALTH, 15, 8, .ro, 0⟩
def Fld.RNG_HEALTH_lock : Fld := ⟨.RNG_HEALTH, 7, 0, .ro, 0⟩
def Fld.RNG_WINDOW_fails : Fld := ⟨.RNG_WINDOW, 2, 0, .ro, 0⟩
def Fld.RNG_ALIVE_alive : Fld := ⟨.RNG_ALIVE, 31, 0, .ro, 0⟩
def Fld.RNG_LOCKED_pairs : Fld := ⟨.RNG_LOCKED, 31, 0, .w1c, 0⟩
def Fld.RNG_SEEDS_avail : Fld := ⟨.RNG_SEEDS, 2, 0, .ro, 0⟩
def Fld.RNG_DRBG_blocked : Fld := ⟨.RNG_DRBG, 31, 31, .ro, 0⟩
def Fld.RNG_DRBG_due : Fld := ⟨.RNG_DRBG, 30, 30, .ro, 0⟩
def Fld.RNG_DRBG_count : Fld := ⟨.RNG_DRBG, 20, 0, .ro, 0⟩
def Fld.RNG_RESEEDS_count : Fld := ⟨.RNG_RESEEDS, 31, 0, .ro, 0⟩
def Fld.RNG_TEST_pattern : Fld := ⟨.RNG_TEST, 1, 1, .rw, 0⟩
def Fld.RNG_TEST_enable : Fld := ⟨.RNG_TEST, 0, 0, .rw, 0⟩
def Fld.RNG_PATTERN_SEED_seed : Fld := ⟨.RNG_PATTERN_SEED, 31, 0, .rw, 1⟩
def Fld.RNG_RAW_samples : Fld := ⟨.RNG_RAW, 63, 0, .ro, 0⟩
def Fld.RNG_RAW_LEVEL_fail : Fld := ⟨.RNG_RAW_LEVEL, 31, 31, .w1c, 0⟩
def Fld.RNG_RAW_LEVEL_lost : Fld := ⟨.RNG_RAW_LEVEL, 27, 12, .ro, 0⟩
def Fld.RNG_RAW_LEVEL_level : Fld := ⟨.RNG_RAW_LEVEL, 11, 0, .ro, 0⟩

-- 12_worlds_and_access.md (R336)
def Fld.WLD_LOCK_dbg_lock : Fld := ⟨.WLD_LOCK, 1, 1, .w1s, 0⟩
def Fld.WLD_LOCK_assign_lock : Fld := ⟨.WLD_LOCK, 0, 0, .w1s, 0⟩
def Fld.WLD_DBG_s_allowed : Fld := ⟨.WLD_DBG, 4, 4, .ro, 0⟩
def Fld.WLD_DBG_s_inv : Fld := ⟨.WLD_DBG, 3, 3, .rwl, 0⟩
def Fld.WLD_DBG_s_nin : Fld := ⟨.WLD_DBG, 2, 2, .rwl, 0⟩
def Fld.WLD_DBG_o_inv : Fld := ⟨.WLD_DBG, 1, 1, .rwl, 0⟩
def Fld.WLD_DBG_o_nin : Fld := ⟨.WLD_DBG, 0, 0, .rwl, 0⟩
def Fld.WLD_PER_cs1 : Fld := ⟨.WLD_PER, 8, 8, .rwl, 1⟩
def Fld.WLD_PER_tmr : Fld := ⟨.WLD_PER, 7, 0, .rwl, 240⟩
def Fld.WLD_ISLAND_pwr : Fld := ⟨.WLD_ISLAND, 19, 16, .ro, 0⟩
def Fld.WLD_ISLAND_req : Fld := ⟨.WLD_ISLAND, 11, 10, .ro, 0⟩
def Fld.WLD_ISLAND_deferred : Fld := ⟨.WLD_ISLAND, 9, 9, .ro, 0⟩
def Fld.WLD_ISLAND_rel : Fld := ⟨.WLD_ISLAND, 8, 8, .rw, 0⟩
def Fld.WLD_ISLAND_fixed : Fld := ⟨.WLD_ISLAND, 1, 1, .ro, 0⟩
def Fld.WLD_ISLAND_world : Fld := ⟨.WLD_ISLAND, 0, 0, .rwl, 0⟩
def Fld.WLD_IRQ_targets : Fld := ⟨.WLD_IRQ, 15, 8, .rwl, 255⟩
def Fld.WLD_IRQ_fixed : Fld := ⟨.WLD_IRQ, 1, 1, .ro, 0⟩
def Fld.WLD_IRQ_world : Fld := ⟨.WLD_IRQ, 0, 0, .rwl, 0⟩
def Fld.WLD_ASV_STATUS_lost : Fld := ⟨.WLD_ASV_STATUS, 31, 16, .ro, 0⟩
def Fld.WLD_ASV_STATUS_level : Fld := ⟨.WLD_ASV_STATUS, 8, 0, .ro, 0⟩
def Fld.WLD_ASV_TOTAL_count : Fld := ⟨.WLD_ASV_TOTAL, 31, 0, .ro, 0⟩
def Fld.WLD_ASV_REC_word : Fld := ⟨.WLD_ASV_REC, 31, 0, .ro, 0⟩
def Fld.MPU_BASE_base : Fld := ⟨.MPU_BASE, 39, 12, .rwl, 0⟩
def Fld.MPU_CTRL_lock : Fld := ⟨.MPU_CTRL, 31, 31, .w1s, 0⟩
def Fld.MPU_CTRL_size_log2 : Fld := ⟨.MPU_CTRL, 13, 8, .rwl, 0⟩
def Fld.MPU_CTRL_world : Fld := ⟨.MPU_CTRL, 4, 4, .rwl, 0⟩
def Fld.MPU_CTRL_x : Fld := ⟨.MPU_CTRL, 3, 3, .rwl, 0⟩
def Fld.MPU_CTRL_w : Fld := ⟨.MPU_CTRL, 2, 2, .rwl, 0⟩
def Fld.MPU_CTRL_r : Fld := ⟨.MPU_CTRL, 1, 1, .rwl, 0⟩
def Fld.MPU_CTRL_en : Fld := ⟨.MPU_CTRL, 0, 0, .rwl, 0⟩
def Fld.MPU_STATUS_drain : Fld := ⟨.MPU_STATUS, 31, 31, .ro, 0⟩
def Fld.MPU_STATUS_locked : Fld := ⟨.MPU_STATUS, 6, 0, .ro, 0⟩
def Fld.DEV_PWR_REQ_req : Fld := ⟨.DEV_PWR_REQ, 1, 0, .rw, 0⟩
def Fld.DEV_PWR_STATE_pwr : Fld := ⟨.DEV_PWR_STATE, 19, 16, .ro, 0⟩
def Fld.DEV_PWR_STATE_deferred : Fld := ⟨.DEV_PWR_STATE, 9, 9, .ro, 0⟩
def Fld.DEV_PWR_STATE_world : Fld := ⟨.DEV_PWR_STATE, 0, 0, .ro, 0⟩

-- 13_life_cycle.md (R355)
def Fld.LC_STATE_disagree : Fld := ⟨.LC_STATE, 31, 16, .ro, 0⟩
def Fld.LC_STATE_resumed : Fld := ⟨.LC_STATE, 9, 9, .ro, 0⟩
def Fld.LC_STATE_forced : Fld := ⟨.LC_STATE, 8, 8, .ro, 0⟩
def Fld.LC_STATE_ep : Fld := ⟨.LC_STATE, 5, 4, .ro, 0⟩
def Fld.LC_STATE_lc : Fld := ⟨.LC_STATE, 2, 0, .ro, 0⟩
def Fld.LC_FLAGS_voted : Fld := ⟨.LC_FLAGS, 31, 0, .ro, 0⟩
def Fld.LC_COPY_raw : Fld := ⟨.LC_COPY, 31, 0, .ro, 0⟩
def Fld.LC_JOURNAL_record : Fld := ⟨.LC_JOURNAL, 63, 0, .ro, 0⟩
def Fld.LC_DQ_spoiled : Fld := ⟨.LC_DQ, 20, 16, .ro, 0⟩
def Fld.LC_DQ_written : Fld := ⟨.LC_DQ, 12, 8, .ro, 0⟩
def Fld.LC_DQ_valid : Fld := ⟨.LC_DQ, 4, 4, .ro, 0⟩
def Fld.LC_DQ_current : Fld := ⟨.LC_DQ, 3, 0, .ro, 0⟩
def Fld.LC_DQ_DIGEST_word : Fld := ⟨.LC_DQ_DIGEST, 31, 0, .ro, 0⟩
def Fld.DEV_LC_STATE_resumed : Fld := ⟨.DEV_LC_STATE, 9, 9, .ro, 0⟩
def Fld.DEV_LC_STATE_forced : Fld := ⟨.DEV_LC_STATE, 8, 8, .ro, 0⟩
def Fld.DEV_LC_STATE_ep : Fld := ⟨.DEV_LC_STATE, 5, 4, .ro, 0⟩
def Fld.DEV_LC_STATE_lc : Fld := ⟨.DEV_LC_STATE, 2, 0, .ro, 0⟩

-- 14_bringup_and_configuration.md (R378)
def Fld.DEV_PART_part : Fld := ⟨.DEV_PART, 31, 16, .ro, 38464⟩
def Fld.DEV_PART_rev : Fld := ⟨.DEV_PART, 7, 0, .ro, 0⟩
def Fld.DEV_BOOT_STATUS_steward_absent : Fld := ⟨.DEV_BOOT_STATUS, 7, 7, .ro, 0⟩
def Fld.DEV_BOOT_STATUS_cfg_default : Fld := ⟨.DEV_BOOT_STATUS, 6, 6, .ro, 0⟩
def Fld.DEV_BOOT_STATUS_cfg_fallback : Fld := ⟨.DEV_BOOT_STATUS, 5, 5, .ro, 0⟩
def Fld.DEV_BOOT_STATUS_img_fallback : Fld := ⟨.DEV_BOOT_STATUS, 4, 4, .ro, 0⟩
def Fld.DEV_BOOT_STATUS_phase : Fld := ⟨.DEV_BOOT_STATUS, 3, 0, .ro, 0⟩
def Fld.DEV_BOOT_ERR_dir : Fld := ⟨.DEV_BOOT_ERR, 6, 6, .ro, 0⟩
def Fld.DEV_BOOT_ERR_cfg_other : Fld := ⟨.DEV_BOOT_ERR, 5, 5, .ro, 0⟩
def Fld.DEV_BOOT_ERR_cfg_named : Fld := ⟨.DEV_BOOT_ERR, 4, 4, .ro, 0⟩
def Fld.DEV_BOOT_ERR_stw_other : Fld := ⟨.DEV_BOOT_ERR, 3, 3, .ro, 0⟩
def Fld.DEV_BOOT_ERR_stw_active : Fld := ⟨.DEV_BOOT_ERR, 2, 2, .ro, 0⟩
def Fld.DEV_BOOT_ERR_cus_other : Fld := ⟨.DEV_BOOT_ERR, 1, 1, .ro, 0⟩
def Fld.DEV_BOOT_ERR_cus_active : Fld := ⟨.DEV_BOOT_ERR, 0, 0, .ro, 0⟩
def Fld.DEV_BOOT_TIME_ms : Fld := ⟨.DEV_BOOT_TIME, 31, 0, .ro, 0⟩
def Fld.DEV_MODE_boot_mode : Fld := ⟨.DEV_MODE, 10, 8, .ro, 0⟩
def Fld.DEV_MODE_switching : Fld := ⟨.DEV_MODE, 7, 7, .ro, 0⟩
def Fld.DEV_MODE_mode : Fld := ⟨.DEV_MODE, 2, 0, .ro, 0⟩
def Fld.DEV_IRQ_CAUSE_gauntlet : Fld := ⟨.DEV_IRQ_CAUSE, 5, 5, .w1c, 0⟩
def Fld.DEV_IRQ_CAUSE_table : Fld := ⟨.DEV_IRQ_CAUSE, 4, 4, .w1c, 0⟩
def Fld.DEV_IRQ_CAUSE_config : Fld := ⟨.DEV_IRQ_CAUSE, 3, 3, .w1c, 0⟩
def Fld.DEV_IRQ_CAUSE_mode : Fld := ⟨.DEV_IRQ_CAUSE, 2, 2, .w1c, 0⟩
def Fld.DEV_IRQ_CAUSE_fallback : Fld := ⟨.DEV_IRQ_CAUSE, 1, 1, .w1c, 0⟩
def Fld.DEV_IRQ_CAUSE_boot : Fld := ⟨.DEV_IRQ_CAUSE, 0, 0, .w1c, 0⟩
def Fld.DEV_IRQ_MASK_mask : Fld := ⟨.DEV_IRQ_MASK, 5, 0, .rw, 0⟩
def Fld.DEV_IRQ_VEC_vec : Fld := ⟨.DEV_IRQ_VEC, 10, 0, .rw, 0⟩
def Fld.DEV_RCV_ADDR_addr : Fld := ⟨.DEV_RCV_ADDR, 63, 12, .rw, 0⟩
def Fld.DEV_RCV_LEN_len : Fld := ⟨.DEV_RCV_LEN, 24, 0, .rw, 0⟩
def Fld.DEV_RCV_CTRL_status : Fld := ⟨.DEV_RCV_CTRL, 3, 1, .ro, 0⟩
def Fld.DEV_RCV_CTRL_go : Fld := ⟨.DEV_RCV_CTRL, 0, 0, .w1s, 0⟩
def Fld.CFG_STATUS_generation : Fld := ⟨.CFG_STATUS, 31, 16, .ro, 0⟩
def Fld.CFG_STATUS_pending_boot : Fld := ⟨.CFG_STATUS, 3, 3, .ro, 0⟩
def Fld.CFG_STATUS_busy : Fld := ⟨.CFG_STATUS, 2, 2, .ro, 0⟩
def Fld.CFG_STATUS_slot : Fld := ⟨.CFG_STATUS, 1, 1, .ro, 0⟩
def Fld.CFG_STATUS_default : Fld := ⟨.CFG_STATUS, 0, 0, .ro, 0⟩
def Fld.CFG_DIGEST_word : Fld := ⟨.CFG_DIGEST, 31, 0, .ro, 0⟩
def Fld.CFG_VDOM_word : Fld := ⟨.CFG_VDOM, 31, 0, .ro, 0⟩
def Fld.CFG_OVL_permitted : Fld := ⟨.CFG_OVL, 31, 31, .ro, 0⟩
def Fld.CFG_OVL_commit : Fld := ⟨.CFG_OVL, 23, 8, .ro, 0⟩
def Fld.CFG_OVL_la_floor : Fld := ⟨.CFG_OVL, 7, 0, .ro, 0⟩

-- 15_gauntlet.md (R401)
def Fld.GNT_STATUS_clear_held : Fld := ⟨.GNT_STATUS, 11, 11, .ro, 0⟩
def Fld.GNT_STATUS_erase_busy : Fld := ⟨.GNT_STATUS, 10, 10, .ro, 0⟩
def Fld.GNT_STATUS_hold_any : Fld := ⟨.GNT_STATUS, 9, 9, .ro, 0⟩
def Fld.GNT_STATUS_backup_events : Fld := ⟨.GNT_STATUS, 8, 8, .ro, 0⟩
def Fld.GNT_STATUS_present : Fld := ⟨.GNT_STATUS, 2, 2, .ro, 0⟩
def Fld.GNT_STATUS_active : Fld := ⟨.GNT_STATUS, 1, 0, .ro, 0⟩
def Fld.GNT_LAST_detail : Fld := ⟨.GNT_LAST, 31, 16, .ro, 0⟩
def Fld.GNT_LAST_flags : Fld := ⟨.GNT_LAST, 15, 8, .ro, 0⟩
def Fld.GNT_LAST_type : Fld := ⟨.GNT_LAST, 7, 0, .ro, 0⟩
def Fld.GNT_HOLD_islands : Fld := ⟨.GNT_HOLD, 63, 0, .ro, 0⟩
def Fld.GNT_COUNTS_c3 : Fld := ⟨.GNT_COUNTS, 31, 24, .ro, 0⟩
def Fld.GNT_COUNTS_c2 : Fld := ⟨.GNT_COUNTS, 23, 16, .ro, 0⟩
def Fld.GNT_COUNTS_c1 : Fld := ⟨.GNT_COUNTS, 15, 8, .ro, 0⟩
def Fld.GNT_COUNTS_c0 : Fld := ⟨.GNT_COUNTS, 7, 0, .ro, 0⟩
def Fld.GNT_OPSEC_seconds : Fld := ⟨.GNT_OPSEC, 39, 0, .ro, 0⟩
def Fld.GNT_PWRCYC_count : Fld := ⟨.GNT_PWRCYC, 23, 0, .ro, 0⟩
def Fld.GNT_TEMP_celsius : Fld := ⟨.GNT_TEMP, 7, 0, .ro, 0⟩
def Fld.GNT_VBAK_mv : Fld := ⟨.GNT_VBAK, 11, 0, .ro, 0⟩
def Fld.GNT_RAIL_mv : Fld := ⟨.GNT_RAIL, 11, 0, .ro, 0⟩
def Fld.GNT_EV_COUNT_full : Fld := ⟨.GNT_EV_COUNT, 14, 14, .ro, 0⟩
def Fld.GNT_EV_COUNT_general_full : Fld := ⟨.GNT_EV_COUNT, 13, 13, .ro, 0⟩
def Fld.GNT_EV_COUNT_next : Fld := ⟨.GNT_EV_COUNT, 12, 0, .ro, 0⟩
def Fld.GNT_EV_DROPPED_count : Fld := ⟨.GNT_EV_DROPPED, 15, 0, .ro, 0⟩
def Fld.GNT_STAGE_merged : Fld := ⟨.GNT_STAGE, 15, 8, .ro, 0⟩
def Fld.GNT_STAGE_level : Fld := ⟨.GNT_STAGE, 4, 0, .ro, 0⟩
def Fld.GNT_LOCK_lock : Fld := ⟨.GNT_LOCK, 0, 0, .w1s, 0⟩
def Fld.GNT_SWITCH_CFG_pol : Fld := ⟨.GNT_SWITCH_CFG, 3, 0, .rwl, 0⟩
def Fld.GNT_SENSOR_present : Fld := ⟨.GNT_SENSOR, 9, 9, .ro, 0⟩
def Fld.GNT_SENSOR_fixed : Fld := ⟨.GNT_SENSOR, 8, 8, .ro, 0⟩
def Fld.GNT_SENSOR_max : Fld := ⟨.GNT_SENSOR, 7, 6, .ro, 0⟩
def Fld.GNT_SENSOR_floor : Fld := ⟨.GNT_SENSOR, 5, 4, .ro, 0⟩
def Fld.GNT_SENSOR_class : Fld := ⟨.GNT_SENSOR, 1, 0, .rwl, 0⟩
def Fld.GNT_EV_REC_record : Fld := ⟨.GNT_EV_REC, 255, 0, .ro, 0⟩

-- 16_continuity.md (R428)
def Fld.DEV_UNIT_CC_busy : Fld := ⟨.DEV_UNIT_CC, 8, 8, .ro, 0⟩
def Fld.DEV_UNIT_CC_fails : Fld := ⟨.DEV_UNIT_CC, 5, 4, .ro, 0⟩
def Fld.DEV_UNIT_CC_role : Fld := ⟨.DEV_UNIT_CC, 3, 0, .ro, 0⟩
def Fld.DEV_UNIT_TP_pd : Fld := ⟨.DEV_UNIT_TP, 11, 9, .ro, 0⟩
def Fld.DEV_UNIT_TP_busy : Fld := ⟨.DEV_UNIT_TP, 8, 8, .ro, 0⟩
def Fld.DEV_UNIT_TP_fails : Fld := ⟨.DEV_UNIT_TP, 5, 4, .ro, 0⟩
def Fld.DEV_UNIT_TP_role : Fld := ⟨.DEV_UNIT_TP, 3, 0, .ro, 0⟩
def Fld.DEV_ROT_late : Fld := ⟨.DEV_ROT, 31, 31, .w1c, 0⟩
def Fld.DEV_ROT_nospare : Fld := ⟨.DEV_ROT, 30, 30, .ro, 0⟩
def Fld.DEV_ROT_paused : Fld := ⟨.DEV_ROT, 29, 29, .ro, 0⟩
def Fld.DEV_ROT_unit : Fld := ⟨.DEV_ROT, 23, 16, .ro, 0⟩
def Fld.DEV_ROT_cycle : Fld := ⟨.DEV_ROT, 15, 0, .ro, 0⟩
def Fld.DEV_FW_STATUS_switched : Fld := ⟨.DEV_FW_STATUS, 19, 16, .ro, 0⟩
def Fld.DEV_FW_STATUS_phase : Fld := ⟨.DEV_FW_STATUS, 13, 12, .ro, 0⟩
def Fld.DEV_FW_STATUS_stw_staged : Fld := ⟨.DEV_FW_STATUS, 1, 1, .ro, 0⟩
def Fld.DEV_FW_STATUS_cus_staged : Fld := ⟨.DEV_FW_STATUS, 0, 0, .ro, 0⟩

-- 17_recorder_and_meters.md (R448)
def Fld.REC_CTRL_flush : Fld := ⟨.REC_CTRL, 16, 16, .w1s, 0⟩
def Fld.REC_CTRL_soft : Fld := ⟨.REC_CTRL, 15, 0, .wo, 0⟩
def Fld.REC_STATUS_stopped : Fld := ⟨.REC_STATUS, 31, 31, .ro, 0⟩
def Fld.REC_STATUS_nv_err : Fld := ⟨.REC_STATUS, 30, 30, .w1c, 0⟩
def Fld.REC_STATUS_unflushed : Fld := ⟨.REC_STATUS, 12, 0, .ro, 0⟩
def Fld.REC_WRITTEN_count : Fld := ⟨.REC_WRITTEN, 31, 0, .ro, 0⟩
def Fld.REC_NV_CFG_reset : Fld := ⟨.REC_NV_CFG, 31, 31, .w1s, 0⟩
def Fld.REC_NV_CFG_size : Fld := ⟨.REC_NV_CFG, 14, 0, .rw, 64⟩
def Fld.REC_NV_NEXT_next : Fld := ⟨.REC_NV_NEXT, 31, 0, .ro, 0⟩
def Fld.REC_TRIG_fixed : Fld := ⟨.REC_TRIG, 7, 7, .ro, 0⟩
def Fld.REC_TRIG_flush : Fld := ⟨.REC_TRIG, 6, 6, .rw, 0⟩
def Fld.REC_TRIG_en : Fld := ⟨.REC_TRIG, 5, 5, .rw, 1⟩
def Fld.REC_TRIG_snap : Fld := ⟨.REC_TRIG, 4, 4, .rw, 0⟩
def Fld.REC_TRIG_set : Fld := ⟨.REC_TRIG, 3, 0, .rw, 0⟩
def Fld.REC_SNAP_valid : Fld := ⟨.REC_SNAP, 31, 31, .rw, 0⟩
def Fld.REC_SNAP_offset : Fld := ⟨.REC_SNAP, 25, 2, .rw, 0⟩
def Fld.PMC_SEL_en : Fld := ⟨.PMC_SEL, 31, 31, .rw, 0⟩
def Fld.PMC_SEL_event : Fld := ⟨.PMC_SEL, 11, 0, .rw, 0⟩
def Fld.PMC_CNT_value : Fld := ⟨.PMC_CNT, 47, 0, .rw, 0⟩
def Fld.PMC_OVF_ovf : Fld := ⟨.PMC_OVF, 31, 0, .w1c, 0⟩
def Fld.PMC_DUMP_CTRL_enable : Fld := ⟨.PMC_DUMP_CTRL, 31, 31, .rw, 0⟩
def Fld.PMC_DUMP_CTRL_ien : Fld := ⟨.PMC_DUMP_CTRL, 30, 30, .rw, 0⟩
def Fld.PMC_DUMP_CTRL_err : Fld := ⟨.PMC_DUMP_CTRL, 29, 29, .w1c, 0⟩
def Fld.PMC_DUMP_CTRL_vec : Fld := ⟨.PMC_DUMP_CTRL, 26, 16, .rw, 0⟩
def Fld.PMC_DUMP_CTRL_ms : Fld := ⟨.PMC_DUMP_CTRL, 15, 0, .rw, 1000⟩
def Fld.PMC_DUMP_BASE_base : Fld := ⟨.PMC_DUMP_BASE, 63, 12, .rw, 0⟩
def Fld.PMC_DUMP_BASE_log2 : Fld := ⟨.PMC_DUMP_BASE, 4, 0, .rw, 0⟩
def Fld.PMC_DUMP_PTR_tail : Fld := ⟨.PMC_DUMP_PTR, 31, 16, .ro, 0⟩
def Fld.PMC_DUMP_PTR_head : Fld := ⟨.PMC_DUMP_PTR, 15, 0, .rw, 0⟩
def Fld.PMC_DUMP_SKIP_count : Fld := ⟨.PMC_DUMP_SKIP, 31, 0, .ro, 0⟩
def Fld.PMC_METER_CTRL_enable : Fld := ⟨.PMC_METER_CTRL, 31, 31, .rw, 0⟩
def Fld.PMC_METER_CTRL_ien : Fld := ⟨.PMC_METER_CTRL, 30, 30, .rw, 0⟩
def Fld.PMC_METER_CTRL_err : Fld := ⟨.PMC_METER_CTRL, 29, 29, .w1c, 0⟩
def Fld.PMC_METER_CTRL_vec : Fld := ⟨.PMC_METER_CTRL, 26, 16, .rw, 0⟩
def Fld.PMC_METER_CTRL_interval : Fld := ⟨.PMC_METER_CTRL, 11, 0, .rw, 60⟩
def Fld.PMC_METER_BASE_base : Fld := ⟨.PMC_METER_BASE, 63, 12, .rw, 0⟩
def Fld.PMC_METER_BASE_log2 : Fld := ⟨.PMC_METER_BASE, 4, 0, .rw, 0⟩
def Fld.PMC_METER_PTR_tail : Fld := ⟨.PMC_METER_PTR, 31, 16, .ro, 0⟩
def Fld.PMC_METER_PTR_head : Fld := ⟨.PMC_METER_PTR, 15, 0, .rw, 0⟩
def Fld.PMC_METER_STATUS_reserved_e : Fld := ⟨.PMC_METER_STATUS, 28, 16, .ro, 0⟩
def Fld.PMC_METER_STATUS_deferred : Fld := ⟨.PMC_METER_STATUS, 12, 0, .ro, 0⟩

-- 18_host_and_network_links.md (R469)
def Fld.HLU_IDENT_device : Fld := ⟨.HLU_IDENT, 31, 16, .ro, 38464⟩
def Fld.HLU_IDENT_vendor : Fld := ⟨.HLU_IDENT, 15, 0, .ro, 0⟩
def Fld.HLU_LINK_flit : Fld := ⟨.HLU_LINK, 20, 20, .ro, 0⟩
def Fld.HLU_LINK_speed : Fld := ⟨.HLU_LINK, 19, 16, .ro, 0⟩
def Fld.HLU_LINK_width : Fld := ⟨.HLU_LINK, 13, 8, .ro, 0⟩
def Fld.HLU_LINK_up : Fld := ⟨.HLU_LINK, 0, 0, .ro, 0⟩
def Fld.HLU_CTO_ms : Fld := ⟨.HLU_CTO, 6, 0, .rw, 16⟩
def Fld.HLU_DMA_ERR_count : Fld := ⟨.HLU_DMA_ERR, 31, 0, .ro, 0⟩
def Fld.HLU_IDE_STATUS_sel : Fld := ⟨.HLU_IDE_STATUS, 4, 1, .ro, 0⟩
def Fld.HLU_IDE_STATUS_link : Fld := ⟨.HLU_IDE_STATUS, 0, 0, .ro, 0⟩
def Fld.HLU_IDE_FAIL_count : Fld := ⟨.HLU_IDE_FAIL, 31, 0, .ro, 0⟩
def Fld.NET_PORT_STATUS_remote_fault : Fld := ⟨.NET_PORT_STATUS, 5, 5, .ro, 0⟩
def Fld.NET_PORT_STATUS_local_fault : Fld := ⟨.NET_PORT_STATUS, 4, 4, .ro, 0⟩
def Fld.NET_PORT_STATUS_fec_lock : Fld := ⟨.NET_PORT_STATUS, 3, 3, .ro, 0⟩
def Fld.NET_PORT_STATUS_training : Fld := ⟨.NET_PORT_STATUS, 2, 2, .ro, 0⟩
def Fld.NET_PORT_STATUS_c2m : Fld := ⟨.NET_PORT_STATUS, 1, 1, .ro, 0⟩
def Fld.NET_PORT_STATUS_up : Fld := ⟨.NET_PORT_STATUS, 0, 0, .ro, 0⟩
def Fld.NET_LANE_CFG_post : Fld := ⟨.NET_LANE_CFG, 17, 12, .rw, 0⟩
def Fld.NET_LANE_CFG_pre : Fld := ⟨.NET_LANE_CFG, 11, 6, .rw, 0⟩
def Fld.NET_LANE_CFG_tx_inv : Fld := ⟨.NET_LANE_CFG, 1, 1, .rw, 0⟩
def Fld.NET_LANE_CFG_rx_inv : Fld := ⟨.NET_LANE_CFG, 0, 0, .rw, 0⟩
def Fld.NET_FEC_CORR_count : Fld := ⟨.NET_FEC_CORR, 63, 0, .ro, 0⟩
def Fld.NET_FEC_UNCORR_count : Fld := ⟨.NET_FEC_UNCORR, 63, 0, .ro, 0⟩
def Fld.NET_FCS_ERR_count : Fld := ⟨.NET_FCS_ERR, 63, 0, .ro, 0⟩
def Fld.NET_SIZE_ERR_count : Fld := ⟨.NET_SIZE_ERR, 63, 0, .ro, 0⟩
def Fld.NET_MACCTL_count : Fld := ⟨.NET_MACCTL, 63, 0, .ro, 0⟩
def Fld.XSP_STATUS_cs1_log2 : Fld := ⟨.XSP_STATUS, 21, 16, .ro, 0⟩
def Fld.XSP_STATUS_cs0_log2 : Fld := ⟨.XSP_STATUS, 13, 8, .ro, 0⟩
def Fld.XSP_STATUS_cs1_ok : Fld := ⟨.XSP_STATUS, 3, 3, .ro, 0⟩
def Fld.XSP_STATUS_cs1_8d : Fld := ⟨.XSP_STATUS, 2, 2, .ro, 0⟩
def Fld.XSP_STATUS_cs0_8d : Fld := ⟨.XSP_STATUS, 1, 1, .ro, 0⟩
def Fld.XSP_STATUS_busy : Fld := ⟨.XSP_STATUS, 0, 0, .ro, 0⟩
def Fld.XSP_ERR_cs1 : Fld := ⟨.XSP_ERR, 31, 16, .ro, 0⟩
def Fld.XSP_ERR_cs0 : Fld := ⟨.XSP_ERR, 15, 0, .ro, 0⟩
def Fld.XSP_CS1_WIN_page : Fld := ⟨.XSP_CS1_WIN, 10, 0, .rw, 0⟩

-- 19_custody_card.md (R484)
def Fld.CRD_STATUS_mode : Fld := ⟨.CRD_STATUS, 15, 12, .ro, 0⟩
def Fld.CRD_STATUS_type : Fld := ⟨.CRD_STATUS, 9, 8, .ro, 0⟩
def Fld.CRD_STATUS_rpmb : Fld := ⟨.CRD_STATUS, 7, 7, .ro, 0⟩
def Fld.CRD_STATUS_key : Fld := ⟨.CRD_STATUS, 6, 5, .ro, 0⟩
def Fld.CRD_STATUS_label : Fld := ⟨.CRD_STATUS, 4, 4, .ro, 0⟩
def Fld.CRD_STATUS_busy : Fld := ⟨.CRD_STATUS, 3, 3, .ro, 0⟩
def Fld.CRD_STATUS_ident : Fld := ⟨.CRD_STATUS, 2, 2, .ro, 0⟩
def Fld.CRD_STATUS_ready : Fld := ⟨.CRD_STATUS, 1, 1, .ro, 0⟩
def Fld.CRD_STATUS_present : Fld := ⟨.CRD_STATUS, 0, 0, .ro, 0⟩
def Fld.CRD_CID_word : Fld := ⟨.CRD_CID, 31, 0, .ro, 0⟩
def Fld.CRD_BACKUP_unknown : Fld := ⟨.CRD_BACKUP, 31, 31, .ro, 0⟩
def Fld.CRD_BACKUP_valid : Fld := ⟨.CRD_BACKUP, 30, 30, .ro, 0⟩
def Fld.CRD_BACKUP_area : Fld := ⟨.CRD_BACKUP, 0, 0, .ro, 0⟩
def Fld.CRD_GEN_gen : Fld := ⟨.CRD_GEN, 31, 0, .ro, 0⟩
def Fld.CRD_ERR_removed : Fld := ⟨.CRD_ERR, 31, 24, .ro, 0⟩
def Fld.CRD_ERR_timeout : Fld := ⟨.CRD_ERR, 23, 16, .ro, 0⟩
def Fld.CRD_ERR_data_crc : Fld := ⟨.CRD_ERR, 15, 8, .ro, 0⟩
def Fld.CRD_ERR_cmd_crc : Fld := ⟨.CRD_ERR, 7, 0, .ro, 0⟩
def Fld.CRD_CFG_v18_en : Fld := ⟨.CRD_CFG, 2, 2, .rw, 0⟩
def Fld.CRD_CFG_max : Fld := ⟨.CRD_CFG, 1, 0, .rw, 2⟩

/-- The number that stands for a register name in the keys of the register store. -/
def RegName.idx : RegName → Nat
  | .CMD_QP_CTRL => 0
  | .CMD_QP_STATUS => 1
  | .CMD_QP_SIZE => 2
  | .CMD_QP_IRQ => 3
  | .CMD_SQ_BASE => 4
  | .CMD_CQ_BASE => 5
  | .CMD_SQ_TAIL => 6
  | .CMD_SQ_HEAD => 7
  | .CMD_CQ_HEAD => 8
  | .CMD_CQ_TAIL => 9
  | .SLC_STATE => 10
  | .SLC_PASID => 11
  | .SLC_PKE_SHARE => 12
  | .SLC_BULK_SHARE => 13
  | .SLC_KC_QUOTA => 14
  | .SLC_SA_QUOTA => 15
  | .SLC_RING_LIMIT => 16
  | .SLC_MSIX => 17
  | .SLC_KC_USED => 18
  | .SLC_SA_USED => 19
  | .DEV_KC_CAP => 20
  | .DEV_ENDURING => 21
  | .SLC_DLOG_CTRL => 22
  | .SLC_DLOG_BUF0 => 23
  | .SLC_DLOG_BUF1 => 24
  | .SLC_DLOG_WIN => 25
  | .SLC_DLOG_PAGES => 26
  | .KS_STATUS => 27
  | .KS_FREE_LINES => 28
  | .KS_REMASK_LAST => 29
  | .KS_REMASK_PASSES => 30
  | .KS_REFUSED => 31
  | .KS_COMPAT_CFG => 32
  | .KS_COMPAT_LOCK => 33
  | .KS_COMPAT_BAD => 34
  | .KS_SUCC_MEAS => 35
  | .KS_SUCC_CTRL => 36
  | .KS_RESEAL_COUNT => 37
  | .KS_FSEAL_BYTES => 38
  | .KS_EXPORT_PEND => 39
  | .KS_WIPE => 40
  | .PKE_CORE_ID => 41
  | .PKE_CORE_FAULT => 42
  | .PKE_CORE_ECC => 43
  | .PKE_CORE_ZERO => 44
  | .PKE_CORE_MAP => 45
  | .PKE_SUMMARY => 46
  | .PKE_PENDING => 47
  | .PKE_LATE => 48
  | .PKE_PREEMPT => 49
  | .PKE_CAPPED => 50
  | .PKE_WS_FREE => 51
  | .BLK_CLUSTER_MAP => 52
  | .BLK_SUMMARY => 53
  | .BLK_ARB => 54
  | .BLK_KEY_LOADS => 55
  | .BLK_KEY_EVICTS => 56
  | .BLK_AUTH_FAIL => 57
  | .BLK_STREAMED => 58
  | .BLK_FAULT => 59
  | .BLK_ERASE => 60
  | .TBL_INL_PD => 61
  | .TBL_INL_DROP => 62
  | .TBL_INL_PROT => 63
  | .TBL_INL_BYP => 64
  | .TBL_FC_CTRL => 65
  | .TBL_FC_STATUS => 66
  | .TBL_FC_OCC => 67
  | .TBL_FC_HITS => 68
  | .TBL_FC_MISSES => 69
  | .TBL_FC_LEARNED => 70
  | .TBL_FC_AGED => 71
  | .TBL_FC_LEARN_DROP => 72
  | .TBL_FC_LOST => 73
  | .TBL_FC_ECC => 74
  | .TBL_IDX_USED => 75
  | .TBL_POL_USED => 76
  | .RNG_STATUS => 77
  | .RNG_CTRL => 78
  | .RNG_HEALTH => 79
  | .RNG_WINDOW => 80
  | .RNG_ALIVE => 81
  | .RNG_LOCKED => 82
  | .RNG_SEEDS => 83
  | .RNG_DRBG => 84
  | .RNG_RESEEDS => 85
  | .RNG_TEST => 86
  | .RNG_PATTERN_SEED => 87
  | .RNG_RAW => 88
  | .RNG_RAW_LEVEL => 89
  | .WLD_LOCK => 90
  | .WLD_DBG => 91
  | .WLD_PER => 92
  | .WLD_ISLAND => 93
  | .WLD_IRQ => 94
  | .WLD_ASV_STATUS => 95
  | .WLD_ASV_TOTAL => 96
  | .WLD_ASV_REC => 97
  | .MPU_BASE => 98
  | .MPU_CTRL => 99
  | .MPU_STATUS => 100
  | .DEV_PWR_REQ => 101
  | .DEV_PWR_STATE => 102
  | .LC_STATE => 103
  | .LC_FLAGS => 104
  | .LC_COPY => 105
  | .LC_JOURNAL => 106
  | .LC_DQ => 107
  | .LC_DQ_DIGEST => 108
  | .DEV_LC_STATE => 109
  | .DEV_PART => 110
  | .DEV_BOOT_STATUS => 111
  | .DEV_BOOT_ERR => 112
  | .DEV_BOOT_TIME => 113
  | .DEV_MODE => 114
  | .DEV_IRQ_CAUSE => 115
  | .DEV_IRQ_MASK => 116
  | .DEV_IRQ_VEC => 117
  | .DEV_RCV_ADDR => 118
  | .DEV_RCV_LEN => 119
  | .DEV_RCV_CTRL => 120
  | .CFG_STATUS => 121
  | .CFG_DIGEST => 122
  | .CFG_VDOM => 123
  | .CFG_OVL => 124
  | .GNT_STATUS => 125
  | .GNT_LAST => 126
  | .GNT_HOLD => 127
  | .GNT_COUNTS => 128
  | .GNT_OPSEC => 129
  | .GNT_PWRCYC => 130
  | .GNT_TEMP => 131
  | .GNT_VBAK => 132
  | .GNT_RAIL => 133
  | .GNT_EV_COUNT => 134
  | .GNT_EV_DROPPED => 135
  | .GNT_STAGE => 136
  | .GNT_LOCK => 137
  | .GNT_SWITCH_CFG => 138
  | .GNT_SENSOR => 139
  | .GNT_EV_REC => 140
  | .DEV_UNIT_CC => 141
  | .DEV_UNIT_TP => 142
  | .DEV_ROT => 143
  | .DEV_FW_STATUS => 144
  | .REC_CTRL => 145
  | .REC_STATUS => 146
  | .REC_WRITTEN => 147
  | .REC_NV_CFG => 148
  | .REC_NV_NEXT => 149
  | .REC_TRIG => 150
  | .REC_SNAP => 151
  | .PMC_SEL => 152
  | .PMC_CNT => 153
  | .PMC_OVF => 154
  | .PMC_DUMP_CTRL => 155
  | .PMC_DUMP_BASE => 156
  | .PMC_DUMP_PTR => 157
  | .PMC_DUMP_SKIP => 158
  | .PMC_METER_CTRL => 159
  | .PMC_METER_BASE => 160
  | .PMC_METER_PTR => 161
  | .PMC_METER_STATUS => 162
  | .HLU_IDENT => 163
  | .HLU_LINK => 164
  | .HLU_CTO => 165
  | .HLU_DMA_ERR => 166
  | .HLU_IDE_STATUS => 167
  | .HLU_IDE_FAIL => 168
  | .NET_PORT_STATUS => 169
  | .NET_LANE_CFG => 170
  | .NET_FEC_CORR => 171
  | .NET_FEC_UNCORR => 172
  | .NET_FCS_ERR => 173
  | .NET_SIZE_ERR => 174
  | .NET_MACCTL => 175
  | .XSP_STATUS => 176
  | .XSP_ERR => 177
  | .XSP_CS1_WIN => 178
  | .CRD_STATUS => 179
  | .CRD_CID => 180
  | .CRD_BACKUP => 181
  | .CRD_GEN => 182
  | .CRD_ERR => 183
  | .CRD_CFG => 184

/-- The fields of each register. -/
def RegName.fields : RegName → List Fld
  | .CMD_QP_CTRL => [Fld.CMD_QP_CTRL_stop, Fld.CMD_QP_CTRL_enable]
  | .CMD_QP_STATUS => [Fld.CMD_QP_STATUS_cqerr, Fld.CMD_QP_STATUS_fetcherr, Fld.CMD_QP_STATUS_dberr, Fld.CMD_QP_STATUS_cfgerr, Fld.CMD_QP_STATUS_running]
  | .CMD_QP_SIZE => [Fld.CMD_QP_SIZE_cq_log2, Fld.CMD_QP_SIZE_sq_log2]
  | .CMD_QP_IRQ => [Fld.CMD_QP_IRQ_ien, Fld.CMD_QP_IRQ_vec, Fld.CMD_QP_IRQ_count, Fld.CMD_QP_IRQ_delay]
  | .CMD_SQ_BASE => [Fld.CMD_SQ_BASE_base]
  | .CMD_CQ_BASE => [Fld.CMD_CQ_BASE_base]
  | .CMD_SQ_TAIL => [Fld.CMD_SQ_TAIL_tail]
  | .CMD_SQ_HEAD => [Fld.CMD_SQ_HEAD_head]
  | .CMD_CQ_HEAD => [Fld.CMD_CQ_HEAD_head]
  | .CMD_CQ_TAIL => [Fld.CMD_CQ_TAIL_phase, Fld.CMD_CQ_TAIL_tail]
  | .SLC_STATE => [Fld.SLC_STATE_share_gen, Fld.SLC_STATE_qp_running, Fld.SLC_STATE_mirrored, Fld.SLC_STATE_enduring, Fld.SLC_STATE_state]
  | .SLC_PASID => [Fld.SLC_PASID_valid, Fld.SLC_PASID_pasid]
  | .SLC_PKE_SHARE => [Fld.SLC_PKE_SHARE_weight]
  | .SLC_BULK_SHARE => [Fld.SLC_BULK_SHARE_burst, Fld.SLC_BULK_SHARE_rate]
  | .SLC_KC_QUOTA => [Fld.SLC_KC_QUOTA_quota]
  | .SLC_SA_QUOTA => [Fld.SLC_SA_QUOTA_quota]
  | .SLC_RING_LIMIT => [Fld.SLC_RING_LIMIT_qp_max, Fld.SLC_RING_LIMIT_cq_log2_max, Fld.SLC_RING_LIMIT_sq_log2_max]
  | .SLC_MSIX => [Fld.SLC_MSIX_vec_count, Fld.SLC_MSIX_vec_base]
  | .SLC_KC_USED => [Fld.SLC_KC_USED_used]
  | .SLC_SA_USED => [Fld.SLC_SA_USED_used]
  | .DEV_KC_CAP => [Fld.DEV_KC_CAP_lines]
  | .DEV_ENDURING => [Fld.DEV_ENDURING_count]
  | .SLC_DLOG_CTRL => [Fld.SLC_DLOG_CTRL_err, Fld.SLC_DLOG_CTRL_outside, Fld.SLC_DLOG_CTRL_active, Fld.SLC_DLOG_CTRL_flip, Fld.SLC_DLOG_CTRL_enable]
  | .SLC_DLOG_BUF0 => [Fld.SLC_DLOG_BUF0_base]
  | .SLC_DLOG_BUF1 => [Fld.SLC_DLOG_BUF1_base]
  | .SLC_DLOG_WIN => [Fld.SLC_DLOG_WIN_win_base, Fld.SLC_DLOG_WIN_win_log2]
  | .SLC_DLOG_PAGES => [Fld.SLC_DLOG_PAGES_count]
  | .KS_STATUS => [Fld.KS_STATUS_reseal, Fld.KS_STATUS_remask_late, Fld.KS_STATUS_wipe_busy, Fld.KS_STATUS_seed_new, Fld.KS_STATUS_seed_valid, Fld.KS_STATUS_share_present, Fld.KS_STATUS_ready]
  | .KS_FREE_LINES => [Fld.KS_FREE_LINES_free]
  | .KS_REMASK_LAST => [Fld.KS_REMASK_LAST_ms]
  | .KS_REMASK_PASSES => [Fld.KS_REMASK_PASSES_count]
  | .KS_REFUSED => [Fld.KS_REFUSED_count]
  | .KS_COMPAT_CFG => [Fld.KS_COMPAT_CFG_enable, Fld.KS_COMPAT_CFG_size, Fld.KS_COMPAT_CFG_base]
  | .KS_COMPAT_LOCK => [Fld.KS_COMPAT_LOCK_invalid, Fld.KS_COMPAT_LOCK_lock]
  | .KS_COMPAT_BAD => [Fld.KS_COMPAT_BAD_bad]
  | .KS_SUCC_MEAS => [Fld.KS_SUCC_MEAS_word]
  | .KS_SUCC_CTRL => [Fld.KS_SUCC_CTRL_abandon, Fld.KS_SUCC_CTRL_valid]
  | .KS_RESEAL_COUNT => [Fld.KS_RESEAL_COUNT_total, Fld.KS_RESEAL_COUNT_done]
  | .KS_FSEAL_BYTES => [Fld.KS_FSEAL_BYTES_bytes]
  | .KS_EXPORT_PEND => [Fld.KS_EXPORT_PEND_pending, Fld.KS_EXPORT_PEND_slice]
  | .KS_WIPE => [Fld.KS_WIPE_code]
  | .PKE_CORE_ID => [Fld.PKE_CORE_ID_island, Fld.PKE_CORE_ID_core]
  | .PKE_CORE_FAULT => [Fld.PKE_CORE_FAULT_refused, Fld.PKE_CORE_FAULT_range, Fld.PKE_CORE_FAULT_recompute, Fld.PKE_CORE_FAULT_seq, Fld.PKE_CORE_FAULT_ecc, Fld.PKE_CORE_FAULT_residue]
  | .PKE_CORE_ECC => [Fld.PKE_CORE_ECC_count]
  | .PKE_CORE_ZERO => [Fld.PKE_CORE_ZERO_code]
  | .PKE_CORE_MAP => [Fld.PKE_CORE_MAP_busy, Fld.PKE_CORE_MAP_fails, Fld.PKE_CORE_MAP_role]
  | .PKE_SUMMARY => [Fld.PKE_SUMMARY_fenced, Fld.PKE_SUMMARY_active]
  | .PKE_PENDING => [Fld.PKE_PENDING_c, Fld.PKE_PENDING_m]
  | .PKE_LATE => [Fld.PKE_LATE_count]
  | .PKE_PREEMPT => [Fld.PKE_PREEMPT_count]
  | .PKE_CAPPED => [Fld.PKE_CAPPED_count]
  | .PKE_WS_FREE => [Fld.PKE_WS_FREE_words]
  | .BLK_CLUSTER_MAP => [Fld.BLK_CLUSTER_MAP_resident, Fld.BLK_CLUSTER_MAP_busy, Fld.BLK_CLUSTER_MAP_fails, Fld.BLK_CLUSTER_MAP_role]
  | .BLK_SUMMARY => [Fld.BLK_SUMMARY_fenced, Fld.BLK_SUMMARY_active]
  | .BLK_ARB => [Fld.BLK_ARB_la_floor]
  | .BLK_KEY_LOADS => [Fld.BLK_KEY_LOADS_count]
  | .BLK_KEY_EVICTS => [Fld.BLK_KEY_EVICTS_count]
  | .BLK_AUTH_FAIL => [Fld.BLK_AUTH_FAIL_count]
  | .BLK_STREAMED => [Fld.BLK_STREAMED_count]
  | .BLK_FAULT => [Fld.BLK_FAULT_tagdec, Fld.BLK_FAULT_parity, Fld.BLK_FAULT_keymatch, Fld.BLK_FAULT_keycrc]
  | .BLK_ERASE => [Fld.BLK_ERASE_count]
  | .TBL_INL_PD => [Fld.TBL_INL_PD_mode, Fld.TBL_INL_PD_b_tx, Fld.TBL_INL_PD_a_tx, Fld.TBL_INL_PD_b_rx, Fld.TBL_INL_PD_a_rx]
  | .TBL_INL_DROP => [Fld.TBL_INL_DROP_count]
  | .TBL_INL_PROT => [Fld.TBL_INL_PROT_count]
  | .TBL_INL_BYP => [Fld.TBL_INL_BYP_count]
  | .TBL_FC_CTRL => [Fld.TBL_FC_CTRL_learn_en, Fld.TBL_FC_CTRL_pass_ms]
  | .TBL_FC_STATUS => [Fld.TBL_FC_STATUS_req, Fld.TBL_FC_STATUS_stash, Fld.TBL_FC_STATUS_rehashes]
  | .TBL_FC_OCC => [Fld.TBL_FC_OCC_entries]
  | .TBL_FC_HITS => [Fld.TBL_FC_HITS_count]
  | .TBL_FC_MISSES => [Fld.TBL_FC_MISSES_count]
  | .TBL_FC_LEARNED => [Fld.TBL_FC_LEARNED_count]
  | .TBL_FC_AGED => [Fld.TBL_FC_AGED_count]
  | .TBL_FC_LEARN_DROP => [Fld.TBL_FC_LEARN_DROP_count]
  | .TBL_FC_LOST => [Fld.TBL_FC_LOST_count]
  | .TBL_FC_ECC => [Fld.TBL_FC_ECC_count]
  | .TBL_IDX_USED => [Fld.TBL_IDX_USED_entries]
  | .TBL_POL_USED => [Fld.TBL_POL_USED_entries]
  | .RNG_STATUS => [Fld.RNG_STATUS_pattern, Fld.RNG_STATUS_test, Fld.RNG_STATUS_fatal, Fld.RNG_STATUS_startup_done, Fld.RNG_STATUS_running, Fld.RNG_STATUS_inst]
  | .RNG_CTRL => [Fld.RNG_CTRL_restart]
  | .RNG_HEALTH => [Fld.RNG_HEALTH_rct, Fld.RNG_HEALTH_apt, Fld.RNG_HEALTH_dead, Fld.RNG_HEALTH_lock]
  | .RNG_WINDOW => [Fld.RNG_WINDOW_fails]
  | .RNG_ALIVE => [Fld.RNG_ALIVE_alive]
  | .RNG_LOCKED => [Fld.RNG_LOCKED_pairs]
  | .RNG_SEEDS => [Fld.RNG_SEEDS_avail]
  | .RNG_DRBG => [Fld.RNG_DRBG_blocked, Fld.RNG_DRBG_due, Fld.RNG_DRBG_count]
  | .RNG_RESEEDS => [Fld.RNG_RESEEDS_count]
  | .RNG_TEST => [Fld.RNG_TEST_pattern, Fld.RNG_TEST_enable]
  | .RNG_PATTERN_SEED => [Fld.RNG_PATTERN_SEED_seed]
  | .RNG_RAW => [Fld.RNG_RAW_samples]
  | .RNG_RAW_LEVEL => [Fld.RNG_RAW_LEVEL_fail, Fld.RNG_RAW_LEVEL_lost, Fld.RNG_RAW_LEVEL_level]
  | .WLD_LOCK => [Fld.WLD_LOCK_dbg_lock, Fld.WLD_LOCK_assign_lock]
  | .WLD_DBG => [Fld.WLD_DBG_s_allowed, Fld.WLD_DBG_s_inv, Fld.WLD_DBG_s_nin, Fld.WLD_DBG_o_inv, Fld.WLD_DBG_o_nin]
  | .WLD_PER => [Fld.WLD_PER_cs1, Fld.WLD_PER_tmr]
  | .WLD_ISLAND => [Fld.WLD_ISLAND_pwr, Fld.WLD_ISLAND_req, Fld.WLD_ISLAND_deferred, Fld.WLD_ISLAND_rel, Fld.WLD_ISLAND_fixed, Fld.WLD_ISLAND_world]
  | .WLD_IRQ => [Fld.WLD_IRQ_targets, Fld.WLD_IRQ_fixed, Fld.WLD_IRQ_world]
  | .WLD_ASV_STATUS => [Fld.WLD_ASV_STATUS_lost, Fld.WLD_ASV_STATUS_level]
  | .WLD_ASV_TOTAL => [Fld.WLD_ASV_TOTAL_count]
  | .WLD_ASV_REC => [Fld.WLD_ASV_REC_word]
  | .MPU_BASE => [Fld.MPU_BASE_base]
  | .MPU_CTRL => [Fld.MPU_CTRL_lock, Fld.MPU_CTRL_size_log2, Fld.MPU_CTRL_world, Fld.MPU_CTRL_x, Fld.MPU_CTRL_w, Fld.MPU_CTRL_r, Fld.MPU_CTRL_en]
  | .MPU_STATUS => [Fld.MPU_STATUS_drain, Fld.MPU_STATUS_locked]
  | .DEV_PWR_REQ => [Fld.DEV_PWR_REQ_req]
  | .DEV_PWR_STATE => [Fld.DEV_PWR_STATE_pwr, Fld.DEV_PWR_STATE_deferred, Fld.DEV_PWR_STATE_world]
  | .LC_STATE => [Fld.LC_STATE_disagree, Fld.LC_STATE_resumed, Fld.LC_STATE_forced, Fld.LC_STATE_ep, Fld.LC_STATE_lc]
  | .LC_FLAGS => [Fld.LC_FLAGS_voted]
  | .LC_COPY => [Fld.LC_COPY_raw]
  | .LC_JOURNAL => [Fld.LC_JOURNAL_record]
  | .LC_DQ => [Fld.LC_DQ_spoiled, Fld.LC_DQ_written, Fld.LC_DQ_valid, Fld.LC_DQ_current]
  | .LC_DQ_DIGEST => [Fld.LC_DQ_DIGEST_word]
  | .DEV_LC_STATE => [Fld.DEV_LC_STATE_resumed, Fld.DEV_LC_STATE_forced, Fld.DEV_LC_STATE_ep, Fld.DEV_LC_STATE_lc]
  | .DEV_PART => [Fld.DEV_PART_part, Fld.DEV_PART_rev]
  | .DEV_BOOT_STATUS => [Fld.DEV_BOOT_STATUS_steward_absent, Fld.DEV_BOOT_STATUS_cfg_default, Fld.DEV_BOOT_STATUS_cfg_fallback, Fld.DEV_BOOT_STATUS_img_fallback, Fld.DEV_BOOT_STATUS_phase]
  | .DEV_BOOT_ERR => [Fld.DEV_BOOT_ERR_dir, Fld.DEV_BOOT_ERR_cfg_other, Fld.DEV_BOOT_ERR_cfg_named, Fld.DEV_BOOT_ERR_stw_other, Fld.DEV_BOOT_ERR_stw_active, Fld.DEV_BOOT_ERR_cus_other, Fld.DEV_BOOT_ERR_cus_active]
  | .DEV_BOOT_TIME => [Fld.DEV_BOOT_TIME_ms]
  | .DEV_MODE => [Fld.DEV_MODE_boot_mode, Fld.DEV_MODE_switching, Fld.DEV_MODE_mode]
  | .DEV_IRQ_CAUSE => [Fld.DEV_IRQ_CAUSE_gauntlet, Fld.DEV_IRQ_CAUSE_table, Fld.DEV_IRQ_CAUSE_config, Fld.DEV_IRQ_CAUSE_mode, Fld.DEV_IRQ_CAUSE_fallback, Fld.DEV_IRQ_CAUSE_boot]
  | .DEV_IRQ_MASK => [Fld.DEV_IRQ_MASK_mask]
  | .DEV_IRQ_VEC => [Fld.DEV_IRQ_VEC_vec]
  | .DEV_RCV_ADDR => [Fld.DEV_RCV_ADDR_addr]
  | .DEV_RCV_LEN => [Fld.DEV_RCV_LEN_len]
  | .DEV_RCV_CTRL => [Fld.DEV_RCV_CTRL_status, Fld.DEV_RCV_CTRL_go]
  | .CFG_STATUS => [Fld.CFG_STATUS_generation, Fld.CFG_STATUS_pending_boot, Fld.CFG_STATUS_busy, Fld.CFG_STATUS_slot, Fld.CFG_STATUS_default]
  | .CFG_DIGEST => [Fld.CFG_DIGEST_word]
  | .CFG_VDOM => [Fld.CFG_VDOM_word]
  | .CFG_OVL => [Fld.CFG_OVL_permitted, Fld.CFG_OVL_commit, Fld.CFG_OVL_la_floor]
  | .GNT_STATUS => [Fld.GNT_STATUS_clear_held, Fld.GNT_STATUS_erase_busy, Fld.GNT_STATUS_hold_any, Fld.GNT_STATUS_backup_events, Fld.GNT_STATUS_present, Fld.GNT_STATUS_active]
  | .GNT_LAST => [Fld.GNT_LAST_detail, Fld.GNT_LAST_flags, Fld.GNT_LAST_type]
  | .GNT_HOLD => [Fld.GNT_HOLD_islands]
  | .GNT_COUNTS => [Fld.GNT_COUNTS_c3, Fld.GNT_COUNTS_c2, Fld.GNT_COUNTS_c1, Fld.GNT_COUNTS_c0]
  | .GNT_OPSEC => [Fld.GNT_OPSEC_seconds]
  | .GNT_PWRCYC => [Fld.GNT_PWRCYC_count]
  | .GNT_TEMP => [Fld.GNT_TEMP_celsius]
  | .GNT_VBAK => [Fld.GNT_VBAK_mv]
  | .GNT_RAIL => [Fld.GNT_RAIL_mv]
  | .GNT_EV_COUNT => [Fld.GNT_EV_COUNT_full, Fld.GNT_EV_COUNT_general_full, Fld.GNT_EV_COUNT_next]
  | .GNT_EV_DROPPED => [Fld.GNT_EV_DROPPED_count]
  | .GNT_STAGE => [Fld.GNT_STAGE_merged, Fld.GNT_STAGE_level]
  | .GNT_LOCK => [Fld.GNT_LOCK_lock]
  | .GNT_SWITCH_CFG => [Fld.GNT_SWITCH_CFG_pol]
  | .GNT_SENSOR => [Fld.GNT_SENSOR_present, Fld.GNT_SENSOR_fixed, Fld.GNT_SENSOR_max, Fld.GNT_SENSOR_floor, Fld.GNT_SENSOR_class]
  | .GNT_EV_REC => [Fld.GNT_EV_REC_record]
  | .DEV_UNIT_CC => [Fld.DEV_UNIT_CC_busy, Fld.DEV_UNIT_CC_fails, Fld.DEV_UNIT_CC_role]
  | .DEV_UNIT_TP => [Fld.DEV_UNIT_TP_pd, Fld.DEV_UNIT_TP_busy, Fld.DEV_UNIT_TP_fails, Fld.DEV_UNIT_TP_role]
  | .DEV_ROT => [Fld.DEV_ROT_late, Fld.DEV_ROT_nospare, Fld.DEV_ROT_paused, Fld.DEV_ROT_unit, Fld.DEV_ROT_cycle]
  | .DEV_FW_STATUS => [Fld.DEV_FW_STATUS_switched, Fld.DEV_FW_STATUS_phase, Fld.DEV_FW_STATUS_stw_staged, Fld.DEV_FW_STATUS_cus_staged]
  | .REC_CTRL => [Fld.REC_CTRL_flush, Fld.REC_CTRL_soft]
  | .REC_STATUS => [Fld.REC_STATUS_stopped, Fld.REC_STATUS_nv_err, Fld.REC_STATUS_unflushed]
  | .REC_WRITTEN => [Fld.REC_WRITTEN_count]
  | .REC_NV_CFG => [Fld.REC_NV_CFG_reset, Fld.REC_NV_CFG_size]
  | .REC_NV_NEXT => [Fld.REC_NV_NEXT_next]
  | .REC_TRIG => [Fld.REC_TRIG_fixed, Fld.REC_TRIG_flush, Fld.REC_TRIG_en, Fld.REC_TRIG_snap, Fld.REC_TRIG_set]
  | .REC_SNAP => [Fld.REC_SNAP_valid, Fld.REC_SNAP_offset]
  | .PMC_SEL => [Fld.PMC_SEL_en, Fld.PMC_SEL_event]
  | .PMC_CNT => [Fld.PMC_CNT_value]
  | .PMC_OVF => [Fld.PMC_OVF_ovf]
  | .PMC_DUMP_CTRL => [Fld.PMC_DUMP_CTRL_enable, Fld.PMC_DUMP_CTRL_ien, Fld.PMC_DUMP_CTRL_err, Fld.PMC_DUMP_CTRL_vec, Fld.PMC_DUMP_CTRL_ms]
  | .PMC_DUMP_BASE => [Fld.PMC_DUMP_BASE_base, Fld.PMC_DUMP_BASE_log2]
  | .PMC_DUMP_PTR => [Fld.PMC_DUMP_PTR_tail, Fld.PMC_DUMP_PTR_head]
  | .PMC_DUMP_SKIP => [Fld.PMC_DUMP_SKIP_count]
  | .PMC_METER_CTRL => [Fld.PMC_METER_CTRL_enable, Fld.PMC_METER_CTRL_ien, Fld.PMC_METER_CTRL_err, Fld.PMC_METER_CTRL_vec, Fld.PMC_METER_CTRL_interval]
  | .PMC_METER_BASE => [Fld.PMC_METER_BASE_base, Fld.PMC_METER_BASE_log2]
  | .PMC_METER_PTR => [Fld.PMC_METER_PTR_tail, Fld.PMC_METER_PTR_head]
  | .PMC_METER_STATUS => [Fld.PMC_METER_STATUS_reserved_e, Fld.PMC_METER_STATUS_deferred]
  | .HLU_IDENT => [Fld.HLU_IDENT_device, Fld.HLU_IDENT_vendor]
  | .HLU_LINK => [Fld.HLU_LINK_flit, Fld.HLU_LINK_speed, Fld.HLU_LINK_width, Fld.HLU_LINK_up]
  | .HLU_CTO => [Fld.HLU_CTO_ms]
  | .HLU_DMA_ERR => [Fld.HLU_DMA_ERR_count]
  | .HLU_IDE_STATUS => [Fld.HLU_IDE_STATUS_sel, Fld.HLU_IDE_STATUS_link]
  | .HLU_IDE_FAIL => [Fld.HLU_IDE_FAIL_count]
  | .NET_PORT_STATUS => [Fld.NET_PORT_STATUS_remote_fault, Fld.NET_PORT_STATUS_local_fault, Fld.NET_PORT_STATUS_fec_lock, Fld.NET_PORT_STATUS_training, Fld.NET_PORT_STATUS_c2m, Fld.NET_PORT_STATUS_up]
  | .NET_LANE_CFG => [Fld.NET_LANE_CFG_post, Fld.NET_LANE_CFG_pre, Fld.NET_LANE_CFG_tx_inv, Fld.NET_LANE_CFG_rx_inv]
  | .NET_FEC_CORR => [Fld.NET_FEC_CORR_count]
  | .NET_FEC_UNCORR => [Fld.NET_FEC_UNCORR_count]
  | .NET_FCS_ERR => [Fld.NET_FCS_ERR_count]
  | .NET_SIZE_ERR => [Fld.NET_SIZE_ERR_count]
  | .NET_MACCTL => [Fld.NET_MACCTL_count]
  | .XSP_STATUS => [Fld.XSP_STATUS_cs1_log2, Fld.XSP_STATUS_cs0_log2, Fld.XSP_STATUS_cs1_ok, Fld.XSP_STATUS_cs1_8d, Fld.XSP_STATUS_cs0_8d, Fld.XSP_STATUS_busy]
  | .XSP_ERR => [Fld.XSP_ERR_cs1, Fld.XSP_ERR_cs0]
  | .XSP_CS1_WIN => [Fld.XSP_CS1_WIN_page]
  | .CRD_STATUS => [Fld.CRD_STATUS_mode, Fld.CRD_STATUS_type, Fld.CRD_STATUS_rpmb, Fld.CRD_STATUS_key, Fld.CRD_STATUS_label, Fld.CRD_STATUS_busy, Fld.CRD_STATUS_ident, Fld.CRD_STATUS_ready, Fld.CRD_STATUS_present]
  | .CRD_CID => [Fld.CRD_CID_word]
  | .CRD_BACKUP => [Fld.CRD_BACKUP_unknown, Fld.CRD_BACKUP_valid, Fld.CRD_BACKUP_area]
  | .CRD_GEN => [Fld.CRD_GEN_gen]
  | .CRD_ERR => [Fld.CRD_ERR_removed, Fld.CRD_ERR_timeout, Fld.CRD_ERR_data_crc, Fld.CRD_ERR_cmd_crc]
  | .CRD_CFG => [Fld.CRD_CFG_v18_en, Fld.CRD_CFG_max]

/-- The place and the world of each register, as its header gives them. -/
def RegName.loc : RegName → RegLoc
  | .CMD_QP_CTRL => ⟨.pf1, 0x0, 0x4000, 4096, 0x100, 8, 4, .openW⟩
  | .CMD_QP_STATUS => ⟨.pf1, 0x4, 0x4000, 4096, 0x100, 8, 4, .openW⟩
  | .CMD_QP_SIZE => ⟨.pf1, 0x8, 0x4000, 4096, 0x100, 8, 4, .openW⟩
  | .CMD_QP_IRQ => ⟨.pf1, 0xC, 0x4000, 4096, 0x100, 8, 4, .openW⟩
  | .CMD_SQ_BASE => ⟨.pf1, 0x10, 0x4000, 4096, 0x100, 8, 8, .openW⟩
  | .CMD_CQ_BASE => ⟨.pf1, 0x18, 0x4000, 4096, 0x100, 8, 8, .openW⟩
  | .CMD_SQ_TAIL => ⟨.pf1, 0x20, 0x4000, 4096, 0x100, 8, 4, .openW⟩
  | .CMD_SQ_HEAD => ⟨.pf1, 0x24, 0x4000, 4096, 0x100, 8, 4, .openW⟩
  | .CMD_CQ_HEAD => ⟨.pf1, 0x28, 0x4000, 4096, 0x100, 8, 4, .openW⟩
  | .CMD_CQ_TAIL => ⟨.pf1, 0x2C, 0x4000, 4096, 0x100, 8, 4, .openW⟩
  | .SLC_STATE => ⟨.pf0, 0x100000, 0x100, 4096, 0x10000000000, 1, 4, .openW⟩
  | .SLC_PASID => ⟨.pf0, 0x100004, 0x100, 4096, 0x10000000000, 1, 4, .openW⟩
  | .SLC_PKE_SHARE => ⟨.pf0, 0x100008, 0x100, 4096, 0x10000000000, 1, 4, .openW⟩
  | .SLC_BULK_SHARE => ⟨.pf0, 0x10000C, 0x100, 4096, 0x10000000000, 1, 4, .openW⟩
  | .SLC_KC_QUOTA => ⟨.pf0, 0x100010, 0x100, 4096, 0x10000000000, 1, 4, .openW⟩
  | .SLC_SA_QUOTA => ⟨.pf0, 0x100014, 0x100, 4096, 0x10000000000, 1, 4, .openW⟩
  | .SLC_RING_LIMIT => ⟨.pf0, 0x100018, 0x100, 4096, 0x10000000000, 1, 4, .openW⟩
  | .SLC_MSIX => ⟨.pf0, 0x10001C, 0x100, 4096, 0x10000000000, 1, 4, .openW⟩
  | .SLC_KC_USED => ⟨.pf0, 0x100020, 0x100, 4096, 0x10000000000, 1, 4, .openW⟩
  | .SLC_SA_USED => ⟨.pf0, 0x100024, 0x100, 4096, 0x10000000000, 1, 4, .openW⟩
  | .DEV_KC_CAP => ⟨.pf0, 0x90000, 0x10000000000, 1, 0x10000000000, 1, 4, .openW⟩
  | .DEV_ENDURING => ⟨.pf0, 0x90004, 0x10000000000, 1, 0x10000000000, 1, 4, .openW⟩
  | .SLC_DLOG_CTRL => ⟨.pf0, 0x100040, 0x100, 4096, 0x10000000000, 1, 4, .openW⟩
  | .SLC_DLOG_BUF0 => ⟨.pf0, 0x100048, 0x100, 4096, 0x10000000000, 1, 8, .openW⟩
  | .SLC_DLOG_BUF1 => ⟨.pf0, 0x100050, 0x100, 4096, 0x10000000000, 1, 8, .openW⟩
  | .SLC_DLOG_WIN => ⟨.pf0, 0x100058, 0x100, 4096, 0x10000000000, 1, 8, .openW⟩
  | .SLC_DLOG_PAGES => ⟨.pf0, 0x100060, 0x100, 4096, 0x10000000000, 1, 4, .openW⟩
  | .KS_STATUS => ⟨.secure, 0x40000000, 0x10000000000, 1, 0x10000000000, 1, 4, .secureW⟩
  | .KS_FREE_LINES => ⟨.secure, 0x40000004, 0x10000000000, 1, 0x10000000000, 1, 4, .secureW⟩
  | .KS_REMASK_LAST => ⟨.secure, 0x40000008, 0x10000000000, 1, 0x10000000000, 1, 4, .secureW⟩
  | .KS_REMASK_PASSES => ⟨.secure, 0x4000000C, 0x10000000000, 1, 0x10000000000, 1, 4, .secureW⟩
  | .KS_REFUSED => ⟨.secure, 0x40000010, 0x10000000000, 1, 0x10000000000, 1, 4, .secureW⟩
  | .KS_COMPAT_CFG => ⟨.secure, 0x40000100, 0x4, 4, 0x10000000000, 1, 4, .secureW⟩
  | .KS_COMPAT_LOCK => ⟨.secure, 0x40000110, 0x10000000000, 1, 0x10000000000, 1, 4, .secureW⟩
  | .KS_COMPAT_BAD => ⟨.secure, 0x40000120, 0x4, 4, 0x10000000000, 1, 4, .secureW⟩
  | .KS_SUCC_MEAS => ⟨.secure, 0x40000200, 0x4, 12, 0x10000000000, 1, 4, .secureW⟩
  | .KS_SUCC_CTRL => ⟨.secure, 0x40000230, 0x10000000000, 1, 0x10000000000, 1, 4, .secureW⟩
  | .KS_RESEAL_COUNT => ⟨.secure, 0x40000234, 0x10000000000, 1, 0x10000000000, 1, 4, .secureW⟩
  | .KS_FSEAL_BYTES => ⟨.secure, 0x40000238, 0x10000000000, 1, 0x10000000000, 1, 4, .secureW⟩
  | .KS_EXPORT_PEND => ⟨.secure, 0x40000240, 0x10000000000, 1, 0x10000000000, 1, 4, .secureW⟩
  | .KS_WIPE => ⟨.secure, 0x40000300, 0x10000000000, 1, 0x10000000000, 1, 4, .secureW⟩
  | .PKE_CORE_ID => ⟨.secure, 0x50000000, 0x10000, 72, 0x10000000000, 1, 4, .secureW⟩
  | .PKE_CORE_FAULT => ⟨.secure, 0x50000004, 0x10000, 72, 0x10000000000, 1, 4, .secureW⟩
  | .PKE_CORE_ECC => ⟨.secure, 0x50000008, 0x10000, 72, 0x10000000000, 1, 4, .secureW⟩
  | .PKE_CORE_ZERO => ⟨.secure, 0x5000000C, 0x10000, 72, 0x10000000000, 1, 4, .secureW⟩
  | .PKE_CORE_MAP => ⟨.pf0, 0x500000, 0x4, 72, 0x10000000000, 1, 4, .openW⟩
  | .PKE_SUMMARY => ⟨.pf0, 0x500200, 0x10000000000, 1, 0x10000000000, 1, 4, .openW⟩
  | .PKE_PENDING => ⟨.pf0, 0x500204, 0x10000000000, 1, 0x10000000000, 1, 4, .openW⟩
  | .PKE_LATE => ⟨.pf0, 0x500208, 0x10000000000, 1, 0x10000000000, 1, 4, .openW⟩
  | .PKE_PREEMPT => ⟨.pf0, 0x50020C, 0x10000000000, 1, 0x10000000000, 1, 4, .openW⟩
  | .PKE_CAPPED => ⟨.pf0, 0x500210, 0x10000000000, 1, 0x10000000000, 1, 4, .openW⟩
  | .PKE_WS_FREE => ⟨.pf0, 0x500214, 0x10000000000, 1, 0x10000000000, 1, 4, .openW⟩
  | .BLK_CLUSTER_MAP => ⟨.pf0, 0x400000, 0x4, 16, 0x10000000000, 1, 4, .openW⟩
  | .BLK_SUMMARY => ⟨.pf0, 0x400100, 0x10000000000, 1, 0x10000000000, 1, 4, .openW⟩
  | .BLK_ARB => ⟨.pf0, 0x400104, 0x10000000000, 1, 0x10000000000, 1, 4, .openW⟩
  | .BLK_KEY_LOADS => ⟨.pf0, 0x400108, 0x10000000000, 1, 0x10000000000, 1, 4, .openW⟩
  | .BLK_KEY_EVICTS => ⟨.pf0, 0x40010C, 0x10000000000, 1, 0x10000000000, 1, 4, .openW⟩
  | .BLK_AUTH_FAIL => ⟨.pf0, 0x400110, 0x10000000000, 1, 0x10000000000, 1, 4, .openW⟩
  | .BLK_STREAMED => ⟨.pf0, 0x400114, 0x10000000000, 1, 0x10000000000, 1, 4, .openW⟩
  | .BLK_FAULT => ⟨.pf0, 0x400118, 0x10000000000, 1, 0x10000000000, 1, 4, .openW⟩
  | .BLK_ERASE => ⟨.pf0, 0x40011C, 0x10000000000, 1, 0x10000000000, 1, 4, .openW⟩
  | .TBL_INL_PD => ⟨.pf0, 0x380000, 0x10000000000, 1, 0x10000000000, 1, 4, .openW⟩
  | .TBL_INL_DROP => ⟨.pf0, 0x381000, 0x100, 16, 0x8, 18, 8, .openW⟩
  | .TBL_INL_PROT => ⟨.pf0, 0x382000, 0x10, 16, 0x10000000000, 1, 8, .openW⟩
  | .TBL_INL_BYP => ⟨.pf0, 0x382008, 0x10, 16, 0x10000000000, 1, 8, .openW⟩
  | .TBL_FC_CTRL => ⟨.pf0, 0x300000, 0x10000000000, 1, 0x10000000000, 1, 4, .openW⟩
  | .TBL_FC_STATUS => ⟨.pf0, 0x300100, 0x40, 4, 0x10000000000, 1, 4, .openW⟩
  | .TBL_FC_OCC => ⟨.pf0, 0x300104, 0x40, 4, 0x10000000000, 1, 4, .openW⟩
  | .TBL_FC_HITS => ⟨.pf0, 0x300108, 0x40, 4, 0x10000000000, 1, 8, .openW⟩
  | .TBL_FC_MISSES => ⟨.pf0, 0x300110, 0x40, 4, 0x10000000000, 1, 8, .openW⟩
  | .TBL_FC_LEARNED => ⟨.pf0, 0x300118, 0x40, 4, 0x10000000000, 1, 8, .openW⟩
  | .TBL_FC_AGED => ⟨.pf0, 0x300120, 0x40, 4, 0x10000000000, 1, 4, .openW⟩
  | .TBL_FC_LEARN_DROP => ⟨.pf0, 0x300124, 0x40, 4, 0x10000000000, 1, 4, .openW⟩
  | .TBL_FC_LOST => ⟨.pf0, 0x300128, 0x40, 4, 0x10000000000, 1, 4, .openW⟩
  | .TBL_FC_ECC => ⟨.pf0, 0x30012C, 0x40, 4, 0x10000000000, 1, 4, .openW⟩
  | .TBL_IDX_USED => ⟨.pf0, 0x300400, 0x10000000000, 1, 0x10000000000, 1, 4, .openW⟩
  | .TBL_POL_USED => ⟨.pf0, 0x300404, 0x10000000000, 1, 0x10000000000, 1, 4, .openW⟩
  | .RNG_STATUS => ⟨.secure, 0x42000000, 0x10000000000, 1, 0x10000000000, 1, 4, .secureW⟩
  | .RNG_CTRL => ⟨.secure, 0x42000004, 0x10000000000, 1, 0x10000000000, 1, 4, .secureW⟩
  | .RNG_HEALTH => ⟨.secure, 0x42000008, 0x10000000000, 1, 0x10000000000, 1, 4, .secureW⟩
  | .RNG_WINDOW => ⟨.secure, 0x4200000C, 0x10000000000, 1, 0x10000000000, 1, 4, .secureW⟩
  | .RNG_ALIVE => ⟨.secure, 0x42000010, 0x10000000000, 1, 0x10000000000, 1, 4, .secureW⟩
  | .RNG_LOCKED => ⟨.secure, 0x42000014, 0x10000000000, 1, 0x10000000000, 1, 4, .secureW⟩
  | .RNG_SEEDS => ⟨.secure, 0x42000018, 0x10000000000, 1, 0x10000000000, 1, 4, .secureW⟩
  | .RNG_DRBG => ⟨.secure, 0x42000040, 0x8, 4, 0x10000000000, 1, 4, .secureW⟩
  | .RNG_RESEEDS => ⟨.secure, 0x42000044, 0x8, 4, 0x10000000000, 1, 4, .secureW⟩
  | .RNG_TEST => ⟨.secure, 0x42000100, 0x10000000000, 1, 0x10000000000, 1, 4, .secureW⟩
  | .RNG_PATTERN_SEED => ⟨.secure, 0x42000104, 0x10000000000, 1, 0x10000000000, 1, 4, .secureW⟩
  | .RNG_RAW => ⟨.secure, 0x42000108, 0x10000000000, 1, 0x10000000000, 1, 8, .secureW⟩
  | .RNG_RAW_LEVEL => ⟨.secure, 0x42000110, 0x10000000000, 1, 0x10000000000, 1, 4, .secureW⟩
  | .WLD_LOCK => ⟨.secure, 0x45000000, 0x10000000000, 1, 0x10000000000, 1, 4, .secureW⟩
  | .WLD_DBG => ⟨.secure, 0x45000004, 0x10000000000, 1, 0x10000000000, 1, 4, .secureW⟩
  | .WLD_PER => ⟨.secure, 0x45000008, 0x10000000000, 1, 0x10000000000, 1, 4, .secureW⟩
  | .WLD_ISLAND => ⟨.secure, 0x45000100, 0x4, 64, 0x10000000000, 1, 4, .secureW⟩
  | .WLD_IRQ => ⟨.secure, 0x45000400, 0x4, 256, 0x10000000000, 1, 4, .secureW⟩
  | .WLD_ASV_STATUS => ⟨.secure, 0x45000800, 0x10000000000, 1, 0x10000000000, 1, 4, .secureW⟩
  | .WLD_ASV_TOTAL => ⟨.secure, 0x45000804, 0x10000000000, 1, 0x10000000000, 1, 4, .secureW⟩
  | .WLD_ASV_REC => ⟨.secure, 0x45000810, 0x4, 8, 0x10000000000, 1, 4, .secureW⟩
  | .MPU_BASE => ⟨.secure, 0x43000000, 0x10, 64, 0x10000000000, 1, 8, .secureW⟩
  | .MPU_CTRL => ⟨.secure, 0x43000008, 0x10, 64, 0x10000000000, 1, 4, .secureW⟩
  | .MPU_STATUS => ⟨.secure, 0x43000400, 0x10000000000, 1, 0x10000000000, 1, 4, .secureW⟩
  | .DEV_PWR_REQ => ⟨.pf0, 0xA0000, 0x4, 64, 0x10000000000, 1, 4, .openW⟩
  | .DEV_PWR_STATE => ⟨.pf0, 0xA0100, 0x4, 64, 0x10000000000, 1, 4, .openW⟩
  | .LC_STATE => ⟨.secure, 0x41000000, 0x10000000000, 1, 0x10000000000, 1, 4, .secureW⟩
  | .LC_FLAGS => ⟨.secure, 0x41000004, 0x10000000000, 1, 0x10000000000, 1, 4, .secureW⟩
  | .LC_COPY => ⟨.secure, 0x41000010, 0x4, 3, 0x10000000000, 1, 4, .secureW⟩
  | .LC_JOURNAL => ⟨.secure, 0x41000100, 0x8, 16, 0x10000000000, 1, 8, .secureW⟩
  | .LC_DQ => ⟨.secure, 0x41000200, 0x10000000000, 1, 0x10000000000, 1, 4, .secureW⟩
  | .LC_DQ_DIGEST => ⟨.secure, 0x41000210, 0x4, 12, 0x10000000000, 1, 4, .secureW⟩
  | .DEV_LC_STATE => ⟨.pf0, 0xB0000, 0x10000000000, 1, 0x10000000000, 1, 4, .openW⟩
  | .DEV_PART => ⟨.pf0, 0x0, 0x10000000000, 1, 0x10000000000, 1, 4, .openW⟩
  | .DEV_BOOT_STATUS => ⟨.pf0, 0x4, 0x10000000000, 1, 0x10000000000, 1, 4, .openW⟩
  | .DEV_BOOT_ERR => ⟨.pf0, 0x8, 0x10000000000, 1, 0x10000000000, 1, 4, .openW⟩
  | .DEV_BOOT_TIME => ⟨.pf0, 0xC, 0x10000000000, 1, 0x10000000000, 1, 4, .openW⟩
  | .DEV_MODE => ⟨.pf0, 0x10, 0x10000000000, 1, 0x10000000000, 1, 4, .openW⟩
  | .DEV_IRQ_CAUSE => ⟨.pf0, 0x20, 0x10000000000, 1, 0x10000000000, 1, 4, .openW⟩
  | .DEV_IRQ_MASK => ⟨.pf0, 0x24, 0x10000000000, 1, 0x10000000000, 1, 4, .openW⟩
  | .DEV_IRQ_VEC => ⟨.pf0, 0x28, 0x10000000000, 1, 0x10000000000, 1, 4, .openW⟩
  | .DEV_RCV_ADDR => ⟨.pf0, 0x100, 0x10000000000, 1, 0x10000000000, 1, 8, .openW⟩
  | .DEV_RCV_LEN => ⟨.pf0, 0x108, 0x10000000000, 1, 0x10000000000, 1, 4, .openW⟩
  | .DEV_RCV_CTRL => ⟨.pf0, 0x10C, 0x10000000000, 1, 0x10000000000, 1, 4, .openW⟩
  | .CFG_STATUS => ⟨.pf0, 0xC00000, 0x10000000000, 1, 0x10000000000, 1, 4, .openW⟩
  | .CFG_DIGEST => ⟨.pf0, 0xC00010, 0x4, 12, 0x10000000000, 1, 4, .openW⟩
  | .CFG_VDOM => ⟨.pf0, 0xC00040, 0x4, 4, 0x10000000000, 1, 4, .openW⟩
  | .CFG_OVL => ⟨.pf0, 0xC00060, 0x4, 5, 0x10000000000, 1, 4, .openW⟩
  | .GNT_STATUS => ⟨.both, 0x800000, 0x10000000000, 1, 0x10000000000, 1, 4, .both⟩
  | .GNT_LAST => ⟨.both, 0x800004, 0x10000000000, 1, 0x10000000000, 1, 4, .both⟩
  | .GNT_HOLD => ⟨.both, 0x800008, 0x10000000000, 1, 0x10000000000, 1, 8, .both⟩
  | .GNT_COUNTS => ⟨.both, 0x800010, 0x10000000000, 1, 0x10000000000, 1, 4, .both⟩
  | .GNT_OPSEC => ⟨.both, 0x800018, 0x10000000000, 1, 0x10000000000, 1, 8, .both⟩
  | .GNT_PWRCYC => ⟨.both, 0x800020, 0x10000000000, 1, 0x10000000000, 1, 4, .both⟩
  | .GNT_TEMP => ⟨.both, 0x800024, 0x10000000000, 1, 0x10000000000, 1, 4, .both⟩
  | .GNT_VBAK => ⟨.both, 0x800028, 0x10000000000, 1, 0x10000000000, 1, 4, .both⟩
  | .GNT_RAIL => ⟨.both, 0x800030, 0x4, 6, 0x10000000000, 1, 4, .both⟩
  | .GNT_EV_COUNT => ⟨.both, 0x800050, 0x10000000000, 1, 0x10000000000, 1, 4, .both⟩
  | .GNT_EV_DROPPED => ⟨.both, 0x800054, 0x10000000000, 1, 0x10000000000, 1, 4, .both⟩
  | .GNT_STAGE => ⟨.both, 0x800058, 0x10000000000, 1, 0x10000000000, 1, 4, .both⟩
  | .GNT_LOCK => ⟨.secure, 0x44000080, 0x10000000000, 1, 0x10000000000, 1, 4, .secureW⟩
  | .GNT_SWITCH_CFG => ⟨.secure, 0x44000084, 0x10000000000, 1, 0x10000000000, 1, 4, .secureW⟩
  | .GNT_SENSOR => ⟨.both, 0x800100, 0x4, 23, 0x10000000000, 1, 4, .both⟩
  | .GNT_EV_REC => ⟨.both, 0x810000, 0x20, 4096, 0x10000000000, 1, 32, .both⟩
  | .DEV_UNIT_CC => ⟨.pf0, 0xC0000, 0x4, 8, 0x10000000000, 1, 4, .openW⟩
  | .DEV_UNIT_TP => ⟨.pf0, 0xC0020, 0x4, 5, 0x10000000000, 1, 4, .openW⟩
  | .DEV_ROT => ⟨.pf0, 0xC0040, 0x4, 4, 0x10000000000, 1, 4, .openW⟩
  | .DEV_FW_STATUS => ⟨.pf0, 0xC0080, 0x10000000000, 1, 0x10000000000, 1, 4, .openW⟩
  | .REC_CTRL => ⟨.pf0, 0x600000, 0x10000000000, 1, 0x10000000000, 1, 4, .openW⟩
  | .REC_STATUS => ⟨.pf0, 0x600004, 0x10000000000, 1, 0x10000000000, 1, 4, .openW⟩
  | .REC_WRITTEN => ⟨.pf0, 0x600008, 0x10000000000, 1, 0x10000000000, 1, 4, .openW⟩
  | .REC_NV_CFG => ⟨.pf0, 0x600010, 0x10000000000, 1, 0x10000000000, 1, 4, .cs1⟩
  | .REC_NV_NEXT => ⟨.pf0, 0x600014, 0x10000000000, 1, 0x10000000000, 1, 4, .openW⟩
  | .REC_TRIG => ⟨.pf0, 0x600400, 0x4, 256, 0x10000000000, 1, 4, .openW⟩
  | .REC_SNAP => ⟨.pf0, 0x600800, 0x4, 256, 0x10000000000, 1, 4, .openW⟩
  | .PMC_SEL => ⟨.pf0, 0x700000, 0x4, 256, 0x10000000000, 1, 4, .openW⟩
  | .PMC_CNT => ⟨.pf0, 0x700800, 0x8, 256, 0x10000000000, 1, 8, .openW⟩
  | .PMC_OVF => ⟨.pf0, 0x701000, 0x4, 8, 0x10000000000, 1, 4, .openW⟩
  | .PMC_DUMP_CTRL => ⟨.pf0, 0x701100, 0x10000000000, 1, 0x10000000000, 1, 4, .openW⟩
  | .PMC_DUMP_BASE => ⟨.pf0, 0x701108, 0x10000000000, 1, 0x10000000000, 1, 8, .openW⟩
  | .PMC_DUMP_PTR => ⟨.pf0, 0x701110, 0x10000000000, 1, 0x10000000000, 1, 4, .openW⟩
  | .PMC_DUMP_SKIP => ⟨.pf0, 0x701114, 0x10000000000, 1, 0x10000000000, 1, 4, .openW⟩
  | .PMC_METER_CTRL => ⟨.pf0, 0x701200, 0x10000000000, 1, 0x10000000000, 1, 4, .openW⟩
  | .PMC_METER_BASE => ⟨.pf0, 0x701208, 0x10000000000, 1, 0x10000000000, 1, 8, .openW⟩
  | .PMC_METER_PTR => ⟨.pf0, 0x701210, 0x10000000000, 1, 0x10000000000, 1, 4, .openW⟩
  | .PMC_METER_STATUS => ⟨.pf0, 0x701214, 0x10000000000, 1, 0x10000000000, 1, 4, .openW⟩
  | .HLU_IDENT => ⟨.pf0, 0xB00000, 0x10000000000, 1, 0x10000000000, 1, 4, .openW⟩
  | .HLU_LINK => ⟨.pf0, 0xB00004, 0x10000000000, 1, 0x10000000000, 1, 4, .openW⟩
  | .HLU_CTO => ⟨.pf0, 0xB00008, 0x10000000000, 1, 0x10000000000, 1, 4, .openW⟩
  | .HLU_DMA_ERR => ⟨.pf0, 0xB0000C, 0x10000000000, 1, 0x10000000000, 1, 4, .openW⟩
  | .HLU_IDE_STATUS => ⟨.pf0, 0xB00010, 0x10000000000, 1, 0x10000000000, 1, 4, .openW⟩
  | .HLU_IDE_FAIL => ⟨.pf0, 0xB00014, 0x10000000000, 1, 0x10000000000, 1, 4, .openW⟩
  | .NET_PORT_STATUS => ⟨.pf0, 0x200000, 0x4, 16, 0x10000000000, 1, 4, .openW⟩
  | .NET_LANE_CFG => ⟨.pf0, 0x200100, 0x4, 16, 0x10000000000, 1, 4, .lane⟩
  | .NET_FEC_CORR => ⟨.pf0, 0x201000, 0x40, 16, 0x10000000000, 1, 8, .openW⟩
  | .NET_FEC_UNCORR => ⟨.pf0, 0x201008, 0x40, 16, 0x10000000000, 1, 8, .openW⟩
  | .NET_FCS_ERR => ⟨.pf0, 0x201010, 0x40, 16, 0x10000000000, 1, 8, .openW⟩
  | .NET_SIZE_ERR => ⟨.pf0, 0x201018, 0x40, 16, 0x10000000000, 1, 8, .openW⟩
  | .NET_MACCTL => ⟨.pf0, 0x201020, 0x40, 16, 0x10000000000, 1, 8, .openW⟩
  | .XSP_STATUS => ⟨.pf0, 0xA00000, 0x10000000000, 1, 0x10000000000, 1, 4, .openW⟩
  | .XSP_ERR => ⟨.pf0, 0xA00004, 0x10000000000, 1, 0x10000000000, 1, 4, .openW⟩
  | .XSP_CS1_WIN => ⟨.pf0, 0xA00008, 0x10000000000, 1, 0x10000000000, 1, 4, .cs1⟩
  | .CRD_STATUS => ⟨.pf0, 0x900000, 0x10000000000, 1, 0x10000000000, 1, 4, .openW⟩
  | .CRD_CID => ⟨.pf0, 0x900010, 0x4, 4, 0x10000000000, 1, 4, .openW⟩
  | .CRD_BACKUP => ⟨.pf0, 0x900020, 0x10000000000, 1, 0x10000000000, 1, 4, .openW⟩
  | .CRD_GEN => ⟨.pf0, 0x900024, 0x10000000000, 1, 0x10000000000, 1, 4, .openW⟩
  | .CRD_ERR => ⟨.pf0, 0x900028, 0x10000000000, 1, 0x10000000000, 1, 4, .openW⟩
  | .CRD_CFG => ⟨.pf0, 0x900030, 0x10000000000, 1, 0x10000000000, 1, 4, .openW⟩

/-- Part 0 of the register names, in the order of the manual. -/
def RegName.part0 : List RegName :=
  [.CMD_QP_CTRL, .CMD_QP_STATUS, .CMD_QP_SIZE, .CMD_QP_IRQ, .CMD_SQ_BASE, .CMD_CQ_BASE, .CMD_SQ_TAIL, .CMD_SQ_HEAD, .CMD_CQ_HEAD, .CMD_CQ_TAIL, .SLC_STATE, .SLC_PASID, .SLC_PKE_SHARE, .SLC_BULK_SHARE, .SLC_KC_QUOTA, .SLC_SA_QUOTA, .SLC_RING_LIMIT, .SLC_MSIX, .SLC_KC_USED, .SLC_SA_USED, .DEV_KC_CAP, .DEV_ENDURING, .SLC_DLOG_CTRL, .SLC_DLOG_BUF0, .SLC_DLOG_BUF1, .SLC_DLOG_WIN, .SLC_DLOG_PAGES, .KS_STATUS, .KS_FREE_LINES, .KS_REMASK_LAST, .KS_REMASK_PASSES, .KS_REFUSED, .KS_COMPAT_CFG, .KS_COMPAT_LOCK, .KS_COMPAT_BAD, .KS_SUCC_MEAS, .KS_SUCC_CTRL, .KS_RESEAL_COUNT, .KS_FSEAL_BYTES, .KS_EXPORT_PEND, .KS_WIPE, .PKE_CORE_ID, .PKE_CORE_FAULT, .PKE_CORE_ECC, .PKE_CORE_ZERO, .PKE_CORE_MAP, .PKE_SUMMARY, .PKE_PENDING, .PKE_LATE, .PKE_PREEMPT, .PKE_CAPPED, .PKE_WS_FREE, .BLK_CLUSTER_MAP, .BLK_SUMMARY, .BLK_ARB, .BLK_KEY_LOADS, .BLK_KEY_EVICTS, .BLK_AUTH_FAIL, .BLK_STREAMED, .BLK_FAULT]

/-- Part 1 of the register names, in the order of the manual. -/
def RegName.part1 : List RegName :=
  [.BLK_ERASE, .TBL_INL_PD, .TBL_INL_DROP, .TBL_INL_PROT, .TBL_INL_BYP, .TBL_FC_CTRL, .TBL_FC_STATUS, .TBL_FC_OCC, .TBL_FC_HITS, .TBL_FC_MISSES, .TBL_FC_LEARNED, .TBL_FC_AGED, .TBL_FC_LEARN_DROP, .TBL_FC_LOST, .TBL_FC_ECC, .TBL_IDX_USED, .TBL_POL_USED, .RNG_STATUS, .RNG_CTRL, .RNG_HEALTH, .RNG_WINDOW, .RNG_ALIVE, .RNG_LOCKED, .RNG_SEEDS, .RNG_DRBG, .RNG_RESEEDS, .RNG_TEST, .RNG_PATTERN_SEED, .RNG_RAW, .RNG_RAW_LEVEL, .WLD_LOCK, .WLD_DBG, .WLD_PER, .WLD_ISLAND, .WLD_IRQ, .WLD_ASV_STATUS, .WLD_ASV_TOTAL, .WLD_ASV_REC, .MPU_BASE, .MPU_CTRL, .MPU_STATUS, .DEV_PWR_REQ, .DEV_PWR_STATE, .LC_STATE, .LC_FLAGS, .LC_COPY, .LC_JOURNAL, .LC_DQ, .LC_DQ_DIGEST, .DEV_LC_STATE, .DEV_PART, .DEV_BOOT_STATUS, .DEV_BOOT_ERR, .DEV_BOOT_TIME, .DEV_MODE, .DEV_IRQ_CAUSE, .DEV_IRQ_MASK, .DEV_IRQ_VEC, .DEV_RCV_ADDR, .DEV_RCV_LEN]

/-- Part 2 of the register names, in the order of the manual. -/
def RegName.part2 : List RegName :=
  [.DEV_RCV_CTRL, .CFG_STATUS, .CFG_DIGEST, .CFG_VDOM, .CFG_OVL, .GNT_STATUS, .GNT_LAST, .GNT_HOLD, .GNT_COUNTS, .GNT_OPSEC, .GNT_PWRCYC, .GNT_TEMP, .GNT_VBAK, .GNT_RAIL, .GNT_EV_COUNT, .GNT_EV_DROPPED, .GNT_STAGE, .GNT_LOCK, .GNT_SWITCH_CFG, .GNT_SENSOR, .GNT_EV_REC, .DEV_UNIT_CC, .DEV_UNIT_TP, .DEV_ROT, .DEV_FW_STATUS, .REC_CTRL, .REC_STATUS, .REC_WRITTEN, .REC_NV_CFG, .REC_NV_NEXT, .REC_TRIG, .REC_SNAP, .PMC_SEL, .PMC_CNT, .PMC_OVF, .PMC_DUMP_CTRL, .PMC_DUMP_BASE, .PMC_DUMP_PTR, .PMC_DUMP_SKIP, .PMC_METER_CTRL, .PMC_METER_BASE, .PMC_METER_PTR, .PMC_METER_STATUS, .HLU_IDENT, .HLU_LINK, .HLU_CTO, .HLU_DMA_ERR, .HLU_IDE_STATUS, .HLU_IDE_FAIL, .NET_PORT_STATUS, .NET_LANE_CFG, .NET_FEC_CORR, .NET_FEC_UNCORR, .NET_FCS_ERR, .NET_SIZE_ERR, .NET_MACCTL, .XSP_STATUS, .XSP_ERR, .XSP_CS1_WIN, .CRD_STATUS]

/-- Part 3 of the register names, in the order of the manual. -/
def RegName.part3 : List RegName :=
  [.CRD_CID, .CRD_BACKUP, .CRD_GEN, .CRD_ERR, .CRD_CFG]

/-- Every register name, in the order of the manual. -/
def RegName.all : List RegName := RegName.part0 ++ RegName.part1 ++ RegName.part2 ++ RegName.part3

end Sys2Proof.Machine
end

