-- ==== Sys2Proof/Machine/State.lean ====
section
/-! DEFINITION. The state of the block: its registers, packets, keys, tables, life-cycle fuses and links as plain data, and the machine right after reset. Log entries of this file: DEDUCED 10, 27, 29, 142, 152, 204, 251, 258, 260; DESIGN CHOICE 5, 8, 15, 21, 22, 23, 24, 25, 26, 30, 31, 58, 65, 76, 85, 90, 124, 134, 164, 170, 206, 235, 246, 256; PRESUMED 20. -/

namespace Sys2Proof.Machine

/-- Reasons for which a step stops with a fault. The spec gives every command an effect on every state (a violation, a refusal or no effect at all), so none is raised: the type has no constructor. -/
inductive Fault where
deriving DecidableEq, Repr

/-- Reasons for which a step is refused. -/
inductive Refusal where
  /-- A command that has no meaning yet; raised by the dispatch only. Safe: nothing can be proved of what it does. -/
  | notModelled (mnemonic : String)
deriving DecidableEq, Repr

/-- What the block sends out: the model's own record of its host writes, messages, frames, replies and pin levels, newest first. -/
inductive Out where
  /-- A write to host memory: PASID (none for manager memory), IOVA, octets. -/
  | hostWrite (pasid : Option Nat) (iova : Nat) (data : Bytes)
  /-- A dirty-log bit set in a buffer: manager IOVA of the octet and the bit number (R86). -/
  | dirtyBit (iova bit : Nat)
  /-- A completion entry written at an index of a queue pair's CQ (R50). -/
  | completion (ring qp idx : Nat) (entry : Bytes)
  /-- An MSI-X message of PF0 (0) or PF1 (1). -/
  | msix (fn vec : Nat)
  /-- A frame transmitted on a port. -/
  | frame (port : Nat) (data : Bytes)
  /-- An answer on a management transport (its number), SPDM, IDE_KM, MCTP or TAP. -/
  | reply (transport : Nat) (data : Bytes)
  /-- A command or data block sent to the custody card. -/
  | card (data : Bytes)
  /-- A pin driven to a level, by name. -/
  | pin (name : String) (level : Bool)
  /-- The value that a read of a register or window returns to its master. -/
  | readData (addr value : Nat)
  /-- The outcome of a register write that waited: acknowledged to its issuer. -/
  | ack (addr : Nat)
deriving DecidableEq, Repr

/-- The status codes of R7. -/
inductive Status where
  | done | rejected | authFailed | denied | noResource | busyRetry | notReady | cardRemoved | faulted | aborted
  | unknownOpcode
deriving DecidableEq, Repr

/-- The code of a status (R7). -/
def Status.code : Status → Nat
  | .done => 0x00 | .rejected => 0x10 | .authFailed => 0x11 | .denied => 0x20 | .noResource => 0x21
  | .busyRetry => 0x22 | .notReady => 0x30 | .cardRemoved => 0x31 | .faulted => 0x40 | .aborted => 0x41
  | .unknownOpcode => 0x7F

/-- Where a command packet stands between its fetch and its completion. -/
inductive PktPhase where
  /-- Fetched and copied; the checks of R8 are still to be made. -/
  | fetched
  /-- Held for randomness since a device time (R65). -/
  | held (since : Nat)
  /-- Its random output is generated and reserved (R506). -/
  | ready
  /-- Passed every check and waits for bucket tokens since a device time (R75). -/
  | tokens (since : Nat)
  /-- Accepted; its public-key job waits for a core (R170). -/
  | waitCore
  /-- Its public-key job has started. -/
  | running
  /-- Started in a bulk cluster. -/
  | cluster
  /-- Started, and waiting for an event its opcode names. -/
  | waiting
  /-- Failed decode; its completion is due 2,000 ns after the fetch (R53). -/
  | unknownOp
deriving DecidableEq, Repr

/-- A fetched command packet without a posted completion. `ring` is the slice number, or 4,096 for the manager ring set (R37). -/
structure Packet where
  ring : Nat
  qp : Nat
  idx : Nat
  /-- The 64 octets copied at the fetch (R44, R55). -/
  entry : Bytes
  fetched : Nat
  phase : PktPhase
  start : Nat
  caravan : Option Nat
  /-- Handles of the keys that the started packet references (R58). -/
  keys : List Nat
  /-- Index of the first random draw reserved to the packet (R506). -/
  rnd : Option Nat
  /-- The command pair that accepted the packet. -/
  pair : Nat
  data : PktData
  /-- The host link went down under the packet: its host writes and its completion are discarded (R357). -/
  discard : Bool
deriving DecidableEq, Repr

/-- A caravan with a packet fetched and not completed (R59 to R62). -/
structure Caravan where
  /-- Packets fetched so far. -/
  count : Nat
  /-- The last packet (chain = 0) has been fetched. -/
  closed : Bool
  /-- How many packets the caravan has, once the device knows that its last one lies before the SQ tail (R59). -/
  ends : Option Nat
  /-- The command pair that executes the caravan, from the start of its first packet (R60). -/
  pair : Option Nat
  /-- `result` of the last completed packet (R62). -/
  prev : Nat
  /-- The caravan has started and not ended (R60). -/
  running : Bool
  /-- A packet failed, with this release time (R61). -/
  failed : Option Nat
  /-- The caravan has more than 64 packets and was refused (R59). -/
  refused : Bool
  /-- A stop sequence aborts every packet after the executing one (R41). -/
  stopped : Bool
deriving DecidableEq, Repr

/-- Unsignalled completions of a queue pair: how many, and the device time of the first (R37, `CMD_QP_IRQ`). -/
structure IrqWait where
  count : Nat
  since : Nat
deriving DecidableEq, Repr

/-- The steps that the RP runs after the reset of a life-cycle transition (R345, R347): the journal record (none for SCRAP), its target flag, the states before and after, the epoch, and for SCRAP the steps run so far. -/
structure LcRun where
  rec_ : Option Nat
  flag : Nat
  from_ : Nat
  target : Nat
  ep : Nat
  step : Nat
deriving DecidableEq, Repr

/-- An action that a packet's completion waits for. -/
inductive Deferred where
  /-- KEY_UNLOAD of a handle (R58). -/
  | unload (pid handle : Nat)
  /-- SLICE_UNBIND after its stop sequences (R71). -/
  | unbind (pid slice : Nat)
  /-- SLICE_EXPORT after its stop sequences (R92): the queue pairs that ran, one bit each, and the charge of the token. -/
  | sliceExport (pid slice ran mu : Nat)
  /-- LC_TRANSITION during its stop sequences (R345): the journal record (none for SCRAP), the target flag, the states before and after, the epoch, and the device time of the 100 ms deadline. -/
  | lifeCycle (pid : Nat) (run : LcRun) (deadline mu : Nat)
  /-- MODE_SWITCH to a mode, before its switch point (R375, R377). -/
  | modeSwitch (pid mode : Nat)
  /-- CONFIG_LOAD of an image whose writes are done, before its switch point (R374, R377), with the random octets of its bank seeds. -/
  | configLoad (pid : Nat) (image seeds : Bytes) (mu : Nat)
deriving DecidableEq, Repr

/-- The command interpreter: fetched packets, caravans, interrupt coalescing and deferred actions. Queue pair registers are in the register store. -/
structure CmdUnit where
  packets : NMap Packet
  nextPid : Nat
  caravans : NMap Caravan
  /-- By queue pair: the caravan whose packets are being fetched. -/
  fetching : NMap Nat
  irq : NMap IrqWait
  deferred : List Deferred
deriving DecidableEq, Repr

/-- A slice's token bucket (R75): level in eightieths of a byte, as of a device time. -/
structure Bucket where
  level : Int
  at_ : Nat
deriving DecidableEq, Repr

/-- A SHARE_SET to enduring whose mirrors are being written (R83), by slice: the packet and its share block. -/
structure ShareBuild where
  pid : Nat
  block : Bytes
deriving DecidableEq, Repr

/-- A secret as KS stores it: two shares whose exclusive or is the secret (R99). -/
structure Shares where
  a : Bytes
  b : Bytes
deriving DecidableEq, Repr

/-- No secret. -/
def Shares.none : Shares := ⟨[], []⟩

/-- A live import offer (R90): identifier, destination slice, PASID, nonce, the key records' lines, the offer's octets and its expiry time. -/
structure Offer where
  ident : Nat
  slice : Nat
  pasid : Nat
  nonce : Bytes
  /-- Private ML-KEM-1024 and ECDH P-384 values, CUSTODY-class records of the device (R90). -/
  keys : Shares
  body : Bytes
  expiry : Nat
deriving DecidableEq, Repr

/-- What a slice holds beside its registers of R72. -/
structure SliceUnit where
  buckets : NMap Bucket
  builds : NMap ShareBuild
  offers : NMap Offer
  /-- By slice: page numbers already marked in the active dirty-log buffer (R86). -/
  marked : NMap (List Nat)
deriving DecidableEq, Repr

/-- The event recorder (R429 to R436): the volatile buffer by index, the newest ordinal, the ordinals flushed, and the recorder region on xSPI chip select 1. -/
structure Recorder where
  entries : NMap Bytes
  newest : Nat
  flushed : Nat
  /-- Entries of the newest record: 0 where none, 1 or 2. -/
  lastLen : Nat
  region : NMap Bytes
  /-- Records and counter samples dropped for uncorrectable errors (R419). -/
  errors : Nat
deriving DecidableEq, Repr

/-- The sums of a meter interval (R440). -/
structure MeterSums where
  mu : Nat
  blocks : Nat
  inlBlocks : Nat
  frames : Nat
  done : Nat
  rejected : Nat
  authFailed : Nat
  other : Nat
  energy : Nat
deriving DecidableEq, Repr

/-- A slice's meter accumulators and its open interval (R440, R441): the sums, and as they were before what was counted at the device time `at_` (R447). -/
structure MeterAcc where
  start : Nat
  seq : Nat
  sums : MeterSums
  at_ : Nat
  base : MeterSums
deriving DecidableEq, Repr

/-- The performance monitor and the meter unit (R438 to R446). -/
structure Meters where
  accs : NMap MeterAcc
  /-- Records held while the ring is disabled or full, oldest first (R446). -/
  held : List Bytes
  dumpSeq : Nat
  bootId : Bytes
  /-- The meter seed of R115, in the device area. -/
  key : Shares
  pub : Bytes
  statement : Bytes
  /-- The interval in force, in seconds: a change takes effect at the next tick (R441). -/
  period : Nat
  /-- Bodies of closed intervals that wait for their signature, oldest first (R446, R447). -/
  unsigned : List Bytes
deriving DecidableEq, Repr

/-- The world-related state of a command pair (R313), with g0 to g31 and the registers that a WCALL to the open world clears (R314). -/
structure PairWorld where
  world : Bool
  wvec : Nat
  wepc : Nat
  wcause : Nat
  warg : Nat
  g : Vector Nat 32
  /-- Vector and status registers not listed in R313, by number. -/
  vs : NMap Nat
  /-- The address of the next instruction. -/
  pc : Nat
  halted : Bool
  /-- A halt request that waits for the open world (R336). -/
  haltPending : Bool
  /-- Open interrupts that wait for the open world (R317). -/
  irqPending : List Nat
  /-- Local memory octets that a monitor call has written (R316). -/
  mem : NMap Byte
deriving DecidableEq, Repr

/-- A record in the access supervisor's queue (R331). -/
structure AsvRec where
  time : Nat
  addr : Nat
  island : Nat
  source : Nat
  access : Nat
  reason : Nat
  pasid : Option Nat
  page : Nat
  repeats : Nat
deriving DecidableEq, Repr

/-- The worlds: the command pairs, the access supervisor's queue, the monitor's messages and the asserted interrupt sources. -/
structure WldUnit where
  pairs : NMap PairWorld
  /-- The access supervisor's queue, oldest first. -/
  asv : List AsvRec
  toSecure : List Bytes
  toOpen : List Bytes
  /-- Asserted interrupt sources. -/
  irqs : List Nat
  /-- Octets of the RP's local memory, 256 KiB, that accesses of the RP have written (R25, R35). -/
  rp : NMap Byte
deriving DecidableEq, Repr

/-- One copy of a key record in the key cache (R106): its lines, head first, and the two shares of its secret, padded to whole lines (R99). -/
structure KeyCopy where
  lines : List Nat
  a : Bytes
  b : Bytes
deriving DecidableEq, Repr

/-- A key record (R106, R121): attributes, the primary copy, the mirror of an enduring slice (R82), and the public part. Origin and parent are held for KEY_ATTR (R121). -/
structure KeyRec where
  slice : Nat
  cls : Nat
  typ : Nat
  usage : Nat
  exponent : Nat
  ident : Nat
  vault : Bytes
  origin : Nat
  parent : Nat
  copy : KeyCopy
  mirror : Option KeyCopy
  pub : Bytes
deriving DecidableEq, Repr

/-- A compatibility slot (R130), by its first line. -/
structure CompatSlot where
  region : Nat
  slice : Nat
  cls : Nat
  bad : Bool
  header : Bytes
  a : Bytes
  b : Bytes
  pub : Bytes
  check : Bytes
deriving DecidableEq, Repr

/-- The device keys that KS derives at boot (R115), in the device area: identity and attestation seeds, the slot-check key, and the boot nonce it was made with. The meter seed stands with the meters. -/
structure DeviceKeys where
  identity : Shares
  attest : Shares
  slotCheck : Shares
  nonce : Bytes
deriving DecidableEq, Repr

/-- KS: records by head line, compatibility slots by first line, the counts of frees of each line, and the re-masking engine. -/
structure KsUnit where
  recs : NMap KeyRec
  slots : NMap CompatSlot
  /-- By line: how often it was freed as a head since reset (R109). -/
  frees : NMap Nat
  /-- Which random starting generations are in force (R109). -/
  genEpoch : Nat
  dev : DeviceKeys
  /-- The mask expander's key (R101) and the start of the running pass. -/
  expander : Bytes
  passStart : Nat
  /-- Masks drawn from the expander since it was keyed. -/
  masks : Nat
  /-- The HWU key registers: what the last operation of the HWU loaded (R99, R102, R137). -/
  hwu : Shares
deriving DecidableEq, Repr

/-- The re-seal journal (R96, R133). -/
structure Journal where
  /-- 0 idle, 1 RUNNING, 2 SUSPENDED, 3 COMPLETE. -/
  state : Nat
  succ : Bytes
  total : Nat
  done : List Nat
deriving DecidableEq, Repr

/-- BBRAM (R96): seed shares, seed check, backup mask key, re-seal journal, export record (slice and digest), vault table. -/
structure Bbram where
  seedA : Bytes
  seedB : Bytes
  check : Bytes
  maskKey : Bytes
  journal : Journal
  exportRec : Option (Nat × Bytes)
  /-- By slice: bit 23 `exists`, bits [22:0] the counter (R117); bit 24 says that an error took the entry (R419). -/
  vaults : NMap Nat
  /-- Masks drawn by KA's own expander, which the backup mask key keys, in the pass on backup power (R101). -/
  kaMasks : Nat
deriving DecidableEq, Repr

/-- A live challenge (R142 to R144). Slice 0xFFFF is the device quorum's, which keeps its policy block (R158). -/
structure Challenge where
  ident : Nat
  slice : Nat
  cls : Nat
  counter : Nat
  issue : Nat
  expiry : Nat
  digest : Bytes
  body : Bytes
  /-- Class IMPORT: the private values, CUSTODY-class records of the device area (R144). -/
  keys : Shares
  /-- Device quorum: the policy block supplied with DQ_CHALLENGE. -/
  block : Bytes
deriving DecidableEq, Repr

/-- Live challenges, oldest first. -/
structure VaultUnit where
  challenges : List Challenge
deriving DecidableEq, Repr


/-- What the RP holds of the boot: the measurement registers (R366), the device identifier, the certificate and the identity and attestation public keys (R160), the islands that have finished self-test (R358), life-cycle steps to run (R347), and whether a pending journal record was completed at this boot (`LC_STATE.resumed`). -/
structure BootUnit where
  mr : NMap Bytes
  deviceId : Bytes
  identityPub : Bytes
  attestPub : Bytes
  certificate : Bytes
  tested : List Nat
  lcRun : Option LcRun
  resumed : Bool
  /-- Islands outside the replicated kinds whose self-test failed (R358). -/
  failed : List Nat
deriving DecidableEq, Repr

/-- The contents of xSPI chip select 0 (R361): directory copies, custody slots A and B, steward slots A and B, and of each configuration slot its endorsement and its image. -/
structure Flash where
  dirs : Vector Bytes 2
  cus : Vector Bytes 2
  stw : Vector Bytes 2
  ends : Vector Bytes 2
  cfgs : Vector Bytes 2
deriving DecidableEq, Repr

/-- The base configuration in force (R368): the whole generation, the image (empty for the default configuration), and the image booted, whose boot sections are in force. -/
structure CfgUnit where
  gen : Nat
  image : Bytes
  booted : Bytes
deriving DecidableEq, Repr

/-- An activation under way (R421 to R424): its packet, the kind of image, the approval deadline, the length of the forward-seal table, the meter entries reserved (R443), withheld vaults, the pairs that run the successor, the pair that loads it, failures so far, and the phase as `DEV_FW_STATUS.phase`. -/
structure Act where
  pid : Nat
  kind : Nat
  deadline : Nat
  table : Nat
  reserved : Nat
  withheld : Nat
  switched : List Nat
  loading : Option Nat
  fails : Nat
  phase : Nat
  /-- The charge of the approvals (R148). -/
  mu : Nat
deriving DecidableEq, Repr

/-- Firmware activation. -/
structure FwUnit where
  act : Option Act
deriving DecidableEq, Repr

/-- What a card command does. -/
inductive CardJob where
  | init | backup | restore | evidence
deriving DecidableEq, Repr

/-- A card command that runs (R481): its packet, its phase, the failures of the operation in progress (R473), the octets that it writes, and the status it ends with once the card is idle, where an alarm or a power-fail warning has met it (R483). -/
structure CardRun where
  pid : Nat
  job : CardJob
  phase : CardPhase
  fails : Nat
  data : Bytes
  ends : Option Status
deriving DecidableEq, Repr

/-- The card host (R470 to R483): the card in the slot, the device time of the first operating-condition query while identification runs, the failures of its operation in progress, the command that runs, and the card that last left the slot, as it was left. -/
structure CrdUnit where
  card : Option Card
  query : Option Nat
  fails : Nat
  run : Option CardRun
  left : Option Card
deriving DecidableEq, Repr

/-- An IDE key set of a sub-stream (R453): stream 0 is the link stream, 1 to 4 are selective; sub-stream 0 posted, 1 non-posted, 2 completion; direction 0 receive, 1 transmit. -/
structure IdeSet where
  stream : Nat
  sub : Nat
  dir : Nat
  set : Nat
  key : Bytes
  active : Bool
deriving DecidableEq, Repr

/-- An SPDM session (R455): its transport (0 DOE, 1 MCTP), identifier, whether its handshake has finished, when it was last used, and its secret. -/
structure Session where
  tr : Nat
  ident : Nat
  established : Bool
  last : Nat
  secret : Bytes
deriving DecidableEq, Repr

/-- The links of host and management (R449 to R469): IDE key sets, SPDM sessions, how far the responder has negotiated (0 nothing, 1 version, 2 capabilities, 3 algorithms), which every transport shares, large messages in and out by transport, the endpoint IDs of SMBus and I3C, the I3C dynamic address, the TAP instruction, and the management requests that wait for a hold to lift, oldest first. -/
structure LinkUnit where
  ide : List IdeSet
  sessions : List Session
  conn : Nat
  chunks : NMap Bytes
  large : NMap Bytes
  eid : Vector Nat 2
  i3c : Option Nat
  tap : Nat
  held : List (Nat × MgmtReq)
deriving DecidableEq, Repr

/-- The one-time-programmable arrays (R337 to R353): bits start at 0 and are only ever set. Three copies of the life-cycle word, the transition journal, the dual-rail share and the device policy records (digest in bits 383 to 0, WRITTEN in 385 to 384); one trim block. -/
structure Otp where
  word : Vector (BitVec 32) 3
  journal : Vector (Vector (BitVec 64) 16) 3
  share : Vector (BitVec 512) 3
  dq : Vector (Vector (BitVec 386) 16) 3
  trim : BitVec 2048
deriving DecidableEq, Repr

/-- The attributes of a key that a packet creates. -/
structure NewKey where
  cls : Nat
  typ : Nat
  origin : Nat
  usage : Nat
  ident : Nat
  parent : Nat
  exponent : Nat
  secret : Bytes
  pub : Bytes
deriving DecidableEq, Repr

/-- The figures of an operation (R209 to R222): execution, verification and allowance in sixths of a ns (one core cycle is five of them), the budget in MU (of one quantum where quantised), the key generation prefix in MU, the class C charge, the validation stage in ns, and the energy in nJ. -/
structure Fig where
  e : Nat
  ev : Nat
  a : Nat
  b : Nat
  quant : Bool
  pk : Nat
  cCharge : Nat
  vc : Nat
  energy : Nat
deriving DecidableEq, Repr

/-- The discipline of a job: class M, class C, a workspace job, or a workspace packet without a core job. -/
inductive JobKind where
  | m | c | ws | slots
deriving DecidableEq, Repr

/-- A key as an opcode uses it: attributes, secret and public part, from a native record or a compatibility slot. -/
structure Key where
  line : Nat
  compat : Bool
  slice : Nat
  cls : Nat
  typ : Nat
  usage : Nat
  ident : Nat
  secret : Bytes
  pub : Bytes
  exponent : Nat
deriving DecidableEq, Repr

/-- The slot area of a job in a core's operand memory (R165): base word, slot length in words and slot count. -/
structure Area where
  base : Nat
  w : Nat
  c : Nat
deriving DecidableEq, Repr

/-- Where a job stands. -/
inductive JobAt where
  /-- Accepted; a bulk cluster hashes its public message (R206). -/
  | hashing
  /-- Accepted, waits for its dispatch. -/
  | pending
  /-- The waiting descriptor of a core (R163). -/
  | assigned (core : Nat)
  | main (core : Nat)
  | suspended (core : Nat)
  /-- Waits in the verification queue; its result came from this core (R173). -/
  | verifyQueue (from_ : Nat)
  /-- Being verified on a core. -/
  | verifying (from_ core : Nat)
  /-- At the release gate since a device time. -/
  | gate (core since : Nat)
deriving DecidableEq, Repr

/-- What a job has made: its status, its output, the key it returns to KS, the verdict of the verification before release where one is due, and the workspace slots it writes. -/
structure JobRes where
  status : Status
  out : Bytes
  key : Option NewKey
  verdict : Option Bool
  slots : List (Nat × Nat)
  result : Nat
deriving DecidableEq, Repr

/-- A public-key job (R162 to R203), held by its packet's number. What its slot area and its random buffer hold while it is resident stands here: its key, and its random words in its packet. -/
structure Job where
  stamp : Nat
  slice : Nat
  device : Bool
  kind : JobKind
  /-- The opcode and the key type, which name the schedule program that it runs (R167). -/
  opc : Nat
  typ : Nat
  fig : Fig
  /-- An input, handle or parameter is invalid: the job runs on substituted operands (R177). -/
  reject : Bool
  /-- The handle whose key the job takes, or zero. -/
  handle : Nat
  /-- The workspace that the packet names, or zero. -/
  ws : Nat
  /-- WS_CLOSE. -/
  closes : Bool
  at_ : JobAt
  start : Nat
  /-- Device time at which the job last began to execute, and what it had executed by then, in sixths of a ns. -/
  since : Nat
  ran : Nat
  allow : Nat
  /-- Quanta begun (R181). -/
  quanta : Nat
  retried : Bool
  /-- The core of the first attempt (R180). -/
  avoid : Option Nat
  /-- Its verification was aborted once and is retried (R202). -/
  verifyRetried : Bool
  /-- The core on which its verification was aborted (R180). -/
  verifyAvoid : Option Nat
  /-- Since when the job waits for random words drawn after its start (R506). -/
  draw : Option Nat
  /-- Its slot area on the core that holds it (R165). -/
  area : Area
  /-- The key that KS delivered, its secret apart. -/
  key : Option Key
  /-- The secret of that key in its key slots (R17, R166): two shares in class C, combined in the first one in class M. -/
  shares : Shares
  /-- The randomised representation of a class C secret (R187). -/
  form : List Nat
  /-- Device time at which its first quantum begins (R181, R216). -/
  base : Nat
  /-- The running quantum holds an accepted candidate, or a key that passed (R181, R215). -/
  accepted : Bool
  /-- Allowance taken in advance for a suspension in progress (R183, R184). -/
  owed : Nat
  /-- Key-cache lines kept for the key that it returns (R8, R208). -/
  lines : Nat
  /-- Its budget has been added to its slice's virtual time (R170). -/
  charged : Bool
  /-- Where its input and its output are staged in SB (R167, R168). -/
  sbIn : Nat
  sbOut : Nat
  res : JobRes
deriving DecidableEq, Repr

/-- A slice's virtual time (R170), and when it was set, by count. -/
structure VTime where
  v : Nat
  set : Nat
deriving DecidableEq, Repr

/-- A slot of a workspace that is not empty (R190). -/
structure WsSlot where
  value : Nat
  valid : Bool
deriving DecidableEq, Repr

/-- A workspace (R189): slot length in words, slot count, and slots by number (an empty slot is not listed). -/
structure Workspace where
  slice : Nat
  w : Nat
  c : Nat
  slots : NMap WsSlot
deriving DecidableEq, Repr

/-- The public-key engine: jobs by packet, virtual times, workspaces by identifier, and the operand memories of the cores (word j of the 8,192 of core n at 8,192 n + j, zero where not listed; what resident jobs hold there stands in their records). Core roles are in the registers. -/
structure PkeUnit where
  jobs : NMap Job
  stamp : Nat
  vs : NMap VTime
  vg : Nat
  spaces : NMap Workspace
  /-- By island: device time at which a hold of it last lifted (R179). -/
  lifted : NMap Nat
  opmem : NMap Nat
deriving DecidableEq, Repr

/-- The tag of a traffic key: slice, line of the record head and generation (R227). -/
structure KeyTag where
  slice : Nat
  line : Nat
  gen : Nat
deriving DecidableEq, Repr

/-- An entry of a cluster's traffic-key register file (R227): its tag, the key, the values derived from it at load, and when it was last used. -/
structure BlkEntry where
  tag : KeyTag
  typ : Nat
  key : Bytes
  derived : Bytes
  used : Nat
  /-- The key has arrived; until then the entry is taken by an outstanding miss. -/
  loaded : Bool
deriving DecidableEq, Repr

/-- Work in a cluster: a lookaside packet, a public message to hash (R206) or an inline frame. `cluster` is none where a packet waits for one (R237); `hold` is its need of the hold pool and `pooled` says that it has the space (R231). -/
structure BlkJob where
  cluster : Option Nat
  tag : Option KeyTag
  bytes : Nat
  hold : Nat
  pooled : Bool
  stamp : Nat
  /-- Chunks of its input (R224). -/
  chunks : Nat
  /-- Chunks processed so far. -/
  done : Nat
  /-- Octets of its output that the host has taken as they were produced (R231, R234). -/
  written : Nat
deriving DecidableEq, Repr

/-- A chunk that a cluster has taken (R236): the device time, whether it came from the lookaside queue, and its input cycles. -/
structure ChunkUse where
  time : Nat
  lookaside : Bool
  cycles : Nat
deriving DecidableEq, Repr

/-- The bulk clusters: register-file entries at 64 n + k for cluster n, the work in them, by 2 × packet number or 2 × frame number + 1, and of each cluster's chunk sequencer the chunks of its last 4,096 input cycles, newest first, and the stamp of the packet that it served last (R236). -/
structure BlkUnit where
  files : NMap BlkEntry
  jobs : NMap BlkJob
  stamp : Nat
  recent : NMap (List ChunkUse)
  turn : NMap Nat
deriving DecidableEq, Repr

/-- The rotation (R406 to R413). Units are named by their island number, and a public-key core by 256 + core number. Units that drain before a visit, units under self-test, the device time at which a rotor's last visit and last cycle began, and the length of its last cycle in ns. Rotors: 0 command pairs, 1 table pipelines, 2 bulk clusters, 3 + i the cores of island PIi. -/
structure RotUnit where
  draining : List Nat
  testing : List Nat
  /-- By rotor: when the last visit began, and its unit. -/
  visit : NMap (Nat × Nat)
  cycle : NMap Nat
  lengths : NMap Nat
  /-- By withdrawn unit: the unit that returned to duty when its visit began. -/
  heir : NMap Nat
  /-- Rotors whose last visit was abandoned and is started again (R412). -/
  again : List Nat
deriving DecidableEq, Repr

/-- An entry of the inline map (R246, R370) with its policy epoch (R274). The length masks are those of the installed policies. -/
structure MapEntry where
  pair : Nat
  /-- The VLAN ID, none for the untagged entry. -/
  vlan : Option Nat
  /-- The owning slice, none where the entry has no owner. -/
  owner : Option Nat
  /-- DISCARD for unmatched, unprotected and control frames. -/
  unmatched : Bool
  unprotected : Bool
  control : Bool
  types : List Nat
  epoch : Nat
  /-- A policy slot of the entry was lost to an error (R419): the identifiers lost, and whether its frames are dropped. -/
  damaged : Bool
  lost : List Nat
deriving DecidableEq, Repr

/-- A policy (R279, R280): its key, its action with its SA identifier, and its place in the policy table. -/
structure Policy where
  slice : Nat
  index : Nat
  family : Nat
  len : Nat
  prefix_ : Bytes
  action : Nat
  sa : Nat
  place : Nat
deriving DecidableEq, Repr

/-- The state of an SA (R261). -/
inductive SaState where
  | active | frozen | draining | exhausted
deriving DecidableEq, Repr

/-- An SA (R261, R262), by its head context: the fields of its contexts. Window bit i stands for number `seq` - i. `accepted` counts the inbound frames that passed their commit (R264); `waiter` is the SA_RETIRE packet that waits for the SA to be freed (R267). -/
structure SaCtx where
  /-- A frozen SA that is exhausted as well (R92, R264). -/
  spent : Bool
  slice : Nat
  state : SaState
  kind : Nat
  suite : Nat
  icv : Nat
  flags : Nat
  keyLine : Nat
  keyGen : Nat
  w : Nat
  an : Nat
  offset : Nat
  x : Nat
  ident : Nat
  seq : Nat
  salt : Bytes
  ssci : Nat
  soft : Nat
  hard : Nat
  window : Nat
  mirror : Option Nat
  frames : Nat
  octets : Nat
  icvDrops : Nat
  replayDrops : Nat
  otherDrops : Nat
  mtu : Nat
  pair : Nat
  vlan : Nat
  installed : Nat
  template : Bytes
  accepted : Nat
  waiter : Option Nat
deriving DecidableEq, Repr

/-- The pending SA events of a slice (R268), oldest first; `lost` says that an event was dropped. -/
structure SaEvents where
  lost : Bool
  list : List Bytes
deriving DecidableEq, Repr

/-- A waiting SA_QUERY (R268): its packet and the device time of its timeout. -/
structure SaWait where
  pid : Nat
  deadline : Nat
deriving DecidableEq, Repr

/-- A flow cache entry (R286): the key words of R275, and the results: epoch and outcome (kind P), SA generation and head index (kinds P and S), selector result (kind X). Kind 1 P, 2 S, 3 X. -/
structure FlowEntry where
  hit : Bool
  strike : Bool
  kind : Nat
  k0 : Nat
  k1 : Nat
  epoch : Nat
  outcome : Nat
  sa : Nat
deriving DecidableEq, Repr

/-- Where a frame stands between its arrival and its departure. -/
inductive FrameAt where
  /-- Dispatched to a cluster, or waiting for one. -/
  | cluster
  /-- Its cluster operation has ended; the tx pipeline is to finish it. -/
  | ready
  /-- Bypassed: it keeps its place among the other frames (R250). -/
  | bypass
deriving DecidableEq, Repr

/-- A frame in the device: its octets as it arrived on a port, its SA, its number, after the cluster the octets that it made, and the pipeline that served its tx port-direction when it was accepted (R248; none where that one was fenced meanwhile, or none served). -/
structure Frame where
  port : Nat
  data : Bytes
  head : Nat
  gen : Nat
  seq : Nat
  at_ : FrameAt
  out : Bytes
  pipe : Option Nat
deriving DecidableEq, Repr

/-- The table pipelines and TM: seeds (sI0, sI1, sP0, sP1, sF), way seeds and LFSRs of the banks, the SA index table by position, the inline map, policies by slot index, SAs by head context, frees of contexts and policy slots, banks (524,288 b + 131,072 w + index), stashes (64 b + k), learn queues, sweeper positions, SA events, waiting queries, frames in flight, and frames in the staging of their port-direction behind a class 1 hold, oldest first (R273). -/
structure TblUnit where
  seeds : Vector Nat 5
  ways : Vector Nat 16
  lfsr : Vector Nat 4
  idx : NMap Nat
  map : NMap MapEntry
  pols : NMap Policy
  sas : NMap SaCtx
  saFrees : NMap Nat
  polFrees : NMap Nat
  bank : NMap FlowEntry
  stash : NMap FlowEntry
  learn : NMap (List FlowEntry)
  sweep : Vector Nat 4
  events : NMap SaEvents
  waits : NMap SaWait
  frames : NMap Frame
  nextFrame : Nat
  staged : List (Nat × Bytes)
deriving DecidableEq, Repr

/-- A port pair (R245, R369): ESP where true, MACSEC where false, and whether side B is the clear side. -/
structure PairCfg where
  esp : Bool
  clearB : Bool
deriving DecidableEq, Repr


/-- A condition of a sensor (R386, R387), by 256 × sensor + instance: the class that was applied, the islands of its scope as a mask, and when it ended. -/
structure Cond where
  cls : Nat
  scope : Nat
  ended : Option Nat
deriving DecidableEq, Repr

/-- A decision that awaits the second decision unit (R388): the class that the first one reached, which unit was first (0 A, 1 B), the device time of the first decision, and the delay between the two in cycles. -/
structure Second where
  cls : Nat
  first : Nat
  time : Nat
  delay : Nat
deriving DecidableEq, Repr

/-- The Gauntlet's decision state and KA (R379 to R401): conditions, decisions under way, when each condition last ended, staged records (20 octets each, oldest first), the evidence log, KA's operating time, and what the pins and supplies are at. -/
structure GntUnit where
  conds : NMap Cond
  seconds : NMap Second
  lastEnd : NMap Nat
  staged : List Bytes
  log : NMap Bytes
  /-- Nanoseconds during which KA had a supply. -/
  kaNs : Nat
  /-- When the last class 3 condition ended, while BBRAM is held in clear, on KA's own time. -/
  clearEnd : Nat
  /-- An RP reset is due (R390, R345, R347, R367). -/
  rpDue : Bool
  /-- The main rails are in their operating range. -/
  main : Bool
  /-- KA has a supply. -/
  ka : Bool
  /-- KA's operating time since which PFW_N is asserted, if it is. -/
  pfw : Option Nat
  /-- KA's operating time at which the last class 2 or class 3 response on main power began (`ERASE_N`, R486). -/
  eraseAt : Option Nat
  /-- The decision LFSRs of GM and of KA (R388). -/
  lfsr : Nat
  kaLfsr : Nat
deriving DecidableEq, Repr

/-- Sirocco, its tests and the DRBG instances (R297 to R311). -/
structure RngUnit where
  /-- Warm-up blocks still to be discarded. -/
  discard : Nat
  /-- Passed blocks in a row in the start-up test, while it runs. -/
  good : Nat
  /-- A passed block waits for its partner (R302). -/
  half : Bool
  /-- The last sample and how many identical ones end with it. -/
  runBit : Bool
  runLen : Nat
  /-- Device times of the failed blocks (R301). -/
  fails : List Nat
  /-- By instance: known-answer failures since reset (R309). -/
  kat : NMap Nat
  /-- By instance: generate calls since its last known-answer test. -/
  calls : NMap Nat
  /-- The raw FIFO, 64-bit words, oldest first (R310). -/
  fifo : List Nat
  /-- Blocks made by the test pattern so far (R311). -/
  patterns : Nat
  /-- The ring frequencies at the last start-up test, the sampling and the sampled ring of each pair in turn (R299); none before one has passed. -/
  ref : List Nat
  /-- By combination of two pairs: the latest measurements of their sampling rings, newest first (R299). -/
  locks : NMap (List (Nat × Nat))
  /-- The group of 16 combinations that the next block measures, 0 to 30 (R299). -/
  turn : Nat
deriving DecidableEq, Repr

/-- The fabric's counts of data handshakes: corrected, and dropped (R19). -/
structure FabricUnit where
  corrected : Nat
  dropped : Nat
deriving DecidableEq, Repr

/-- The block. -/
structure State where
  /-- Commands that wait, first in, first out (the model's own). -/
  pending : List Instr
  /-- Device time in ns since the device reset. -/
  now : Nat
  /-- Number of free values drawn so far (the model's own). -/
  free : Nat
  /-- What the block has sent out, newest first (the model's own). -/
  out : List Out
  /-- Register contents by register key; a register that is not listed holds its reset value. -/
  regs : NMap Word
  cmd : CmdUnit
  slc : SliceUnit
  rcd : Recorder
  met : Meters
  wld : WldUnit
  ks : KsUnit
  bb : Bbram
  vlt : VaultUnit
  boot : BootUnit
  otp : Otp
  pke : PkeUnit
  blk : BlkUnit
  rot : RotUnit
  fab : FabricUnit
  tbl : TblUnit
  gnt : GntUnit
  rng : RngUnit
  /-- The port pairs of the configuration in force. -/
  pairs : NMap PairCfg
  flash : Flash
  cfg : CfgUnit
  fw : FwUnit
  crd : CrdUnit
  lnk : LinkUnit
deriving DecidableEq, Repr

/-- The key of a register in the register store. -/
def regKey (r : RegName) (i : Nat) : Nat := r.idx * 131072 + i

/-- Fields of a register at reset. -/
def fieldsReset (fs : List Fld) : Nat := fs.foldl (fun a f => a + f.reset <<< f.lo) 0

/-- The interrupt sources that R318 lists. -/
def irqAssigned (n : Nat) : Bool :=
  n ≤ 0x10 || (0x18 ≤ n && n ≤ 0x7C) || (0x80 ≤ n && n ≤ 0x93) || (0x98 ≤ n && n ≤ 0x9A) ||
    (0xA0 ≤ n && n ≤ 0xAF)

/-- The interrupt sources whose world R318 leaves to the base configuration or to `WLD_PER.tmr`. -/
def irqConfigurable (n : Nat) : Bool :=
  (0x80 ≤ n && n ≤ 0x8F) || n == 0x98 || n == 0x99 || (0xA8 ≤ n && n ≤ 0xAF)

/-- The world of an interrupt source at reset (R318): 0 secure, 1 open. -/
def irqDefaultWorld (n : Nat) : Nat :=
  if (0x80 ≤ n && n ≤ 0x8F) || n == 0x98 || n == 0x99 || (0xA4 ≤ n && n ≤ 0xA7) ||
    (0xAC ≤ n && n ≤ 0xAF) then 1 else 0

/-- The event codes that are always enabled and always flush (R429). -/
def eventFixed (c : Nat) : Bool :=
  [0x00, 0x10, 0x18, 0x20, 0x22, 0x30, 0x31, 0x38, 0x39].contains c

/-- The island identifiers of R12. -/
def islandAssigned (n : Nat) : Bool :=
  n ≤ 0x13 || (0x18 ≤ n && n ≤ 0x1E) || (0x20 ≤ n && n ≤ 0x37)

/-- The islands whose world the base configuration may set (R320): NET0 to NET3. -/
def islandConfigurable (n : Nat) : Bool := 0x10 ≤ n && n ≤ 0x13

/-- A sensor's row of R386: default class, floor, maximum, and whether it is fixed. -/
def sensorRow (n : Nat) : Nat × Nat × Nat × Bool :=
  match n with
  | 0 => (1, 1, 2, false) | 1 => (2, 2, 2, true) | 2 => (2, 2, 3, false) | 3 => (2, 2, 3, false)
  | 4 => (1, 1, 2, false) | 5 => (2, 2, 3, false) | 6 => (1, 1, 1, true) | 7 => (0, 0, 1, false)
  | 8 => (3, 2, 3, false) | 9 => (0, 0, 1, false) | 10 => (2, 2, 3, false) | 11 => (0, 0, 0, true)
  | 12 => (3, 1, 3, false) | 13 => (3, 3, 3, true) | 14 => (3, 3, 3, true) | 15 => (3, 1, 3, false)
  | 16 => (3, 1, 3, false) | 17 => (2, 0, 3, false) | 18 => (2, 0, 3, false) | 19 => (2, 0, 3, false)
  | 20 => (2, 0, 3, false) | 21 => (3, 3, 3, true) | 22 => (2, 2, 2, true) | _ => (0, 0, 0, false)

/-- The value of a register right after reset: its fields' reset values, and for the fields that the tables leave to another rule the value of that rule. -/
def regReset (r : RegName) (i : Nat) : Word :=
  match r with
  | .WLD_IRQ =>
    if irqAssigned i then
      BitVec.ofNat 64 (0xFF00 + 2 * b2n (!irqConfigurable i) + irqDefaultWorld i)
    else 0
  | .WLD_ISLAND => if islandAssigned i then BitVec.ofNat 64 (2 * b2n (!islandConfigurable i)) else 0
  | .REC_TRIG => BitVec.ofNat 64 (fieldsReset r.fields + 128 * b2n (eventFixed i))
  | .GNT_SENSOR =>
    let (d, f, m, x) := sensorRow i
    BitVec.ofNat 64 (d + f <<< 4 + m <<< 6 + b2n x <<< 8)
  | r => BitVec.ofNat 64 (fieldsReset r.fields)

/-- No packet, no caravan. -/
def CmdUnit.reset : CmdUnit where
  packets := .empty
  nextPid := 0
  caravans := .empty
  fetching := .empty
  irq := .empty
  deferred := []

/-- No slice is bound or offered. -/
def SliceUnit.reset : SliceUnit where
  buckets := .empty
  builds := .empty
  offers := .empty
  marked := .empty

/-- An empty volatile buffer and an empty recorder region. -/
def Recorder.reset : Recorder where
  entries := .empty
  newest := 0
  flushed := 0
  lastLen := 0
  region := .empty
  errors := 0

/-- No accumulator, no held record, no meter key. -/
def Meters.reset : Meters where
  accs := .empty
  held := []
  dumpSeq := 0
  bootId := []
  key := Shares.none
  pub := []
  statement := []
  period := 60
  unsigned := []

/-- A command pair before it runs: in the secure world, every register zero. -/
def PairWorld.reset : PairWorld where
  world := false
  wvec := 0
  wepc := 0
  wcause := 0
  warg := 0
  g := Vector.replicate 32 0
  vs := .empty
  pc := 0
  halted := false
  haltPending := false
  irqPending := []
  mem := .empty

/-- Every pair at reset, no record queued, no message. -/
def WldUnit.reset : WldUnit where
  pairs := .empty
  asv := []
  toSecure := []
  toOpen := []
  irqs := []
  rp := .empty

/-- An empty key cache, no device key. -/
def KsUnit.reset : KsUnit where
  recs := .empty
  slots := .empty
  frees := .empty
  genEpoch := 0
  dev := ⟨Shares.none, Shares.none, Shares.none, []⟩
  expander := []
  passStart := 0
  masks := 0
  hwu := Shares.none

/-- An idle re-seal journal. -/
def Journal.idle : Journal := ⟨0, [], 0, []⟩

/-- BBRAM with every octet zero. -/
def Bbram.reset : Bbram where
  seedA := zeros 64
  seedB := zeros 64
  check := zeros 16
  maskKey := zeros 32
  journal := Journal.idle
  exportRec := none
  vaults := .empty
  kaMasks := 0

/-- Measurement registers of 48 zero octets, no identifier, no certificate. -/
def BootUnit.reset : BootUnit where
  mr := .empty
  deviceId := []
  identityPub := []
  attestPub := []
  certificate := []
  tested := []
  lcRun := none
  resumed := false
  failed := []

/-- Every OTP bit 0: a part as it is manufactured. -/
def Otp.blank : Otp where
  word := Vector.replicate 3 0
  journal := Vector.replicate 3 (Vector.replicate 16 0)
  share := Vector.replicate 3 0
  dq := Vector.replicate 3 (Vector.replicate 16 0)
  trim := 0

/-- Every table and bank empty (R295), no seed drawn. -/
def TblUnit.reset : TblUnit where
  seeds := Vector.replicate 5 0
  ways := Vector.replicate 16 0
  lfsr := Vector.replicate 4 0
  idx := .empty
  map := .empty
  pols := .empty
  sas := .empty
  saFrees := .empty
  polFrees := .empty
  bank := .empty
  stash := .empty
  learn := .empty
  sweep := Vector.replicate 4 0
  events := .empty
  waits := .empty
  frames := .empty
  nextFrame := 0
  staged := []

/-- The Gauntlet of a part as manufactured, with its supplies present: no condition, nothing staged, an empty log. -/
def GntUnit.reset : GntUnit where
  conds := .empty
  seconds := .empty
  lastEnd := .empty
  staged := []
  log := .empty
  kaNs := 0
  clearEnd := 0
  rpDue := false
  main := true
  ka := true
  pfw := none
  eraseAt := none
  lfsr := 0
  kaLfsr := 0

/-- Sirocco at its release from reset (R308): 16 warm-up blocks, then the start-up test. -/
def RngUnit.reset : RngUnit where
  discard := 16
  good := 0
  half := false
  runBit := false
  runLen := 0
  fails := []
  kat := .empty
  calls := .empty
  fifo := []
  patterns := 0
  ref := []
  locks := .empty
  turn := 0

/-- No unit drains or is tested, no visit was made. -/
def RotUnit.reset : RotUnit where
  draining := []
  testing := []
  visit := .empty
  cycle := .empty
  lengths := .empty
  heir := .empty
  again := []

/-- An erased memory: no directory, image or configuration. -/
def Flash.reset : Flash where
  dirs := #v[[], []]
  cus := #v[[], []]
  stw := #v[[], []]
  ends := #v[[], []]
  cfgs := #v[[], []]

/-- No card, no card command. -/
def CrdUnit.reset : CrdUnit where
  card := none
  query := none
  fails := 0
  run := none
  left := none

/-- No IDE key, session, endpoint ID or dynamic address; the TAP instruction is BYPASS. -/
def LinkUnit.reset : LinkUnit where
  ide := []
  sessions := []
  conn := 0
  chunks := .empty
  large := .empty
  eid := Vector.replicate 2 0
  i3c := none
  tap := 31
  held := []

/-- The machine right after a power-on reset: every register at its reset value, nothing bound, loaded, queued or sent. -/
def State.reset : State where
  pending := []
  now := 0
  free := 0
  out := []
  regs := NMap.empty
  cmd := CmdUnit.reset
  slc := SliceUnit.reset
  rcd := Recorder.reset
  met := Meters.reset
  wld := WldUnit.reset
  ks := KsUnit.reset
  bb := Bbram.reset
  vlt := ⟨[]⟩
  boot := BootUnit.reset
  otp := Otp.blank
  pke := ⟨.empty, 0, .empty, 0, .empty, .empty, .empty⟩
  blk := ⟨.empty, .empty, 0, .empty, .empty⟩
  rot := RotUnit.reset
  fab := ⟨0, 0⟩
  tbl := TblUnit.reset
  gnt := GntUnit.reset
  rng := RngUnit.reset
  pairs := .empty
  flash := Flash.reset
  cfg := ⟨0, [], []⟩
  fw := ⟨none⟩
  crd := CrdUnit.reset
  lnk := LinkUnit.reset

end Sys2Proof.Machine
end

