-- ==== Sys2Proof/Machine/RegOps.lean ====
section
/-! DEFINITION. The register store: reading and writing registers and their fields, the access codes of R3, and the address maps of R32 to R37. Log entries of this file: DESIGN CHOICE 8, 15. -/

namespace Sys2Proof.Machine

/-- The stored content of a register. -/
def State.reg (s : State) (r : RegName) (i : Nat) : Word :=
  s.regs.getD (regKey r i) (regReset r i)

/-- The state with one register's stored content replaced. -/
def State.setReg (s : State) (r : RegName) (i : Nat) (w : Word) : State :=
  { s with regs := s.regs.setD (regReset r i) (regKey r i) w }

/-- A field of a register. -/
def State.fget (s : State) (f : Fld) (i : Nat) : Nat := wordField (s.reg f.reg i) f.hi f.lo

/-- The state with one field of a register replaced. -/
def State.fset (s : State) (f : Fld) (i v : Nat) : State :=
  s.setReg f.reg i (wordSet (s.reg f.reg i) f.hi f.lo v)

/-- A one-bit field reads 1. -/
def State.flag (s : State) (f : Fld) (i : Nat) : Bool := s.fget f i == 1

/-- The largest value of a field. -/
def Fld.max (f : Fld) : Nat := 2 ^ (f.hi - f.lo + 1) - 1

/-- A count advances and saturates at its field's largest value. -/
def State.bumpSat (s : State) (f : Fld) (i n : Nat) : State :=
  s.fset f i (min (s.fget f i + n) f.max)

/-- A count advances and wraps at its field's width. -/
def State.bumpWrap (s : State) (f : Fld) (i n : Nat) : State :=
  s.fset f i ((s.fget f i + n) % (f.max + 1))

/-- The effect of a write of `new` on one field of a register that holds `old`, by its access code (R3). `locked` says that an RWL field is locked. -/
def fieldWrite (locked : Bool) (new : Word) (old : Word) (f : Fld) : Word :=
  let cur := wordField old f.hi f.lo
  let v := wordField new f.hi f.lo
  match f.acc with
  | .ro => old
  | .rw => wordSet old f.hi f.lo v
  | .wo => old
  | .w1c => wordSet old f.hi f.lo (cur &&& (f.max ^^^ v))
  | .w1s => wordSet old f.hi f.lo (cur ||| v)
  | .rwl => if locked then old else wordSet old f.hi f.lo v

/-- The content of a register after a write, by the access codes of its fields. -/
def wordWrite (r : RegName) (locked : Bool) (old new : Word) : Word :=
  r.fields.foldl (fieldWrite locked new) old

/-- A register with its index, as an address names it. -/
structure RegRef where
  name : RegName
  index : Nat
deriving DecidableEq, Repr

/-- The index that an offset has in a register group, if it lies on the register. -/
def RegLoc.indexAt (l : RegLoc) (off : Nat) : Option Nat :=
  if off < l.base then none
  else
    let o := off - l.base
    let i1 := o / l.stride1
    let o := o % l.stride1
    let i0 := o / l.stride0
    if i1 < l.count1 && i0 < l.count0 && o % l.stride0 < l.bytes then some (i1 * l.count0 + i0) else none

/-- The register at an offset of one address map. -/
def findReg (inSpace : Space → Bool) (off : Nat) : Option RegRef :=
  RegName.all.findSome? (fun r =>
    if inSpace r.loc.space then (r.loc.indexAt off).map (fun i => ⟨r, i⟩) else none)

/-- The number of the manager ring set among the rings (R37). -/
def managerRing : Nat := 4096

/-- The index of a queue pair in the register groups of R37. -/
def qpi (ring q : Nat) : Nat := ring * 8 + q

/-- The register at an offset of PF0 BAR0 (R32): the manager ring set uses the slice page layout at DEV + 0x008_0000 (R37). -/
def pf0Reg (off : Nat) : Option RegRef :=
  if 0x80000 ≤ off && off < 0x80800 then
    (findReg (· == .pf1) (off - 0x80000)).map (fun r => ⟨r.name, qpi managerRing r.index⟩)
  else findReg (fun sp => sp == .pf0 || sp == .both) off

/-- The register at an offset of PF1 BAR0 (R34, R73): queue pair blocks, and the mirrors of the slice's own status registers. -/
def pf1Reg (off : Nat) : Option RegRef :=
  let page := off / 0x4000
  let o := off % 0x4000
  if o < 0x800 then findReg (· == .pf1) off
  else if o < 0x828 then findReg (· == .pf0) (0x100000 + 0x100 * page + (o - 0x800))
  else none

/-- The register at an internal address (R35): the mirror of PF0 BAR0, the secure units, and the full view of GNT. -/
def internalReg (a : Nat) : Option RegRef :=
  if a ≤ 0x3FFFFFF then pf0Reg a
  else if 0x44000000 ≤ a && a ≤ 0x44FFFFFF then
    match findReg (· == .secure) a with
    | some r => some r
    | none => findReg (· == .both) (a - 0x44000000 + 0x800000)
  else findReg (· == .secure) a

/-- The state with something sent out. -/
def State.emit (s : State) (o : Out) : State := { s with out := o :: s.out }

end Sys2Proof.Machine
end

