-- ==== Sys2Proof/Machine/Units.lean ====
section
/-! DEFINITION. The replicated units and what they hold: roles, pauses of the rotation, jobs on cores, ports. Log entries of this file: DEDUCED 201. -/

namespace Sys2Proof.Machine

/-- Boot is complete: `DEV_BOOT_STATUS.phase` reads READY (R64). -/
def State.booted (s : State) : Bool := s.fget Fld.DEV_BOOT_STATUS_phase 0 == 7

/-- The role of a unit of a replicated kind: 0 command pair, 1 table pipeline, 2 bulk cluster, 3 public-key core (`DEV_ROTn`). -/
def roleFld : Nat → Fld
  | 0 => Fld.DEV_UNIT_CC_role
  | 1 => Fld.DEV_UNIT_TP_role
  | 2 => Fld.BLK_CLUSTER_MAP_role
  | _ => Fld.PKE_CORE_MAP_role

/-- Units of a kind (R407). -/
def unitCount : Nat → Nat
  | 0 => 8
  | 1 => 5
  | 2 => 16
  | _ => 72

/-- A unit's role: 0 active, 1 oasis, 2 fenced, 3 retired. -/
def State.role (s : State) (kind n : Nat) : Nat := s.fget (roleFld kind) n

/-- A unit of the kind is fenced. -/
def State.fencedKind (s : State) (kind : Nat) : Bool := (List.range (unitCount kind)).any (fun k => s.role kind k == 2)

/-- Visits of a kind are paused by a fence, by an activation, or for want of a pipeline (R410, R413). -/
def State.visitsPaused (s : State) (kind : Nat) : Bool :=
  s.fencedKind kind || (kind == 0 && s.fw.act.isSome) || (kind == 1 && (List.range 5).any (fun n => s.role 1 n == 3))

/-- No visit of a kind begins: boot has not reached READY, or visits are paused (R410, R413). -/
def State.rotPaused (s : State) (kind : Nat) : Bool := !s.booted || s.visitsPaused kind

/-- A job is in a context of a core: main, suspended or verify (R163). -/
def JobAt.inContext (a : JobAt) (n : Nat) : Bool :=
  match a with
  | .main c => c == n
  | .suspended c => c == n
  | .verifying _ c => c == n
  | _ => false

/-- A core holds a job, in a context or as its waiting descriptor (R163). -/
def JobAt.onCore (a : JobAt) (n : Nat) : Bool := a == .assigned n || a.inContext n

/-- A context of a core holds a job (`PKE_CORE_MAP.busy`). -/
def State.coreBusy (s : State) (n : Nat) : Bool := s.pke.jobs.any (fun _ j => j.at_.inContext n)

/-- Entries of a cluster's register file that hold a key (`BLK_CLUSTER_MAPn.resident`). -/
def State.resident (s : State) (n : Nat) : Nat := s.blk.files.count (fun k e => k / 64 == n && e.loaded)

/-! SB, 16 MiB, is shared by its uses in fixed parts (R25). -/

/-- Octets of SB. -/
def sbSize : Nat := 16777216

/-- Words of the workspace region, 4 MiB (R189). -/
def workspaceWords : Nat := 524288

/-- Octets of the meter region, 1.25 MiB: 64 for each slice, and the held records (R440, R446). -/
def meterRegion : Nat := 1310720

/-- Octets of the hold pool, 2 MiB (R231). -/
def poolSize : Nat := 2097152

/-- Octets of the staging of a port-direction, 1.5 MiB (R271). -/
def stagingSize : Nat := 1572864

/-- Words of the workspace region in use. -/
def State.wsWords (s : State) : Nat := s.pke.spaces.sum (fun _ x => x.w * x.c)

/-- The ports of a port mode (R244). -/
def State.ports (s : State) : Nat := 2 ^ (s.fget Fld.TBL_INL_PD_mode 0 + 1)

/-- The packet has started: a stop sequence lets it run to its normal completion (R41). -/
def PktPhase.started : PktPhase → Bool
  | .running => true
  | .cluster => true
  | .waiting => true
  | _ => false

/-- Units of a kind with a role that passes a test. -/
def State.unitsWith (s : State) (kind : Nat) (p : Nat → Bool) : Nat :=
  ((List.range (unitCount kind)).filter (fun n => p (s.role kind n))).length

/-- Jobs of a kind that are accepted and not started (`PKE_PENDING`). -/
def State.jobsWaiting (s : State) (p : JobKind → Bool) : Nat :=
  s.pke.jobs.count (fun _ j => p j.kind && match j.at_ with | .hashing => true | .pending => !j.retried | .assigned _ => !j.retried | _ => false)

/-- A frame that a table pipeline is to finish has left its cluster, or passed it by (`DEV_UNIT_TPn.busy`, R248). -/
def State.pipelineBusy (s : State) (n : Nat) : Bool :=
  s.tbl.frames.any (fun _ f => f.at_ != .cluster &&
    match f.pipe with
    | some k => k == n
    | none => let pd := s.fget Fld.DEV_UNIT_TP_pd n; pd == 5 || pd == (if s.ports / 2 ≤ f.port then 3 else 4))

end Sys2Proof.Machine
end

