-- ==== Sys2Proof/Machine/RegView.lean ====
section
/-! DEFINITION. What a register reads: the stored content, with the fields that the device derives from its other state. Log entries of this file: DEDUCED 201; DESIGN CHOICE 13, 28, 259. -/

namespace Sys2Proof.Machine

/-- Unflushed entries of the recorder (`REC_STATUS.unflushed`), at most the 4,096 that the buffer holds. -/
def State.unflushed (s : State) : Nat := min (s.rcd.newest - s.rcd.flushed) 4096

/-- The queue pairs of a slice that run, one bit each (`SLC_STATE.qp_running`). -/
def State.qpRunning (s : State) (slice : Nat) : Nat :=
  (List.range 8).foldl (fun a q => a + b2n (s.flag Fld.CMD_QP_STATUS_running (qpi slice q)) <<< q) 0

/-- MPU entries with `lock` set (`MPU_STATUS.locked`). -/
def State.mpuLocked (s : State) : Nat :=
  ((List.range 64).filter (fun n => s.flag Fld.MPU_CTRL_lock n)).length

/-- The octets of an access supervisor record (R331). -/
def AsvRec.encode (r : AsvRec) : Bytes :=
  natLE 8 r.time ++ natLE 8 r.addr ++ natLE 1 r.island ++ natLE 1 r.source ++ natLE 1 r.access ++
  natLE 1 r.reason ++ natLE 4 (match r.pasid with | some p => 2 ^ 31 + p % 2 ^ 20 | none => 0) ++
  natLE 2 r.page ++ natLE 2 r.repeats ++ zeros 4

/-- A register value with one field set to a derived number. -/
def put (f : Fld) (v : Nat) (w : Word) : Word := wordSet w f.hi f.lo v

/-- What a read of a register returns. -/
def State.readReg (s : State) (r : RegName) (i : Nat) : Word :=
  let w := s.reg r i
  match r with
  | .REC_STATUS => put Fld.REC_STATUS_unflushed s.unflushed w
  | .REC_WRITTEN => BitVec.ofNat 64 (s.rcd.newest % 2 ^ 32)
  | .REC_CTRL => put Fld.REC_CTRL_soft 0 w
  | .SLC_STATE => put Fld.SLC_STATE_qp_running (s.qpRunning i) w
  | .MPU_STATUS => put Fld.MPU_STATUS_locked s.mpuLocked w
  | .WLD_ASV_STATUS => put Fld.WLD_ASV_STATUS_level s.wld.asv.length w
  | .WLD_ASV_REC =>
    match s.wld.asv with
    | a :: _ => BitVec.ofNat 64 (field a.encode (4 * i) 4)
    | [] => 0
  | .RNG_WINDOW =>
    put Fld.RNG_WINDOW_fails (min 4 (s.rng.fails.filter (fun t => decide (s.now ≤ t + 10000000000))).length) w
  | .RNG_RAW_LEVEL => put Fld.RNG_RAW_LEVEL_level s.rng.fifo.length w
  | .GNT_OPSEC => BitVec.ofNat 64 (s.gnt.kaNs / 1000000000 % 2 ^ 40)
  | .GNT_STAGE => put Fld.GNT_STAGE_level s.gnt.staged.length w
  | .GNT_EV_COUNT =>
    let n := s.gnt.log.cells.length
    put Fld.GNT_EV_COUNT_full (b2n (decide (4096 ≤ n)))
      (put Fld.GNT_EV_COUNT_general_full (b2n (decide (4032 ≤ n))) (put Fld.GNT_EV_COUNT_next n w))
  | .DEV_PWR_STATE =>
    put Fld.DEV_PWR_STATE_pwr (s.fget Fld.WLD_ISLAND_pwr i)
      (put Fld.DEV_PWR_STATE_deferred (s.fget Fld.WLD_ISLAND_deferred i)
        (put Fld.DEV_PWR_STATE_world (s.fget Fld.WLD_ISLAND_world i) w))
  | .PKE_CORE_MAP => put Fld.PKE_CORE_MAP_busy (b2n (s.coreBusy i)) w
  | .PKE_SUMMARY => put Fld.PKE_SUMMARY_active (s.unitsWith 3 (· == 0)) (put Fld.PKE_SUMMARY_fenced (s.unitsWith 3 (2 ≤ ·)) w)
  | .PKE_PENDING =>
    put Fld.PKE_PENDING_c (min 0xFFFF (s.jobsWaiting (· == .c)))
      (put Fld.PKE_PENDING_m (min 0xFFFF (s.jobsWaiting (fun k => k == .m || k == .ws))) w)
  | .PKE_WS_FREE => put Fld.PKE_WS_FREE_words (workspaceWords - s.wsWords) w
  | .BLK_CLUSTER_MAP =>
    put Fld.BLK_CLUSTER_MAP_resident (s.resident i)
      (put Fld.BLK_CLUSTER_MAP_busy (b2n (s.blk.jobs.any (fun _ j => j.cluster == some i))) w)
  | .BLK_SUMMARY => put Fld.BLK_SUMMARY_active (s.unitsWith 2 (· == 0)) (put Fld.BLK_SUMMARY_fenced (s.unitsWith 2 (2 ≤ ·)) w)
  | .TBL_FC_STATUS => put Fld.TBL_FC_STATUS_stash (s.tbl.stash.count (fun k _ => k / 64 == i)) w
  | .TBL_FC_OCC => put Fld.TBL_FC_OCC_entries (s.tbl.bank.count (fun k _ => k / 524288 == i)) w
  | .TBL_IDX_USED => put Fld.TBL_IDX_USED_entries s.tbl.idx.cells.length w
  | .TBL_POL_USED => put Fld.TBL_POL_USED_entries s.tbl.pols.cells.length w
  | .DEV_LC_STATE => BitVec.ofNat 64 ((s.reg .LC_STATE 0).toNat % 2 ^ 10)
  | .DEV_PART => put Fld.DEV_PART_rev Config.revision.toNat w
  | .HLU_IDENT => put Fld.HLU_IDENT_vendor Config.vendorId.toNat w
  | .DEV_UNIT_CC => put Fld.DEV_UNIT_CC_busy (b2n (s.cmd.packets.any (fun _ p => p.pair == i && p.phase.started))) w
  | .DEV_UNIT_TP => put Fld.DEV_UNIT_TP_busy (b2n (s.pipelineBusy i)) w
  | .DEV_ROT =>
    put Fld.DEV_ROT_paused (b2n (s.visitsPaused i)) (put Fld.DEV_ROT_nospare (b2n (decide (1 ≤ s.unitsWith i (· == 3)))) w)
  | .DEV_FW_STATUS =>
    put Fld.DEV_FW_STATUS_switched (match s.fw.act with | some a => a.switched.length | none => 0)
      (put Fld.DEV_FW_STATUS_phase (match s.fw.act with | some a => a.phase | none => 0)
        (put Fld.DEV_FW_STATUS_cus_staged (s.fget Fld.KS_SUCC_CTRL_valid 0) w))
  | .XSP_STATUS => put Fld.XSP_STATUS_busy (s.fget Fld.REC_CTRL_flush 0) w
  | .MPU_BASE =>
    let sz := s.fget Fld.MPU_CTRL_size_log2 i
    if 12 ≤ sz && sz ≤ 40 then BitVec.ofNat 64 (w.toNat / 2 ^ sz * 2 ^ sz) else w
  | .NET_PORT_STATUS => if i < s.ports then w else 0
  | .NET_FEC_CORR => if i < s.ports then w else 0
  | .NET_FEC_UNCORR => if i < s.ports then w else 0
  | .NET_FCS_ERR => if i < s.ports then w else 0
  | .NET_SIZE_ERR => if i < s.ports then w else 0
  | .NET_MACCTL => if i < s.ports then w else 0
  | _ => w

/-- 32 bits of the evidence record window at an octet of it (R399). -/
def State.evidenceWord (s : State) (off : Nat) : Nat := field (s.gnt.log.getD (off / 32) []) (off % 32 / 4 * 4) 4

/-- The world that may access a register: 0 secure, 1 open (R5, R320, R321). -/
def State.worldOf (s : State) (r : RegRef) : Option Nat :=
  match r.name.loc.world with
  | .openW => none
  | .both => none
  | .secureW => some 0
  | .cs1 => some (s.fget Fld.WLD_PER_cs1 0)
  | .lane => some (s.fget Fld.WLD_ISLAND_world (0x10 + r.index / 4))

/-- 32 bits of the recorder's buffer window at an octet of it (R434): a secure entry reads zero but in the secure world. -/
def State.recorderWord (s : State) (secure : Bool) (off : Nat) : Nat :=
  let e := s.rcd.entries.getD (off / 64) []
  if field e 5 1 % 2 == 1 && !secure then 0 else field e (off % 64 / 4 * 4) 4

/-- 32 bits of CS1 at an octet of it (R436, R466): the header of the recorder region, then its entries; zero beyond the device. -/
def State.cs1Word (s : State) (a : Nat) : Nat :=
  if 2 ^ s.fget Fld.XSP_STATUS_cs1_log2 0 ≤ a then 0
  else if a < 4 then 1
  else if a < 8 then s.fget Fld.REC_NV_NEXT_next 0
  else if a < 0x1000 then 0
  else field (s.rcd.region.getD ((a - 0x1000) / 64) []) ((a - 0x1000) % 64 / 4 * 4) 4

/-- 32 bits of the CS1 window at an octet of it (`XSP_CS1_WIN`). -/
def State.cs1Window (s : State) (off : Nat) : Nat := s.cs1Word (s.fget Fld.XSP_CS1_WIN_page 0 * 0x80000 + off)

/-- 32 bits of a window of PF0 BAR0 that is no register: the evidence records, the recorder's buffer, and CS1 (R399, R434, R466). -/
def State.windowWord (s : State) (secure : Bool) (off : Nat) : Option Nat :=
  if 0x810000 ≤ off && off < 0x830000 then some (s.evidenceWord (off - 0x810000))
  else if 0x680000 ≤ off && off < 0x6C0000 then some (s.recorderWord secure (off - 0x680000))
  else if 0xA80000 ≤ off && off < 0xB00000 then some (s.cs1Window (off - 0xA80000))
  else none

/-- A read of 32 bits at an offset of PF0 BAR0 in the open world: a window's word, a register's low or high half, zero elsewhere (R33) and for what belongs to the secure world (R5). -/
def State.readPf0 (s : State) (off : Nat) : Nat :=
  if 0xA80000 ≤ off && off < 0xB00000 && s.fget Fld.WLD_PER_cs1 0 == 0 then 0
  else
  match s.windowWord false off with
  | some v => v
  | none =>
  match pf0Reg off with
  | some r =>
    if s.worldOf r == some 0 then 0
    else bits ((s.readReg r.name r.index).toNat >>> (8 * (off % r.name.loc.bytes / 4 * 4))) 31 0
  | none => 0

/-- A read of 32 bits at an offset of PF1 BAR0 by the PASID bound to the page (R34, R73). -/
def State.readPf1 (s : State) (off : Nat) : Nat :=
  if off % 0x4000 == 0x900 then bits (s.readReg .SLC_DLOG_CTRL (off / 0x4000)).toNat 2 0
  else
    match pf1Reg off with
    | some r => bits ((s.readReg r.name r.index).toNat >>> (8 * (off % r.name.loc.bytes / 4 * 4))) 31 0
    | none => 0

end Sys2Proof.Machine
end

