-- ==== Sys2Proof/Machine/Record.lean ====
section
/-! DEFINITION. The event recorder (R429 to R436) and the performance counters (R438). Log entries of this file: DEDUCED 254; DESIGN CHOICE 3, 51, 94. -/

namespace Sys2Proof.Machine

/-- The counters that count an event (R438). -/
def State.countersOf (s : State) (ev : Nat) : List Nat :=
  (List.range 256).filter (fun n => s.flag Fld.PMC_SEL_en n && s.fget Fld.PMC_SEL_event n == ev)

/-- One counter advances by `n`, wrapping at 2^48 and setting its bit in `PMC_OVF` (R438). -/
def State.pmcAdd (s : State) (c n : Nat) : State :=
  let v := s.fget Fld.PMC_CNT_value c + n
  let s := s.fset Fld.PMC_CNT_value c (v % 2 ^ 48)
  if v < 2 ^ 48 then s
  else s.fset Fld.PMC_OVF_ovf (c / 32) (s.fget Fld.PMC_OVF_ovf (c / 32) ||| 1 <<< (c % 32))

/-- An event of the performance monitor happens `n` times (R438). -/
def State.pmc (s : State) (ev n : Nat) : State :=
  (s.countersOf ev).foldl (fun s c => s.pmcAdd c n) s

/-- What an event of the performance monitor that counts microseconds adds in `us` of them: device time, and the public-key cores that hold a job (R438). -/
def State.timeEvent (s : State) (ev us : Nat) : Nat :=
  if ev = 1 then us
  else if 0x040 ≤ ev && ev ≤ 0x087 && s.pke.jobs.any (fun _ j => j.at_.inContext (ev - 0x040)) then us else 0

/-- One counter over `us` microseconds. -/
def State.timeCounter (us : Nat) (s : State) (c : Nat) : State :=
  if s.flag Fld.PMC_SEL_en c then
    let n := s.timeEvent (s.fget Fld.PMC_SEL_event c) us
    if n = 0 then s else s.pmcAdd c n
  else s

/-- Device time advances by `dt` ns, and KA's operating time with it while KA has a supply; the counters that count microseconds count those that complete (R438). -/
def State.tick (s : State) (dt : Nat) : State :=
  let us := (s.now + dt) / 1000 - s.now / 1000
  let t := { s with now := s.now + dt, gnt := { s.gnt with kaNs := if s.gnt.ka then s.gnt.kaNs + dt else s.gnt.kaNs } }
  if us = 0 then t else (List.range 256).foldl (State.timeCounter us) t

/-- The event codes that make secure entries (R429). -/
def eventSecure (c : Nat) : Bool := [0x18, 0x20, 0x21, 0x22, 0x23, 0x28].contains c

/-- The event codes that R429 assigns. -/
def eventAssigned (c : Nat) : Bool :=
  [0x00, 0x01, 0x10, 0x18, 0x20, 0x21, 0x22, 0x23, 0x28, 0x30, 0x31, 0x32, 0x33, 0x34, 0x38, 0x39, 0x40, 0x48,
   0x58, 0x59, 0x5A, 0x60, 0xF0].contains c

/-- The `seq` of the entry with ordinal `n` (R431). -/
def entrySeq (n : Nat) : Nat := (n - 1) % 65535 + 1

/-- A head entry (R431). -/
def headEntry (ord code island flags rep time detail : Nat) (snap : List Nat) : Bytes :=
  natLE 2 (entrySeq ord) ++ natLE 2 code ++ natLE 1 island ++ natLE 1 flags ++ natLE 2 rep ++
  natLE 8 time ++ natLE 8 detail ++ natLE 1 snap.length ++ zeros 3 ++
  fitLen 32 ((snap.take 8).flatMap (natLE 4)) ++ zeros 2 ++ natLE 2 (entrySeq ord)

/-- A continuation entry, with snapshot values 8 to 15 (R431). -/
def contEntry (ord code island flags : Nat) (snap : List Nat) : Bytes :=
  natLE 2 (entrySeq ord) ++ natLE 2 code ++ natLE 1 island ++ natLE 1 flags ++ zeros 2 ++
  fitLen 32 ((snap.drop 8).flatMap (natLE 4)) ++ zeros 22 ++ natLE 2 (entrySeq ord)

/-- The snapshot values of a set: the valid slots in slot order, read as open-world reads (R430). -/
def State.snapshot (s : State) (set : Nat) : List Nat :=
  ((List.range 16).map (16 * set + ·)).filterMap (fun k =>
    if s.flag Fld.REC_SNAP_valid k then some (s.readPf0 (4 * s.fget Fld.REC_SNAP_offset k)) else none)

/-- An entry takes the next ordinal and its index in the circle (R431). -/
def Recorder.push (r : Recorder) (e : Nat → Bytes) : Recorder :=
  { r with entries := r.entries.insert (r.newest % 4096) (e (r.newest + 1)), newest := r.newest + 1 }

/-- The repeat rule of R432 applies: the newest record has one entry, is not flushed, and has the same code, island and detail. -/
def Recorder.repeats (r : Recorder) (code island detail : Nat) : Bool :=
  match r.entries.get? ((r.newest - 1) % 4096) with
  | some e => decide (1 ≤ r.newest) && r.lastLen == 1 && decide (r.flushed < r.newest) &&
      field e 2 2 == code && field e 4 1 == island && field e 16 8 == detail
  | none => false

/-- The newest entry rewritten with its repeat count advanced, at the next ordinal; its old index reads as zeros (R432). -/
def Recorder.again (r : Recorder) : Recorder :=
  let old := (r.newest - 1) % 4096
  let e := r.entries.getD old []
  let seq := natLE 2 (entrySeq (r.newest + 1))
  let rep := natLE 2 (min (field e 6 2 + 1) 0xFFFF)
  let e' := seq ++ slice e 2 4 ++ rep ++ slice e 8 54 ++ seq
  { r with entries := (r.entries.erase old).insert (r.newest % 4096) e', newest := r.newest + 1 }

/-- The code makes records: it is enabled or fixed, and recording has not stopped (R429, R436). -/
def State.records (s : State) (code : Nat) : Bool :=
  !s.flag Fld.REC_STATUS_stopped 0 && (s.flag Fld.REC_TRIG_en code || eventFixed code)

/-- A record of the code is made or repeated (R430 to R432). -/
def State.makeRecord (s : State) (code island detail : Nat) : State :=
  if s.rcd.repeats code island detail then { s with rcd := s.rcd.again }
  else
    let snap := if s.flag Fld.REC_TRIG_snap code then s.snapshot (s.fget Fld.REC_TRIG_set code) else []
    let sec := b2n (eventSecure code)
    if snap.length ≤ 8 then
      { s with rcd := { s.rcd.push (fun o => headEntry o code island sec 0 s.now detail snap) with lastLen := 1 } }
    else
      { s with rcd := { (s.rcd.push (fun o => headEntry o code island (sec + 2) 0 s.now detail snap)).push
        (fun o => contEntry o code island (sec + 2 + 4) snap) with lastLen := 2 } }

/-- A code whose record starts a flush (R435). -/
def State.startsFlush (s : State) (code : Nat) : Bool := s.flag Fld.REC_TRIG_flush code || eventFixed code

/-- An event is raised: the recorder makes a record of an enabled code, and a code whose flush bit is set begins a flush (R430, R435). -/
def State.event (s : State) (code island detail : Nat) : State :=
  if eventAssigned code && s.records code then
    let s := s.makeRecord code island detail
    if s.startsFlush code then s.fset Fld.REC_CTRL_flush 0 1 else s
  else s

/-- Entries that the recorder region holds when full (R436): `size` below 64 or above 16,384 acts as the nearer bound. -/
def State.regionCapacity (s : State) : Nat :=
  (max 64 (min (s.fget Fld.REC_NV_CFG_size 0) 16384) * 65536 - 4096) / 64

/-- A secure entry as it is copied while chip select 1 is open: every octet zeroed but `seq`, flag bit 0 and the copy of `seq` (R435). -/
def maskEntry (e : Bytes) : Bytes :=
  slice e 0 2 ++ zeros 3 ++ natLE 1 (field e 5 1 % 2) ++ zeros 56 ++ slice e 62 2

/-- One entry is copied to the region and `next` advances; an entry that is all zeros (a moved repeat) is copied as it stands. -/
def State.flushEntry (s : State) (ord : Nat) : State :=
  let e := s.rcd.entries.getD ((ord - 1) % 4096) (zeros 64)
  let e := if s.fget Fld.WLD_PER_cs1 0 == 1 && field e 5 1 % 2 == 1 then maskEntry e else e
  let next := s.fget Fld.REC_NV_NEXT_next 0
  { (s.fset Fld.REC_NV_NEXT_next 0 (next + 1)) with
    rcd := { s.rcd with region := s.rcd.region.insert next e, flushed := ord } }

/-- Entries are copied in ordinal order until none is left or the region is full; a full region stops recording (R436). -/
def State.flushLoop : Nat → State → State
  | 0, s => s
  | fuel + 1, s =>
    if s.regionCapacity ≤ s.fget Fld.REC_NV_NEXT_next 0 then s.fset Fld.REC_STATUS_stopped 0 1
    else if s.rcd.newest ≤ s.rcd.flushed then s
    else State.flushLoop fuel (s.flushEntry (max (s.rcd.flushed + 1) (s.rcd.newest - 4095)))

/-- A flush: every entry written since the previous flush is copied (R435). -/
def State.flush (s : State) : State :=
  (State.flushLoop 4097 s).fset Fld.REC_CTRL_flush 0 0

end Sys2Proof.Machine
end

