-- ==== Sys2Proof/Machine/Access.lean ====
section
/-! DEFINITION. Access control: the access supervisor (R330 to R332), the MPU (R328, R329), the worlds of registers (R5) and the slice pages (R34). Log entries of this file: DEDUCED 47, 147, 192, 205, 238; DESIGN CHOICE 49, 50, 51, 164. -/

namespace Sys2Proof.Machine

/-- The world-related state of a command pair. -/
def State.pairOf (s : State) (p : Nat) : PairWorld := s.wld.pairs.getD p PairWorld.reset

/-- A pair's world-related state replaced. -/
def State.setPair (s : State) (p : Nat) (w : PairWorld) : State :=
  { s with wld := { s.wld with pairs := s.wld.pairs.setD PairWorld.reset p w } }

/-- A pair number exists, and the pair is not retired, fenced or resting (`DEV_UNIT_CCn.role`). -/
def State.pairActive (s : State) (p : Nat) : Bool := decide (p < 8) && s.fget Fld.DEV_UNIT_CC_role p == 0

/-- The islands that a class 1 hold covers (`GNT_HOLD`, R389). -/
def State.islandHeld (s : State) (n : Nat) : Bool := bit (s.reg .GNT_HOLD 0).toNat n

/-- The RP may program OTP: main power, no power-fail warning, no hold on it (R350, R397, R400). -/
def State.rpPrograms (s : State) : Bool :=
  s.gnt.main && s.gnt.pfw.isNone && !s.islandHeld 0x01

/-- The world of an interrupt source: 0 secure, 1 open (R318). -/
def State.irqWorld (s : State) (n : Nat) : Nat :=
  if 0xA8 ≤ n && n ≤ 0xAF then bits (s.fget Fld.WLD_PER_tmr 0) (n - 0xA8) (n - 0xA8)
  else s.fget Fld.WLD_IRQ_world n

/-- The pair may take the source: named by its target mask, or the lowest-numbered active pair where the mask names no active one (R317). -/
def State.takesIrq (s : State) (n pair : Nat) : Bool :=
  let t := s.fget Fld.WLD_IRQ_targets n
  let named := (List.range 8).filter (fun p => bit t p && s.pairActive p)
  if named.isEmpty then (List.range 8).find? s.pairActive == some pair else named.contains pair

/-- An open interrupt waits on the pair that takes it while that pair runs in the secure world (R317). -/
def State.pendOpen (s : State) (n : Nat) : State :=
  match (List.range 8).find? (s.takesIrq n) with
  | some p =>
    let w := s.pairOf p
    if s.irqWorld n == 1 && !w.world then s.setPair p { w with irqPending := w.irqPending ++ [n] } else s
  | none => s

/-- An interrupt source is asserted (R317). -/
def State.raiseIrq (s : State) (n : Nat) : State :=
  if s.wld.irqs.contains n then s else { s with wld := { s.wld with irqs := n :: s.wld.irqs } }.pendOpen n

/-- The code of an access kind in a record (R331). -/
def accCode : AccKind → Nat
  | .read => 1 | .write => 2 | .fetch => 3

/-- A master that the fabric carries (R12, R331): an assigned island, or the debug port with island 0xFF. -/
def masterKnown (m : Master) : Bool := if m.source == 2 then m.island == 0xFF else islandAssigned m.island

/-- The PASID field of an access supervisor record carries the 20 bits of a PASID. -/
def asvOf (m : Master) (now addr : Nat) (k : AccKind) (reason page : Nat) : AsvRec :=
  ⟨now, addr, m.island, m.source, accCode k, reason, m.pasid, page, 0⟩

/-- Two records agree in master, source, address and reason (R331). -/
def AsvRec.same (a b : AsvRec) : Bool :=
  a.island == b.island && a.source == b.source && a.addr == b.addr && a.reason == b.reason

/-- The queue of the access supervisor after a record: repeated, queued, or full (R331). -/
def State.asvQueue (s : State) (r : AsvRec) : State :=
  match s.wld.asv.getLast? with
  | some n =>
    if n.same r then
      { s with wld := { s.wld with asv := s.wld.asv.dropLast ++ [{ n with repeats := min (n.repeats + 1) 0xFFFF }] } }
    else if s.wld.asv.length < 256 then
      ({ s with wld := { s.wld with asv := s.wld.asv ++ [r] } }).raiseIrq 0x10
    else s.bumpSat Fld.WLD_ASV_STATUS_lost 0 1
  | none => ({ s with wld := { s.wld with asv := [r] } }).raiseIrq 0x10

/-- The access supervisor dropped the record: the queue is full and the record repeats none (R331). -/
def State.asvDrops (s : State) (r : AsvRec) : Bool :=
  match s.wld.asv.getLast? with
  | some n => !n.same r && decide (256 ≤ s.wld.asv.length)
  | none => false

/-- The access supervisor makes a record, of a master that exists: it is queued, counted, and passed to the event recorder as a secure record of SYS (R331). -/
def State.report (s : State) (m : Master) (k : AccKind) (addr reason page : Nat) : State :=
  if !masterKnown m then s
  else
    let r := asvOf m s.now addr k reason page
    let t := s.asvQueue r
    let t := if s.asvDrops r then t else (t.bumpSat Fld.WLD_ASV_TOTAL_count 0 1).pmc 0x100 1
    t.event 0x18 0x06 addr

/-- A value of `SLC_STATE.state` (R69). -/
def State.sliceState (s : State) (slice : Nat) : Nat := s.fget Fld.SLC_STATE_state slice

/-- The page of a slice accepts an access that carries this PASID (R34, R69). -/
def State.pageOpen (s : State) (slice : Nat) (pasid : Option Nat) : Bool :=
  s.sliceState slice != 0 && s.flag Fld.SLC_PASID_valid slice &&
    pasid == some (s.fget Fld.SLC_PASID_pasid slice)

/-- The range of an MPU entry contains `len` octets from `a` on (R329). -/
def State.mpuCovers (s : State) (n a len : Nat) : Bool :=
  let sz := s.fget Fld.MPU_CTRL_size_log2 n
  let base := (s.reg .MPU_BASE n).toNat / 2 ^ sz * 2 ^ sz
  decide (12 ≤ sz) && decide (sz ≤ 40) && decide (base ≤ a) && decide (a + len ≤ base + 2 ^ sz)

/-- The deciding MPU entry of an access: the lowest-numbered enabled one of its world that contains it (R328). -/
def State.mpuEntry (s : State) (openW : Bool) (a len : Nat) : Option Nat :=
  (List.range 64).find? (fun n =>
    s.flag Fld.MPU_CTRL_en n && s.fget Fld.MPU_CTRL_world n == b2n openW && s.mpuCovers n a len)

/-- An MPU entry grants an access kind (R328). -/
def State.mpuGrants (s : State) (n : Nat) : AccKind → Bool
  | .read => s.flag Fld.MPU_CTRL_r n
  | .write => s.flag Fld.MPU_CTRL_w n
  | .fetch => s.flag Fld.MPU_CTRL_x n

/-- An internal address that the MPU governs (R328): local memory or host memory. -/
def mpuGoverned (a : Nat) : Bool :=
  (0x10000000 ≤ a && a ≤ 0x1005FFFF) || (0x100000000 ≤ a && a ≤ 0xFFFFFFFFFF)

/-- The violation that the MPU finds in an access, with the refusing entry: none where it permits (R328). -/
def State.mpuCheck (s : State) (openW : Bool) (k : AccKind) (a len : Nat) : Option (Nat × Nat) :=
  match s.mpuEntry openW a len with
  | none => some (0x02, 0xFFFF)
  | some n =>
    if !s.mpuGrants n k || (k == .fetch && decide (0x100000000 ≤ a)) then some (0x03, n) else none

/-- The world an access counts as: the secure world (source 0) and engines act as secure, all others as open; the debug port as secure only with `s_inv` (R336). -/
def State.masterOpen (s : State) (m : Master) : Bool :=
  match m.source with
  | 0 => false
  | 5 => false
  | 2 => !s.flag Fld.WLD_DBG_s_inv 0
  | _ => true

/-- The debug enables permit an access of a world: the invasive one any, the non-invasive one reads (R335). -/
def State.debugEnabled (s : State) (openW : Bool) (k : AccKind) : Bool :=
  if openW then s.flag Fld.WLD_DBG_o_inv 0 || (k != .write && s.flag Fld.WLD_DBG_o_nin 0)
  else s.flag Fld.WLD_DBG_s_inv 0 || (k != .write && s.flag Fld.WLD_DBG_s_nin 0)

/-- The reason that a debug access meets instead of reason 0x01 (R336). -/
def worldReason (m : Master) : Nat := if m.source == 2 then 0x08 else 0x01

/-- A master may reach what belongs to the secure world (R5, R336). -/
def State.secureAllows (s : State) (m : Master) (k : AccKind) : Bool :=
  if m.source == 2 then s.debugEnabled false k else !s.masterOpen m

/-- A register is accessible to the world of a master: headers name world O for registers that both worlds reach through the PF0 mirror (R35). -/
def State.worldAllows (s : State) (m : Master) (k : AccKind) (r : RegRef) : Bool :=
  match s.worldOf r with
  | none => m.source != 2 || s.debugEnabled true k || s.debugEnabled false k
  | some 0 => s.secureAllows m k
  | some _ => if m.source == 2 then s.debugEnabled true k else s.masterOpen m

/-- Outside READY the host reaches only the DEV and GNT windows of PF0 (R352, R359). -/
def State.windowClosed (s : State) (m : Master) (off : Nat) : Bool :=
  m.source == 3 && !s.booted && decide (0x100000 ≤ off) && !(decide (0x800000 ≤ off) && decide (off ≤ 0x8FFFFF))

/-- The violation that an access to PF0 BAR0 meets, if any (R33, R5, R434, R466). A closed window reads zero, and in SCRAP it behaves as unassigned (R352). -/
def State.pf0Check (s : State) (m : Master) (k : AccKind) (off : Nat) : Option (Nat × Nat) :=
  if s.windowClosed m off then (if s.fget Fld.DEV_BOOT_STATUS_phase 0 == 0xF then some (0x04, 0xFFFF) else none)
  else if 0x800000 ≤ off && off ≤ 0x8FFFFF && k == .write then some (0x07, 0xFFFF)
  else if 0x680000 ≤ off && off ≤ 0x6BFFFF then if k == .write then some (0x04, 0xFFFF) else none
  else if 0xA80000 ≤ off && off ≤ 0xAFFFFF then
    if k == .write then some (0x04, 0xFFFF)
    else if s.worldAllows m k ⟨.XSP_CS1_WIN, 0⟩ then none else some (worldReason m, 0xFFFF)
  else
    match pf0Reg off with
    | none => some (0x04, 0xFFFF)
    | some r => if s.worldAllows m k r then none else some (worldReason m, 0xFFFF)

/-- An offset of a slice page holds a doorbell (R37). -/
def isDoorbell (o : Nat) : Bool := o < 0x800 && (o % 0x100 == 0x20 || o % 0x100 == 0x28)

/-- The violation that an access to PF1 BAR0 meets, if any (R34, R73, R33). -/
def State.pf1Check (s : State) (m : Master) (k : AccKind) (off : Nat) : Option (Nat × Nat) :=
  let page := off / 0x4000
  let o := off % 0x4000
  if !s.pageOpen page m.pasid then
    some (if isDoorbell o && k == .write then 0x06 else 0x05, page)
  else if o < 0x800 && 0x30 ≤ o % 0x100 then some (0x04, page)
  else none

/-- The pair that a debug access to memory is made for: the halted one. -/
def State.haltedPair (s : State) : Option Nat :=
  (List.range 8).find? (fun p => match s.wld.pairs.get? p with | some w => w.halted | none => false)

/-- The world in which the MPU checks an access to memory: the master's, or that of the halted pair for the debug port (R328, R336). -/
def State.memoryOpen (s : State) (m : Master) : Bool :=
  match m.source, s.haltedPair with
  | 2, some p => match s.wld.pairs.get? p with | some w => w.world | none => true
  | _, _ => s.masterOpen m

/-- The violation that an access to the internal address space meets, if any (R35, R328, R5). -/
def State.internalCheck (s : State) (m : Master) (k : AccKind) (a len : Nat) : Option (Nat × Nat) :=
  if mpuGoverned a then
    if m.source == 2 && !s.debugEnabled (s.memoryOpen m) k then some (0x08, 0xFFFF) else s.mpuCheck (s.memoryOpen m) k a len
  else if a ≤ 0x3FFFFFF then s.pf0Check m k a
  else if 0x40000000 ≤ a && a ≤ 0x45FFFFFF || 0x50000000 ≤ a && a ≤ 0x5047FFFF then
    if !s.secureAllows m k then some (worldReason m, 0xFFFF)
    else if 0x50000000 ≤ a && (a % 0x10000 ≥ 0x1000 || s.coreBusy ((a - 0x50000000) / 0x10000)) then none
    else if (internalReg a).isNone then some (0x04, 0xFFFF) else none
  else some (0x04, 0xFFFF)

/-- The violation that an access meets, with its reason and the slice page or MPU entry of its record; none where the access is permitted (R330, R331). -/
def State.accessCheck (s : State) (m : Master) (k : AccKind) (sp : AddrSpace) (a len : Nat) : Option (Nat × Nat) :=
  match sp with
  | .pf0 => s.pf0Check m k a
  | .pf1 => s.pf1Check m k a
  | .internal => s.internalCheck m k a len

end Sys2Proof.Machine
end

