-- ==== Sys2Proof/Machine/Packets.lean ====
section
/-! DEFINITION. Command packets: the fields of an entry, output writes with the dirty-page log, completions with their interrupts, meters and caravans (R37 to R68, R85 to R89, R440). Log entries of this file: DEDUCED 53, 54, 61, 257; DESIGN CHOICE 9, 217, 245. -/

namespace Sys2Proof.Machine

namespace Packet

def opcode (p : Packet) : Nat := field p.entry 0x00 2
def flags (p : Packet) : Nat := field p.entry 0x02 2
def tag (p : Packet) : Nat := field p.entry 0x04 4
def khandle0 (p : Packet) : Nat := field p.entry 0x08 8
def khandle1 (p : Packet) : Nat := field p.entry 0x10 8
def params (p : Packet) : Bytes := slice p.entry 0x18 16
def inAddr (p : Packet) : Nat := field p.entry 0x28 8
def outAddr (p : Packet) : Nat := field p.entry 0x30 8
def inLen (p : Packet) : Nat := field p.entry 0x38 4
def outLen (p : Packet) : Nat := field p.entry 0x3C 4
/-- Inline parameter bytes p[a] to p[b], little-endian (R67). -/
def par (p : Packet) (a b : Nat) : Nat := field p.params a (b + 1 - a)
def chain (p : Packet) : Bool := bit p.flags 0
def pind (p : Packet) : Bool := bit p.flags 1
def prevkey (p : Packet) : Bool := bit p.flags 2
def fence (p : Packet) : Bool := bit p.flags 3
/-- The packet came from the manager ring set. -/
def manager (p : Packet) : Bool := p.ring == managerRing

end Packet

/-- The time class that a completion reports (R50). -/
inductive TimeClass where
  | none | m | c
deriving DecidableEq, Repr

def TimeClass.code : TimeClass → Nat
  | .none => 0 | .m => 1 | .c => 2

/-- What a completion says (R50), with the energy coefficient of its work in nJ (R440). -/
structure Compl where
  status : Status
  tclass : TimeClass
  release : Nat
  len : Nat
  unit_ : Nat
  amount : Nat
  result : Nat
  energy : Nat
deriving DecidableEq, Repr

/-- A completion without output, charge or result (R52). Its time-class bits are 0: for a packet of class M or C that completes before it starts the spec gives none (DESIGN CHOICE 245). -/
def Compl.plain (st : Status) (release : Nat) : Compl := ⟨st, .none, release, 0, 0, 0, 0, 0⟩

/-- A DONE completion of time class none, with a charge in MU (none where the amount is zero). -/
def Compl.done (release len mu result : Nat) : Compl :=
  ⟨.done, .none, release, len, if mu = 0 then 0 else 1, mu, result, 0⟩

/-- The PASID under which the device writes for a ring: the slice's, or none for the manager (R37). -/
def State.ringPasid (s : State) (ring : Nat) : Option Nat :=
  if ring = managerRing then none else some (s.fget Fld.SLC_PASID_pasid ring)

/-- The buffer that takes the log bits of new writes: the active one, or the other while a flip is under way (R88). -/
def State.dlogBuffer (s : State) (slice : Nat) : Nat :=
  let b := (s.fget Fld.SLC_DLOG_CTRL_active slice + s.fget Fld.SLC_DLOG_CTRL_flip slice) % 2
  if b = 0 then (s.reg .SLC_DLOG_BUF0 slice).toNat else (s.reg .SLC_DLOG_BUF1 slice).toNat

/-- One 4 KiB page of a logged write: its bitmap bit, or the sticky `outside` (R86). -/
def State.dlogPage (s : State) (slice addr : Nat) : State :=
  let base := s.fget Fld.SLC_DLOG_WIN_win_base slice * 2 ^ 21
  let size := 2 ^ s.fget Fld.SLC_DLOG_WIN_win_log2 slice
  if base ≤ addr && addr < base + size then
    let i := (addr - base) / 4096
    let m := s.slc.marked.getD slice []
    if m.contains i then s
    else
      let s := { s with slc := { s.slc with marked := s.slc.marked.insert slice (i :: m) } }
      let s := s.emit (.dirtyBit (s.dlogBuffer slice + i / 8) (i % 8))
      if s.flag Fld.SLC_DLOG_CTRL_flip slice then s else s.bumpSat Fld.SLC_DLOG_PAGES_count slice 1
  else s.fset Fld.SLC_DLOG_CTRL_outside slice 1

/-- The dirty bits of a write of `len` octets at `addr` under a slice's PASID, each page in turn (R85 to R87). -/
def State.dlog (s : State) (ring addr len : Nat) : State :=
  if ring ≠ managerRing && s.flag Fld.SLC_DLOG_CTRL_enable ring && 0 < len then
    (List.range ((addr + len - 1) / 4096 - addr / 4096 + 1)).foldl
      (fun s k => s.dlogPage ring ((addr / 4096 + k) * 4096 ⊔ addr)) s
  else s

/-- A write of the device to host memory for a ring: dirty bits first, then the data (R87). -/
def State.hostWrite (s : State) (ring addr : Nat) (data : Bytes) : State :=
  if data.isEmpty then s
  else ((s.dlog ring addr data.length).pmc 0x0F1 data.length).emit (.hostWrite (s.ringPasid ring) addr data)

/-- Output octets written over the ranges of a descriptor, in order. -/
def State.writeRanges (s : State) (ring : Nat) : List (Nat × Nat) → Bytes → State
  | [], _ => s
  | (a, n) :: rs, data => State.writeRanges (s.hostWrite ring a (data.take n)) ring rs (data.drop n)

/-- The ranges of an output descriptor: the single range, or the elements of the scatter list (R44, R47). -/
def Packet.outRanges (p : Packet) : List (Nat × Nat) :=
  if bit p.outLen 31 then p.data.outList.map (fun e => (e.1, e.2.1)) else [(p.outAddr, bits p.outLen 30 0)]

/-- The output of a packet is written (nothing where its host writes are discarded, R357). -/
def State.writeOut (s : State) (p : Packet) (data : Bytes) : State :=
  if p.discard then s else s.writeRanges p.ring p.outRanges data

/-- Ranges without their first `n` octets. -/
def rangesFrom : List (Nat × Nat) → Nat → List (Nat × Nat)
  | [], _ => []
  | (a, l) :: r, n => if l ≤ n then rangesFrom r (n - l) else (a + n, l - n) :: r

/-- Part of a packet's output is written from an octet of it on (R231). -/
def State.writePart (s : State) (p : Packet) (off : Nat) (data : Bytes) : State :=
  if p.discard then s else s.writeRanges p.ring (rangesFrom p.outRanges off) data

/-- The host refuses a write of the packet's output before its end: how many octets it took (R49). -/
def Packet.refusesOut (p : Packet) (out : Bytes) : Option Nat := p.data.outFail.filter (fun n => decide (n < out.length))

/-- An output whose write the host refused after `n` octets: those are written, then overwritten with zeros (R49). -/
def State.writeRefused (s : State) (p : Packet) (out : Bytes) (n : Nat) : State :=
  (s.writeOut p (out.take n)).writeOut p (zeros n)

/-- The 32 octets of a completion entry (R50). -/
def complEntry (tag phase sqHead : Nat) (c : Compl) : Bytes :=
  natLE 4 tag ++ natLE 1 c.status.code ++ natLE 1 (phase * 128 + c.tclass.code) ++ natLE 2 sqHead ++
  natLE 4 c.len ++ natLE 4 (c.unit_ * 2 ^ 30 + c.amount % 2 ^ 30) ++ natLE 8 c.release ++ natLE 8 c.result

/-- An MSI-X message is sent. -/
def State.sendMsix (s : State) (fn vec : Nat) : State := (s.pmc 0x0F2 1).emit (.msix fn vec)

/-- A cause of the manager's device interrupt: a message is sent when its bit becomes 1 under the mask (R378). Causes: 0 boot, 1 fallback, 2 mode, 3 config, 4 table, 5 gauntlet. -/
def State.deviceCause (s : State) (n : Nat) : State :=
  let w := (s.reg .DEV_IRQ_CAUSE 0).toNat
  if w.testBit n then s
  else
    let s := s.setReg .DEV_IRQ_CAUSE 0 (BitVec.ofNat 64 (w ||| 1 <<< n))
    if (s.fget Fld.DEV_IRQ_MASK_mask 0).testBit n then s.sendMsix 0 (s.fget Fld.DEV_IRQ_VEC_vec 0) else s

/-- The message of a queue pair's unsignalled completions is sent. -/
def State.sendQpIrq (s : State) (ring q : Nat) : State :=
  let i := qpi ring q
  ({ s with cmd := { s.cmd with irq := s.cmd.irq.erase i } }).sendMsix
    (if ring = managerRing then 0 else 1) (s.fget Fld.CMD_QP_IRQ_vec i)

/-- A completion counts towards its queue pair's interrupt (`CMD_QP_IRQ`). -/
def State.countIrq (s : State) (ring q : Nat) : State :=
  let i := qpi ring q
  if s.flag Fld.CMD_QP_IRQ_ien i then
    let w := s.cmd.irq.getD i ⟨0, s.now⟩
    if max 1 (s.fget Fld.CMD_QP_IRQ_count i) ≤ w.count + 1 then s.sendQpIrq ring q
    else { s with cmd := { s.cmd with irq := s.cmd.irq.insert i ⟨w.count + 1, w.since⟩ } }
  else s

/-- The CQ tail after an entry: it wraps at the depth, and the phase inverts at the wrap (R51). -/
def State.advanceCq (s : State) (i : Nat) : State :=
  let depth := 2 ^ s.fget Fld.CMD_QP_SIZE_cq_log2 i
  let t := s.fget Fld.CMD_CQ_TAIL_tail i + 1
  if t < depth then s.fset Fld.CMD_CQ_TAIL_tail i t
  else (s.fset Fld.CMD_CQ_TAIL_tail i 0).fset Fld.CMD_CQ_TAIL_phase i (1 - s.fget Fld.CMD_CQ_TAIL_phase i)

/-- The completion entry is written at the CQ tail, with its dirty bits (R51, R87), and counted for the interrupt. -/
def State.writeCompletion (s : State) (p : Packet) (c : Compl) : State :=
  let i := qpi p.ring p.qp
  let e := complEntry p.tag (s.fget Fld.CMD_CQ_TAIL_phase i) (s.fget Fld.CMD_SQ_HEAD_head i) c
  let t := s.fget Fld.CMD_CQ_TAIL_tail i
  let s := s.hostWrite p.ring ((s.reg .CMD_CQ_BASE i).toNat + 32 * t) e
  let s := s.emit (.completion p.ring p.qp t e)
  (s.advanceCq i).countIrq p.ring p.qp

/-- What a completion adds to the meter sums of its slice (R440): charge by unit, status counts, energy. -/
def MeterSums.add (a : MeterSums) (c : Compl) : MeterSums :=
  { a with
    mu := a.mu + (if c.unit_ = 1 then c.amount else 0)
    blocks := a.blocks + (if c.unit_ = 2 then c.amount else 0)
    done := a.done + b2n (c.status == .done)
    rejected := a.rejected + b2n (c.status == .rejected)
    authFailed := a.authFailed + b2n (c.status == .authFailed)
    other := a.other + b2n (c.status != .done && c.status != .rejected && c.status != .authFailed)
    energy := a.energy + c.energy }

/-- Something is counted now, whose own time is `t` (R440): what falls on this very moment belongs to the interval that a tick now begins (R447). -/
def MeterAcc.count (a : MeterAcc) (now t : Nat) (f : MeterSums → MeterSums) : MeterAcc :=
  let base := if a.at_ = now then a.base else a.sums
  { a with sums := f a.sums, at_ := now, base := if t = now then base else f base }

/-- A completion is metered: in the open interval of a slice that has one (R440, R441). -/
def State.meter (s : State) (ring : Nat) (c : Compl) : State :=
  match s.met.accs.get? ring with
  | some a =>
    if a.start ≤ c.release then { s with met := { s.met with accs := s.met.accs.insert ring (a.count s.now c.release (·.add c)) } } else s
  | none => s

/-- One completion is posted and its packet leaves the device (R50, R53, R357). -/
def State.postOne (s : State) (pid : Nat) (p : Packet) (c : Compl) : State :=
  let s := { s with cmd := { s.cmd with packets := s.cmd.packets.erase pid } }
  let s := if p.discard then s else s.writeCompletion p c
  let s := (s.pmc 0x018 1).pmc 0x019 (b2n (c.status != .done))
  s.meter p.ring c

/-- Several packets complete with ABORTED, in order, each with the same release time (R61). -/
def State.abortAll (s : State) (release : Nat) : List (Nat × Packet) → State
  | [] => s
  | (pid, p) :: r => State.abortAll (s.postOne pid p (Compl.plain .aborted release)) release r

/-- The fetched packets of a caravan that have no completion, in ring order. -/
def State.caravanRest (s : State) (cid : Nat) : List (Nat × Packet) :=
  s.cmd.packets.cells.filter (fun e => e.2.caravan == some cid)

/-- A caravan's record is replaced, or removed once its last packet has completed. -/
def State.setCaravan (s : State) (cid : Nat) (c : Caravan) : State :=
  if c.closed && (s.caravanRest cid).isEmpty then
    { s with cmd := { s.cmd with caravans := s.cmd.caravans.erase cid } }
  else { s with cmd := { s.cmd with caravans := s.cmd.caravans.insert cid c } }

/-- What a packet's completion does to its caravan: the next packet may take its result, or every later packet completes with ABORTED (R41, R61, R62). -/
def State.caravanAfter (s : State) (cid : Nat) (c : Compl) : State :=
  match s.cmd.caravans.get? cid with
  | none => s
  | some car =>
    if c.status != .done then
      (s.abortAll c.release (s.caravanRest cid)).setCaravan cid { car with failed := some c.release }
    else if car.stopped then
      (s.abortAll s.now (s.caravanRest cid)).setCaravan cid { car with failed := some s.now }
    else s.setCaravan cid { car with prev := c.result }

/-- A packet completes (R50 to R53): its completion is posted, and its caravan goes on or ends (R61). -/
def State.complete (s : State) (pid : Nat) (c : Compl) : State :=
  match s.cmd.packets.get? pid with
  | none => s
  | some p =>
    let s := s.postOne pid p c
    match p.caravan with
    | some cid => s.caravanAfter cid c
    | none => s

/-- A packet completes at this moment with a status that carries no output and no charge. -/
def State.fail (s : State) (pid : Nat) (st : Status) : State := s.complete pid (Compl.plain st s.now)

/-- A packet of time class none completes with DONE: its output is written, then its completion posted (R27, R56); where the host refused one of its accesses, it completes with REJECTED, and what was written is zeros (R49). -/
def State.finish (s : State) (pid : Nat) (out : Bytes) (mu result : Nat) : State :=
  match s.cmd.packets.get? pid with
  | none => s
  | some p =>
    if p.data.refused then s.fail pid .rejected
    else
      match p.refusesOut out with
      | some n => (s.writeRefused p out n).fail pid .rejected
      | none => (s.writeOut p out).complete pid (Compl.done s.now out.length mu result)

/-- A packet's record is replaced. -/
def State.setPacket (s : State) (pid : Nat) (p : Packet) : State :=
  { s with cmd := { s.cmd with packets := s.cmd.packets.insert pid p } }

/-- The pending events of a slice (R268). -/
def State.saEvents (s : State) (sl : Nat) : SaEvents := s.tbl.events.getD sl ⟨false, []⟩

/-- The pending events of a slice replaced. -/
def State.setSaEvents (s : State) (sl : Nat) (e : SaEvents) : State :=
  { s with tbl := { s.tbl with events := s.tbl.events.setD ⟨false, []⟩ sl e } }

/-- The event that stands for lost ones (R268). -/
def eventLost : Bytes := zeros 8 ++ [0x7F] ++ zeros 7

/-- Events that a query outputs, the mark of a loss first, at most `n`; and what stays pending. -/
def SaEvents.take (e : SaEvents) (n : Nat) : List Bytes × SaEvents :=
  match e.lost, n with
  | true, m + 1 => (eventLost :: e.list.take m, ⟨false, e.list.drop m⟩)
  | _, n => (e.list.take n, ⟨e.lost, e.list.drop n⟩)

/-- A query of SA events completes with those pending, as many as its output holds (R268). -/
def State.saReport (s : State) (pid sl : Nat) : State :=
  match s.cmd.packets.get? pid with
  | none => s
  | some p =>
    let cap := p.outRanges.foldl (fun a r => a + r.2) 0
    let (out, rest) := (s.saEvents sl).take (cap / 16)
    (s.setSaEvents sl rest).finish pid out.flatten 0 out.length

/-- The waiting query of a slice completes (R268). -/
def State.saAnswer (s : State) (sl : Nat) : State :=
  match s.tbl.waits.get? sl with
  | none => s
  | some w => ({ s with tbl := { s.tbl with waits := s.tbl.waits.erase sl } }).saReport w.pid sl

end Sys2Proof.Machine
end

