-- ==== Sys2Proof/Machine/Catalog.lean ====
section
/-! DEFINITION. The opcode catalogue (R10, R66, R67): the rings, key classes and random draws of each opcode. Log entries of this file: DESIGN CHOICE 5, 44, 116, 241. -/

namespace Sys2Proof.Machine

/-- Key class codes of a handle (R66). -/
def clsTraffic : Nat := 1
def clsCustody : Nat := 2
def clsAsym : Nat := 3
def clsSeal : Nat := 4

/-- The handle classes that an opcode takes as h0 (R67): none where the position is unused. -/
inductive KeyUse where
  | unused | traffic | asymCustody | trafficCustody | anyKey
  /-- ASYM or CUSTODY, or zero (VERIFY). -/
  | optional
deriving DecidableEq, Repr

/-- The class is permitted in a position of this use. -/
def KeyUse.permits : KeyUse → Nat → Bool
  | .unused, _ => false
  | .traffic, c => c == 1
  | .asymCustody, c => c == 2 || c == 3
  | .trafficCustody, c => c == 1 || c == 2
  | .anyKey, c => c == 1 || c == 2 || c == 3
  | .optional, c => c == 2 || c == 3

/-- When an opcode is subject to the hold of R65. -/
inductive RndUse where
  | no | yes | byMode
deriving DecidableEq, Repr

/-- A row of the catalogue. -/
structure OpInfo where
  onSlice : Bool
  onManager : Bool
  key : KeyUse
  rnd : RndUse
deriving DecidableEq, Repr

/-- The catalogue of R67: none for an unassigned opcode. -/
def opInfo : Nat → Option OpInfo
  | 0x0101 => some ⟨true, false, .unused, .yes⟩
  | 0x0102 => some ⟨true, false, .unused, .no⟩
  | 0x0103 => some ⟨true, false, .anyKey, .no⟩
  | 0x0104 => some ⟨true, false, .asymCustody, .no⟩
  | 0x0105 => some ⟨true, false, .trafficCustody, .yes⟩
  | 0x0106 => some ⟨true, false, .asymCustody, .yes⟩
  | 0x0107 => some ⟨true, false, .unused, .yes⟩
  | 0x0108 => some ⟨true, false, .anyKey, .no⟩
  | 0x0109 => some ⟨true, false, .anyKey, .no⟩
  | 0x0201 => some ⟨true, false, .traffic, .no⟩
  | 0x0202 => some ⟨true, false, .traffic, .no⟩
  | 0x0203 => some ⟨true, false, .traffic, .no⟩
  | 0x0204 => some ⟨true, false, .traffic, .no⟩
  | 0x0205 => some ⟨true, false, .traffic, .no⟩
  | 0x0206 => some ⟨true, false, .traffic, .no⟩
  | 0x0207 => some ⟨true, false, .unused, .no⟩
  | 0x0208 => some ⟨true, false, .traffic, .no⟩
  | 0x0209 => some ⟨true, false, .traffic, .no⟩
  | 0x020A => some ⟨true, false, .unused, .no⟩
  | 0x020B => some ⟨true, false, .traffic, .no⟩
  | 0x020C => some ⟨true, false, .traffic, .no⟩
  | 0x0301 => some ⟨true, false, .asymCustody, .yes⟩
  | 0x0302 => some ⟨true, false, .optional, .no⟩
  | 0x0303 => some ⟨true, false, .asymCustody, .yes⟩
  | 0x0304 => some ⟨true, false, .asymCustody, .yes⟩
  | 0x0305 => some ⟨true, false, .asymCustody, .yes⟩
  | 0x0306 => some ⟨true, false, .asymCustody, .yes⟩
  | 0x0307 => some ⟨true, false, .asymCustody, .yes⟩
  | 0x0401 => some ⟨true, false, .unused, .no⟩
  | 0x0402 => some ⟨true, false, .unused, .no⟩
  | 0x0403 => some ⟨true, false, .unused, .no⟩
  | 0x0404 => some ⟨true, false, .unused, .no⟩
  | 0x0405 => some ⟨true, false, .unused, .no⟩
  | 0x0501 => some ⟨true, false, .unused, .yes⟩
  | 0x0502 => some ⟨true, false, .unused, .no⟩
  | 0x0503 => some ⟨true, false, .unused, .no⟩
  | 0x0504 => some ⟨true, false, .unused, .no⟩
  | 0x0505 => some ⟨true, false, .unused, .yes⟩
  | 0x0506 => some ⟨true, false, .unused, .no⟩
  | 0x0580 => some ⟨false, true, .unused, .yes⟩
  | 0x0581 => some ⟨false, true, .unused, .no⟩
  | 0x0601 => some ⟨true, false, .traffic, .no⟩
  | 0x0602 => some ⟨true, false, .traffic, .no⟩
  | 0x0603 => some ⟨true, false, .unused, .no⟩
  | 0x0604 => some ⟨true, false, .unused, .no⟩
  | 0x0701 => some ⟨true, false, .unused, .no⟩
  | 0x0702 => some ⟨true, false, .unused, .no⟩
  | 0x0710 => some ⟨false, true, .unused, .yes⟩
  | 0x0711 => some ⟨false, true, .unused, .no⟩
  | 0x0801 => some ⟨true, true, .unused, .yes⟩
  | 0x0802 => some ⟨true, true, .unused, .yes⟩
  | 0x0803 => some ⟨true, true, .unused, .no⟩
  | 0x0F01 => some ⟨false, true, .unused, .no⟩
  | 0x0F02 => some ⟨false, true, .unused, .no⟩
  | 0x0F03 => some ⟨false, true, .unused, .no⟩
  | 0x0F04 => some ⟨false, true, .unused, .no⟩
  | 0x0F05 => some ⟨false, true, .unused, .no⟩
  | 0x0F06 => some ⟨false, true, .unused, .yes⟩
  | 0x0F07 => some ⟨false, true, .unused, .no⟩
  | 0x0F08 => some ⟨false, true, .unused, .byMode⟩
  | 0x0F09 => some ⟨false, true, .unused, .byMode⟩
  | 0x0F0A => some ⟨false, true, .unused, .yes⟩
  | 0x0F0B => some ⟨false, true, .unused, .yes⟩
  | 0x0F0C => some ⟨false, true, .unused, .yes⟩
  | 0x0F0D => some ⟨false, true, .unused, .yes⟩
  | _ => none

/-- The packet decodes: its flags have no reserved bit, and its opcode is assigned and permitted on its ring (R11, R46). -/
def Packet.decodes (p : Packet) : Bool :=
  p.flags < 16 &&
    match opInfo p.opcode with
    | some o => if p.manager then o.onManager else o.onSlice
    | none => false

/-- The packet needs randomness under R65, its mode read from p[0] or from octet 2 of the parameter block. -/
def needsRandom (p : Packet) (d : PktData) : Bool :=
  match opInfo p.opcode with
  | none => false
  | some o =>
    match o.rnd with
    | .no => false
    | .yes => true
    | .byMode =>
      if p.opcode == 0x0F08 then field d.pind 2 1 == 0x00 || field d.pind 2 1 == 0x02 else p.par 0 0 == 0x01

/-- The instances from which a packet draws (R506): DRBG2 for the pair's values, DRBG1 for the random words of its public-key jobs, DRBG3 for table seeds. -/
def drawsFrom (p : Packet) : List Nat :=
  match p.opcode with
  | 0x0101 => if p.par 0 0 == clsTraffic then [2] else [1, 2]
  | 0x0105 => [2]
  | 0x0301 => [1]
  | 0x0303 => if p.par 0 0 == 1 then [1, 2] else [1]
  | 0x0304 => if p.par 0 0 == 1 then [1, 2] else [1]
  | 0x0305 => if p.par 0 0 == 1 then [1, 2] else [1]
  | 0x0306 => [1]
  | 0x0307 => [1]
  | 0x0501 => [2]
  | 0x0505 => if p.par 0 0 == 1 then [1, 2] else [2]
  | 0x0580 => [2]
  | 0x0710 => [3]
  | 0x0801 => [1]
  | 0x0802 => [1]
  | 0x0F0A => [2, 3]
  | _ => [1, 2]

/-- An instance is instantiated and not blocked, no entropy test mode or hold of its island stops it, and its repeated known-answer test is not due (R305, R307, R309, R310, R312). -/
def State.drbgReady (s : State) (n : Nat) : Bool :=
  bit (s.fget Fld.RNG_STATUS_inst 0) n && !s.flag Fld.RNG_DRBG_blocked n && !s.flag Fld.RNG_STATUS_test 0 &&
    !bit (s.reg .GNT_HOLD 0).toNat 3 && decide (s.rng.calls.getD n 0 < 65536)

/-- An instance takes a seed of the buffer and reseeds (R305). -/
def State.reseed (s : State) (n : Nat) : State :=
  let s := s.fset Fld.RNG_SEEDS_avail 0 (s.fget Fld.RNG_SEEDS_avail 0 - 1)
  (s.setReg .RNG_DRBG n 0).bumpWrap Fld.RNG_RESEEDS_count n 1

/-- A generate call of an instance: its count rises; at 1,024 it takes a seed of the buffer or becomes due, and at 2^20 calls it is blocked (R305). -/
def State.drbgCall (s : State) (n : Nat) : State :=
  let c := s.fget Fld.RNG_DRBG_count n + 1
  let s := (s.fset Fld.RNG_DRBG_count n c).pmc (0x0E0 + n) 1
  let s := { s with rng := { s.rng with calls := s.rng.calls.setD 0 n (s.rng.calls.getD n 0 + 1) } }
  if c < 1024 then s
  else if 0 < s.fget Fld.RNG_SEEDS_avail 0 then s.reseed n
  else
    let s := s.fset Fld.RNG_DRBG_due n 1
    if 1048576 ≤ c then s.fset Fld.RNG_DRBG_blocked n 1 else s

/-- The random values reserved to one packet, from a first index on. -/
def drawBlock : Nat := 16

/-- The random output that a packet needs is generated and reserved to it (R506). -/
def State.reserve (s : State) (pid : Nat) (p : Packet) : State :=
  let s := (drawsFrom p).foldl State.drbgCall s
  { (s.setPacket pid { p with phase := .ready, rnd := some s.free }) with free := s.free + drawBlock }

/-- Every instance from which the packet draws has output (R506). -/
def State.randomReady (s : State) (p : Packet) : Bool := (drawsFrom p).all s.drbgReady

/-- The `k`-th random value reserved to a packet, at a length. -/
def Packet.random (p : Packet) (k len : Nat) : Bytes := fitLen len (Config.random (p.rnd.getD 0 + k))

/-- A random value drawn now by a consumer other than a packet, at a length, with the state after the draw. -/
def State.drawNow (s : State) (inst len : Nat) : Bytes × State :=
  (fitLen len (Config.random s.free), { (s.drbgCall inst) with free := s.free + 1 })

/-- DRBG0 has output and a fresh seed is at hand for it: what a generate call that yields a root seed or an OTP share waits for (R304). -/
def State.freshReady (s : State) : Bool := decide (0 < s.fget Fld.RNG_SEEDS_avail 0) && s.drbgReady 0

/-- A generate call of DRBG0 that yields a root seed or an OTP share, after a reseed (R304). -/
def State.drawFresh (s : State) (len : Nat) : Bytes × State := (s.reseed 0).drawNow 0 len

/-- A choice that the spec leaves to the hardware, among the numbers below `n`, with the state after it. -/
def State.choose (s : State) (n : Nat) : Nat × State :=
  (Config.choice s.free % max n 1, { s with free := s.free + 1 })

end Sys2Proof.Machine
end

