-- ==== Sys2Proof/Machine/Rings.lean ====
section
/-! DEFINITION. Queue pairs (R37 to R43, R505), the fetch of packets and caravans (R43 to R46, R59), and the holds and timers of waiting packets (R37, R53, R65). Log entries of this file: DEDUCED 40, 48, 54, 77, 244; DESIGN CHOICE 42, 45. -/

namespace Sys2Proof.Machine

/-- A pair takes new work: it is active, and no class 1 hold covers it (R389). -/
def State.pairTakes (s : State) (p : Nat) : Bool := s.pairActive p && !s.islandHeld (8 + p)

/-- The command pair that takes up a packet: the scheduler's choice where it takes new work, else the lowest-numbered pair that does. -/
def State.pickPair (s : State) : Nat :=
  let c := Config.choice s.free % 8
  if s.pairTakes c then c else ((List.range 8).find? s.pairTakes).getD 0

/-- A hold covers the command pair of a packet or HLU (R179). -/
def State.gateHeld (s : State) (p : Packet) : Bool := s.islandHeld (8 + p.pair) || s.islandHeld 0

/-- Host software on a function: PF1 with the PASID of its access, or PF0 for the manager (R37, R331). -/
def ringMaster (ring : Nat) (pasid : Option Nat) : Master :=
  if ring = managerRing then ⟨0x00, 3, none⟩ else ⟨0x00, 4, pasid⟩

/-- The BAR offset of a register of a queue pair block (R37). -/
def ringOffset (ring q off : Nat) : Nat :=
  if ring = managerRing then 0x80000 + 0x100 * q + off else ring * 0x4000 + 0x100 * q + off

/-- A write to a queue pair register reaches it: the ring exists, and a slice page accepts the PASID (R34). -/
def State.ringOpen (s : State) (ring q : Nat) (pasid : Option Nat) : Bool :=
  decide (q < 8) && (ring == managerRing || (decide (ring < managerRing) && s.pageOpen ring pasid))

/-- A write that the page does not accept is discarded and reported (R34): reason 0x06 for a doorbell, 0x05 otherwise. -/
def State.ringRefuse (s : State) (ring q off reason : Nat) (pasid : Option Nat) : State :=
  if q < 8 && ring < managerRing then s.report (ringMaster ring pasid) .write (ringOffset ring q off) reason ring
  else s

/-- A ring depth field is allowed (R38, R74): 6 to 16, and within the slice's limit, or 4,096 entries for the manager. -/
def State.depthOk (s : State) (ring n : Nat) (limit : Fld) : Bool :=
  decide (6 ≤ n) && decide (n ≤ 16) &&
    (if ring = managerRing then decide (n ≤ 12) else decide (n ≤ s.fget limit ring))

/-- The interrupt vector lies in a granted range (R40, R74). -/
def vecIn (vec base count : Nat) : Bool := decide (base ≤ vec) && decide (vec < base + count)

/-- The configuration of a queue pair passes the checks of R40 and R74. -/
def State.qpConfigOk (s : State) (ring q : Nat) : Bool :=
  let i := qpi ring q
  (ring == managerRing || s.sliceState ring == 1) &&
  s.fget Fld.CMD_SQ_BASE_base i != 0 && s.fget Fld.CMD_CQ_BASE_base i != 0 &&
  s.depthOk ring (s.fget Fld.CMD_QP_SIZE_sq_log2 i) Fld.SLC_RING_LIMIT_sq_log2_max &&
  s.depthOk ring (s.fget Fld.CMD_QP_SIZE_cq_log2 i) Fld.SLC_RING_LIMIT_cq_log2_max &&
  (ring == managerRing || decide (q < s.fget Fld.SLC_RING_LIMIT_qp_max ring)) &&
  (!s.flag Fld.CMD_QP_IRQ_ien i || ring == managerRing ||
    vecIn (s.fget Fld.CMD_QP_IRQ_vec i) (s.fget Fld.SLC_MSIX_vec_base ring) (s.fget Fld.SLC_MSIX_vec_count ring))

/-- A queue pair starts: heads and tails 0, phase 1, running (R40). -/
def State.startQp (s : State) (i : Nat) : State :=
  let s := (((s.setReg .CMD_SQ_TAIL i 0).setReg .CMD_SQ_HEAD i 0).setReg .CMD_CQ_HEAD i 0)
  let s := (s.setReg .CMD_CQ_TAIL i (BitVec.ofNat 64 0x10000)).fset Fld.CMD_QP_STATUS_running i 1
  let s := s.fset Fld.CMD_QP_CTRL_enable i 1
  { s with cmd := { s.cmd with irq := s.cmd.irq.erase i } }

/-- The effect of a write of 1 to `enable` (R40, R505). -/
def State.enableQp (s : State) (ring q : Nat) : State :=
  let i := qpi ring q
  if s.flag Fld.CMD_QP_STATUS_running i || s.flag Fld.CMD_QP_CTRL_stop i then s
  else if s.qpConfigOk ring q then s.startQp i
  else s.fset Fld.CMD_QP_STATUS_cfgerr i 1

/-- QP_ENABLE: a write of 1 to `CMD_QP_CTRL.enable` (R40, R505, R69). -/
def execQpEnable (dt : Nat) (pasid : Option Nat) (ring q : Nat) (s : State) : Host.Outcome State Fault Refusal :=
  let s := s.tick dt
  if s.ringOpen ring q pasid then .next (s.enableQp ring q)
  else .next (s.ringRefuse ring q 0x00 0x05 pasid)

/-- The fetched packets of a queue pair without a completion, in ring order; those whose completion is discarded (R357) belong to no queue pair any more. -/
def State.qpPackets (s : State) (ring q : Nat) : List (Nat × Packet) :=
  s.cmd.packets.cells.filter (fun e => e.2.ring == ring && e.2.qp == q && !e.2.discard)

/-- A packet of the caravan is executing. -/
def State.caravanBusy (s : State) (cid : Nat) : Bool := (s.caravanRest cid).any (fun e => e.2.phase.started)

/-- A stop sequence completes the packet with ABORTED at once: it has not started, and no packet of its caravan is executing (R41). -/
def State.stopAborts (s : State) (p : Packet) : Bool :=
  !p.phase.started &&
    match p.caravan with
    | some cid => !s.caravanBusy cid
    | none => true

/-- Every caravan of the queue pair aborts what follows its executing packet (R41). -/
def State.stopCaravans (s : State) (ring q : Nat) : State :=
  let ids := (s.qpPackets ring q).filterMap (fun e => e.2.caravan)
  { s with cmd := { s.cmd with caravans := s.cmd.caravans.map (fun k c =>
      if ids.contains k then { c with stopped := true } else c) } }

/-- A waiting SA_QUERY of the queue pair completes at once (R268). -/
def State.stopQuery (s : State) (ring q : Nat) : State :=
  match s.tbl.waits.get? ring with
  | some w => if (s.qpPackets ring q).any (fun e => e.1 == w.pid) then s.saAnswer ring else s
  | none => s

/-- The stop sequence begins: nothing more is fetched, and unstarted packets complete with ABORTED (R41). -/
def State.stopQp (s : State) (ring q : Nat) : State :=
  let i := qpi ring q
  if s.flag Fld.CMD_QP_STATUS_running i && !s.flag Fld.CMD_QP_CTRL_stop i then
    let s := (s.fset Fld.CMD_QP_CTRL_stop i 1).stopCaravans ring q
    (s.abortAll s.now ((s.qpPackets ring q).filter (fun e => s.stopAborts e.2))).stopQuery ring q
  else s

/-- QP_STOP: a write of 1 to `CMD_QP_CTRL.stop` (R41, R505). -/
def execQpStop (dt : Nat) (pasid : Option Nat) (ring q : Nat) (s : State) : Host.Outcome State Fault Refusal :=
  let s := s.tick dt
  if s.ringOpen ring q pasid then .next (s.stopQp ring q)
  else .next (s.ringRefuse ring q 0x00 0x05 pasid)

/-- The stop sequence has ended: every fetched packet has its completion posted (R41). -/
def State.stopEnded (s : State) (ring q : Nat) : Bool :=
  s.flag Fld.CMD_QP_CTRL_stop (qpi ring q) && (s.qpPackets ring q).isEmpty

/-- `running`, `enable` and `stop` read 0 (R41). -/
def State.clearQp (s : State) (ring q : Nat) : State :=
  let i := qpi ring q
  let s := ((s.fset Fld.CMD_QP_STATUS_running i 0).fset Fld.CMD_QP_CTRL_enable i 0).fset Fld.CMD_QP_CTRL_stop i 0
  { s with cmd := { s.cmd with fetching := s.cmd.fetching.erase i } }

/-- A doorbell index lies in the ring (R39). -/
def State.sqIndexOk (s : State) (i v : Nat) : Bool := decide (v < 2 ^ s.fget Fld.CMD_QP_SIZE_sq_log2 i)

/-- The effect of an SQ doorbell write (R39). -/
def State.sqDoorbell (s : State) (i v : Nat) : State :=
  if s.sqIndexOk i v then s.fset Fld.CMD_SQ_TAIL_tail i v else s.fset Fld.CMD_QP_STATUS_dberr i 1

/-- SQ_TAIL_DOORBELL: a write to `CMD_SQ_TAIL` (R39, R34). -/
def execSqTailDoorbell (dt : Nat) (pasid : Option Nat) (ring q value : Nat) (s : State) :
    Host.Outcome State Fault Refusal :=
  let s := s.tick dt
  if s.ringOpen ring q pasid then .next (s.sqDoorbell (qpi ring q) (value % 2 ^ 16))
  else .next (s.ringRefuse ring q 0x20 0x06 pasid)

/-- The distance (b - a) mod depth of two ring indexes, on any values that the registers may have kept (R39). -/
def ringGap (depth a b : Nat) : Nat := (((b : Int) - (a : Int)) % (depth : Int)).toNat

/-- A CQ head is accepted: in the ring, and not past the tail (R39). -/
def State.cqHeadOk (s : State) (i v : Nat) : Bool :=
  let depth := 2 ^ s.fget Fld.CMD_QP_SIZE_cq_log2 i
  let h := s.fget Fld.CMD_CQ_HEAD_head i
  let t := s.fget Fld.CMD_CQ_TAIL_tail i
  decide (v < depth) && decide (ringGap depth h v ≤ ringGap depth h t)

/-- The effect of a CQ doorbell write (R39). -/
def State.cqDoorbell (s : State) (i v : Nat) : State :=
  if s.cqHeadOk i v then s.fset Fld.CMD_CQ_HEAD_head i v else s.fset Fld.CMD_QP_STATUS_dberr i 1

/-- CQ_HEAD_DOORBELL: a write to `CMD_CQ_HEAD` (R39, R34). -/
def execCqHeadDoorbell (dt : Nat) (pasid : Option Nat) (ring q value : Nat) (s : State) :
    Host.Outcome State Fault Refusal :=
  let s := s.tick dt
  if s.ringOpen ring q pasid then .next (s.cqDoorbell (qpi ring q) (value % 2 ^ 16))
  else .next (s.ringRefuse ring q 0x28 0x06 pasid)

/-- CQ entries not yet consumed (R43). -/
def State.cqUsed (s : State) (i : Nat) : Nat :=
  ringGap (2 ^ s.fget Fld.CMD_QP_SIZE_cq_log2 i) (s.fget Fld.CMD_CQ_HEAD_head i) (s.fget Fld.CMD_CQ_TAIL_tail i)

/-- A CQ entry can be reserved for one more packet (R43). -/
def State.cqRoom (s : State) (ring q : Nat) : Bool :=
  decide ((s.qpPackets ring q).length + s.cqUsed (qpi ring q) + 1 < 2 ^ s.fget Fld.CMD_QP_SIZE_cq_log2 (qpi ring q))

/-- The queue pair fetches its next entry: it runs, the host link is up and HLU not held (R389), no stop sequence runs, an entry is pending, and a CQ entry can be reserved (R39, R41, R43). -/
def State.canFetch (s : State) (ring q : Nat) : Bool :=
  let i := qpi ring q
  decide (q < 8) && decide (ring ≤ managerRing) && s.flag Fld.CMD_QP_STATUS_running i && s.flag Fld.HLU_LINK_up 0 && !s.islandHeld 0 &&
    !s.flag Fld.CMD_QP_CTRL_stop i && s.fget Fld.CMD_SQ_HEAD_head i != s.fget Fld.CMD_SQ_TAIL_tail i && s.cqRoom ring q

/-- A freshly fetched packet (R55). -/
def mkPacket (ring q idx now : Nat) (entry : Bytes) (caravan : Option Nat) : Packet :=
  ⟨ring, q, idx, fitLen 64 entry, now, .fetched, 0, caravan, [], none, 0, ⟨[], [], [], [], [], false, none⟩, false⟩

/-- The SQ head passes the fetched entry (R39). -/
def State.advanceSq (s : State) (i : Nat) : State :=
  s.fset Fld.CMD_SQ_HEAD_head i
    ((s.fget Fld.CMD_SQ_HEAD_head i + 1) % 2 ^ s.fget Fld.CMD_QP_SIZE_sq_log2 i)

/-- Entries between the SQ head and the SQ tail (R39). -/
def State.sqPending (s : State) (i : Nat) : Nat :=
  ringGap (2 ^ s.fget Fld.CMD_QP_SIZE_sq_log2 i) (s.fget Fld.CMD_SQ_HEAD_head i) (s.fget Fld.CMD_SQ_TAIL_tail i)

/-- The length of the caravan of the entry being fetched, its `count`-th: as found before, or where the device, reading the pending entries after this one, finds its last packet `ahead` entries on, before the tail and within 64 packets (R59). -/
def State.caravanEnds (s : State) (i : Nat) (c : Caravan) (count ahead : Nat) : Option Nat :=
  match c.ends with
  | some n => some n
  | none => if 1 ≤ ahead && decide (ahead < s.sqPending i) && decide (count + ahead ≤ 64) then some (count + ahead) else none

/-- The caravan of the entry being fetched, with its record after the fetch: a running one, a new one, or none. A caravan whose length is known ends there. -/
def State.caravanOf (s : State) (i : Nat) (chain : Bool) (ahead : Nat) : Option (Nat × Caravan) :=
  let new : Caravan := ⟨0, false, none, none, 0, false, none, false, false⟩
  match s.cmd.fetching.get? i with
  | some cid =>
    let c := s.cmd.caravans.getD cid new
    let c := { c with ends := if chain then s.caravanEnds i c (c.count + 1) ahead else some (c.count + 1) }
    some (cid, { c with count := c.count + 1, closed := !chain || c.ends == some (c.count + 1) })
  | none =>
    if chain then some (s.cmd.nextPid, { new with count := 1, ends := s.caravanEnds i new 1 ahead }) else none

/-- The caravan bookkeeping of a fetch. -/
def State.noteCaravan (s : State) (i : Nat) : Option (Nat × Caravan) → State
  | none => s
  | some (cid, c) =>
    { s with cmd := { s.cmd with
        caravans := s.cmd.caravans.insert cid c
        fetching := if c.closed then s.cmd.fetching.erase i else s.cmd.fetching.insert i cid } }

/-- The refusal of a caravan of more than 64 packets, found at the 64th (R59): REJECTED for the first, ABORTED for the others, at once. -/
def State.refuseCaravan (s : State) (cid : Nat) (c : Caravan) : State :=
  match s.caravanRest cid with
  | [] => s.setCaravan cid { c with refused := true }
  | (pid, p) :: rest =>
    ((s.postOne pid p (Compl.plain .rejected s.now)).abortAll s.now rest).setCaravan cid { c with refused := true }

/-- What follows the copy of an entry: ABORTED in a failed or refused caravan, the refusal of a long caravan, UNKNOWN_OPCODE pending, or NOT_READY before the end of boot (R11, R59, R61, R64). -/
def State.afterFetch (s : State) (pid : Nat) (p : Packet) (car : Option (Nat × Caravan)) : State :=
  match car with
  | some (cid, c) =>
    if c.refused then (s.postOne pid p (Compl.plain .aborted s.now)).setCaravan cid c
    else
      match c.failed with
      | some rel => (s.postOne pid p (Compl.plain .aborted rel)).setCaravan cid c
      | none =>
        if 64 ≤ c.count && !c.closed then s.refuseCaravan cid c
        else if !p.decodes then s.setPacket pid { p with phase := .unknownOp }
        else if !s.booted && cid == pid then s.fail pid .notReady
        else s
  | none =>
    if !p.decodes then s.setPacket pid { p with phase := .unknownOp }
    else if !s.booted then s.fail pid .notReady
    else s

/-- The entry is copied as a new packet (R43, R55). -/
def State.fetchEntry (s : State) (ring q : Nat) (entry : Bytes) (ahead : Nat) : State :=
  let i := qpi ring q
  let pid := s.cmd.nextPid
  let chain := bit (field (fitLen 64 entry) 2 2) 0
  let car := s.caravanOf i chain ahead
  let p := mkPacket ring q (s.fget Fld.CMD_SQ_HEAD_head i) s.now entry (car.map (·.1))
  let s := ((s.advanceSq i).noteCaravan i car).setPacket pid p
  let s := { s with cmd := { s.cmd with nextPid := pid + 1 } }
  (s.pmc 0x0F0 64).afterFetch pid p car

/-- SQ_ENTRY_FETCH: the next pending entry of a queue pair is fetched (R43); `ahead` says how many entries on the device finds the last packet of the entry's caravan, zero where it has not looked or not found it (R59). -/
def execSqEntryFetch (dt ring q : Nat) (entry : Bytes) (ahead : Nat) (s : State) :
    Host.Outcome State Fault Refusal :=
  let s := s.tick dt
  if s.canFetch ring q then .next (s.fetchEntry ring q entry ahead) else .next s

/-- Nanoseconds of the hold of R65. -/
def holdNs : Nat := 250000000

/-- RANDOMNESS_READY: a held packet's random output is generated and reserved (R506), unless 250 ms have passed first (R65). -/
def execRandomnessReady (dt pid : Nat) (s : State) : Host.Outcome State Fault Refusal :=
  let s := s.tick dt
  match s.cmd.packets.get? pid with
  | some p =>
    match p.phase with
    | .held since =>
      if since + holdNs ≤ s.now then .next (s.fail pid .notReady)
      else if s.randomReady p then .next (s.reserve pid p)
      else .next s
    | _ => .next s
  | none => .next s

/-- RANDOMNESS_HOLD_EXPIRY: a packet held for 250 ms completes with NOT_READY (R65). -/
def execRandomnessHoldExpiry (dt pid : Nat) (s : State) : Host.Outcome State Fault Refusal :=
  let s := s.tick dt
  match s.cmd.packets.get? pid with
  | some p =>
    match p.phase with
    | .held since => if since + holdNs ≤ s.now then .next (s.fail pid .notReady) else .next s
    | _ => .next s
  | none => .next s

/-- COMPLETION_IRQ_DELAY_EXPIRY: the delay since the first unsignalled completion has passed (R37, `CMD_QP_IRQ`). -/
def execCompletionIrqDelayExpiry (dt ring q : Nat) (s : State) : Host.Outcome State Fault Refusal :=
  let s := s.tick dt
  let i := qpi ring q
  let delay := s.fget Fld.CMD_QP_IRQ_delay i
  match s.cmd.irq.get? i with
  | some w =>
    if s.flag Fld.CMD_QP_IRQ_ien i && delay != 0 && decide (w.since + 1000 * delay ≤ s.now) then
      .next (s.sendQpIrq ring q)
    else .next s
  | none => .next s

/-- Nanoseconds from the fetch to the release of a packet that failed decode (R53). -/
def unknownNs : Nat := 2000

/-- Every earlier packet of the packet's caravan has completed (R60). -/
def State.caravanTurn (s : State) (pid : Nat) (p : Packet) : Bool :=
  match p.caravan with
  | some cid => (s.caravanRest cid).all (fun e => decide (pid ≤ e.1))
  | none => true

/-- UNKNOWN_OPCODE_RELEASE: the completion of a packet that failed decode (R11, R53). -/
def execUnknownOpcodeRelease (dt pid : Nat) (s : State) : Host.Outcome State Fault Refusal :=
  let s := s.tick dt
  match s.cmd.packets.get? pid with
  | some p =>
    if p.phase = .unknownOp && decide (p.fetched + unknownNs ≤ s.now) && s.caravanTurn pid p then
      .next (s.complete pid (Compl.plain .unknownOpcode (p.fetched + unknownNs)))
    else .next s
  | none => .next s

end Sys2Proof.Machine
end

