-- ==== Sys2Proof/Machine/Ident.lean ====
section
/-! DEFINITION. Identities and derivations: the life-cycle index and epoch, measurements, the KMAC derivations of R115 and R116, digests and signatures of the device. Log entries of this file: DESIGN CHOICE 6, 70, 84, 229. -/

namespace Sys2Proof.Machine

/-- ASCII octets of a label. -/
def ascii (s : String) : Bytes := s.toList.map (fun c => BitVec.ofNat 8 c.toNat)

/-- The life-cycle index in force (R115). -/
def State.lc (s : State) : Nat := s.fget Fld.LC_STATE_lc 0

/-- The field epoch in force (R115). -/
def State.ep (s : State) : Nat := s.fget Fld.LC_STATE_ep 0

/-- A measurement register MRn (R366): 48 zero octets where nothing was extended. -/
def State.mr (s : State) (n : Nat) : Bytes := s.boot.mr.getD n (zeros 48)

/-- The device identifier (R115). -/
def State.deviceId (s : State) : Bytes := fitLen 16 s.boot.deviceId

/-- SHA-384. -/
def sha384 (b : Bytes) : Bytes := fitLen 48 (Config.prim .sha384 [b])

/-- KMAC256 with a key, data, a customization string and an output length in octets. -/
def kmac (key data label : Bytes) (len : Nat) : Bytes := fitLen len (Config.prim .kmac256 [key, data, label, natBE 4 len])

/-- The vault root record of a slice (R139). -/
def State.rootOf (s : State) (slice : Nat) : Option (Nat × KeyRec) :=
  s.ks.recs.find? (fun _ r => r.slice == slice && r.typ == 0x70)

/-- The vault identifier of a slice's loaded vault, or zero. -/
def State.vaultId (s : State) (slice : Nat) : Bytes :=
  match s.rootOf slice with
  | some (_, r) => fitLen 16 r.vault
  | none => zeros 16

/-- The secret of a copy: the exclusive or of its shares (R99). -/
def KeyCopy.secret (c : KeyCopy) : Bytes := xorBytes c.a c.b

/-- The secret of a pair of shares (R99). -/
def Shares.value (x : Shares) : Bytes := xorBytes x.a x.b

/-- A secret as a fresh pair of shares, under the free value `n` as its mask (R99). -/
def Shares.make (n : Nat) (secret : Bytes) : Shares :=
  let m := fitLen secret.length (Config.random n)
  ⟨m, xorBytes secret m⟩

/-- An operation of the HWU loads a key into its registers, as a fresh pair of shares (R99). -/
def State.hwuLoad (s : State) (key : Bytes) : State :=
  { s with ks := { s.ks with hwu := Shares.make s.free key }, free := s.free + 1 }

/-- The order n of the group of P-256, P-384 or P-521 (SP 800-186). -/
def ecOrder (bits : Nat) : Nat :=
  if bits = 256 then 0xffffffff00000000ffffffffffffffffbce6faada7179e84f3b9cac2fc632551
  else if bits = 384 then
    0xffffffffffffffffffffffffffffffffffffffffffffffffc7634d81f4372ddf581a0db248b0a77aecec196accc52973
  else
    0x1fffffffffffffffffffffffffffffffffffffffffffffffffffffffffffffffffa51868783bf2f966b7fcc0148f709a5d03bb5c9b8899c47aebb6fb71e91386409

/-- The ECDSA P-384 private key of a 512-bit device seed t: d = (t mod (n - 1)) + 1 (R115). -/
def seedScalar (t : Bytes) : Bytes := natBE 48 (beNat t % (ecOrder 384 - 1) + 1)

/-- The ML-DSA-87 seed of a 512-bit device seed (R115). -/
def seedXi (t : Bytes) : Bytes := kmac t [] (ascii "ELVEVA-MLDSA") 32

/-- The public keys of a device seed (R115): ECDSA P-384 of its scalar, uncompressed, then ML-DSA-87 of its seed. -/
def devicePublic (seed : Bytes) : Bytes :=
  fitLen 97 (Config.prim .keyPublic [ascii "P-384", seedScalar seed]) ++ fitLen 2592 (Config.prim .keyPublic [ascii "ML-DSA-87", seedXi seed])

/-- An ECDSA P-384 signature by the key of a device seed (R115). -/
def seedSign (seed b : Bytes) : Bytes := fitLen 96 (Config.prim .ecdsaP384 [seedScalar seed, b])

/-- The two signatures by the keys of a device seed: ECDSA P-384, then ML-DSA-87 (R115). -/
def seedSigns (seed b : Bytes) : Bytes :=
  seedSign seed b ++ fitLen 4627 (Config.prim .mlDsa87 [seedXi seed, b])

/-- The root seed (R96). -/
def State.seed (s : State) : Bytes := xorBytes s.bb.seedA s.bb.seedB

/-- Big-endian lc and ep, one octet each. -/
def State.lcEp (s : State) : Bytes := natBE 1 s.lc ++ natBE 1 s.ep

/-- The successor measurement in `KS_SUCC_MEAS`. -/
def State.succMeas (s : State) : Bytes :=
  (List.range 12).flatMap (fun n => natLE 4 (s.fget Fld.KS_SUCC_MEAS_word n))

/-- The vault counter of a slice (R117). -/
def State.vaultCounter (s : State) (slice : Nat) : Nat := s.bb.vaults.getD slice 0 % 2 ^ 23

/-- Vault table bit `exists` of a slice (R117). -/
def State.vaultExists (s : State) (slice : Nat) : Bool := bit (s.bb.vaults.getD slice 0) 23

/-- A signature of the device's attestation keys over octets: ECDSA P-384, then ML-DSA-87 (R93, R161). -/
def State.attestSign (s : State) (b : Bytes) : Bytes :=
  seedSigns s.ks.dev.attest.value b

/-- A signature of the identity keys (R160). -/
def State.identitySign (s : State) (b : Bytes) : Bytes :=
  seedSigns s.ks.dev.identity.value b

/-- AES-256-GCM-SIV (RFC 8452) in its two steps: a tag over data and plaintext, then a keystream from the tag. -/
def sivSeal (key nonce aad pt : Bytes) : Bytes × Bytes :=
  let tag := fitLen 16 (Config.prim .gcmSivTag [key, nonce, aad, pt])
  (xorBytes pt (fitLen pt.length (Config.prim .gcmSivStream [key, nonce, tag, natBE 4 pt.length])), tag)

/-- Opening of AES-256-GCM-SIV: the plaintext where the tag passes. -/
def sivOpen (key nonce aad ct tag : Bytes) : Option Bytes :=
  let pt := xorBytes ct (fitLen ct.length (Config.prim .gcmSivStream [key, nonce, tag, natBE 4 ct.length]))
  if fitLen 16 (Config.prim .gcmSivTag [key, nonce, aad, pt]) = tag then some pt else none

end Sys2Proof.Machine
end

