-- ==== Sys2Proof/Machine/OtpOps.lean ====
section
/-! DEFINITION. Reading and programming the OTP arrays: voting, the life-cycle word (R339 to R341), journal records (R346, R348), the share (R98, R348) and the device policy records (R353). Log entries of this file: DESIGN CHOICE 69, 70, 73, 136. -/

namespace Sys2Proof.Machine

/-- The bitwise majority of three copies (R340). -/
def majority {w : Nat} (a b c : BitVec w) : BitVec w := (a &&& b) ||| (a &&& c) ||| (b &&& c)

/-- The majority of an array of three copies. -/
def vote {w : Nat} (v : Vector (BitVec w) 3) : BitVec w := majority v[0] v[1] v[2]

/-- A pair of bits: clear, half or set (R340). -/
inductive PairBit where
  | clear | half | set
deriving DecidableEq, Repr

/-- Pair `i` of a value: bits [2i+1:2i]. -/
def pairAt {w : Nat} (v : BitVec w) (i : Nat) : PairBit :=
  match v.getLsbD (2 * i), v.getLsbD (2 * i + 1) with
  | true, true => .set
  | false, false => .clear
  | _, _ => .half

/-- The mask of pair `i`. -/
def pairMask (w i : Nat) : BitVec w := BitVec.ofNat w (3 <<< (2 * i))

/-- The life-cycle word after voting; `scrap` counts as set if any of its six bits is 1 (R340). -/
def Otp.voted (o : Otp) : BitVec 32 :=
  let v := vote o.word
  let any := o.word[0] ||| o.word[1] ||| o.word[2]
  if pairAt any 11 = .clear then v else v ||| pairMask 32 11

/-- How many of the flags 0 to 9 are set. -/
def setFlags (v : BitVec 32) : Nat := ((List.range 10).filter (fun i => pairAt v i == .set)).length

/-- The voted word is valid (R341); `target` is the target flag of a pending journal record. -/
def wordValid (v : BitVec 32) (target : Option Nat) : Bool :=
  let k := setFlags v
  (List.range k).all (fun i => pairAt v i == .set) &&
  (List.range 16).all (fun i => pairAt v i != .half || target == some i) &&
  (List.range 4).all (fun j => pairAt v (12 + j) == .clear) &&
  (pairAt v 10 != .set || decide (2 ≤ k))

/-- The life-cycle index that a valid word decodes to (R341). -/
def wordState (v : BitVec 32) : Nat :=
  let k := setFlags v
  if pairAt v 11 = .set then 6
  else if pairAt v 10 = .set then 5
  else if k = 0 then 0 else if k = 1 then 1 else if k = 2 then 2
  else if k % 2 = 1 then 3 else 4

/-- The field epoch of a word (R341). -/
def wordEpoch (v : BitVec 32) : Nat := (setFlags v - 3) / 2

/-- Journal record `n` after voting (R346). -/
def Otp.record (o : Otp) (n : Nat) : BitVec 64 :=
  majority ((o.journal[0]).getD n 0) ((o.journal[1]).getD n 0) ((o.journal[2]).getD n 0)

/-- The steps of a journal record, by the pair that marks them (R346). -/
def stepIntent : Nat := 8
def stepErased : Nat := 9
def stepShared : Nat := 10
def stepCopyA : Nat := 11
def stepCopyB : Nat := 12
def stepCopyC : Nat := 13
def stepDone : Nat := 15
def stepVoid : Nat := 16

/-- The target flag of a record, where every pair of the field is complete (R346, R348). -/
def recordTarget (r : BitVec 64) : Option Nat :=
  if (List.range 4).all (fun j => pairAt r j == .half) then
    some ((List.range 4).foldl (fun a j => a + b2n (r.getLsbD (2 * j + 1)) <<< j) 0)
  else none

/-- A record is pending (R348). -/
def recordPending (r : BitVec 64) : Bool :=
  (recordTarget r).isSome && pairAt r stepIntent != .clear && pairAt r stepDone == .clear &&
    pairAt r stepVoid == .clear

/-- A record is free: every bit is clear in every copy (R346). -/
def Otp.recordFree (o : Otp) (n : Nat) : Bool :=
  (o.journal[0]).getD n 0 == 0 && (o.journal[1]).getD n 0 == 0 && (o.journal[2]).getD n 0 == 0

/-- The pending record of the journal, if any. -/
def Otp.pending (o : Otp) : Option Nat := (List.range 16).find? (fun n => recordPending (o.record n))

/-- The lowest-numbered free record (R346). -/
def Otp.freeRecord (o : Otp) : Option Nat := (List.range 16).find? o.recordFree

/-- Bits are set in record `n` of every copy. -/
def Otp.markRecord (o : Otp) (n : Nat) (m : BitVec 64) : Otp :=
  { o with journal := o.journal.map (fun c => c.setIfInBounds n (c.getD n 0 ||| m)) }

/-- A step pair of record `n` is marked in every copy (R347). -/
def Otp.markStep (o : Otp) (n step : Nat) : Otp := o.markRecord n (pairMask 64 step)

/-- Both bits of a flag are set in every copy of the life-cycle word (R339). -/
def Otp.setFlag (o : Otp) (i : Nat) : Otp := { o with word := o.word.map (fun w => w ||| pairMask 32 i) }

/-- Copy A after its programming is resumed: complete pairs are kept, a pair with no bit set takes a fresh bit (R348). -/
def shareResume (a : BitVec 512) (fresh : BitVec 256) : BitVec 512 :=
  (List.range 256).foldl (fun v j =>
    if pairAt a j = .clear then v ||| BitVec.ofNat 512 ((if fresh.getLsbD j then 2 else 1) <<< (2 * j)) else v) a

/-- The share is programmed: copy A completed, B and C from A (R348). -/
def Otp.programShare (o : Otp) (fresh : BitVec 256) : Otp :=
  let a := shareResume o.share[0] fresh
  { o with share := #v[a, o.share[1] ||| a, o.share[2] ||| a] }

/-- The 32 octets of the share after voting; bit j is 1 where its pair is 0b10. Bit 0 is the least significant bit of octet 0 (R2). -/
def Otp.shareOctets (o : Otp) : Bytes :=
  natLE 32 ((List.range 256).foldl (fun a j => a + b2n ((vote o.share).getLsbD (2 * j + 1)) <<< j) 0)

/-- The share in derivation: zeros in BLANK and FACTORY, the programmed share otherwise (R98, R337). -/
def State.otpShare (s : State) : Bytes := if s.lc ≤ 1 then zeros 32 else s.otp.shareOctets

/-- The key of every derivation: root seed, then OTP share (R115). -/
def State.rootKey (s : State) : Bytes := s.seed ++ s.otpShare

/-- The firmware-bound vault key of a slice, for a vault identifier, a counter and a measurement (R116). -/
def State.vaultKey (s : State) (slice counter : Nat) (vault meas : Bytes) : Bytes :=
  kmac s.rootKey (s.lcEp ++ natBE 2 slice ++ natBE 4 counter ++ fitLen 16 vault ++ fitLen 48 meas)
    (ascii "ELVEVA-VAULT-KEY") 32

/-- Device policy record `n` after voting (R353). -/
def Otp.dqRecord (o : Otp) (n : Nat) : BitVec 386 :=
  majority ((o.dq[0]).getD n 0) ((o.dq[1]).getD n 0) ((o.dq[2]).getD n 0)

/-- Record `n` is written: its WRITTEN pair resolves set (R353). -/
def Otp.dqWritten (o : Otp) (n : Nat) : Bool := pairAt (o.dqRecord n) 192 == .set

/-- Record `n` has every bit clear in every copy (R353). -/
def Otp.dqFree (o : Otp) (n : Nat) : Bool :=
  (o.dq[0]).getD n 0 == 0 && (o.dq[1]).getD n 0 == 0 && (o.dq[2]).getD n 0 == 0

/-- The current device policy record: the highest-numbered written one (R156). -/
def Otp.dqCurrent (o : Otp) : Option Nat := (List.range 16).reverse.find? o.dqWritten

/-- The digest of a record, as octets. -/
def Otp.dqDigest (o : Otp) (n : Nat) : Bytes := natLE 48 ((o.dqRecord n).toNat % 2 ^ 384)

/-- A record is programmed in every copy: digest, then WRITTEN (R353). -/
def Otp.programDq (o : Otp) (n : Nat) (digest : Bytes) : Otp :=
  let v : BitVec 386 := BitVec.ofNat 386 (leNat digest % 2 ^ 384) ||| pairMask 386 192
  { o with dq := o.dq.map (fun c => c.setIfInBounds n (c.getD n 0 ||| v)) }

/-- The steps of a journalled transition, in order (R347). -/
def lcSteps : List Nat := [stepErased, stepShared, stepCopyA, stepCopyB, stepCopyC, stepDone]

/-- The steps of a record that are not marked, in order: a half mark counts as not set (R348). -/
def Otp.stepsLeft (o : Otp) (n : Nat) : List Nat := lcSteps.dropWhile (fun k => pairAt (o.record n) k == .set)

/-- The transition in progress comes to the share next (R347, R348). -/
def State.shareNext (s : State) : Bool :=
  match s.boot.lcRun with
  | none => false
  | some r =>
    match r.rec_ with
    | some n => r.flag == 1 && (s.otp.stepsLeft n).head? == some stepShared
    | none => false

end Sys2Proof.Machine
end

