-- ==== Sys2Proof/Machine/KeyOps.lean ====
section
/-! DEFINITION. The key cache (R104 to R111), key types and usage bits (R107, R114, R504), compatibility slots (R127 to R131), mittens and seals (R121 to R126). Log entries of this file: DEDUCED 68; DESIGN CHOICE 45, 46, 64, 65, 67, 220. -/

namespace Sys2Proof.Machine

/-- A row of R107: permitted classes, S and Pub. -/
structure KeyType where
  classes : List Nat
  s : Nat
  pub : Nat
deriving DecidableEq, Repr

/-- The key types of R107 that a mitten or a generation may name. -/
def keyType : Nat → Option KeyType
  | 0x01 => some ⟨[1], 16, 0⟩
  | 0x02 => some ⟨[1, 2], 32, 0⟩
  | 0x03 => some ⟨[1], 32, 0⟩
  | 0x04 => some ⟨[1], 64, 0⟩
  | 0x05 => some ⟨[1], 32, 0⟩
  | 0x06 => some ⟨[1], 32, 0⟩
  | 0x07 => some ⟨[1], 64, 0⟩
  | 0x08 => some ⟨[2], 32, 0⟩
  | 0x10 => some ⟨[2, 3], 32, 64⟩
  | 0x11 => some ⟨[2, 3], 48, 96⟩
  | 0x12 => some ⟨[2, 3], 66, 132⟩
  | 0x13 => some ⟨[2, 3], 64, 32⟩
  | 0x14 => some ⟨[2, 3], 32, 32⟩
  | 0x20 => some ⟨[2, 3], 640, 256⟩
  | 0x21 => some ⟨[2, 3], 960, 384⟩
  | 0x22 => some ⟨[2, 3], 1280, 512⟩
  | 0x23 => some ⟨[2, 3], 2560, 1024⟩
  | 0x30 => some ⟨[2, 3], 800, 832⟩
  | 0x31 => some ⟨[2, 3], 1184, 1216⟩
  | 0x32 => some ⟨[2, 3], 1568, 1600⟩
  | 0x38 => some ⟨[2, 3], 2560, 1312⟩
  | 0x39 => some ⟨[2, 3], 4032, 1952⟩
  | 0x3A => some ⟨[2, 3], 4896, 2592⟩
  | 0x7F => some ⟨[2], 32, 0⟩
  | _ => none

/-- Data lines of a record (R107). -/
def dataLines (s pub : Nat) : Nat := ceilDiv s 32 + ceilDiv pub 64

/-- Lines of a record: head, data and index lines (R107). -/
def recordLines (s pub : Nat) : Nat :=
  let d := dataLines s pub
  1 + d + (if d ≤ 6 then 0 else ceilDiv (d - 6) 20)

/-- Lines that a key of a type takes; 2 for an unassigned type (R108). -/
def typeLines (t : Nat) : Nat :=
  match keyType t with
  | some k => recordLines k.s k.pub
  | none => 2

/-- An RSA type. -/
def isRsa (t : Nat) : Bool := 0x20 ≤ t && t ≤ 0x23

/-- An RSA public exponent is odd and from 65,537 to 2^32 - 1 (R107). -/
def exponentOk (t e : Nat) : Bool :=
  if isRsa t then e % 2 == 1 && decide (65537 ≤ e) && decide (e < 2 ^ 32) else e == 0

/-- The usage bits that have a meaning for a type and class (R504). -/
def usageMask (t cls : Nat) : Nat :=
  if cls == 1 then
    (if t == 0x01 || t == 0x02 then 0x383
    else if t == 0x03 || t == 0x04 then 0x083
    else if t == 0x05 then 0x283
    else if t == 0x06 || t == 0x07 then 0x180
    else 0)
  else
    (if t == 0x02 || t == 0x08 then 0x480
    else if 0x10 ≤ t && t ≤ 0x12 then 0x41C
    else if t == 0x13 then 0x40C
    else if t == 0x14 then 0x410
    else if isRsa t then (if cls == 3 then 0x40F else 0x40D)
    else if 0x30 ≤ t && t ≤ 0x32 then 0x460
    else if 0x38 ≤ t && t ≤ 0x3A then 0x40C
    else if t == 0x7F then 0x400
    else 0)

/-- The usage bits set are among those with a meaning (R114). -/
def usageOk (t cls u : Nat) : Bool := u &&& usageMask t cls == u

/-- Usage bits of R114. -/
def useEncrypt : Nat := 0
def useDecrypt : Nat := 1
def useSign : Nat := 2
def useVerify : Nat := 3
def useAgree : Nat := 4
def useEncaps : Nat := 5
def useDecaps : Nat := 6
def useDerive : Nat := 7
def useMac : Nat := 8
def useInline : Nat := 9
def useExport : Nat := 10

/-- Lines of the key cache, and where the native lines begin after the device area (R105). -/
def cacheLines : Nat := 1048576
def nativeFirst : Nat := 8192

/-- The bank of a line (R103). -/
def bankOf (i : Nat) : Nat := i / 65536

/-- Compatibility region `n` is in use: enabled in a valid locked configuration (R127). -/
def State.regionOn (s : State) (n : Nat) : Bool :=
  s.flag Fld.KS_COMPAT_CFG_enable n && !s.flag Fld.KS_COMPAT_LOCK_invalid 0 && s.flag Fld.KS_COMPAT_LOCK_lock 0

/-- First line and line count of a region (R127). -/
def State.regionBase (s : State) (n : Nat) : Nat := 4096 * s.fget Fld.KS_COMPAT_CFG_base n
def State.regionSize (s : State) (n : Nat) : Nat := 4096 * s.fget Fld.KS_COMPAT_CFG_size n

/-- A line lies in an enabled compatibility region. -/
def State.inRegion (s : State) (i : Nat) : Bool :=
  (List.range 4).any (fun n => s.regionOn n && decide (s.regionBase n ≤ i) && decide (i < s.regionBase n + s.regionSize n))

/-- Lines of the enabled regions. -/
def State.compatLines (s : State) : Nat :=
  ((List.range 4).filter s.regionOn).foldl (fun a n => a + s.regionSize n) 0

/-- Every line of a record, mirror included. -/
def KeyRec.allLines (r : KeyRec) : List Nat :=
  r.copy.lines ++ (match r.mirror with | some m => m.lines | none => [])

/-- A line is quarantined: its generation would return to its starting value (R109). -/
def State.quarantined (s : State) (i : Nat) : Bool := decide (4096 ≤ s.ks.frees.getD i 0)

/-- The generation of a line (R109). -/
def State.lineGen (s : State) (i : Nat) : Nat := (Config.genStart s.ks.genEpoch i + s.ks.frees.getD i 0) % 4096

/-- A line is free for native records. -/
def State.lineFree (s : State) (i : Nat) : Bool :=
  decide (nativeFirst ≤ i) && decide (i < cacheLines) && !s.inRegion i && !s.quarantined i && !s.ks.recs.has i &&
    !s.ks.recs.any (fun _ r => r.allLines.contains i)

/-- Lines in use by records. -/
def State.linesUsed (s : State) : Nat := s.ks.recs.sum (fun _ r => r.allLines.length)

/-- Free lines outside the device area and the regions, quarantined ones excluded (`KS_FREE_LINES`). -/
def State.freeLines (s : State) : Nat :=
  cacheLines - nativeFirst - s.compatLines - s.linesUsed -
    s.ks.frees.count (fun i n => decide (4096 ≤ n) && decide (nativeFirst ≤ i) && !s.inRegion i)

/-- The first `n` free lines from a line on, below an end. -/
def State.linesFrom (s : State) : Nat → Nat → Nat → List Nat
  | 0, _, _ => []
  | n + 1, i, e =>
    match firstFrom s.lineFree (e - i) i with
    | some j => j :: s.linesFrom n (j + 1) e
    | none => []

/-- The first `n` free lines of some banks, in their order. -/
def State.firstLines (s : State) : List Nat → Nat → List Nat
  | [], _ => []
  | b :: bs, n =>
    let l := s.linesFrom n (max nativeFirst (65536 * b)) (65536 * (b + 1))
    l ++ s.firstLines bs (n - l.length)

/-- The banks in which none of some lines lies. -/
def otherBanks (lines : List Nat) : List Nat := (List.range 16).filter (fun b => !(lines.map bankOf).contains b)

/-- A choice of lines is usable: as many as asked, free, all different, in banks that the other copy does not use (R106). -/
def State.linesOk (s : State) (n : Nat) (other : List Nat) (l : List Nat) : Bool :=
  l.length == n && l.all s.lineFree && decide l.Nodup && l.all (fun i => !(other.map bankOf).contains (bankOf i))

/-- Lines for one copy of a record: the hardware's choice where it is usable, the first free lines in the banks that the other copy does not use otherwise; none where the cache has no room. -/
def State.allocLines (s : State) (n : Nat) (other : List Nat) : Option (List Nat) :=
  let c := Config.pickLines s.free n
  let f := s.firstLines (otherBanks other) n
  if s.linesOk n other f then some (if s.linesOk n other c then c else f) else none

/-- Lines for a record and its mirror, the mirror in one bank that the record does not use (R82, R106), from the last bank down. -/
def State.pairFrom (s : State) (n : Nat) : Option (List Nat × List Nat) :=
  ((List.range 16).reverse).findSome? (fun b =>
    let m := s.firstLines [b] n
    let l := s.firstLines ((List.range 16).filter (· != b)) n
    if m.length == n && l.length == n then some (l, m) else none)

/-- Lines for a record and its mirror: the hardware's choices where both are usable; none where no bank leaves room for both. -/
def State.allocPair (s : State) (n : Nat) : Option (List Nat × List Nat) :=
  let l := Config.pickLines s.free n
  let m := Config.pickLines (s.free + 1) n
  (s.pairFrom n).map (fun f => if s.linesOk n [] l && s.linesOk n l m then (l, m) else f)

/-- Shares of a secret under a mask, padded to whole lines (R99, R106). -/
def mkCopy (lines : List Nat) (secret mask : Bytes) : KeyCopy :=
  let n := 32 * ceilDiv secret.length 32
  let m := fitLen n mask
  ⟨lines, m, xorBytes (fitLen n secret) m⟩

/-- The slice is enduring (`SLC_STATE.enduring`). -/
def State.enduring (s : State) (slice : Nat) : Bool := s.flag Fld.SLC_STATE_enduring slice

/-- New records and contexts of the slice are mirrored: it is enduring, or its mirrors are being written (R76, R83). -/
def State.mirrors (s : State) (slice : Nat) : Bool := s.enduring slice || s.slc.builds.has slice

/-- Lines that count against the quota for `n` lines of a record (R76, R108). -/
def State.quotaLines (s : State) (slice n : Nat) : Nat := if s.mirrors slice then 2 * n else n

/-- An allocation of lines fits the slice's quota (R74, R108). -/
def State.kcFits (s : State) (slice n : Nat) : Bool :=
  decide (s.fget Fld.SLC_KC_USED_used slice + n ≤ s.fget Fld.SLC_KC_QUOTA_quota slice)

/-- The slice's line count changes by an allocation. -/
def State.kcAdd (s : State) (slice n : Nat) : State :=
  (s.fset Fld.SLC_KC_USED_used slice (s.fget Fld.SLC_KC_USED_used slice + n)).pmc 0x0D1 n

/-- The slice's line count after lines are freed. -/
def State.kcSub (s : State) (slice n : Nat) : State :=
  (s.fset Fld.SLC_KC_USED_used slice (s.fget Fld.SLC_KC_USED_used slice - n)).pmc 0x0D2 n

/-- The cache has room for a record of `n` lines of a slice, with its mirror where the slice has one (R82). -/
def State.cacheRoom (s : State) (slice n : Nat) : Bool :=
  if s.mirrors slice then (s.pairFrom n).isSome else s.linesOk n [] (s.firstLines (otherBanks []) n)

/-- A record is written to the cache: its lines, its mirror's for an enduring slice, fresh masks, and its quota (R82, R106, R108). None where the cache has no room. -/
def State.addRecord (s : State) (r : KeyRec) (secret : Bytes) : Option (Nat × State) :=
  let n := recordLines secret.length r.pub.length
  let mask := Config.random s.free
  let mmask := Config.random (s.free + 1)
  let put := fun (l : List Nat) (mirror : Option KeyCopy) (used : Nat) =>
    let r := { r with copy := mkCopy l secret mask, mirror := mirror }
    (l.headD 0, ({ s with free := s.free + 2, ks := { s.ks with recs := s.ks.recs.insert (l.headD 0) r } }).kcAdd r.slice used)
  if s.mirrors r.slice then (s.allocPair n).map (fun e => put e.1 (some (mkCopy e.2 secret mmask)) (2 * n))
  else (s.allocLines n []).map (fun l => put l none n)

/-- A line was freed as a head: its generation advances (R109). -/
def State.bumpGen (s : State) (i : Nat) : State :=
  { s with ks := { s.ks with frees := s.ks.frees.setD 0 i (s.ks.frees.getD i 0 + 1) } }

/-- Every cluster erases the register-file entries tagged with a record (R227). -/
def State.blkForget (s : State) (line : Nat) : State :=
  { s with blk := { s.blk with files := s.blk.files.filter (fun _ e => e.tag.line != line) } }

/-- A record is freed with its mirror: lines zeroed, generations of the heads advanced, quota returned (R111); a mirror that an error took still counts (R417). -/
def State.freeRecord (s : State) (head : Nat) : State :=
  match s.ks.recs.get? head with
  | none => s
  | some r =>
    let s := { s with ks := { s.ks with recs := s.ks.recs.erase head } }
    let n := if r.mirror.isNone && s.mirrors r.slice then 2 * r.copy.lines.length else r.allLines.length
    let s := ((s.blkForget head).bumpGen head).kcSub r.slice n
    match r.mirror with
    | some m => s.bumpGen (m.lines.headD 0)
    | none => s

/-- A compatibility slot is freed (R111, R130). -/
def State.freeSlot (s : State) (line : Nat) : State :=
  match s.ks.slots.get? line with
  | none => s
  | some c =>
    if c.bad then s
    else ((({ s with ks := { s.ks with slots := s.ks.slots.erase line } }).blkForget line).bumpGen line).kcSub c.slice 4

/-- A record or slot is freed. -/
def State.freeKey (s : State) (line : Nat) : State := (s.freeRecord line).freeSlot line

/-- Every record and slot of a slice is freed (R71, R137). -/
def State.freeSlice (s : State) (slice : Nat) : State :=
  let ks := (s.ks.recs.filter (fun _ r => r.slice == slice)).keys ++
    (s.ks.slots.filter (fun _ c => c.slice == slice)).keys
  ks.foldl State.freeKey s

/-- A key handle (R66 and the glossary): slice, generation, class, line. -/
def mkHandle (slice gen cls line : Nat) : Nat := slice * 2 ^ 52 + gen * 2 ^ 40 + cls * 2 ^ 36 + line

/-- The handle of a record or slot. -/
def State.handleOf (s : State) (slice cls line : Nat) : Nat := mkHandle slice (s.lineGen line) cls line

/-- Fields of a handle. -/
def hSlice (h : Nat) : Nat := bits h 63 52
def hGen (h : Nat) : Nat := bits h 51 40
def hClass (h : Nat) : Nat := bits h 39 36
def hLine (h : Nat) : Nat := bits h 19 0

/-- The native type of an EVX-7200 type, with its secret and public lengths (R128, R129). -/
def compatType (t cls : Nat) : Option Nat :=
  if cls == 1 then (if t == 0x01 then some 0x01 else if t == 0x02 then some 0x02 else none)
  else if cls == 3 then (if t == 0x11 then some 0x10 else if t == 0x12 then some 0x11 else none)
  else none

/-- The key that a native record holds. -/
def KeyRec.key (r : KeyRec) (line : Nat) : Key :=
  ⟨line, false, r.slice, r.cls, r.typ, r.usage, r.ident,
    r.copy.secret.take (match keyType r.typ with | some k => k.s | none => 32), r.pub, r.exponent⟩

/-- The key that a compatibility slot holds. -/
def CompatSlot.key (c : CompatSlot) (line : Nat) : Key :=
  let t := (compatType (field c.header 4 1) (field c.header 5 1)).getD 0
  let k := (keyType t).getD ⟨[], 0, 0⟩
  ⟨line, true, c.slice, c.cls, t, field c.header 6 2, field c.header 8 8, (xorBytes c.a c.b).take k.s,
    c.pub.take k.pub, 0⟩

/-- A handle resolves to a record or slot (R110, R72). -/
def State.resolve (s : State) (h : Nat) : Option Key :=
  let i := hLine h
  let ok := fun (slice cls : Nat) =>
    decide (s.lineGen i = hGen h) && slice == hSlice h && cls == hClass h && bits h 35 20 == 0
  match s.ks.recs.get? i with
  | some r => if ok r.slice r.cls && r.typ != 0x70 then some (r.key i) else none
  | none =>
    match s.ks.slots.get? i with
    | some c => if ok c.slice c.cls && !c.bad then some (c.key i) else none
    | none => none

/-- The attribute header of a key (R121). -/
def attrHeader (cls typ origin usage ident : Nat) (vault : Bytes) (parent s pub e : Nat) : Bytes :=
  natLE 1 1 ++ natLE 1 cls ++ natLE 1 typ ++ natLE 1 origin ++ natLE 2 usage ++ zeros 2 ++ natLE 8 ident ++
  fitLen 16 vault ++ natLE 8 parent ++ natLE 2 s ++ natLE 2 pub ++ natLE 4 e ++ zeros 16

/-- The attribute header of a native record. -/
def KeyRec.header (r : KeyRec) : Bytes :=
  attrHeader r.cls r.typ r.origin r.usage r.ident r.vault r.parent (r.key 0).secret.length r.pub.length r.exponent

/-- A mitten: header, nonce, length, ciphertext and tag under the vault root (R122). -/
def mkMitten (root header nonce secret pub : Bytes) : Bytes :=
  let aad := header ++ fitLen 12 nonce ++ natLE 4 (secret.length + pub.length)
  let (ct, tag) := sivSeal root (fitLen 12 nonce) aad (secret ++ pub)
  aad ++ ct ++ tag

/-- The header and the key of a mitten pass the checks of R123 for the loaded vault, deleted identifiers aside. -/
def headerOk (h vault : Bytes) : Bool :=
  let cls := field h 1 1
  let t := field h 2 1
  let o := field h 3 1
  match keyType t with
  | none => false
  | some k =>
    field h 0 1 == 1 && k.classes.contains cls && decide (1 ≤ o) && decide (o ≤ 4) && field h 6 2 == 0 &&
    slice h 0x10 16 == fitLen 16 vault && (field h 0x20 8 == 0 || o == 2 || o == 4) &&
    field h 0x28 2 == k.s && field h 0x2A 2 == k.pub && exponentOk t (field h 0x2C 4) && allZero (slice h 0x30 16) &&
    usageOk t cls (field h 4 2)

/-- The deleted-key list of a policy block (R139). -/
def deletedList (block : Bytes) : List Nat :=
  let n := field block 1 1
  (List.range (field block 6 2)).map (fun j => field block (0x40 + 64 * n + 8 * j) 8)

/-- A mitten opens under a vault root: its secret and public part (R122, R123). -/
def openMitten (root block vault m : Bytes) : Option (Bytes × Bytes) :=
  let l := field m 0x4C 4
  let sLen := field m 0x28 2
  if decide (96 ≤ m.length) && l == sLen + field m 0x2A 2 && m.length == 96 + l && headerOk m vault &&
      !(deletedList block).contains (field m 8 8) then
    match sivOpen root (slice m 0x40 12) (slice m 0 0x50) (slice m 0x50 l) (slice m (0x50 + l) 16) with
    | some pt => some (pt.take sLen, pt.drop sLen)
    | none => none
  else none

/-- A record made from an attribute header. -/
def recOfHeader (sl : Nat) (h pub : Bytes) : KeyRec :=
  ⟨sl, field h 1 1, field h 2 1, field h 4 2, field h 0x2C 4, field h 8 8, slice h 0x10 16, field h 3 1,
    field h 0x20 8, ⟨[], [], []⟩, none, pub⟩

/-- The header of a seal up to its nonce (R124). -/
def sealHead (kind slice lc ep counter : Nat) (vault meas : Bytes) (p : Nat) : Bytes :=
  natLE 1 1 ++ natLE 1 kind ++ natLE 2 p ++ natLE 2 slice ++ natLE 1 lc ++ natLE 1 ep ++ natLE 4 counter ++
  natLE 4 (144 + p) ++ fitLen 16 vault ++ fitLen 48 meas

/-- A seal of a vault root and policy block under a wrapping key: a function of key, header and body (R124, R125). -/
def mkSeal (wrap head root block : Bytes) : Bytes :=
  let nonce := kmac wrap head (ascii "ELVEVA-SEAL-NONCE") 12
  let aad := head ++ nonce ++ natLE 4 (32 + block.length)
  let (ct, tag) := sivSeal wrap nonce aad (fitLen 32 root ++ block)
  aad ++ ct ++ tag

/-- The device seal of a vault for a counter and a measurement (R124). -/
def State.deviceSeal (s : State) (slice counter : Nat) (vault meas root block : Bytes) : Bytes :=
  mkSeal (s.vaultKey slice counter vault meas) (sealHead 1 slice s.lc s.ep counter vault meas block.length) root block

/-- The vault table entry of a slice was lost to an error, so that it matches no seal (R419). -/
def State.vaultLost (s : State) (slice : Nat) : Bool := bit (s.bb.vaults.getD slice 0) 24

/-- A device seal opens for a slice (R126): its root and policy block. -/
def State.openSeal (s : State) (sl : Nat) (b : Bytes) : Option (Bytes × Bytes) :=
  let p := field b 2 2
  let vault := slice b 0x10 16
  if b.length == 144 + p && field b 0x0C 4 == b.length && field b 0 1 == 1 && field b 1 1 == 1 && field b 4 2 == sl &&
      field b 6 1 == s.lc && field b 7 1 == s.ep && field b 8 4 == s.vaultCounter sl && s.vaultExists sl && !s.vaultLost sl &&
      slice b 0x20 48 == s.mr 2 && field b 0x5C 4 == 32 + p then
    match sivOpen (s.vaultKey sl (field b 8 4) vault (s.mr 2)) (slice b 0x50 12) (slice b 0 0x60)
        (slice b 0x60 (32 + p)) (slice b (0x80 + p) 16) with
    | some pt => some (pt.take 32, pt.drop 32)
    | none => none
  else none

/-- The vault table entry after an event of R117: `issues` says that a new seal is issued. None where an issuing event finds the counter exhausted. While the re-seal journal is SUSPENDED the event clears the slice's done bit (R426). -/
def State.vaultAdvance (s : State) (slice : Nat) (ex issues : Bool) : Option State :=
  let c := s.vaultCounter slice
  let j := s.bb.journal
  let j := if j.state = 2 then { j with done := j.done.filter (· != slice) } else j
  let put := fun (n : Nat) => { s with bb := { s.bb with journal := j, vaults := s.bb.vaults.setD 0 slice (b2n ex * 2 ^ 23 + n) } }
  if c == 0x7FFFFF then (if issues then none else some (put c)) else some (put (c + 1))

/-- The root and the policy block of a slice's loaded vault. -/
def State.vaultOf (s : State) (slice : Nat) : Option (Nat × Bytes × Bytes) :=
  match s.rootOf slice with
  | some (line, r) => some (line, r.copy.secret.take 32, r.pub)
  | none => none

/-- A slot check value (R130). The line index is four octets, little-endian (DESIGN CHOICE 220). -/
def State.slotCheck (s : State) (line : Nat) (head keyField pub : Bytes) : Bytes :=
  kmac s.ks.dev.slotCheck.value (head ++ keyField ++ pub ++ natLE 4 line) [] 8

/-- Bytes 0x00 to 0x17 of a valid slot (R130). -/
def CompatSlot.head (c : CompatSlot) : Bytes := fitLen 16 c.header ++ natLE 2 c.slice ++ natLE 1 c.cls ++ natLE 1 1 ++ zeros 4

/-- The slot check of a slot passes (R131). -/
def State.slotPasses (s : State) (line : Nat) (c : CompatSlot) : Bool :=
  c.check == s.slotCheck line c.head (xorBytes c.a c.b) c.pub

/-- A slot that fails its check is marked bad: its content zeroed, its lines off the quota, counted and recorded (R131). -/
def State.slotBad (s : State) (line : Nat) (c : CompatSlot) : State :=
  let c' := { c with bad := true, a := zeros 48, b := zeros 48, pub := zeros 96, check := zeros 8 }
  let s := (({ s with ks := { s.ks with slots := s.ks.slots.insert line c' } }).blkForget line).kcSub c.slice 4
  (s.bumpSat Fld.KS_COMPAT_BAD_bad c.region 1).event 0x23 0x02 c.region

/-- The request for a key reaches a compatibility slot that fails its check (R131). -/
def State.slotFails (s : State) (line : Nat) : Option CompatSlot :=
  match s.ks.slots.get? line with
  | some c => if !c.bad && !s.slotPasses line c then some c else none
  | none => none

/-- A whole-cache wipe: every record, slot, device-area record, HWU key register and register-file copy is zeroed (R137, R227); generations of the freed heads and mirror heads advance (R109, R111). A bad slot stays bad (R131). -/
def State.wipeCache (s : State) : State :=
  let heads := s.ks.recs.keys ++ s.ks.recs.cells.filterMap (fun e => e.2.mirror.map (fun m => m.lines.headD 0)) ++
    (s.ks.slots.filter (fun _ c => !c.bad)).keys
  let s := heads.foldl State.bumpGen s
  let s := { s with
    ks := { s.ks with recs := .empty, slots := s.ks.slots.filter (fun _ c => c.bad), dev := ⟨Shares.none, Shares.none, Shares.none, s.ks.dev.nonce⟩, hwu := Shares.none }
    met := { s.met with key := Shares.none }
    blk := { s.blk with files := .empty } }
  let s := { s with vlt := { s.vlt with challenges := s.vlt.challenges.map (fun (c : Challenge) => { c with keys := Shares.none }) } }
  let s := { s with slc := { s.slc with offers := s.slc.offers.map (fun _ (o : Offer) => { o with keys := Shares.none }) } }
  { s with regs := s.regs.filter (fun k _ =>
      !(decide (regKey .SLC_KC_USED 0 ≤ k) && decide (k < regKey .SLC_KC_USED 0 + 4096))) }

/-- A request of a master island for a path that R112 forbids is refused by KS: counted, reported to the access supervisor and the recorder (R113). -/
def State.ksRefuse (s : State) (master island : Nat) : State :=
  ((s.bumpSat Fld.KS_REFUSED_count 0 1).report ⟨master, 0, none⟩ .read 0 0x0B 0xFFFF).event 0x22 0x02 island

end Sys2Proof.Machine
end

