-- ==== Sys2Proof/Machine/Checks.lean ====
section
/-! DEFINITION. The checks that a packet goes through before its opcode's own work: its turn (R54, R60, R65), readiness and the randomness hold (R64, R65, R307), handles (R57, R62), descriptors and capacity (R46 to R49, R508), unassigned parameters (R507). Log entries of this file: DEDUCED 55, 61, 66, 71, 219, 244; DESIGN CHOICE 41, 145. -/

namespace Sys2Proof.Machine

/-- What a packet that completes with DONE does: the state after it, its output, its charge in MU and its `result`. -/
structure Did where
  s : State
  out : Bytes
  mu : Nat
  result : Nat

/-- A packet that completes with a failing status: the status, and the state where the packet's checks have changed it (a quorum check that passed ends its challenge, R147; a slot check marks its slot, R131). -/
structure Stop where
  st : Status
  s : Option State

/-- The work of an opcode on a packet: the first failing check (R8), or what it does. -/
abbrev Op := State → Nat → Packet → Except Stop Did

/-- A failing status with nothing changed. -/
def failWith {α : Type} (st : Status) : Except Stop α := .error ⟨st, none⟩

/-- A check of R8: its failure sets the status. -/
def require (b : Bool) (st : Status) : Except Stop Unit := if b then .ok () else failWith st

/-- A check made after the packet has changed the state. -/
def requireIn (s : State) (b : Bool) (st : Status) : Except Stop Unit := if b then .ok () else .error ⟨st, some s⟩

/-- The value of an option, or a failing status. -/
def getOr {α : Type} (o : Option α) (st : Status) : Except Stop α :=
  match o with
  | some a => .ok a
  | none => failWith st

/-- The value of an option, or a failing status after the packet has changed the state. -/
def getIn {α : Type} (s : State) (o : Option α) (st : Status) : Except Stop α :=
  match o with
  | some a => .ok a
  | none => .error ⟨st, some s⟩

/-- The packet is held for randomness (R65). -/
def Packet.isHeld (p : Packet) : Bool := match p.phase with | .held _ => true | _ => false

/-- A packet that has not started waits only behind a held packet: its own caravan's held head, or an earlier held packet where it needs randomness itself (R54, R65). Such a packet does not delay one that needs none. -/
def waitsBehindHeld (earlier : List (Nat × Packet)) (e : Nat × Packet) : Bool :=
  earlier.any (fun h => decide (h.1 < e.1) && h.2.isHeld &&
    (needsRandom e.2 e.2.data || (e.2.caravan.isSome && h.2.caravan == e.2.caravan)))

/-- An earlier packet of the queue pair, outside the packet's caravan, does not let the packet start (R54, R60, R65). With `pass` held packets, and those that wait behind them, let it by: it needs no randomness, or it only passes its readiness check. -/
def blocksStart (p : Packet) (pass : Bool) (earlier : List (Nat × Packet)) (e : Nat × Packet) : Bool :=
  (match e.2.phase with
    | .fetched => !(pass && waitsBehindHeld earlier e)
    | .ready => !(pass && waitsBehindHeld earlier e)
    | .tokens _ => true
    | .held _ => !pass
    | _ => false) &&
  !(e.2.caravan.isSome && e.2.caravan == p.caravan)

/-- A caravan of the queue pair other than the packet's own runs (R60). -/
def State.otherCaravanRuns (s : State) (p : Packet) : Bool :=
  (s.qpPackets p.ring p.qp).any (fun e =>
    match e.2.caravan with
    | some cid => e.2.caravan != p.caravan &&
        (match s.cmd.caravans.get? cid with | some c => c.running | none => false)
    | none => false)

/-- The packet's turn has come: its caravan lies before the tail and its earlier packets are complete, nothing of the queue pair that must start earlier waits, and a fence has no earlier packet (R45, R54, R59, R60). `pass` says that held packets let it by (R65). -/
def State.turn (s : State) (pid : Nat) (p : Packet) (pass : Bool) : Bool :=
  let earlier := (s.qpPackets p.ring p.qp).filter (fun e => decide (e.1 < pid))
  s.caravanTurn pid p &&
  (match p.caravan with
    | some cid => (match s.cmd.caravans.get? cid with | some c => c.closed || c.ends.isSome | none => false)
    | none => true) &&
  !s.otherCaravanRuns p && !earlier.any (blocksStart p pass earlier) && (!p.fence || earlier.isEmpty)

/-- The command pair that takes up a packet: that of its running caravan, or the scheduler's choice (R54, R60). -/
def State.pairFor (s : State) (p : Packet) : Nat :=
  match p.caravan.bind (fun cid => s.cmd.caravans.get? cid) with
  | some c => c.pair.getD s.pickPair
  | none => s.pickPair

/-- The packet works in KS: it names a key, or its opcode makes, opens or frees one (R389). -/
def Packet.usesKs (p : Packet) : Bool := p.opcode / 256 == 1 || p.opcode / 256 == 5 || p.khandle0 != 0

/-- A command pair takes up the packet: that of its running caravan, or any (R54, R60). -/
def State.pairReady (s : State) (p : Packet) : Bool :=
  match (p.caravan.bind (fun cid => s.cmd.caravans.get? cid)).bind (·.pair) with
  | some n => s.pairTakes n
  | none => (List.range 8).any s.pairTakes

/-- No class 1 hold covers HLU, the pair that would take the packet, or KS where the packet works there: a held island takes no new work (R389). -/
def State.pathTakes (s : State) (p : Packet) : Bool :=
  !s.islandHeld 0 && s.pairReady p && !(s.islandHeld 0x02 && p.usesKs)

/-- The packet may be taken up by its opcode now: its turn for the readiness check has come, and its path takes new work. -/
def State.startable (s : State) (opc pid : Nat) (d : PktData) : Option Packet :=
  match s.cmd.packets.get? pid with
  | none => none
  | some p =>
    let p := { p with data := { d with refused := d.refused || p.data.refused } }
    if p.opcode == opc && p.decodes && (p.phase == .fetched || p.phase == .ready) &&
        s.turn pid p true && (if s.booted then s.pathTakes p else !s.islandHeld 0) then some p
    else none

/-- The packet's caravan runs from its first packet's start, on one command pair (R60). -/
def State.runCaravan (s : State) (p : Packet) (pair : Nat) : State :=
  match p.caravan with
  | some cid =>
    match s.cmd.caravans.get? cid with
    | some c => { s with cmd := { s.cmd with caravans := s.cmd.caravans.insert cid { c with running := true, pair := some pair } } }
    | none => s
  | none => s

/-- Packets held under R65. -/
def State.heldCount (s : State) : Nat :=
  s.cmd.packets.count (fun _ p => p.isHeld)

/-- The most packets held at once (R307). -/
def heldMax : Nat := 4096

/-- A packet starts: it is taken up by a command pair (R54), and its caravan runs. -/
def State.take (s : State) (pid : Nat) (p : Packet) : State :=
  let pair := s.pairFor p
  let s := (s.setPacket pid { p with start := s.now, pair := pair }).runCaravan p pair
  let s := s.pmc 0x0F0 (p.data.pind.length + 16 * (p.data.inList.length + p.data.outList.length) + p.data.input.length)
  { s with free := s.free + 1 }

/-- A packet's start counts for its command pair, once (R54, R438). -/
def State.countStart (s : State) (p : Packet) (again : Bool) : State := if again then s else s.pmc (0x010 + p.pair) 1

/-- The start of a packet by its number counts. -/
def State.countPid (s : State) (pid : Nat) (skip : Bool) : State :=
  match s.cmd.packets.get? pid with
  | some p => s.countStart p skip
  | none => s

/-- A failing status that leaves the packet unstarted (R8, R54). -/
def Status.unstarted : Status → Bool
  | .denied => true | .noResource => true | .busyRetry => true | .notReady => true
  | _ => false

/-- A packet's completion by an opcode of time class none: the output and the completion of a DONE, or the failing status (R52). Where the host refuses the output (R49), the opcode changes nothing else (DESIGN CHOICE 219). -/
def State.conclude (s : State) (pid : Nat) (r : Except Stop Did) : State :=
  match r with
  | .error e => ((e.s.getD s).countPid pid e.st.unstarted).fail pid e.st
  | .ok d =>
    match (s.cmd.packets.get? pid).bind (fun p => p.refusesOut d.out) with
    | some _ => (s.countPid pid false).finish pid d.out d.mu d.result
    | none => (d.s.countPid pid false).finish pid d.out d.mu d.result

/-- The packet before its opcode's work: readiness (R64), then the randomness it needs (R65, R506): reserved at once, held, or refused where 4,096 are held (R307). A packet that needs randomness starts only in ring order, after those still held before it (R54). -/
def State.prepare (s : State) (pid : Nat) (p : Packet) : State × Option Packet :=
  if !s.booted then (s.fail pid .notReady, none)
  else if needsRandom p p.data then
    if p.rnd.isNone && !s.randomReady p then
      if heldMax ≤ s.heldCount then (s.fail pid .busyRetry, none)
      else (s.setPacket pid { p with phase := .held s.now }, none)
    else if p.rnd.isNone then
      let s := s.reserve pid p
      (s, if s.turn pid p false then s.cmd.packets.get? pid else none)
    else (s, if s.turn pid p false then some p else none)
  else (s, some p)

/-- The run of an opcode on a packet: nothing where it is not the packet's turn; otherwise readiness, randomness, and the opcode's work. -/
def State.runPacket (s : State) (opc pid : Nat) (d : PktData) (work : State → Nat → Packet → State) : State :=
  match s.startable opc pid d with
  | none => s
  | some p =>
    match s.prepare pid p with
    | (s, none) => s
    | (s, some p) =>
      let s := s.take pid p
      work s pid ((s.cmd.packets.get? pid).getD p)

/-- The run of an opcode of time class none (R8, R52). -/
def State.runOp (s : State) (opc pid : Nat) (d : PktData) (op : Op) : State :=
  s.runPacket opc pid d (fun s pid p => s.conclude pid (op s pid p))

/-- The result of the caravan's preceding packet, where `prevkey` may take it (R62). -/
def State.prevResult (s : State) (pid : Nat) (p : Packet) : Option Nat :=
  match p.caravan with
  | none => none
  | some cid =>
    if cid == pid then none
    else
      match s.cmd.caravans.get? cid with
      | some c => if c.prev != 0 && p.khandle0 == 0 then some c.prev else none
      | none => none

/-- The first handle after the substitution of R62: none where a case of that rule rejects the packet. -/
def State.firstHandle (s : State) (pid : Nat) (p : Packet) : Option Nat :=
  if p.prevkey then s.prevResult pid p else some p.khandle0

/-- A KEY_UNLOAD of the handle has started and waits (R58). -/
def State.unloading (s : State) (h : Nat) : Bool :=
  s.cmd.deferred.any (fun a => match a with | .unload _ h' => h' == h | _ => false)

/-- A wipe is in progress: every key request completes with BUSY_RETRY (R138). -/
def State.wiping (s : State) : Bool := s.flag Fld.KS_STATUS_wipe_busy 0

/-- The root and the policy block of a slice's vault for an opcode that needs them: no key request is served during a wipe (R138), and without a vault root the precondition of R146 fails. -/
def State.vaultNow (s : State) (slice : Nat) : Except Stop (Nat × Bytes × Bytes) := do
  require (!s.wiping) .busyRetry
  getOr (s.vaultOf slice) .rejected

/-- The class of a nonzero handle passes the second check of R57: a class that the opcode takes, or, for an opcode that takes no key, any class that a ring may name (R66). -/
def KeyUse.classOk (use : KeyUse) (c : Nat) : Bool := if use = .unused then KeyUse.anyKey.permits c else use.permits c

/-- The handle checks of R57, in that rule's order, on a first handle with its use and on the second handle, which no opcode uses. -/
def State.checkHandles (s : State) (p : Packet) (use : KeyUse) (h0 : Nat) : Except Stop (Option Key) := do
  let h1 := p.khandle1
  let used := use != .unused && !(use == .optional && h0 == 0)
  require (!(p.manager && (h0 != 0 || h1 != 0))) .denied
  require (!((used || h0 != 0) && hSlice h0 != p.ring)) .denied
  require (!(h1 != 0 && hSlice h1 != p.ring)) .denied
  require (!(used || h0 != 0) || use.classOk (hClass h0)) .denied
  require (h1 == 0 || use.classOk (hClass h1)) .denied
  require (!(used && s.wiping)) .busyRetry
  let k ← if used then
    (match s.resolve h0 with
    | some k => if s.unloading h0 then failWith .rejected else .ok (some k)
    | none => failWith .rejected) else .ok none
  require (used || h0 == 0) .rejected
  require (h1 == 0) .rejected
  .ok k

/-- The handle check of R511: substitution first, then R57. -/
def State.handles (s : State) (pid : Nat) (p : Packet) : Except Stop (Option Key) := do
  let use := match opInfo p.opcode with | some o => o.key | none => .unused
  let h0 ← getOr (s.firstHandle pid p) .rejected
  s.checkHandles p use h0

/-- The key of an opcode that takes one. -/
def State.keyOf (s : State) (pid : Nat) (p : Packet) : Except Stop Key := do
  let k ← s.handles pid p
  getOr k .rejected

/-- A descriptor is valid (R47): a single range, or a list of 1 to 256 nonempty elements with zero reserved octets and a total within bounds. -/
def descOk (len : Nat) (l : List (Nat × Nat × Nat)) : Bool :=
  if bit len 31 then
    let n := bits len 30 0
    decide (1 ≤ n) && decide (n ≤ 256) && l.length == n && l.all (fun e => e.2.1 != 0 && e.2.2 == 0) &&
      decide (l.foldl (fun a e => a + e.2.1) 0 ≤ 0x7FFFFFFF)
  else true

/-- The ranges of a descriptor. -/
def descRanges (addr len : Nat) (l : List (Nat × Nat × Nat)) : List (Nat × Nat) :=
  if bit len 31 then l.map (fun e => (e.1, e.2.1)) else [(addr, bits len 30 0)]

/-- The octets that ranges hold. -/
def rangesLen (l : List (Nat × Nat)) : Nat := l.foldl (fun a e => a + e.2) 0

/-- Two address ranges share an octet. -/
def overlap (a b : Nat × Nat) : Bool := a.2 != 0 && b.2 != 0 && decide (a.1 < b.1 + b.2) && decide (b.1 < a.1 + a.2)

/-- The lists of ranges agree up to the end of the shorter area (R48). -/
def prefixAgree : List (Nat × Nat) → List (Nat × Nat) → Bool
  | [], _ => true
  | _, [] => true
  | [a], [b] => a.1 == b.1
  | [a], b :: _ => a.1 == b.1 && decide (a.2 ≤ b.2)
  | a :: _, [b] => a.1 == b.1 && decide (b.2 ≤ a.2)
  | a :: as, b :: bs => a.1 == b.1 && a.2 == b.2 && prefixAgree as bs

namespace Packet

def inRanges (p : Packet) : List (Nat × Nat) := descRanges p.inAddr p.inLen p.data.inList
/-- The input length in octets. -/
def inTotal (p : Packet) : Nat := rangesLen p.inRanges
/-- The output capacity (R508). -/
def capacity (p : Packet) : Nat := rangesLen p.outRanges
/-- The input octets as read. -/
def input (p : Packet) : Bytes := fitLen p.inTotal p.data.input
/-- The length of the parameter block in its descriptor (R45). -/
def pindLen (p : Packet) : Nat := field p.params 8 4
/-- The parameter block is well described (R46). -/
def pindOk (p : Packet) : Bool := field p.params 12 4 == 0 && decide (1 ≤ p.pindLen) && decide (p.pindLen ≤ 4096)
/-- The parameter block as read; empty where the packet has none. -/
def block (p : Packet) : Bytes := if p.pind then fitLen p.pindLen p.data.pind else []
/-- The packet is in place (R48). -/
def inPlace (p : Packet) : Bool :=
  (!bit p.inLen 31 && !bit p.outLen 31 && p.inAddr == p.outAddr) ||
  (bit p.inLen 31 && bit p.outLen 31 && prefixAgree p.inRanges p.outRanges)
/-- Input and output areas overlap otherwise than in place where that is allowed (R48). -/
def badOverlap (p : Packet) (symmetric : Bool) : Bool :=
  p.inRanges.any (fun a => p.outRanges.any (overlap a)) && !(symmetric && p.inPlace)

end Packet

/-- Which areas an opcode uses. -/
structure Uses where
  input : Bool
  output : Bool
  symmetric : Bool
deriving DecidableEq, Repr

/-- The descriptors of a packet are valid, do not overlap, and the host refused none of its accesses (R47 to R49). -/
def Packet.areasOk (p : Packet) (u : Uses) : Bool :=
  (!u.input || descOk p.inLen p.data.inList) && (!u.output || descOk p.outLen p.data.outList) &&
  !(u.input && u.output && p.badOverlap u.symmetric) && !p.data.refused && (!p.pind || p.pindOk)

/-- What a packet's policy and quota checks read can be read: its input and its parameter block (R511). -/
def Packet.readOk (p : Packet) (input : Bool) : Bool :=
  (!input || descOk p.inLen p.data.inList) && !p.data.refused && (!p.pind || p.pindOk)

/-- An opcode whose parameters are inline carries no parameter pointer; the octets it does not assign are zero (R507). -/
def Packet.inlineFrom (p : Packet) (a : Nat) : Bool := !p.pind && allZero (p.params.drop a)

/-- Uses of the areas. -/
def ioNone : Uses := ⟨false, false, false⟩
def ioIn : Uses := ⟨true, false, false⟩
def ioOut : Uses := ⟨false, true, false⟩
def ioBoth : Uses := ⟨true, true, false⟩

/-- The capacity holds an output (R508). -/
def Packet.fits (p : Packet) (n : Nat) : Bool := decide (n ≤ p.capacity)

/-- A custody activation is under way, from its acceptance until it completes or is abandoned: vault-changing opcodes complete with BUSY_RETRY (R133). -/
def State.sealing (s : State) : Bool := match s.fw.act with | some a => a.kind == 1 | none => false

/-- The seed is available for derivation (`KS_STATUS.seed_valid`); without it a derivation completes its command with FAULTED (R419). -/
def State.seedValid (s : State) : Bool := s.flag Fld.KS_STATUS_seed_valid 0

end Sys2Proof.Machine
end

