-- ==== Sys2Proof/Machine/Quorum.lean ====
section
/-! DEFINITION. Policy blocks (R139, R140), challenges (R142 to R144), tokens and the quorum check (R145 to R148). Log entries of this file: DEDUCED 71, 74; DESIGN CHOICE 75, 229. -/

namespace Sys2Proof.Machine

/-- Digests of the officer entries of a policy block (R139). -/
def officerDigests (b : Bytes) : List Bytes := (List.range (field b 1 1)).map (fun j => slice b (0x40 + 64 * j + 0x10) 48)

/-- An officer entry is in range at its position (R139). -/
def officerOk (b : Bytes) (j : Nat) : Bool :=
  let o := 0x40 + 64 * j
  let alg := field b o 1
  decide (1 ≤ alg) && decide (alg ≤ 3) && field b (o + 1) 1 == j && allZero (slice b (o + 2) 6)

/-- A policy block is within every range of R139; `device` says that it is the device quorum's (R156). -/
def policyOk (b : Bytes) (device : Bool) : Bool :=
  let n := field b 1 1
  let m := field b 2 1
  let k := field b 6 2
  let mask := field b 4 2
  let life := field b 8 4
  field b 0 1 == 1 && decide (1 ≤ n) && decide (n ≤ 16) && decide (1 ≤ m) && decide (m ≤ n) && field b 3 1 == 0 &&
  b.length == 64 + 64 * n + 8 * k && decide (b.length ≤ 8192) && decide (mask < 128) &&
  (if device then mask == 0 && k == 0 && allZero (slice b 0x10 16) else bit mask 3 && bit mask 5) &&
  decide (60 ≤ life) && decide (life ≤ 86400) && field b 0x0C 4 == 0 && allZero (slice b 0x20 32) &&
  (List.range n).all (officerOk b) && decide (officerDigests b).Nodup

/-- Public key and signature lengths of an officer algorithm (R140). -/
def officerLens : Nat → Nat × Nat
  | 1 => (97, 96)
  | 2 => (32, 64)
  | _ => (1952, 3309)

/-- The verification of an officer algorithm (R140). -/
def officerVerify (alg : Nat) (pub msg sig : Bytes) : Bool :=
  Config.accepts (match alg with | 1 => .ecdsaP384 | 2 => .ed25519 | _ => .mlDsa65) [pub, msg, sig]

/-- MU charged for one approval (R148). -/
def officerCharge : Nat → Nat
  | 1 => 110
  | 2 => 40
  | _ => 60

/-- Operation classes of R141. -/
def qExport : Nat := 0x00
def qImport : Nat := 0x01
def qDelete : Nat := 0x02
def qPolicy : Nat := 0x03
def qReseal : Nat := 0x04
def qMigrate : Nat := 0x05
def qDebug : Nat := 0x06
def qLc : Nat := 0x10
def qFw : Nat := 0x11
def qConfig : Nat := 0x12
def qDqPolicy : Nat := 0x13

/-- The number of approvals of a token (R145). -/
def tokenA (t : Bytes) : Nat := field t 4 2

/-- A token is well formed for a policy of `n` officers (R146 item 1). -/
def tokenOk (t : Bytes) (n : Nat) : Bool :=
  let a := tokenA t
  let idx := fun j => field t (0x10 + 32 * j) 1
  decide (16 ≤ t.length) && decide (a ≤ 16) && t.length == 16 + 32 * a && field t 0 4 == 1 && field t 6 2 == 0 &&
  (field t 8 8 == 0) == (a == 0) &&
  (List.range a).all (fun j => decide (idx j < n) && (j == 0 || decide (idx (j - 1) < idx j)) &&
    field t (0x10 + 32 * j + 2) 2 == 0 && allZero (slice t (0x10 + 32 * j + 0x14) 12))

/-- The ASCII octets that begin the signed message of an officer (R140). -/
def quorumLabel : Bytes := ascii "ELVEVA-QUORUM-V1"

/-- Entry `j` of a token is approved under a policy block and a challenge (R146 item 4). -/
def entryOk (t block body : Bytes) (j : Nat) (ap : Bytes × Bytes) : Bool :=
  let o := 0x10 + 32 * j
  let alg := field t (o + 1) 1
  let e := 0x40 + 64 * field t o 1
  let (lp, ls) := officerLens alg
  alg == field block e 1 && field t (o + 4) 4 == lp && field t (o + 0x10) 4 == ls &&
  ap.1.length == lp && ap.2.length == ls && sha384 ap.1 == slice block (e + 0x10) 48 &&
  officerVerify alg ap.1 (quorumLabel ++ body) ap.2

/-- Every entry of a token is approved. -/
def entriesOk (t block body : Bytes) (aps : List (Bytes × Bytes)) : Bool :=
  (List.range (tokenA t)).all (fun j => entryOk t block body j (aps.getD j ([], [])))

/-- The charge of a token's approvals (R148). -/
def tokenCharge (t : Bytes) : Nat :=
  (List.range (tokenA t)).foldl (fun a j => a + officerCharge (field t (0x10 + 32 * j + 1) 1)) 0

/-- A challenge is live at a device time: below its expiry (R144). -/
def Challenge.live (c : Challenge) (now : Nat) : Bool := decide (now < c.expiry)

/-- The challenge that a token names, where it is live, of the slice, class, counter and digest (R146 item 3). -/
def State.tokenChallenge (s : State) (t : Bytes) (sl cls counter : Nat) (digest : Bytes) : Option Challenge :=
  s.vlt.challenges.find? (fun c => c.ident == field t 8 8 && c.slice == sl && c.cls == cls && c.counter == counter &&
    c.digest == digest && c.live s.now)

/-- A challenge ends, its private values zeroized (R144). -/
def State.endChallenge (s : State) (ident : Nat) : State :=
  { s with vlt := { s.vlt with challenges := s.vlt.challenges.filter (fun c => c.ident != ident) } }

/-- A slice's virtual time (R170). -/
def State.vtime (s : State) (sl : Nat) : VTime := s.pke.vs.getD sl ⟨0, 0⟩

/-- A slice's virtual time set, now. -/
def State.setV (s : State) (sl v : Nat) : State :=
  { s with pke := { s.pke with vs := s.pke.vs.insert sl ⟨v, s.pke.stamp⟩, stamp := s.pke.stamp + 1 } }

/-- The PKE weight of a slice. -/
def State.weight (s : State) (sl : Nat) : Nat := s.fget Fld.SLC_PKE_SHARE_weight sl

/-- A budget of `b` MU is added to a slice's virtual time (R170, R171). -/
def State.charge (s : State) (sl b : Nat) : State := s.setV sl ((s.vtime sl).v + b * 4096 / s.weight sl)

/-- The quorum check of a vault opcode (R146): the state after it (its challenge ended, R147, and the verifications' budget added to the slice's virtual time, R171), the charge of its approvals, and the challenge it named. None where any item fails. -/
def State.vaultQuorum (s : State) (sl cls : Nat) (must : Bool) (block digest t : Bytes) (aps : List (Bytes × Bytes)) :
    Option (State × Nat × Option Challenge) :=
  let need := if must || bit (field block 4 2) cls then field block 2 1 else 0
  if !tokenOk t (field block 1 1) || decide (tokenA t < need) then none
  else if tokenA t = 0 then some (s, 0, none)
  else
    match s.tokenChallenge t sl cls (s.vaultCounter sl) digest with
    | none => none
    | some c => if entriesOk t block c.body aps then some ((s.endChallenge c.ident).charge sl (tokenCharge t), tokenCharge t, some c) else none

/-- The device quorum's number as a slice (R143). -/
def dqSlice : Nat := 0xFFFF

/-- The quorum check of a device opcode, under the policy block that its challenge keeps (R146, R158): the state after it and the charge of its approvals (R148). -/
def State.deviceQuorum (s : State) (cls : Nat) (digest t : Bytes) (aps : List (Bytes × Bytes)) : Option (State × Nat) :=
  match s.otp.dqCurrent with
  | none => none
  | some r =>
    match s.tokenChallenge t dqSlice cls r digest with
    | none => none
    | some c =>
      if tokenOk t (field c.block 1 1) && decide (field c.block 2 1 ≤ tokenA t) && entriesOk t c.block c.body aps then
        some (s.endChallenge c.ident, tokenCharge t)
      else none

/-- A key identifier as binding data: eight octets, most significant first (R141). -/
def identBE (n : Nat) : Bytes := natBE 8 n

end Sys2Proof.Machine
end

