-- ==== Sys2Proof/Machine/Transfer.lean ====
section
/-! DEFINITION. The hybrid key transfer that exports, imports and migrations share (R93, R152): ML-KEM-1024 with ephemeral ECDH P-384. -/

namespace Sys2Proof.Machine

/-- The public pair of a hybrid key made from random octets: ML-KEM-1024 encapsulation key, then uncompressed P-384 point (1,665 octets). -/
def hybridPub (seed : Bytes) : Bytes :=
  fitLen 1568 (Config.prim .keyPublic [ascii "ML-KEM-1024", seed]) ++ fitLen 97 (Config.prim .keyPublic [ascii "P-384", seed])

/-- The parts of a recipient key block pass the validation of their standards. -/
def recipientOk (block : Bytes) : Bool :=
  block.length == 1665 && Config.accepts .mlKem1024Encaps [block.take 1568] && Config.accepts .ecdhP384 [block.drop 1568]

/-- A transfer to a recipient key block, with random octets: the ML-KEM ciphertext, the ephemeral point, and the KMAC key of R93. -/
def hybridSend (block rnd : Bytes) : Bytes × Bytes × Bytes :=
  let kem := Config.prim .mlKem1024Encaps [block.take 1568, rnd]
  let eph := Config.prim .keyPrivate [ascii "P-384", rnd]
  (fitLen 1568 kem, fitLen 97 (Config.prim .keyPublic [ascii "P-384", rnd]),
    fitLen 32 (kem.drop 1568) ++ fitLen 48 (Config.prim .ecdhP384 [eph, block.drop 1568]))

/-- The recipient's side: the KMAC key from the ciphertext and the sender's point, none where the point is invalid. -/
def hybridReceive (seed ct point : Bytes) : Option Bytes :=
  if Config.accepts .ecdhP384 [point] then
    some (fitLen 32 (Config.prim .mlKem1024Decaps [Config.prim .keyPrivate [ascii "ML-KEM-1024", seed], ct]) ++
      fitLen 48 (Config.prim .ecdhP384 [Config.prim .keyPrivate [ascii "P-384", seed], point]))
  else none

/-- The transfer key and nonce: 32 and 12 octets of KMAC256 (R93). -/
def transferKey (kmacKey head label : Bytes) : Bytes × Bytes :=
  let t := kmac kmacKey head label 44
  (t.take 32, t.drop 32)

/-- A transfer form or package up to its tag: the first 0x80 octets, the recipient's parts, and the body under the transfer key. -/
def mkTransfer (head block rnd label body : Bytes) : Bytes :=
  let (ct, point, key) := hybridSend block rnd
  let (k, nonce) := transferKey key head label
  let aad := head ++ ct ++ point ++ zeros 7
  let (c, tag) := sivSeal k nonce aad body
  aad ++ c ++ tag

/-- The body of a received transfer of `len` body octets, with its transfer key: none where the point or the tag fails. -/
def openTransfer (seed t label : Bytes) (len : Nat) : Option (Bytes × Bytes) :=
  match hybridReceive seed (slice t 0x80 1568) (slice t 0x6A0 97) with
  | none => none
  | some key =>
    let (k, nonce) := transferKey key (t.take 0x80) label
    (sivOpen k nonce (t.take 0x708) (slice t 0x708 len) (slice t (0x708 + len) 16)).map (fun b => (b, k))

end Sys2Proof.Machine
end

