-- ==== Sys2Proof/Machine/KeyCmds.lean ====
section
/-! DEFINITION. The key management opcodes of time class none (R67, R119 to R132, R152 to R154, R509, R510). Log entries of this file: DEDUCED 55, 210; DESIGN CHOICE 56, 57, 58, 59, 60, 82. -/

namespace Sys2Proof.Machine

/-- The attribute header of a new key in a vault. -/
def NewKey.header (k : NewKey) (vault : Bytes) : Bytes :=
  attrHeader k.cls k.typ k.origin k.usage k.ident vault k.parent k.secret.length k.pub.length k.exponent

/-- A new key enters the cache of a slice: its handle and the state after it. -/
def State.enterKey (s : State) (sl : Nat) (vault : Bytes) (k : NewKey) : Option (Nat × State) :=
  match s.addRecord (recOfHeader sl (k.header vault) k.pub) k.secret with
  | some (line, s) => some (s.handleOf sl k.cls line, s)
  | none => none

/-- The slice holds an EVX-7200 compatibility root (R128). -/
def State.compatRoot (s : State) (sl : Nat) : Option KeyRec :=
  (s.ks.recs.find? (fun _ r => r.slice == sl && r.typ == 0x7F)).map (·.2)

/-- Lines kept for the keys that the jobs of a slice return (R8, R208). -/
def State.linesKept (s : State) (sl : Nat) : Nat := s.pke.jobs.sum (fun _ j => if j.slice == sl then j.lines else 0)

/-- Lines kept for the keys that the jobs of all slices return. -/
def State.allKept (s : State) : Nat := s.pke.jobs.sum (fun _ j => j.lines)

/-- The KC quota and the cache hold a key of a type beside those that are kept for running jobs (R108, R208). -/
def State.quotaOk (s : State) (sl t : Nat) : Bool :=
  s.kcFits sl (s.quotaLines sl (typeLines t) + s.linesKept sl) && s.cacheRoom sl (typeLines t) &&
    (s.allKept == 0 || decide (s.allKept + s.quotaLines sl (typeLines t) ≤ s.freeLines))

/-- A slice may take a key of a type: at most one EVX-7200 compatibility root (R128). -/
def State.oneRoot (s : State) (sl t : Nat) : Bool := t != 0x7F || (s.compatRoot sl).isNone

/-- The KDF of KEY_DERIVE that p[0] names (R510). -/
def derive (kdf : Nat) (secret ctx : Bytes) (n : Nat) : Option Bytes :=
  match kdf with
  | 1 => some (fitLen n (Config.prim .hkdfSha256 [[], secret, ctx, natBE 4 n]))
  | 2 => some (fitLen n (Config.prim .hkdfSha384 [[], secret, ctx, natBE 4 n]))
  | 3 => some (kmac secret ctx [] n)
  | _ => none

/-- A new key is made and its mitten written, for an opcode that has made its checks: the quota first (R108), then the vault, the room of the output and the cache. -/
def State.deliver (s : State) (p : Packet) (k : NewKey) (nonce : Bytes) (mu : Nat) : Except Stop Did := do
  let (_, root, _) ← getIn s (s.vaultOf p.ring) .rejected
  let s := s.hwuLoad root
  let vault := s.vaultId p.ring
  requireIn s (p.fits (96 + k.secret.length + k.pub.length)) .rejected
  let (h, t) ← getIn s (s.enterKey p.ring vault k) .noResource
  .ok ⟨t, mkMitten root (k.header vault) nonce k.secret k.pub, mu, h⟩

/-- KEY_DERIVE (R510). -/
def opKeyDerive : Op := fun s pid p => do
  let k ← s.keyOf pid p
  let cls := p.par 1 1
  let t := p.par 4 4
  require (!k.compat && bit k.usage useDerive) .denied
  require (!(cls == clsCustody && k.cls != clsCustody)) .denied
  require (!s.wiping) .busyRetry
  require (s.quotaOk p.ring t) .noResource
  require (p.areasOk ioBoth && p.inlineFrom 5 && decide (p.inTotal ≤ 65535)) .rejected
  require (cls == clsTraffic || cls == clsCustody) .rejected
  let kt ← getOr (keyType t) .rejected
  require (kt.classes.contains cls && kt.pub == 0 && usageOk t cls (p.par 2 3) && s.oneRoot p.ring t) .rejected
  let secret ← getOr (derive (p.par 0 0) k.secret p.input kt.s) .rejected
  s.deliver p ⟨cls, t, 2, p.par 2 3, leNat (p.random 0 8), k.ident, 0, secret, []⟩ (p.random 1 12) 4

/-- KEY_DERIVE: makes a new key from the secret of a key (R510). -/
def execKeyDerive (dt pid : Nat) (d : PktData) (s : State) : Host.Outcome State Fault Refusal :=
  .next ((s.tick dt).runOp 0x0105 pid d opKeyDerive)

/-- KEY_GENERATE of a TRAFFIC key (R67): its material is a random value of the packet. -/
def opGenTraffic : Op := fun s pid p => do
  let _ ← s.handles pid p
  let t := p.par 1 1
  require (!s.wiping) .busyRetry
  require (s.quotaOk p.ring t) .noResource
  require (p.areasOk ioOut && p.inlineFrom 4) .rejected
  let kt ← getOr (keyType t) .rejected
  require (kt.classes.contains clsTraffic && usageOk t clsTraffic (p.par 2 3)) .rejected
  s.deliver p ⟨clsTraffic, t, 1, p.par 2 3, leNat (p.random 0 8), 0, 0, p.random 2 kt.s, []⟩ (p.random 1 12) 4

/-- KEY_LOAD of a mitten (R123). -/
def opLoadMitten (s : State) (p : Packet) (m : Bytes) : Except Stop Did := do
  let t := field m 2 1
  require (s.quotaOk p.ring t) .noResource
  require (p.inlineFrom 0) .rejected
  let (_, root, block) ← getOr (s.vaultOf p.ring) .rejected
  let s := s.hwuLoad root
  let (secret, pub) ← getOr (openMitten root block (s.vaultId p.ring) m) .rejected
  require (s.oneRoot p.ring t) .rejected
  let (line, u) ← getOr (s.addRecord (recOfHeader p.ring (m.take 64) pub) secret) .noResource
  .ok ⟨u, [], 2, u.handleOf p.ring (field m 1 1) line⟩

/-- First lines of the compatibility slots of the enabled regions (R127, R130). -/
def State.slotLines (s : State) : List Nat :=
  ((List.range 4).filter s.regionOn).flatMap (fun n =>
    (List.range (s.regionSize n / 4)).map (fun k => s.regionBase n + 4 * k))

/-- A compatibility slot is free: nothing in it, bad content included, and its line is not quarantined. -/
def State.slotFree (s : State) (i : Nat) : Bool := !s.ks.slots.has i && !s.quarantined i

/-- A free compatibility slot: the hardware's choice where it is one, the first otherwise. -/
def State.freeSlotLine (s : State) : Option Nat :=
  let c := (Config.pickLines s.free 4).headD 0
  if s.slotLines.contains c && s.slotFree c then some c else s.slotLines.find? s.slotFree

/-- The region of a line. -/
def State.regionOf (s : State) (i : Nat) : Nat :=
  ((List.range 4).find? (fun n => s.regionOn n && decide (s.regionBase n ≤ i) &&
    decide (i < s.regionBase n + s.regionSize n))).getD 0

/-- The fields of an EVX-7200 record are valid (R128, R129); `field` is the unwrapped key field. -/
def evxOk (r keyField : Bytes) : Bool :=
  let t := field r 4 1
  let c := field r 5 1
  match compatType t c with
  | none => false
  | some nt =>
    match keyType nt with
    | none => false
    | some kt =>
      field r 0 4 == 0x7203 && decide (field r 6 2 < 1024) && usageOk nt c (field r 6 2) &&
      allZero ((slice r 0x48 96).drop kt.pub) && allZero (keyField.drop kt.s)

/-- KEY_LOAD of an EVX-7200 record (R128 to R130). -/
def opLoadCompat (s : State) (p : Packet) (r : Bytes) : Except Stop Did := do
  require (!s.mirrors p.ring) .denied
  let line ← getOr s.freeSlotLine .noResource
  require (s.kcFits p.ring 4) .noResource
  require (p.inlineFrom 0 && r.length == 176) .rejected
  let root ← getOr (s.compatRoot p.ring) .rejected
  let kek := root.copy.secret.take 32
  let wrapped := slice r 0x10 56
  let kf := fitLen 48 (Config.prim .evxUnwrap [kek, wrapped])
  require (fitLen 8 (Config.prim .hmacSha256 [kek, r.take 0xA8]) == slice r 0xA8 8) .rejected
  require (Config.accepts .evxUnwrap [kek, wrapped] && evxOk r kf) .rejected
  let mask := fitLen 48 (Config.random s.free)
  let cls := field r 5 1
  let c : CompatSlot := ⟨s.regionOf line, p.ring, cls, false, r.take 16, mask, xorBytes kf mask, slice r 0x48 96, []⟩
  let c := { c with check := s.slotCheck line c.head kf c.pub }
  let t := ({ s with ks := { s.ks with slots := s.ks.slots.insert line c }, free := s.free + 1 }).kcAdd p.ring 4
  .ok ⟨t, [], 2, t.handleOf p.ring cls line⟩

/-- KEY_LOAD (R123): the first input octet selects the form. -/
def opKeyLoad : Op := fun s pid p => do
  let _ ← s.handles pid p
  require (p.readOk true) .rejected
  let m := p.input
  require (field m 0 1 == 1 || field m 0 1 == 3) .rejected
  require (!s.wiping) .busyRetry
  if field m 0 1 == 3 then opLoadCompat s p m else opLoadMitten s p m

/-- KEY_LOAD: loads a mitten or an EVX-7200 record (R123, R129). -/
def execKeyLoad (dt pid : Nat) (d : PktData) (s : State) : Host.Outcome State Fault Refusal :=
  .next ((s.tick dt).runOp 0x0102 pid d opKeyLoad)

/-- Other started packets that reference a handle (R58). -/
def State.references (s : State) (pid h : Nat) : Bool :=
  s.cmd.packets.any (fun i p => i != pid && p.phase.started && p.keys.contains h)

/-- A deferred KEY_UNLOAD completes, or goes on waiting (R58). -/
def State.unloadNow (s : State) (pid h : Nat) : State :=
  match s.resolve h with
  | some k => (s.freeKey k.line).finish pid [] 0 0
  | none => s.finish pid [] 0 0

/-- KEY_UNLOAD: the record is freed at once, or once every started packet that references it has completed (R58). -/
def State.keyUnload (s : State) (pid : Nat) (p : Packet) : State :=
  match s.keyOf pid p, s.firstHandle pid p with
  | .ok _, some h =>
    if !(p.inlineFrom 0) then s.fail pid .rejected
    else if s.references pid h then
      let s := s.setPacket pid { p with phase := .waiting }
      { s with cmd := { s.cmd with deferred := s.cmd.deferred ++ [.unload pid h] } }
    else s.unloadNow pid h
  | .error e, _ => s.fail pid e.st
  | .ok _, none => s.fail pid .rejected

/-- KEY_UNLOAD (R58). -/
def execKeyUnload (dt pid : Nat) (d : PktData) (s : State) : Host.Outcome State Fault Refusal :=
  .next ((s.tick dt).runPacket 0x0103 pid d State.keyUnload)

/-- A public key in the form in which it crosses the boundary (R509). -/
def pubForm (t : Nat) (pub : Bytes) (e : Nat) : Bytes :=
  if 0x10 ≤ t && t ≤ 0x12 then 4 :: pub
  else if isRsa t then pub ++ natBE 4 e
  else if 0x30 ≤ t && t ≤ 0x32 then pub.take (pub.length - 32)
  else pub

/-- KEY_PUBLIC (R509). -/
def opKeyPublic : Op := fun s pid p => do
  let k ← s.keyOf pid p
  let out := pubForm k.typ k.pub k.exponent
  require (p.areasOk ioOut && p.inlineFrom 0 && !k.pub.isEmpty && p.fits out.length) .rejected
  .ok ⟨s, out, 1, 0⟩

/-- KEY_PUBLIC: outputs the public key of an ASYM or CUSTODY key (R509). -/
def execKeyPublic (dt pid : Nat) (d : PktData) (s : State) : Host.Outcome State Fault Refusal :=
  .next ((s.tick dt).runOp 0x0104 pid d opKeyPublic)

/-- The attribute header of a key: the record's own; for a compatibility slot its native class, type and usage, with the fields that an EVX-7200 record does not have as free values. -/
def State.headerOf (s : State) (k : Key) : Bytes :=
  match s.ks.recs.get? k.line with
  | some r => r.header
  | none => attrHeader k.cls k.typ (Config.choice s.free) k.usage k.ident (Config.random s.free) 0 k.secret.length k.pub.length 0

/-- KEY_ATTR (R121). -/
def opKeyAttr : Op := fun s pid p => do
  let k ← s.keyOf pid p
  require (p.areasOk ioOut && p.inlineFrom 0 && p.fits 64) .rejected
  .ok ⟨{ s with free := s.free + 1 }, s.headerOf k, 0, 0⟩

/-- KEY_ATTR: outputs the attribute header of a key (R121). -/
def execKeyAttr (dt pid : Nat) (d : PktData) (s : State) : Host.Outcome State Fault Refusal :=
  .next ((s.tick dt).runOp 0x0109 pid d opKeyAttr)

/-- Customization string of the transfer form (R152). -/
def keyTransferLabel : Bytes := ascii "KEY-TRANSFER"

/-- The first 0x80 octets of a transfer form (R152). -/
def transferHead (header block : Bytes) : Bytes := header ++ sha384 block ++ zeros 16

/-- KEY_EXPORT (R153). -/
def opKeyExport : Op := fun s pid p => do
  let k ← s.keyOf pid p
  require (p.readOk true && p.inTotal == 1665) .rejected
  let (_, _, block) ← getOr (s.vaultOf p.ring) .rejected
  require (!k.compat && bit k.usage useExport) .denied
  let (u, mu, _) ← getOr (s.vaultQuorum p.ring qExport false block (sha384 (identBE k.ident ++ p.input)) p.block
    p.data.approvals) .denied
  let n := k.secret.length + k.pub.length
  requireIn u (p.areasOk ioBoth && recipientOk p.input && p.fits (6539 + n)) .rejected
  let u := u.hwuLoad k.secret
  let form := mkTransfer (transferHead (s.headerOf k) p.input) p.input (p.random 0 32) keyTransferLabel (k.secret ++ k.pub)
  .ok ⟨u, form ++ s.attestSign form, 4 + mu, 0⟩

/-- KEY_EXPORT: outputs a key in signed transfer form under a quorum token (R153). -/
def execKeyExport (dt pid : Nat) (d : PktData) (s : State) : Host.Outcome State Fault Refusal :=
  .next ((s.tick dt).runOp 0x0106 pid d opKeyExport)

/-- A transfer form without signatures is well formed (R152). -/
def transferOk (t : Bytes) : Bool :=
  allZero (slice t 0x70 16) && allZero (slice t 0x701 7) &&
    t.length == 0x718 + field t 0x28 2 + field t 0x2A 2

/-- KEY_IMPORT (R154). -/
def opKeyImport : Op := fun s pid p => do
  let _ ← s.handles pid p
  let t := p.input
  require (p.readOk true && transferOk t) .rejected
  let (_, root, block) ← s.vaultNow p.ring
  let cls := field t 1 1
  let typ := field t 2 1
  require (cls != clsTraffic) .denied
  let (u, mu, ch) ← getOr (s.vaultQuorum p.ring qImport false block (sha384 t) p.block p.data.approvals) .denied
  requireIn u (u.quotaOk p.ring typ) .noResource
  requireIn u (p.areasOk ioBoth) .rejected
  let c ← getIn u ch .rejected
  let vault := s.vaultId p.ring
  requireIn u (slice t 0x40 48 == sha384 (slice c.body 0xA0 1665) && headerOk (t.take 64) vault &&
    (cls == clsCustody || cls == clsAsym) && !(deletedList block).contains (field t 8 8) && u.oneRoot p.ring typ) .rejected
  let n := field t 0x28 2
  let (pt, _) ← getIn u (openTransfer c.keys.value t keyTransferLabel (n + field t 0x2A 2)) .rejected
  let k : NewKey := ⟨cls, typ, 3, field t 4 2, field t 8 8, 0, field t 0x2C 4, pt.take n, pt.drop n⟩
  requireIn u (p.fits (96 + pt.length)) .rejected
  let (h, w) ← getIn u (u.enterKey p.ring vault k) .noResource
  .ok ⟨w, mkMitten root (k.header vault) (p.random 1 12) k.secret k.pub, 4 + mu, h⟩

/-- KEY_IMPORT: imports a transfer form under a quorum token (R154). -/
def execKeyImport (dt pid : Nat) (d : PktData) (s : State) : Host.Outcome State Fault Refusal :=
  .next ((s.tick dt).runOp 0x0107 pid d opKeyImport)

/-- A policy block with a key identifier appended to its deleted-key list (R119). -/
def addDeleted (b : Bytes) (ident : Nat) : Bytes :=
  b.take 6 ++ natLE 2 (field b 6 2 + 1) ++ b.drop 8 ++ natLE 8 ident

/-- A root record holds a new policy block: lines are added under the quota, or given back (R107, R150). None where the quota or the cache cannot take them. -/
def State.setRootBlock (s : State) (line : Nat) (block : Bytes) : Option State :=
  match s.ks.recs.get? line with
  | none => none
  | some r =>
    let old := r.copy.lines.length
    let new := recordLines 32 block.length
    let store := fun (s : State) (r : KeyRec) => { s with ks := { s.ks with recs := s.ks.recs.insert line { r with pub := block } } }
    if new ≤ old then
      let cut := fun (c : KeyCopy) => { c with lines := c.lines.take new }
      some ((store s { r with copy := cut r.copy, mirror := r.mirror.map cut }).kcSub r.slice (s.quotaLines r.slice (old - new)))
    else if s.kcFits r.slice (s.quotaLines r.slice (new - old)) then
      match s.allocLines (new - old) (match r.mirror with | some m => m.lines | none => []) with
      | none => none
      | some l =>
        let r1 := { r with copy := { r.copy with lines := r.copy.lines ++ l } }
        match r.mirror with
        | none => some (({ store s r1 with free := s.free + 2 }).kcAdd r.slice (new - old))
        | some m =>
          match ({ s with free := s.free + 1 }).allocLines (new - old) r1.copy.lines with
          | none => none
          | some l2 =>
            some (({ store s { r1 with mirror := some { m with lines := m.lines ++ l2 } } with free := s.free + 2 }).kcAdd
              r.slice (2 * (new - old)))
    else none

/-- The largest K of a policy block (R139). -/
def maxDeleted (b : Bytes) : Nat := (8128 - 64 * field b 1 1) / 8

/-- The records and slots of a slice that carry a key identifier, vault root aside. -/
def State.keysNamed (s : State) (sl ident : Nat) : List Nat :=
  (s.ks.recs.filter (fun _ r => r.slice == sl && r.ident == ident && r.typ != 0x70)).keys ++
  (s.ks.slots.filter (fun _ c => c.slice == sl && field c.header 8 8 == ident && !c.bad)).keys

/-- A new seal is issued for a changed policy block (R117, R118): the root record, the vault table and the seal. -/
def State.reissue (s : State) (line sl : Nat) (root block : Bytes) : Option (State × Bytes) :=
  match s.setRootBlock line block with
  | none => none
  | some t =>
    match t.vaultAdvance sl true true with
    | none => none
    | some u =>
      let key := s.vaultKey sl (s.vaultCounter sl + 1) (s.vaultId sl) (s.mr 2)
      some (u.hwuLoad key, s.deviceSeal sl (s.vaultCounter sl + 1) (s.vaultId sl) (s.mr 2) root block)

/-- KEY_DELETE (R119). -/
def opKeyDelete : Op := fun s pid p => do
  let k ← s.keyOf pid p
  require (p.readOk false) .rejected
  let (line, root, block) ← getOr (s.vaultOf p.ring) .rejected
  let (u, mu, _) ← getOr (s.vaultQuorum p.ring qDelete false block (sha384 (identBE k.ident)) p.block p.data.approvals) .denied
  requireIn u (!u.sealing) .busyRetry
  requireIn u (decide (field block 6 2 < maxDeleted block)) .noResource
  let block' := addDeleted block k.ident
  let (w, sealOut) ← getIn u (u.reissue line p.ring root block') .noResource
  requireIn u u.seedValid .faulted
  requireIn u (p.areasOk ioOut && p.fits sealOut.length) .rejected
  .ok ⟨(s.keysNamed p.ring k.ident).foldl State.freeKey w, sealOut, 1 + mu, 0⟩

/-- KEY_DELETE: zeroes every record of a key identifier, lists it and issues a new seal, under a quorum token (R119). -/
def execKeyDelete (dt pid : Nat) (d : PktData) (s : State) : Host.Outcome State Fault Refusal :=
  .next ((s.tick dt).runOp 0x0108 pid d opKeyDelete)

end Sys2Proof.Machine
end

