-- ==== Sys2Proof/Machine/KsCmds.lean ====
section
/-! DEFINITION. The re-masking engine (R99 to R103, R131) and the compatibility lock (R127). Log entries of this file: DEDUCED 29; DESIGN CHOICE 63, 221, 222, 223. -/

namespace Sys2Proof.Machine

/-- An octet string exclusive-ored with a mask from an offset on. -/
def xorAt (b : Bytes) (off : Nat) (m : Bytes) : Bytes :=
  b.take off ++ xorBytes (slice b off m.length) m ++ b.drop (off + m.length)

/-- The next mask of the expander (R101), with the state after it. -/
def State.nextMask (s : State) : Bytes × State :=
  (fitLen 8 (Config.prim .shake128 [s.ks.expander, natBE 8 s.ks.masks]), { s with ks := { s.ks with masks := s.ks.masks + 1 } })

/-- A pair of shares re-masked at an offset: both change, their exclusive or does not (R100). -/
def KeyCopy.remask (c : KeyCopy) (off : Nat) (m : Bytes) : KeyCopy := { c with a := xorAt c.a off m, b := xorAt c.b off m }

/-- The copy holds the line as its data line `k`, counted from 1. -/
def KeyCopy.dataIndex (c : KeyCopy) (line : Nat) : Option Nat :=
  (List.range c.lines.length).find? (fun j => c.lines.getD j 0 == line && 0 < j)

/-- One word of a copy re-masked, where the line is one of its secret lines. -/
def KeyCopy.remaskLine (c : KeyCopy) (line word : Nat) (m : Bytes) : KeyCopy :=
  match c.dataIndex line with
  | some j => if 32 * j ≤ c.a.length then c.remask (32 * (j - 1) + 8 * (word % 4)) m else c
  | none => c

/-- A record with one word of a line re-masked, in the copy that holds the line. -/
def KeyRec.remaskLine (r : KeyRec) (line word : Nat) (m : Bytes) : KeyRec :=
  { r with copy := r.copy.remaskLine line word m, mirror := r.mirror.map (fun c => c.remaskLine line word m) }

/-- A re-masking visit to a compatibility slot: its check is verified (R131), then one word of its shares is renewed. -/
def State.remaskSlot (s : State) (line word : Nat) (c : CompatSlot) (m : Bytes) : State :=
  if c.bad then s
  else if !s.slotPasses line c then s.slotBad line c
  else
    let c' : CompatSlot := { c with a := xorAt c.a (8 * (word % 6)) m, b := xorAt c.b (8 * (word % 6)) m }
    { s with ks := { s.ks with slots := s.ks.slots.insert line c' } }

/-- One word of a pair of shares re-masked, where it has that word (R100). -/
def Shares.remask (x : Shares) (word : Nat) (m : Bytes) : Shares :=
  if 8 * word < x.a.length then ⟨xorAt x.a (8 * word) m, xorAt x.b (8 * word) m⟩ else x

/-- One word of a device-area record or of the HWU key registers re-masked (R102). Which line holds which record the spec leaves open: lines 0 to 3 the device keys and the meter seed, 4 the HWU's working record, and from 16 on the challenges and then the offers in their order (DESIGN CHOICE 221). -/
def State.remaskDevice (s : State) (line word : Nat) (m : Bytes) : State :=
  match line with
  | 0 => { s with ks := { s.ks with dev := { s.ks.dev with identity := s.ks.dev.identity.remask word m } } }
  | 1 => { s with ks := { s.ks with dev := { s.ks.dev with attest := s.ks.dev.attest.remask word m } } }
  | 2 => { s with ks := { s.ks with dev := { s.ks.dev with slotCheck := s.ks.dev.slotCheck.remask word m } } }
  | 3 => { s with met := { s.met with key := s.met.key.remask word m } }
  | 4 => { s with ks := { s.ks with hwu := s.ks.hwu.remask word m } }
  | _ =>
    let n := s.vlt.challenges.length
    if line < 16 then s
    else if line - 16 < n then
      { s with vlt := { s.vlt with challenges := s.vlt.challenges.modify (line - 16) (fun c => { c with keys := c.keys.remask word m }) } }
    else
      match s.slc.offers.cells[line - 16 - n]? with
      | some e => { s with slc := { s.slc with offers := s.slc.offers.insert e.1 { e.2 with keys := e.2.keys.remask word m } } }
      | none => s

/-- The seed's shares with one word re-masked (R100). -/
def State.remaskSeed (s : State) (word : Nat) (m : Bytes) : State :=
  { s with bb := { s.bb with seedA := xorAt s.bb.seedA (8 * (word % 8)) m, seedB := xorAt s.bb.seedB (8 * (word % 8)) m } }

/-- The device is on backup power: KA runs, the main rails are off (R392). -/
def State.onBackup (s : State) : Bool := !s.gnt.main && s.gnt.ka

/-- The next mask of KA's own expander, which the backup mask key keys (R101). -/
def State.nextKaMask (s : State) : Bytes × State :=
  (fitLen 8 (Config.prim .shake128 [s.bb.maskKey, natBE 8 s.bb.kaMasks]), { s with bb := { s.bb with kaMasks := s.bb.kaMasks + 1 } })

/-- REMASK_LINE: one pair of share words is re-masked: of the BBRAM seed, of a compatibility slot, of a device-area record, or of a record's line (R100, R102); on backup power KA re-masks the seed shares alone, under its own expander (R101). -/
def execRemaskLine (dt : Nat) (seed : Bool) (line word : Nat) (s : State) : Host.Outcome State Fault Refusal :=
  let s := s.tick dt
  if s.onBackup then
    if seed then
      let (m, s) := s.nextKaMask
      .next (s.remaskSeed word m)
    else .next s
  else if s.islandHeld 0x02 then .next s
  else
    let (m, s) := s.nextMask
    if seed then .next (s.remaskSeed word m)
    else if line < nativeFirst then .next (s.remaskDevice line word m)
    else
      match s.ks.slots.get? line with
      | some c => .next (s.remaskSlot line word c m)
      | none => .next { s with ks := { s.ks with recs := s.ks.recs.map (fun _ r => r.remaskLine line word m) } }

/-- A random value for KS from DRBG0, where that instance has output (R101, R303). -/
def State.ksRandom (s : State) (len : Nat) : Option (Bytes × State) :=
  if s.drbgReady 0 then some (s.drawNow 0 len) else none

/-- The decision LFSRs of GM and KA are reseeded from DRBG0 where it has output (R307, R388). -/
def State.seedLfsrs (s : State) : State :=
  match s.ksRandom 4 with
  | some (r, t) => { t with gnt := { t.gnt with lfsr := field r 0 2, kaLfsr := field r 2 2 } }
  | none => s

/-- A pass begins, the decision LFSRs are reseeded with it (R388), and the expander is keyed from DRBG0 if output is available, and keeps its key otherwise (R101); its stream of masks then goes on where it was (DESIGN CHOICE 222). -/
def State.passBegin (s : State) : State :=
  let s := { s with ks := { s.ks with passStart := s.now } }
  match s.ksRandom 32 with
  | some (k, t) => { t with ks := { t.ks with expander := k, masks := 0 } }.seedLfsrs
  | none => s

/-- The BBRAM backup mask key after a pass: fresh from DRBG0, or from the expander where DRBG0 has no output. -/
def State.backupKey (s : State) : State :=
  match s.ksRandom 32 with
  | some (k, t) => { t with bb := { t.bb with maskKey := k, kaMasks := 0 } }
  | none =>
    { s with bb := { s.bb with maskKey := fitLen 32 (Config.prim .shake128 [s.ks.expander, natBE 8 s.ks.masks, [1]]), kaMasks := 0 } }

/-- A pass on backup power ends: KA renews the backup mask key from its own expander, which the new key keys for the next pass (R101, R102; how the key is renewed is DESIGN CHOICE 223). -/
def State.backupPassEnd (s : State) : State :=
  { s with bb := { s.bb with
    maskKey := fitLen 32 (Config.prim .shake128 [s.bb.maskKey, natBE 8 s.bb.kaMasks, [1]])
    kaMasks := 0 } }

/-- REMASK_PASS_END: the pass is counted and timed, a fresh key is stored for backup power, and the next pass begins (R101, R102). On backup power KA's pass ends. -/
def execRemaskPassEnd (dt : Nat) (s : State) : Host.Outcome State Fault Refusal :=
  let s := s.tick dt
  if s.onBackup then .next s.backupPassEnd else
  let ms := (s.now - s.ks.passStart) / 1000000
  let s := (s.fset Fld.KS_REMASK_LAST_ms 0 (min ms 0xFFFF)).bumpWrap Fld.KS_REMASK_PASSES_count 0 1
  .next s.backupKey.passBegin

/-- Nanoseconds within which a pass on main power completes (R103). -/
def passNs : Nat := 2000000000

/-- REMASK_LATE: a pass has not completed 2 s after its start (R103). -/
def execRemaskLate (dt : Nat) (s : State) : Host.Outcome State Fault Refusal :=
  let s := s.tick dt
  if s.ks.passStart + passNs ≤ s.now then
    .next ((s.fset Fld.KS_STATUS_remask_late 0 1).event 0x21 0x02 ((s.now - s.ks.passStart) / 1000000))
  else .next s

/-- A region's configuration is in range (R127). -/
def State.regionCfgOk (s : State) (n : Nat) : Bool :=
  let b := s.fget Fld.KS_COMPAT_CFG_base n
  let z := s.fget Fld.KS_COMPAT_CFG_size n
  decide (2 ≤ b) && decide (1 ≤ z) && decide (z ≤ 16) && decide (b + z ≤ 256)

/-- Two regions overlap. -/
def State.regionsMeet (s : State) (i j : Nat) : Bool :=
  decide (s.regionBase i < s.regionBase j + s.regionSize j) && decide (s.regionBase j < s.regionBase i + s.regionSize i)

/-- The configured regions are valid (R127). -/
def State.compatOk (s : State) : Bool :=
  let on := (List.range 4).filter (fun n => s.flag Fld.KS_COMPAT_CFG_enable n)
  on.all s.regionCfgOk && on.all (fun i => on.all (fun j => i == j || !s.regionsMeet i j)) &&
    decide (on.foldl (fun a n => a + s.regionSize n) 0 ≤ 65536)

/-- The compatibility regions are checked and locked, and `DEV_KC_CAP.lines` is fixed (R105, R127). An invalid configuration disables every region and is a configuration error of boot. -/
def State.compatLock (s : State) : State :=
  if s.flag Fld.KS_COMPAT_LOCK_lock 0 then s
  else
    let s := if s.compatOk then s else s.fset Fld.KS_COMPAT_LOCK_invalid 0 1
    let s := s.fset Fld.KS_COMPAT_LOCK_lock 0 1
    s.fset Fld.DEV_KC_CAP_lines 0 (cacheLines - nativeFirst - s.compatLines)

/-- KS_COMPAT_LOCK: a write of 1 to `KS_COMPAT_LOCK.lock` (R127). -/
def execKsCompatLock (dt : Nat) (s : State) : Host.Outcome State Fault Refusal := .next (s.tick dt).compatLock

end Sys2Proof.Machine
end

