-- ==== Sys2Proof/Machine/CardOps.lean ====
section
/-! DEFINITION. What is written on a custody card (R474 to R480), and how an interruption leaves it (R481). Log entries of this file: DEDUCED 133; DESIGN CHOICE 181. -/

namespace Sys2Proof.Machine

/-- Sectors that a card must have (R476). -/
def cardSectors : Nat := 266240

/-- The card key of the device for a card (R474). -/
def State.cardKey (s : State) (c : Card) : Bytes := kmac s.rootKey (s.lcEp ++ fitLen 16 c.cid) (ascii "ELVEVA-CARD-KEY") 32

/-- The label of this device (R476). -/
def State.cardLabel (s : State) : Bytes := natLE 4 1 ++ s.deviceId ++ natLE 1 s.lc ++ natLE 1 s.ep ++ zeros 490

/-- A card carries a label of this device with its current lc and ep (R476). -/
def State.labelOk (s : State) (c : Card) : Bool := slice c.label 0 22 == slice s.cardLabel 0 22

/-- An authenticated read of the card's RPMB verifies under the device's card key. -/
def State.rpmbOk (s : State) (c : Card) : Bool := c.rpmb && c.key == some (s.cardKey c)

/-- Block 0 holds a commit frame of this device (R477). -/
def State.frameOk (s : State) (c : Card) : Bool := s.rpmbOk c && field c.block0 0 4 == 1 && slice c.block0 4 16 == s.deviceId

/-- The fields of a commit frame: generation, area, length, digest. -/
def frameGen (b : Bytes) : Nat := field b 0x14 4
def frameArea (b : Bytes) : Nat := field b 0x18 1
def frameLen (b : Bytes) : Nat := field b 0x1C 4
def frameDigest (b : Bytes) : Bytes := slice b 0x20 48

/-- The commit frame of a backup (R477). -/
def State.cardFrame (s : State) (g area : Nat) (backup : Bytes) : Bytes :=
  fitLen 256 (natLE 4 1 ++ s.deviceId ++ natLE 4 g ++ natLE 1 area ++ zeros 3 ++ natLE 4 backup.length ++ sha384 backup)

/-- A backup area of a card, and a card with one replaced. -/
def areaOf (c : Card) (a : Nat) : Bytes := if a = 0 then c.area0 else c.area1
def withArea (c : Card) (a : Nat) (b : Bytes) : Card := if a = 0 then { c with area0 := b } else { c with area1 := b }

/-- The current backup area: that of a commit frame of this device, 1 where there is none (R478). -/
def State.currentArea (s : State) (c : Card) : Nat := if s.frameOk c then frameArea c.block0 % 2 else 1

/-- The commit write of a backup of the area that is not current (R478). -/
def State.commitCard (s : State) (c : Card) (data : Bytes) : Card :=
  let a := 1 - s.currentArea c
  { withArea c a data with block0 := s.cardFrame (c.counter + 1) a data, counter := c.counter + 1 }

/-- The card as a command leaves it that has run to its end. -/
def State.cardDone (s : State) (c : Card) (r : CardRun) : Card :=
  match r.job with
  | .init => { c with key := some (s.cardKey c), label := s.cardLabel }
  | .backup => s.commitCard c r.data
  | .restore => c
  | .evidence => { c with evidence := r.data }

/-- The card as a command leaves it that ends in a phase (R481): what may or may not have landed, and what is written in part, is free. -/
def State.cardCut (s : State) (c : Card) (r : CardRun) : Card :=
  let part := Config.random s.free
  let landed := Config.choice s.free % 2 == 1
  match r.phase with
  | .checks => c
  | .keySent => if landed then { c with key := some (s.cardKey c) } else c
  | .label => { c with key := some (s.cardKey c), label := fitLen 512 part }
  | .area => withArea c (1 - s.currentArea c) part
  | .commitData => withArea c (1 - s.currentArea c) r.data
  | .commitBusy => if landed then s.commitCard c r.data else withArea c (1 - s.currentArea c) r.data
  | .commitResult => s.commitCard c r.data
  | .restore => c
  | .export_ => { c with evidence := part }

/-- The commit of a backup is interrupted in the phase, so that only the card's counter tells whether it landed (R481, R482). -/
def commitUnknown (p : CardPhase) : Bool := p == .commitBusy || p == .commitResult

/-- The card host after its command has ended in its phase. -/
def State.cutRun (s : State) (r : CardRun) : State :=
  let s' := { s with free := s.free + 1, crd := { s.crd with run := none, card := s.crd.card.map (fun c => s.cardCut c r) } }
  if commitUnknown r.phase then s'.fset Fld.CRD_BACKUP_unknown 0 1 else s'

/-- The card in the slot as a device reset leaves it. -/
def State.cardAtReset (s : State) : Option Card :=
  match s.crd.card, s.crd.run with
  | some c, some r => some (s.cardCut c r)
  | some c, none => some c
  | none, _ => s.crd.left

/-- A running card command ends with a status once the card is idle (R483). -/
def State.endCard (s : State) (st : Status) : State :=
  { s with crd := { s.crd with run := s.crd.run.map (fun r => if r.ends.isSome then r else { r with ends := some st }) } }

/-- The running card command is one that writes. -/
def State.cardWrites (s : State) : Bool :=
  match s.crd.run with
  | some r => r.job != .restore
  | none => false

end Sys2Proof.Machine
end

