-- ==== Sys2Proof/Machine/Curves.lean ====
section
/-! DEFINITION. The checks of public-key inputs that arithmetic alone decides (R218, R220): points, scalars, moduli and coefficients. The domain parameters are those of the standards that R218 to R220 name. Log entries of this file: PRESUMED 230. -/

namespace Sys2Proof.Machine

/-- `a ^ e mod m`, over the low `n` bits of `e`, most significant first. -/
def powMod (a e m : Nat) : Nat → Nat
  | 0 => 1 % m
  | n + 1 =>
    let h := powMod a (e / 2) m n
    if e % 2 = 1 then h * h % m * a % m else h * h % m

/-- An EC type: P-256, P-384 or P-521 (R107). -/
def isEc (t : Nat) : Bool := 0x10 ≤ t && t ≤ 0x12

/-- The length of the group order of an EC type in bits. -/
def ecBits (t : Nat) : Nat := if t = 0x10 then 256 else if t = 0x11 then 384 else 521

/-- The length of a coordinate or a scalar of an EC type in octets. -/
def ecLen (t : Nat) : Nat := ceilDiv (ecBits t) 8

/-- The field prime of an EC type (SP 800-186). -/
def ecPrime (t : Nat) : Nat :=
  if t = 0x10 then 2 ^ 256 - 2 ^ 224 + 2 ^ 192 + 2 ^ 96 - 1
  else if t = 0x11 then 2 ^ 384 - 2 ^ 128 - 2 ^ 96 + 2 ^ 32 - 1
  else 2 ^ 521 - 1

/-- The coefficient b of an EC type (SP 800-186). -/
def ecB (t : Nat) : Nat :=
  if t = 0x10 then 0x5ac635d8aa3a93e7b3ebbd55769886bc651d06b0cc53b0f63bce3c3e27d2604b
  else if t = 0x11 then
    0xb3312fa7e23ee7e4988e056be3f82d19181d9c6efe8141120314088f5013875ac656398d8a2ed19d2a85c8edd3ec2aef
  else
    0x051953eb9618e1c9a1f929a21a0b68540eea2da725b99b315f3b8b489918ef109e156193951ec7e937b1652c0bd3bb1bf073573df883d2c34f1ef451fd46b503f00

/-- A point lies on the curve of an EC type: coordinates below p, and y^2 = x^3 - 3x + b (R220). -/
def onCurve (t x y : Nat) : Bool :=
  let p := ecPrime t
  decide (x < p) && decide (y < p) && y * y % p == (x * x % p * x + 3 * (p - x) + ecB t) % p

/-- A supplied EC point: 0x04, then x and y at the curve's length, on the curve (R220). -/
def pointOk (t : Nat) (b : Bytes) : Bool :=
  b.length == 2 * ecLen t + 1 && b.headD 0 == 4 && onCurve t (beNat (slice b 1 (ecLen t))) (beNat (b.drop (1 + ecLen t)))

/-- An ECDSA signature's r and s lie in 1 to n - 1 (R220). -/
def ecSigOk (t : Nat) (sig : Bytes) : Bool :=
  let n := ecOrder (ecBits t)
  let r := beNat (sig.take (ecLen t))
  let s := beNat (sig.drop (ecLen t))
  decide (0 < r) && decide (r < n) && decide (0 < s) && decide (s < n)

/-- The prime of Curve25519. -/
def p25519 : Nat := 2 ^ 255 - 19

/-- The order of the prime subgroup of edwards25519 (RFC 8032). -/
def edOrder : Nat := 2 ^ 252 + 27742317777372353535851937790883648493

/-- The coefficient d of edwards25519 (RFC 8032). -/
def edD : Nat := 37095705934669439343138083508754565189542113879843219016388785533085940283555

/-- A number is a square modulo the prime of Curve25519. -/
def square25519 (a : Nat) : Bool := decide (powMod (a % p25519) ((p25519 - 1) / 2) p25519 255 ≤ 1)

/-- The y-coordinate of an encoded point of edwards25519. -/
def edY (b : Bytes) : Nat := leNat b % 2 ^ 255

/-- An encoded point of edwards25519 decodes (R220): y below p, x^2 = (y^2 - 1) / (d y^2 + 1) a square, and not x = 0 with sign bit 1. -/
def edDecodes (b : Bytes) : Bool :=
  let y := edY b
  let yy := y * y % p25519
  decide (y < p25519) && square25519 ((yy + p25519 - 1) * (edD * yy + 1)) && !(yy == 1 && bit (leNat b) 255)

/-- The y-coordinates of the points of small order of edwards25519. -/
def edSmall : List Nat :=
  let y8 := 2707385501144840649318225287225658788936804267575313519463743609750303402022
  [0, 1, p25519 - 1, y8, p25519 - y8]

/-- What arithmetic decides of an Ed25519 verification (R220): A and R decode, S below the order, A not of small order. -/
def edSigOk (pub sig : Bytes) : Bool :=
  edDecodes pub && edDecodes (sig.take 32) && decide (leNat (sig.drop 32) < edOrder) && !edSmall.contains (edY pub)

/-- The u-coordinate that X25519 processes: bit 255 ignored, reduced modulo p (R220). -/
def x25519U (peer : Bytes) : Nat := leNat peer % 2 ^ 255 % p25519

/-- A u-coordinate lies on the curve, not on its quadratic twist (R187, R220). -/
def x25519Ok (u : Nat) : Bool := square25519 (u * u * u + 486662 * (u * u) + u)

/-- The clamped scalar of RFC 7748 and RFC 8032. -/
def clamp25519 (b : Bytes) : Bytes := natLE 32 (leNat (b.take 32) % 2 ^ 254 / 8 * 8 + 2 ^ 254)

/-- A value is in 1 to n - 1: an RSA signature or ciphertext (R220). -/
def rsaRange (n v : Nat) : Bool := decide (0 < v) && decide (v < n)

/-- A supplied RSA key: n odd and of the type's length of `k` octets; e odd, at least 65,537 (R220, R509). -/
def rsaKeyOk (k n e : Nat) : Bool :=
  n % 2 == 1 && decide (2 ^ (8 * k - 1) ≤ n) && decide (n < 2 ^ (8 * k)) && e % 2 == 1 && decide (65537 ≤ e) && decide (e < 2 ^ 32)

/-- Every 12-bit coefficient of the octets is below 3,329: the modulus check of FIPS 203 (R220). -/
def kemCoeffsOk : Bytes → Bool
  | a :: b :: c :: r =>
    decide (a.toNat + 256 * (b.toNat % 16) < 3329) && decide (b.toNat / 16 + 16 * c.toNat < 3329) && kemCoeffsOk r
  | _ => true

/-- An encapsulation key passes the modulus check: its coefficients stand before the 32 octets of ρ. -/
def kemKeyOk (ek : Bytes) : Bool := kemCoeffsOk (ek.take (ek.length - 32))

end Sys2Proof.Machine
end

