-- ==== Sys2Proof/Machine/Meters.lean ====
section
/-! DEFINITION. The meter unit: intervals, records and their ring (R440 to R447). Log entries of this file: DEDUCED 200, 257, 258, 260; DESIGN CHOICE 229. -/

namespace Sys2Proof.Machine

/-- Sums of zero, but for the remainder of the energy (R442). -/
def MeterSums.fresh (energy : Nat) : MeterSums := ⟨0, 0, 0, 0, 0, 0, 0, 0, energy⟩

/-- Fresh accumulators for a slice's first interval (R441). -/
def MeterAcc.fresh (start : Nat) : MeterAcc := ⟨start, 1, MeterSums.fresh 0, start, MeterSums.fresh 0⟩

/-- The sums of an interval that ends at `t`: what was counted at that very time belongs to the next one (R440, R447). -/
def MeterAcc.closed (a : MeterAcc) (t : Nat) : MeterSums := if a.at_ = t then a.base else a.sums

/-- The next interval, begun at `t` (R441, R442): what was counted at `t`, and the remainder of the energy. -/
def MeterAcc.next (a : MeterAcc) (t : Nat) : MeterAcc :=
  let c := a.closed t
  let e := c.energy % 1000
  let x := a.sums
  ⟨t, a.seq + 1, ⟨x.mu - c.mu, x.blocks - c.blocks, x.inlBlocks - c.inlBlocks, x.frames - c.frames, x.done - c.done,
    x.rejected - c.rejected, x.authFailed - c.authFailed, x.other - c.other, x.energy - c.energy + e⟩, t, MeterSums.fresh e⟩

/-- The 160 octets of a meter record before its signature, from the sums of its interval (R442). -/
def State.meterBody (s : State) (slice kind endT : Nat) (a : MeterAcc) (m : MeterSums) : Bytes :=
  natLE 4 1 ++ natLE 2 slice ++ natLE 1 kind ++ zeros 1 ++ fitLen 16 s.deviceId ++ fitLen 16 (s.vaultId slice) ++
  fitLen 16 s.met.bootId ++ natLE 4 a.seq ++ natLE 2 (s.fget Fld.SLC_STATE_share_gen slice) ++ zeros 2 ++
  natLE 8 a.start ++ natLE 8 endT ++ natLE 8 m.mu ++ natLE 8 m.blocks ++ natLE 8 m.inlBlocks ++
  natLE 8 (m.energy / 1000) ++ natLE 4 m.done ++ natLE 4 m.rejected ++ natLE 4 m.authFailed ++ natLE 4 m.other ++
  natLE 8 m.frames ++ zeros 24

/-- The ASCII octets that begin the signed data of a meter record (R442). -/
def meterLabel : Bytes := [0x45, 0x4C, 0x56, 0x45, 0x56, 0x41, 0x2D, 0x4D, 0x45, 0x54, 0x45, 0x52, 0x2D, 0x52, 0x45, 0x43]

/-- The signed meter record of 256 octets of a body (R442). -/
def State.signRecord (s : State) (b : Bytes) : Bytes := b ++ seedSign s.met.key.value (Config.prim .sha384 [meterLabel ++ b])

/-- A signed meter record of everything counted so far (R442). -/
def State.meterRecord (s : State) (slice kind endT : Nat) (a : MeterAcc) : Bytes := s.signRecord (s.meterBody slice kind endT a a.sums)

/-- Entries of the meter ring that are free (`PMC_METER_PTR`): the ring keeps one entry between tail and head. -/
def State.meterFree (s : State) : Nat :=
  let size := 2 ^ s.fget Fld.PMC_METER_BASE_log2 0
  (s.fget Fld.PMC_METER_PTR_head 0 % size + 2 * size - s.fget Fld.PMC_METER_PTR_tail 0 % size - 1) % size

/-- Ring entries reserved under R443. -/
def State.meterReserved (s : State) : Nat := s.fget Fld.PMC_METER_STATUS_reserved_e 0

/-- An unreserved ring entry is free. -/
def State.meterRoom (s : State) (n : Nat) : Bool :=
  s.flag Fld.PMC_METER_CTRL_enable 0 && decide (s.meterReserved + s.met.unsigned.length + n ≤ s.meterFree)

/-- A record is written at the tail of the ring, and the tail advances (R442). -/
def State.meterWrite (s : State) (r : Bytes) : State :=
  let size := 2 ^ s.fget Fld.PMC_METER_BASE_log2 0
  let t := s.fget Fld.PMC_METER_PTR_tail 0
  (s.hostWrite managerRing (s.fget Fld.PMC_METER_BASE_base 0 * 4096 + 256 * t) r).fset Fld.PMC_METER_PTR_tail 0
    ((t + 1) % size)

/-- Entries are reserved for final or activation-close records, if the ring and the limit of 4,096 allow (R443). -/
def State.meterReserve (s : State) (n : Nat) : Option State :=
  if s.meterRoom n && decide (s.meterReserved + n ≤ 4096) then
    some (s.fset Fld.PMC_METER_STATUS_reserved_e 0 (s.meterReserved + n))
  else none

/-- A reservation is given up (R443). -/
def State.meterRelease (s : State) : State := s.fset Fld.PMC_METER_STATUS_reserved_e 0 (s.meterReserved - 1)

/-- A record that holds a reservation is written to the ring, or held while the ring is disabled or full (R443, R446). -/
def State.meterPlace (s : State) (r : Bytes) : State :=
  if s.flag Fld.PMC_METER_CTRL_enable 0 && s.met.held.isEmpty && decide (1 ≤ s.meterFree) then
    (s.meterWrite r).meterRelease
  else { s with met := { s.met with held := s.met.held ++ [r] } }

/-- Held records are written in the order in which they were made, while the ring has room (R446). -/
def State.meterDrain : Nat → State → State
  | 0, s => s
  | fuel + 1, s =>
    match s.met.held with
    | [] => s
    | r :: rest =>
      if s.flag Fld.PMC_METER_CTRL_enable 0 && decide (1 ≤ s.meterFree) then
        State.meterDrain fuel (({ s with met := { s.met with held := rest } }).meterWrite r).meterRelease
      else s

/-- The interval of a slice closes: the body of its record, and a new interval that starts at the old one's end (R441, R442). -/
def State.closeInterval (s : State) (slice kind : Nat) (a : MeterAcc) : Bytes × State :=
  (s.meterBody slice kind s.now a (a.closed s.now),
    { s with met := { s.met with accs := s.met.accs.insert slice (a.next s.now) } })

/-- Records cannot be signed now: a wipe or an erase has taken the meter key, or a hold covers every active core (R446, R447). -/
def State.signHeld (s : State) : Bool :=
  s.flag Fld.GNT_STATUS_erase_busy 0 || s.flag Fld.KS_STATUS_wipe_busy 0 ||
    (List.range 72).all (fun n => s.fget Fld.PKE_CORE_MAP_role n != 0 || s.islandHeld (0x30 + n / 9))

/-- The record of an interval that a tick closed is signed and written, or its body waits for the signature (R442, R447). -/
def State.meterSign (s : State) (b : Bytes) : State :=
  if s.signHeld || !s.met.unsigned.isEmpty then { s with met := { s.met with unsigned := s.met.unsigned ++ [b] } }
  else s.meterWrite (s.signRecord b)

/-- Records that waited for their signature are signed and written, in order, once that is possible (R446, R447). -/
def State.settleMeter (s : State) : State :=
  if s.met.unsigned.isEmpty || s.signHeld || !s.flag Fld.PMC_METER_CTRL_enable 0 then s
  else s.met.unsigned.foldl (fun s b => s.meterWrite (s.signRecord b)) { s with met := { s.met with unsigned := [] } }

/-- The final record of a slice: its interval ends, and its accumulators end with it (R443). -/
def State.finalRecord (s : State) (slice kind : Nat) : State :=
  match s.met.accs.get? slice with
  | none => s.meterRelease
  | some a =>
    let r := s.meterRecord slice kind s.now a
    ({ s with met := { s.met with accs := s.met.accs.erase slice } }).meterPlace r

/-- A slice's first interval begins (R441). -/
def State.meterBegin (s : State) (slice : Nat) : State :=
  { s with met := { s.met with accs := s.met.accs.insert slice (MeterAcc.fresh s.now) } }

/-- A tick for one slice: its interval closes if an unreserved entry is free, and it is counted as deferred otherwise (R441). -/
def State.meterTickSlice (s : State) (e : Nat × MeterAcc) : State :=
  if e.2.start < s.now then
    if s.meterRoom 1 then
      let (b, t) := s.closeInterval e.1 0x01 e.2
      t.meterSign b
    else s.fset Fld.PMC_METER_STATUS_deferred 0 (s.fget Fld.PMC_METER_STATUS_deferred 0 + 1)
  else s

/-- The meter interval in seconds: a value outside 1 to 3,600 acts as the nearer bound (`PMC_METER_CTRL.interval`). -/
def State.meterSeconds (s : State) : Nat := max 1 (min (s.fget Fld.PMC_METER_CTRL_interval 0) 3600)

/-- A meter tick: intervals close in ascending slice order; those left open are counted and recorded as code 0x60, and a change of `interval` takes effect (R441). -/
def State.meterTick (s : State) : State :=
  let s := s.fset Fld.PMC_METER_STATUS_deferred 0 0
  let s := (s.met.accs.cells.filter (fun e => s.sliceState e.1 == 1)).foldl State.meterTickSlice s
  let n := s.fget Fld.PMC_METER_STATUS_deferred 0
  let s := if n = 0 then s else s.event 0x60 0x06 n
  let s := { s with met := { s.met with period := s.meterSeconds } }
  if s.flag Fld.PMC_METER_CTRL_ien 0 then s.sendMsix 0 (s.fget Fld.PMC_METER_CTRL_vec 0) else s

/-- METER_TICK: device time is a multiple of the interval in force while meter ticks run (R441). -/
def execMeterTick (dt : Nat) (s : State) : Host.Outcome State Fault Refusal :=
  let s := s.tick dt
  if s.flag Fld.PMC_METER_CTRL_enable 0 && s.now % (s.met.period * 1000000000) == 0 then .next s.meterTick
  else .next s

/-- The base of the meter ring is valid (`PMC_METER_BASE`). -/
def State.meterBaseOk (s : State) : Bool :=
  let l := s.fget Fld.PMC_METER_BASE_log2 0
  s.fget Fld.PMC_METER_BASE_base 0 != 0 && decide (4 ≤ l) && decide (l ≤ 16)

/-- The effect of a write of 1 to `PMC_METER_CTRL.enable` (R441, R446). -/
def State.enableMeter (s : State) : State :=
  if s.flag Fld.PMC_METER_CTRL_enable 0 then s
  else if s.meterBaseOk then
    let s := (s.fset Fld.PMC_METER_CTRL_enable 0 1).fset Fld.PMC_METER_PTR_tail 0 0
    State.meterDrain 4096 { s with met := { s.met with period := s.meterSeconds } }
  else s.fset Fld.PMC_METER_CTRL_err 0 1

/-- METER_ENABLE: a write of 1 to `PMC_METER_CTRL.enable` (R446). -/
def execMeterEnable (dt : Nat) (s : State) : Host.Outcome State Fault Refusal := .next (s.tick dt).enableMeter

/-- The effect of a write to `PMC_METER_PTR.head`: it frees entries, and held records take them (R446). -/
def State.meterHead (s : State) (v : Nat) : State := State.meterDrain 4096 (s.fset Fld.PMC_METER_PTR_head 0 v)

/-- METER_HEAD_WRITE: a write to `PMC_METER_PTR.head` (R446). -/
def execMeterHeadWrite (dt value : Nat) (s : State) : Host.Outcome State Fault Refusal :=
  .next ((s.tick dt).meterHead (value % 2 ^ 16))

end Sys2Proof.Machine
end

