-- ==== Sys2Proof/Machine/Vaults.lean ====
section
/-! DEFINITION. The vault and quorum opcodes (R139 to R158) and MEASURE_READ (R160). Log entries of this file: DESIGN CHOICE 72, 73, 145, 228. -/

namespace Sys2Proof.Machine

/-- A policy block with its vault identifier set by the device (R149). -/
def setVault (b vault : Bytes) : Bytes := b.take 0x10 ++ fitLen 16 vault ++ b.drop 0x20

/-- A vault root record of a slice. -/
def rootRecord (sl : Nat) (vault block : Bytes) : KeyRec :=
  ⟨sl, clsSeal, 0x70, 0, 0, 0, vault, 1, 0, ⟨[], [], []⟩, none, block⟩

/-- The KC quota and the cache hold a root record whose policy block has `n` octets. -/
def State.rootFits (s : State) (sl n : Nat) : Bool := s.kcFits sl (s.quotaLines sl (recordLines 32 n)) && s.cacheRoom sl (recordLines 32 n)

/-- The seal issued with an advanced counter, and the state after it (R117, R118). None where the counter is exhausted. -/
def State.issueSeal (s : State) (sl : Nat) (vault root block : Bytes) : Option (State × Bytes) :=
  (s.vaultAdvance sl true true).map (fun t =>
    (t.hwuLoad (s.vaultKey sl (s.vaultCounter sl + 1) vault (s.mr 2)), s.deviceSeal sl (s.vaultCounter sl + 1) vault (s.mr 2) root block))

/-- VAULT_CREATE (R149). -/
def opVaultCreate : Op := fun s pid p => do
  let _ ← s.handles pid p
  let b := p.input
  require (p.readOk true && policyOk b false && allZero (slice b 0x10 16) && field b 6 2 == 0) .rejected
  require (!s.vaultExists p.ring && (s.rootOf p.ring).isNone) .denied
  require (!s.sealing && !s.wiping) .busyRetry
  require (s.rootFits p.ring b.length) .noResource
  let vault := p.random 0 16
  let root := p.random 1 32
  let block := setVault b vault
  let (t, sealOut) ← getOr (s.issueSeal p.ring vault root block) .noResource
  require s.seedValid .faulted
  require (p.areasOk ioBoth && p.inlineFrom 0 && p.fits sealOut.length) .rejected
  let (_, u) ← getOr (t.addRecord (rootRecord p.ring vault block) root) .noResource
  .ok ⟨u, sealOut, 4, s.vaultCounter p.ring + 1⟩

/-- VAULT_CREATE: makes a vault root and its first seal (R149). -/
def execVaultCreate (dt pid : Nat) (d : PktData) (s : State) : Host.Outcome State Fault Refusal :=
  .next ((s.tick dt).runOp 0x0501 pid d opVaultCreate)

/-- VAULT_LOAD (R126). -/
def opVaultLoad : Op := fun s pid p => do
  let _ ← s.handles pid p
  let b := p.input
  require (p.readOk true && b.length == 144 + field b 2 2 && field b 0x0C 4 == b.length) .rejected
  require (s.rootOf p.ring).isNone .denied
  require (!s.sealing && !s.wiping) .busyRetry
  require (s.rootFits p.ring (field b 2 2)) .noResource
  require s.seedValid .faulted
  require (p.inlineFrom 0) .rejected
  let (root, block) ← getOr (s.openSeal p.ring b) .rejected
  let s := s.hwuLoad (s.vaultKey p.ring (field b 8 4) (slice b 0x10 16) (s.mr 2))
  let (_, t) ← getOr (s.addRecord (rootRecord p.ring (slice b 0x10 16) block) root) .noResource
  .ok ⟨t, [], 2, 0⟩

/-- VAULT_LOAD: loads a vault root from its seal (R126). -/
def execVaultLoad (dt pid : Nat) (d : PktData) (s : State) : Host.Outcome State Fault Refusal :=
  .next ((s.tick dt).runOp 0x0502 pid d opVaultLoad)

/-- A new policy block continues the current one: the vault identifier, and the deleted-key list (R150). -/
def policyContinues (old new : Bytes) : Bool :=
  slice new 0x10 16 == slice old 0x10 16 && (deletedList old).isPrefixOf (deletedList new)

/-- VAULT_POLICY_SET (R150). -/
def opVaultPolicySet : Op := fun s pid p => do
  let _ ← s.handles pid p
  require (p.readOk true && policyOk p.input false) .rejected
  let (line, root, block) ← s.vaultNow p.ring
  let (u, mu, _) ← getOr (s.vaultQuorum p.ring qPolicy true block (sha384 p.input) p.block p.data.approvals) .denied
  requireIn u (!u.sealing) .busyRetry
  let (w, sealOut) ← getIn u (u.reissue line p.ring root p.input) .noResource
  requireIn u u.seedValid .faulted
  requireIn u (p.areasOk ioBoth && policyContinues block p.input && p.fits sealOut.length) .rejected
  .ok ⟨w, sealOut, mu, 0⟩

/-- VAULT_POLICY_SET: replaces the policy block under its quorum (R150). -/
def execVaultPolicySet (dt pid : Nat) (d : PktData) (s : State) : Host.Outcome State Fault Refusal :=
  .next ((s.tick dt).runOp 0x0503 pid d opVaultPolicySet)

/-- VAULT_DELETE (R151). -/
def opVaultDelete : Op := fun s pid p => do
  let _ ← s.handles pid p
  require (p.areasOk ioNone) .rejected
  let (_, _, block) ← s.vaultNow p.ring
  let (u, mu, _) ← getOr (s.vaultQuorum p.ring qDelete false block (sha384 (s.vaultId p.ring)) p.block p.data.approvals) .denied
  requireIn u (!u.sealing) .busyRetry
  let w ← getIn u (u.vaultAdvance p.ring false false) .noResource
  .ok ⟨w.freeSlice p.ring, [], mu, 0⟩

/-- VAULT_DELETE: destroys every record of the vault under its quorum (R151). -/
def execVaultDelete (dt pid : Nat) (d : PktData) (s : State) : Host.Outcome State Fault Refusal :=
  .next ((s.tick dt).runOp 0x0504 pid d opVaultDelete)

/-- Octets of a challenge (R143). -/
def challengeBody (ident : Nat) (device vault : Bytes) (sl cls counter issue expiry : Nat) (digest nonce block : Bytes) : Bytes :=
  let imp := decide (cls = qImport)
  natLE 4 1 ++ natLE 4 (if imp then 1832 else 160) ++ natLE 8 ident ++ device ++ fitLen 16 vault ++ natLE 2 sl ++
  natLE 2 cls ++ natLE 4 counter ++ natLE 8 issue ++ natLE 8 expiry ++ fitLen 48 digest ++ fitLen 32 nonce ++
  natLE 4 (if imp then 1665 else 0) ++ zeros 4 ++ (if imp then block ++ zeros 7 else [])

/-- Live challenges of a slice, oldest first (R144). -/
def State.liveOf (s : State) (sl : Nat) : List Challenge :=
  s.vlt.challenges.filter (fun c => c.slice == sl && c.live s.now)

/-- Live import challenges of a slice. -/
def State.liveImports (s : State) (sl : Nat) : List Challenge := (s.liveOf sl).filter (fun c => c.cls == qImport)

/-- Live import challenges of the device. -/
def State.deviceImports (s : State) : Nat :=
  (s.vlt.challenges.filter (fun c => c.cls == qImport && c.slice != dqSlice && c.live s.now)).length

/-- The oldest of a list of challenges ends, where the list has reached its limit (R144). -/
def State.endOldest (s : State) (l : List Challenge) (limit : Nat) : State :=
  match l with
  | c :: _ => if limit ≤ l.length then s.endChallenge c.ident else s
  | [] => s

/-- The live challenges that a new one of a class ends (R144): a third import ends the slice's oldest import, a seventeenth challenge the slice's oldest. -/
def State.makeRoom (s : State) (sl cls : Nat) : State :=
  let s := if cls = qImport then s.endOldest (s.liveImports sl) 2 else s
  s.endOldest (s.liveOf sl) 16

/-- A class IMPORT challenge for the slice would exceed 32 across all slices, those that it ends not counted (R144). -/
def State.importsFull (s : State) (sl : Nat) : Bool := decide (32 ≤ (s.makeRoom sl qImport).deviceImports)

/-- A challenge is issued: the limits of R144 end older ones, and it is live from now on. -/
def State.issueChallenge (s : State) (p : Packet) (sl cls counter life : Nat) (vault digest block : Bytes) : State × Challenge :=
  let ident := max 1 (leNat (p.random 0 8))
  let seed := if cls = qImport then p.random 2 64 else []
  let expiry := s.now + life * 1000000000
  let body := challengeBody ident s.deviceId vault sl cls counter s.now expiry digest (p.random 1 32) (hybridPub seed)
  let c : Challenge := ⟨ident, sl, cls, counter, s.now, expiry, digest, body, Shares.make s.free seed, block⟩
  let s := s.makeRoom sl cls
  ({ s with vlt := { s.vlt with challenges := s.vlt.challenges ++ [c] }, free := s.free + 1 }, c)

/-- QUORUM_CHALLENGE (R142). -/
def opQuorumChallenge : Op := fun s pid p => do
  let _ ← s.handles pid p
  let cls := p.par 0 0
  require (p.readOk true && p.inlineFrom 1 && decide (cls ≤ 6) && p.inTotal == 48) .rejected
  let (_, _, block) ← s.vaultNow p.ring
  require (!(cls == qImport && s.importsFull p.ring)) .busyRetry
  require (p.areasOk ioBoth && p.fits (if cls = qImport then 1832 else 160)) .rejected
  let (t, c) := s.issueChallenge p p.ring cls (s.vaultCounter p.ring) (field block 8 4) (s.vaultId p.ring) p.input []
  .ok ⟨t, c.body, 0, c.ident⟩

/-- QUORUM_CHALLENGE: issues a challenge for a class of the slice's vault (R142). -/
def execQuorumChallenge (dt pid : Nat) (d : PktData) (s : State) : Host.Outcome State Fault Refusal :=
  .next ((s.tick dt).runOp 0x0505 pid d opQuorumChallenge)

/-- CHALLENGE_EXPIRY: device time has reached a challenge's expiry time, and it ends (R144). -/
def execChallengeExpiry (dt ident : Nat) (s : State) : Host.Outcome State Fault Refusal :=
  let s := s.tick dt
  if s.vlt.challenges.any (fun c => c.ident == ident && !c.live s.now) then .next (s.endChallenge ident) else .next s

/-- DQ_CHALLENGE (R158). -/
def opDqChallenge : Op := fun s pid p => do
  let _ ← s.handles pid p
  let cls := p.par 0 0
  let block := p.input.take (p.inTotal - 48)
  require (p.areasOk ioBoth && p.inlineFrom 1 && decide (0x10 ≤ cls) && decide (cls ≤ 0x13) && decide (48 < p.inTotal)) .rejected
  let r ← getOr s.otp.dqCurrent .rejected
  require (sha384 block == s.otp.dqDigest r && p.fits 160) .rejected
  let (t, c) := s.issueChallenge p dqSlice cls r (field block 8 4) (zeros 16) (p.input.drop (p.inTotal - 48)) block
  .ok ⟨t, c.body, 0, c.ident⟩

/-- DQ_CHALLENGE: issues a challenge of the device quorum (R158). -/
def execDqChallenge (dt pid : Nat) (d : PktData) (s : State) : Host.Outcome State Fault Refusal :=
  .next ((s.tick dt).runOp 0x0580 pid d opDqChallenge)

/-- The approval of DQ_POLICY_SET: in FACTORY a null token for the first record, else M approvals under the current policy (R157). -/
def State.dqPolicyQuorum (s : State) (p : Packet) : Option (State × Nat) :=
  match s.otp.dqCurrent with
  | none => if s.lc == 1 && tokenOk p.block 16 && tokenA p.block == 0 then some (s, 0) else none
  | some _ => s.deviceQuorum qDqPolicy (sha384 p.input) p.block p.data.approvals

/-- The next device policy record: the lowest free one (R353). -/
def State.dqNext (s : State) : Option Nat := (List.range 16).find? s.otp.dqFree

/-- DQ_POLICY_SET (R157). -/
def opDqPolicySet : Op := fun s pid p => do
  let _ ← s.handles pid p
  require (p.areasOk ioIn && policyOk p.input true) .rejected
  require (s.lc != 0) .denied
  let (u, mu) ← getOr (s.dqPolicyQuorum p) .denied
  let n ← getIn u s.dqNext .noResource
  .ok ⟨{ u with otp := u.otp.programDq n (sha384 p.input) }, [], mu, 0⟩

/-- An accepted LC_TRANSITION executes. -/
def State.lcExecutes (s : State) : Bool :=
  s.cmd.deferred.any (fun a => match a with | .lifeCycle _ _ _ _ => true | _ => false)

/-- An accepted command of the device quorum executes: no other device quorum check falls before its end (R147). -/
def State.dqExecutes (s : State) : Bool :=
  s.fw.act.isSome || s.lcExecutes || s.cmd.deferred.any (fun a => match a with | .configLoad _ _ _ _ => true | _ => false)

/-- DQ_POLICY_SET: writes the digest of a device policy block to the next record (R157). It waits while another command of the device quorum executes (R147), and while the RP may not program OTP (R350, R400). -/
def execDqPolicySet (dt pid : Nat) (d : PktData) (s : State) : Host.Outcome State Fault Refusal :=
  let s := s.tick dt
  if s.dqExecutes || !s.rpPrograms then .next s else .next (s.runOp 0x0581 pid d opDqPolicySet)

/-- The output of MEASURE_READ (R160). -/
def State.measures (s : State) : Bytes :=
  (List.range 8).flatMap s.mr ++ fitLen 2689 s.boot.identityPub ++ fitLen 7587 s.boot.certificate

/-- MEASURE_READ (R160). -/
def opMeasureRead : Op := fun s pid p => do
  let _ ← s.handles pid p
  require (p.areasOk ioOut && p.inlineFrom 0 && p.fits 10660) .rejected
  .ok ⟨s, s.measures, 0, 0⟩

/-- MEASURE_READ: outputs the measurement registers, the identity public keys and the certificate (R160). -/
def execMeasureRead (dt pid : Nat) (d : PktData) (s : State) : Host.Outcome State Fault Refusal :=
  .next ((s.tick dt).runOp 0x0803 pid d opMeasureRead)

end Sys2Proof.Machine
end

