-- ==== Sys2Proof/Machine/Worlds.lean ====
section
/-! DEFINITION. The worlds of the command pairs and the monitor (R313 to R319), assignment, island power and rule writes (R320 to R334), violations and debug (R330 to R336). Log entries of this file: DEDUCED 152, 196; DESIGN CHOICE 165, 207. -/

namespace Sys2Proof.Machine

/-- 32 register contents, zero where fewer are given. -/
def gRegs (l : List Nat) : Vector Nat 32 := Vector.ofFn (fun i : Fin 32 => (l.getD i.val 0) % 2 ^ 64)

/-- A pair's g register replaced. -/
def PairWorld.setG (w : PairWorld) (i v : Nat) : PairWorld := { w with g := w.g.setIfInBounds i v }

/-- A pair's g register. -/
def PairWorld.getG (w : PairWorld) (i : Nat) : Nat := w.g.getD i 0

/-- WCALL from the open world (R314). -/
def PairWorld.enter (w : PairWorld) (cause nextPc : Nat) : PairWorld :=
  { w with wepc := nextPc % 2 ^ 64, wcause := cause, world := false, pc := w.wvec }

/-- WCALL_FROM_OPEN: a pair in the open world enters the monitor; `g` are g0 to g31 as K64 code left them (R314). -/
def execWcallFromOpen (dt pair imm nextPc : Nat) (g : List Nat) (s : State) : Host.Outcome State Fault Refusal :=
  let s := s.tick dt
  let w := s.pairOf pair
  if pair < 8 && w.world then
    .next (s.setPair pair { w.enter 0x01 nextPc with warg := imm % 2 ^ 16, g := gRegs g })
  else .next s

/-- The registers that a WCALL to the open world leaves: g0 to g7, every other one cleared (R314). -/
def PairWorld.leave (w : PairWorld) (g : List Nat) : PairWorld :=
  { w with g := gRegs (g.take 8), vs := .empty, world := true, pc := w.wepc, irqPending := [] }

/-- The result of a monitor visit with an unassigned function number: g0 = 0xFFFF_FFFF (R316). -/
def PairWorld.results (w : PairWorld) (g : List Nat) : List Nat :=
  if w.wcause == 0x01 && decide (4 ≤ w.warg) then 0xFFFFFFFF :: g.drop 1 else g

/-- A pending halt request meets the open world: it takes effect with the open invasive enable, and is discarded and reported without it (R336). -/
def State.resolveHalt (s : State) (pair : Nat) : State :=
  let w := s.pairOf pair
  if w.haltPending then
    let s := s.setPair pair { w with haltPending := false, halted := w.halted || s.flag Fld.WLD_DBG_o_inv 0 }
    if s.flag Fld.WLD_DBG_o_inv 0 then s else s.report ⟨0xFF, 2, none⟩ .write w.pc 0x08 0xFFFF
  else s

/-- The open world receives time: not during boot, not while forward sealing runs (R319), and not without a steward image (R365). -/
def State.openTime (s : State) : Bool :=
  s.booted && !s.flag Fld.DEV_BOOT_STATUS_steward_absent 0 && !(match s.fw.act with | some a => a.kind == 1 && a.phase == 1 | none => false)

/-- The open world may run on a pair: it receives time, the pair is active, and no withdrawn pair's world is still to move to it (R319, R409). -/
def State.openHere (s : State) (pair : Nat) : Bool :=
  s.openTime && s.pairActive pair && !s.rot.heir.any (fun k r => decide (k < 16) && r == pair)

/-- Interrupts that waited for the open world of a pair are delivered (R317). -/
def State.deliverIrqs (s : State) (l : List Nat) : State :=
  { s with wld := { s.wld with irqs := s.wld.irqs.filter (fun n => !l.contains n) } }

/-- WCALL_FROM_SECURE: a pair in the secure world returns to the open world (R314), which then meets its pending interrupts (R317); a pair that was halted there halts again with `wcause` 0x03 (R336). Custody firmware makes no such call where the open world may not run (R319, R409). -/
def execWcallFromSecure (dt pair : Nat) (g : List Nat) (s : State) : Host.Outcome State Fault Refusal :=
  let s := s.tick dt
  let w := s.pairOf pair
  if pair < 8 && !w.world && s.openHere pair then
    let w' := w.leave (w.results g)
    let s := s.deliverIrqs w.irqPending
    .next ((s.setPair pair { w' with wcause := if w.halted then 0x03 else w.wcause }).resolveHalt pair)
  else .next s

/-- A pair in the open world is brought into the monitor (R317, R319); a halted one resumes where it stands, any other at an address that the spec leaves open. -/
def State.callIn (s : State) (pair : Nat) : State :=
  let w := s.pairOf pair
  if w.world then
    let (pc, s) := s.choose (2 ^ 64)
    s.setPair pair (w.enter 0x02 (if w.halted then w.pc else pc))
  else s

/-- Forward sealing begins: no open world receives time from now on (R319). -/
def State.openStops (s : State) : State := (List.range 8).foldl State.callIn s

/-- The pair runs the monitor function with this number (R316). -/
def State.inCall (s : State) (pair fn : Nat) : Bool :=
  let w := s.pairOf pair
  decide (pair < 8) && !w.world && w.wcause == 0x01 && w.warg == fn

/-- YIELD: the pending secure work of the visit is done, and custody firmware may have queued messages for the open world (R316). -/
def execYield (dt pair : Nat) (msgs : List Bytes) (s : State) : Host.Outcome State Fault Refusal :=
  let s := s.tick dt
  if s.inCall pair 0x0000 then
    let s := s.setPair pair ((s.pairOf pair).setG 0 0)
    .next { s with wld := { s.wld with toOpen := s.wld.toOpen ++ msgs } }
  else .next s

/-- A monitor buffer passes: it lies in local memory and the MPU permits the access to the open world (R316). -/
def State.bufferOk (s : State) (k : AccKind) (a len : Nat) : Bool :=
  decide (0x10000000 ≤ a) && decide (a + len ≤ 0x10060000) && (s.mpuCheck true k a len).isNone

/-- A buffer that fails the check: g0 = 0xFFFF_FFFE and a report (R316). -/
def State.bufferFail (s : State) (pair : Nat) (k : AccKind) (a : Nat) : State :=
  (s.setPair pair ((s.pairOf pair).setG 0 0xFFFFFFFE)).report ⟨0x08 + pair, 1, none⟩ k a 0x0C 0xFFFF

/-- MSG_SEND: a message of the open world is queued for the secure world, unless the queue of 64 is full (R316). -/
def execMsgSend (dt pair : Nat) (data : Bytes) (s : State) : Host.Outcome State Fault Refusal :=
  let s := s.tick dt
  if s.inCall pair 0x0001 then
    let w := s.pairOf pair
    let len := w.getG 2
    if !s.bufferOk .read (w.getG 1) len then .next (s.bufferFail pair .read (w.getG 1))
    else if len = 0 || 4096 < len then
      .next { (s.setPair pair (w.setG 0 (Config.choice s.free))) with free := s.free + 1 }
    else if 64 ≤ s.wld.toSecure.length then .next (s.setPair pair (w.setG 0 1))
    else
      let s := s.setPair pair (w.setG 0 0)
      .next { s with wld := { s.wld with toSecure := s.wld.toSecure ++ [fitLen len data] } }
  else .next s

/-- Octets stored in a pair's local memory. -/
def storeBytes (m : NMap Byte) (a : Nat) : Bytes → NMap Byte
  | [] => m
  | b :: bs => storeBytes (m.setD 0 a b) (a + 1) bs

/-- A permitted write to memory: octets of a pair's local memory, or a host write through HLU (R35, R328). -/
def State.memoryStore (s : State) (pair : Nat) (pasid : Option Nat) (a : Nat) (b : Bytes) : State :=
  if 0x100000000 ≤ a then s.emit (.hostWrite pasid a b)
  else
    let w := s.pairOf pair
    s.setPair pair { w with mem := storeBytes w.mem a b }

/-- MSG_RECV: the oldest message for the open world is copied to its buffer, or discarded where it exceeds the capacity (R316). -/
def execMsgRecv (dt pair : Nat) (s : State) : Host.Outcome State Fault Refusal :=
  let s := s.tick dt
  if s.inCall pair 0x0002 then
    let w := s.pairOf pair
    let buf := w.getG 1
    if !s.bufferOk .write buf (w.getG 2) then .next (s.bufferFail pair .write buf)
    else
      match s.wld.toOpen with
      | [] => .next (s.setPair pair (w.setG 0 0))
      | m :: rest =>
        let s := { s with wld := { s.wld with toOpen := rest } }.setPair pair (w.setG 0 m.length)
        .next (if m.length ≤ w.getG 2 then s.memoryStore pair none buf m else s)
  else .next s

/-- INFO: the pair number, device time and `WLD_DBG` (R316). -/
def execInfo (dt pair : Nat) (s : State) : Host.Outcome State Fault Refusal :=
  let s := s.tick dt
  if s.inCall pair 0x0003 then
    .next (s.setPair pair ((((s.pairOf pair).setG 0 pair).setG 1 s.now).setG 2 (s.reg .WLD_DBG 0).toNat))
  else .next s

/-- SECURE_INTERRUPT: a secure interrupt enters the monitor on a pair that runs in the open world (R317). -/
def execSecureInterrupt (dt pair source pc : Nat) (s : State) : Host.Outcome State Fault Refusal :=
  let s := s.tick dt
  let w := s.pairOf pair
  if pair < 8 && w.world && irqAssigned source && s.irqWorld source == 0 && s.takesIrq source pair then
    let s := s.setPair pair (w.enter 0x02 pc)
    .next { s with wld := { s.wld with irqs := s.wld.irqs.filter (· != source) } }
  else .next s

/-- DEVICE_TIMER_EXPIRY: device timer n asserts source 0xA8 + n in the world that `WLD_PER.tmr` gives it (R318). -/
def execDeviceTimerExpiry (dt n : Nat) (s : State) : Host.Outcome State Fault Refusal :=
  let s := s.tick dt
  if n < 8 then .next (s.raiseIrq (0xA8 + n)) else .next s

/-- A rule register's new content after an accepted write, or none where the write is discarded and reported (R322, R329, R334, R335). -/
def State.ruleWrite (s : State) (r : RegRef) (v : Word) : Option State :=
  let i := r.index
  let old := s.reg r.name i
  match r.name with
  | .MPU_BASE => if s.flag Fld.MPU_CTRL_lock i then none else some (s.setReg r.name i (wordWrite r.name false old v))
  | .MPU_CTRL => if s.flag Fld.MPU_CTRL_lock i then none else some (s.setReg r.name i (wordWrite r.name false old v))
  | .WLD_PER =>
    if s.flag Fld.WLD_LOCK_assign_lock 0 then none else some (s.setReg r.name i (wordWrite r.name false old v))
  | .WLD_IRQ =>
    if s.flag Fld.WLD_LOCK_assign_lock 0 then none
    else if !irqAssigned i then some s
    else if s.flag Fld.WLD_IRQ_fixed i && wordField v 0 0 != s.fget Fld.WLD_IRQ_world i then none
    else some (s.setReg r.name i (wordWrite r.name false old v))
  | .WLD_ISLAND =>
    if !islandAssigned i then some s
    else if wordField v 0 0 != s.fget Fld.WLD_ISLAND_world i &&
      (s.flag Fld.WLD_ISLAND_fixed i || s.flag Fld.WLD_LOCK_assign_lock 0) then none
    else some (s.fset Fld.WLD_ISLAND_world i (wordField v 0 0))
  | .WLD_DBG =>
    if s.flag Fld.WLD_LOCK_dbg_lock 0 then none
    else if !s.flag Fld.WLD_DBG_s_allowed 0 && wordField v 3 2 != 0 then none
    else if s.fget Fld.LC_STATE_lc 0 == 0 || s.fget Fld.LC_STATE_lc 0 == 6 then some s
    else some (s.setReg r.name i (wordWrite r.name false old v))
  | _ => some s

/-- The registers whose writes are rule writes (R333). -/
def isRule : RegName → Bool
  | .MPU_BASE => true
  | .MPU_CTRL => true
  | .WLD_PER => true
  | .WLD_IRQ => true
  | .WLD_ISLAND => true
  | .WLD_DBG => true
  | _ => false

/-- RULE_WRITE: a write to a rule register by the secure world takes effect after the accesses in flight and is acknowledged, or is discarded and reported (R333, R334). -/
def execRuleWrite (dt : Nat) (m : Master) (addr value : Nat) (s : State) : Host.Outcome State Fault Refusal :=
  let s := s.tick dt
  match internalReg addr with
  | none => .next s
  | some r =>
    if !isRule r.name then .next s
    else if s.masterOpen m then .next (s.report m .write addr (worldReason m) 0xFFFF)
    else
      match s.ruleWrite r (BitVec.ofNat 64 value) with
      | some t => .next (t.emit (.ack addr))
      | none => .next (s.report m .write addr 0x0A 0xFFFF)

/-- ASSIGN_LOCK: a write of 1 to `WLD_LOCK.assign_lock` (R322). -/
def execAssignLock (dt : Nat) (s : State) : Host.Outcome State Fault Refusal :=
  .next ((s.tick dt).fset Fld.WLD_LOCK_assign_lock 0 1)

/-- DBG_LOCK: a write of 1 to `WLD_LOCK.dbg_lock` (R335). -/
def execDbgLock (dt : Nat) (s : State) : Host.Outcome State Fault Refusal :=
  .next ((s.tick dt).fset Fld.WLD_LOCK_dbg_lock 0 1)

/-- A request for an island may take effect: the island's world is open, or the secure world has released it (R323). -/
def State.islandFree (s : State) (n : Nat) : Bool :=
  s.fget Fld.WLD_ISLAND_world n == 1 || s.flag Fld.WLD_ISLAND_rel n

/-- An island's power state after its request or release has changed (R323, R325, R327): draining towards the request, powering up, or as it is with the request deferred. -/
def State.islandUpdate (s : State) (n : Nat) : State :=
  let req := s.fget Fld.WLD_ISLAND_req n
  let pwr := s.fget Fld.WLD_ISLAND_pwr n
  if req == 0 then
    let s := s.fset Fld.WLD_ISLAND_deferred n 0
    if pwr == 1 || pwr == 2 then s.fset Fld.WLD_ISLAND_pwr n 4 else s
  else if s.islandFree n then
    let s := s.fset Fld.WLD_ISLAND_deferred n 0
    if pwr == 0 || (pwr == 1 && req == 2) || (pwr == 2 && req == 1) then s.fset Fld.WLD_ISLAND_pwr n 3 else s
  else
    let s := s.fset Fld.WLD_ISLAND_deferred n 1
    if pwr == 1 || pwr == 2 then s.fset Fld.WLD_ISLAND_pwr n 4 else s

/-- The effect of a write to `DEV_PWR_REQn` (R323): recorded, in effect or deferred; 0b11 is discarded, an unassigned island reported. -/
def State.powerRequest (s : State) (m : Master) (n v : Nat) : State :=
  if !islandAssigned n then s.report m .write (0xA0000 + 4 * n) 0x04 0xFFFF
  else if v = 3 then s
  else ((s.fset Fld.DEV_PWR_REQ_req n v).fset Fld.WLD_ISLAND_req n v).islandUpdate n

/-- DEV_PWR_REQ: a write to `DEV_PWR_REQn` (R323). -/
def execDevPwrReq (dt : Nat) (m : Master) (n value : Nat) (s : State) : Host.Outcome State Fault Refusal :=
  .next ((s.tick dt).powerRequest m n (value % 4))

/-- The effect of a write to `WLD_ISLANDn.rel`, which only NET0 to NET3 hold (R324, R325). -/
def State.releaseWrite (s : State) (n : Nat) (value : Bool) : State :=
  if islandConfigurable n then (s.fset Fld.WLD_ISLAND_rel n (b2n value)).islandUpdate n else s

/-- ISLAND_RELEASE_WRITE: a write to `WLD_ISLANDn.rel` (R324, R325). -/
def execIslandReleaseWrite (dt n : Nat) (value : Bool) (s : State) : Host.Outcome State Fault Refusal :=
  .next ((s.tick dt).releaseWrite n value)

/-- The port of the port mode uses lanes of a NET island (R457). -/
def State.portUses (s : State) (port m : Nat) : Bool :=
  let n := 2 ^ (s.fget Fld.TBL_INL_PD_mode 0 + 1)
  decide (port < n) && decide (port * (16 / n) < 4 * m + 4) && decide (4 * m < port * (16 / n) + 16 / n)

/-- A port's link goes down, with its interrupt (R460). -/
def State.portLost (s : State) (port : Nat) : State :=
  if s.flag Fld.NET_PORT_STATUS_up port then (s.setReg .NET_PORT_STATUS port 0).raiseIrq (0x80 + port)
  else s.setReg .NET_PORT_STATUS port 0

/-- An island is on again, its memories cleared and its channels open; a request that stands is deferred or taken up again (R325). -/
def State.poweredUp (s : State) (n : Nat) : State :=
  if s.fget Fld.WLD_ISLAND_pwr n == 4 then ((s.fset Fld.WLD_ISLAND_pwr n 0).islandUpdate n) else s

/-- ASV_RECORD_POP: a read of `WLD_ASV_REC7` returns the last word of the oldest record and removes it (R331). -/
def execAsvRecordPop (dt : Nat) (s : State) : Host.Outcome State Fault Refusal :=
  let s := s.tick dt
  let s := s.emit (.readData 0x4500082C (s.readReg .WLD_ASV_REC 7).toNat)
  .next { s with wld := { s.wld with asv := s.wld.asv.drop 1 } }

/-- DEBUG_HALT_REQUEST: it takes effect in the open world with its invasive enable, and waits while the pair runs in the secure world (R336). -/
def execDebugHaltRequest (dt pair : Nat) (s : State) : Host.Outcome State Fault Refusal :=
  let s := s.tick dt
  let w := s.pairOf pair
  if 8 ≤ pair then .next s
  else if w.world then .next ((s.setPair pair { w with haltPending := true }).resolveHalt pair)
  else if s.flag Fld.WLD_DBG_s_inv 0 then .next (s.setPair pair { w with halted := true })
  else .next (s.setPair pair { w with haltPending := true })

end Sys2Proof.Machine
end

