-- ==== Sys2Proof/Machine/PkFigures.lean ====
section
/-! DEFINITION. The budgets of the public-key operations (R207, R209 to R211, R214, R215, R222) and the sizes of their values (R205, R509). Log entries of this file: DESIGN CHOICE 79, 81. -/

namespace Sys2Proof.Machine

/-- Figures of an operation that is not quantised: E, Ev and A in µs, B in MU, the energy in nJ and VC in µs. -/
def mkFig (e ev a b energy vc : Nat) : Fig := ⟨6000 * e, 6000 * ev, 6000 * a, b, false, 0, b, 1000 * vc, energy⟩

/-- Figures of a quantised operation: one quantum, the key generation prefix, the class C charge and the energy. -/
def mkQuant (e ev a b pk c energy : Nat) : Fig := ⟨6000 * e, 6000 * ev, 6000 * a, b, true, pk, c, 1000, energy⟩

/-- SIGN by key type (R209, R211). -/
def signFig : Nat → Option Fig
  | 0x10 => some (mkFig 30 46 2 80 36000 1)
  | 0x11 => some (mkFig 70 104 8 184 82500 1)
  | 0x12 => some (mkFig 150 230 18 400 180100 1)
  | 0x13 => some (mkFig 24 34 4 64 27500 1)
  | 0x20 => some (mkFig 260 12 46 320 128900 1)
  | 0x21 => some (mkFig 480 16 62 560 235100 1)
  | 0x22 => some (mkFig 760 20 98 880 369700 1)
  | 0x23 => some (mkFig 2400 36 262 2700 1154700 1)
  | 0x38 => some (mkQuant 66 36 4 108 0 196 73700)
  | 0x39 => some (mkQuant 98 54 6 160 0 334 122300)
  | 0x3A => some (mkQuant 144 80 6 232 0 391 152700)
  | _ => none

/-- VERIFY by key type (R209). -/
def verifyFig : Nat → Option Fig
  | 0x10 => some (mkFig 46 0 2 50 21800 2)
  | 0x11 => some (mkFig 104 0 4 110 49300 2)
  | 0x12 => some (mkFig 230 0 8 240 109000 2)
  | 0x13 => some (mkFig 34 0 4 40 16100 2)
  | 0x20 => some (mkFig 12 0 4 18 5700 2)
  | 0x21 => some (mkFig 16 0 4 22 7600 2)
  | 0x22 => some (mkFig 20 0 6 28 9500 2)
  | 0x23 => some (mkFig 36 0 10 48 17100 2)
  | 0x38 => some (mkFig 36 0 2 40 17100 2)
  | 0x39 => some (mkFig 54 0 4 60 25600 2)
  | 0x3A => some (mkFig 80 0 6 88 37900 2)
  | _ => none

/-- KEY_AGREE by key type (R209). -/
def agreeFig : Nat → Option Fig
  | 0x10 => some (mkFig 34 0 4 40 16100 3)
  | 0x11 => some (mkFig 78 0 10 90 37000 5)
  | 0x12 => some (mkFig 170 0 18 190 80600 9)
  | 0x14 => some (mkFig 30 0 4 36 14200 6)
  | _ => none

/-- KEM_ENCAPS by key type (R209). -/
def encapsFig : Nat → Option Fig
  | 0x30 => some (mkFig 8 0 2 12 3800 3)
  | 0x31 => some (mkFig 12 0 2 16 5700 3)
  | 0x32 => some (mkFig 17 0 3 22 8100 3)
  | _ => none

/-- KEM_DECAPS by key type (R209). -/
def decapsFig : Nat → Option Fig
  | 0x30 => some (mkFig 15 0 3 20 7100 1)
  | 0x31 => some (mkFig 24 0 4 30 11400 1)
  | 0x32 => some (mkFig 33 0 5 40 15600 1)
  | _ => none

/-- RSA_DECRYPT by key type (R209). -/
def rsaDecFig : Nat → Option Fig
  | 0x20 => some (mkFig 264 0 54 320 125100 2)
  | 0x21 => some (mkFig 486 0 72 560 230400 2)
  | 0x22 => some (mkFig 768 0 110 880 364000 2)
  | 0x23 => some (mkFig 2420 0 278 2700 1147100 2)
  | _ => none

/-- One quantum of an RSA key generation (R215): its execution and energy are not listed, and are free values within R176; the rest of the budget but its 2 µs is allowance. -/
def rsaGenFig (t b c : Nat) : Fig :=
  let e := Config.unstated (0x300 + t) % (b - 1)
  mkQuant e 0 (b - 2 - e) b 0 c (Config.unstated t)

/-- KEY_GENERATE by key type (R209, R214, R215). A symmetric CUSTODY type has no listed figures: those are free values. -/
def genFig : Nat → Option Fig
  | 0x10 => some (mkFig 104 0 6 112 49300 1)
  | 0x11 => some (mkFig 240 0 10 252 113800 1)
  | 0x12 => some (mkFig 522 0 26 550 247400 1)
  | 0x13 => some (mkFig 80 0 6 88 37900 1)
  | 0x14 => some (mkFig 52 0 4 58 24600 1)
  | 0x30 => some (mkFig 31 0 5 38 14700 1)
  | 0x31 => some (mkFig 48 0 6 56 22800 1)
  | 0x32 => some (mkFig 67 0 9 78 31800 1)
  | 0x38 => some (mkQuant 66 36 4 108 30 226 86000)
  | 0x39 => some (mkQuant 98 54 6 160 48 382 142200)
  | 0x3A => some (mkQuant 144 80 6 232 70 461 182100)
  | 0x20 => some (rsaGenFig 0x20 20000 52000)
  | 0x21 => some (rsaGenFig 0x21 60000 180000)
  | 0x22 => some (rsaGenFig 0x22 130000 442000)
  | 0x23 => some (rsaGenFig 0x23 1000000 4500000)
  | 0x02 => some (mkFig 0 0 0 (Config.unstated 0x102) (Config.unstated 0x202) 1)
  | 0x08 => some (mkFig 0 0 0 (Config.unstated 0x108) (Config.unstated 0x208) 1)
  | 0x7F => some (mkFig 0 0 0 (Config.unstated 0x17F) (Config.unstated 0x27F) 1)
  | _ => none

/-- The figures of an opcode for a key type. -/
def pkFig (opc t : Nat) : Option Fig :=
  match opc with
  | 0x0301 => signFig t
  | 0x0302 => verifyFig t
  | 0x0303 => agreeFig t
  | 0x0304 => encapsFig t
  | 0x0305 => decapsFig t
  | 0x0306 => if isRsa t then verifyFig t else none
  | 0x0307 => rsaDecFig t
  | 0x0101 => genFig t
  | _ => none

/-- The hash length of an RSA signature scheme; zero for an unassigned code (R204). -/
def schemeHash (c : Nat) : Nat :=
  match c with
  | 0x01 => 32 | 0x02 => 48 | 0x03 => 64 | 0x11 => 32 | 0x12 => 48 | 0x13 => 64
  | _ => 0

/-- The hash length of an OAEP padding code; zero where unassigned. -/
def oaepHash (c : Nat) : Nat :=
  match c with
  | 1 => 32 | 2 => 48
  | _ => 0

/-- The scheme or padding code of an RSA packet names an algorithm; every other packet names one by its key type (R177, R204). -/
def namesAlg (opc t : Nat) (par : Nat → Nat) : Bool :=
  if !isRsa t then true
  else
    match opc with
    | 0x0301 => schemeHash (par 1) != 0
    | 0x0302 => schemeHash (par 2) != 0
    | 0x0306 => oaepHash (par 0) != 0
    | 0x0307 => oaepHash (par 0) != 0
    | _ => true

/-- The figures of the operation that an opcode, a key type and the parameter octets name; none where they name no assigned algorithm, so that the reference operation runs (R177). -/
def opFig (opc t : Nat) (par : Nat → Nat) : Option Fig := if namesAlg opc t par then pkFig opc t else none

/-- WS_EXEC's reference operation (R210): 960 cycles. -/
def wsRefFig : Fig := ⟨4800, 0, 1200, 3, false, 0, 3, 0, 0⟩

/-- The figures of an opcode's reference operation (R210). -/
def refFig (opc : Nat) : Fig :=
  let get := fun (o : Option Fig) => o.getD wsRefFig
  match opc with
  | 0x0301 => get (signFig 0x10)
  | 0x0302 => get (verifyFig 0x10)
  | 0x0303 => get (agreeFig 0x14)
  | 0x0304 => get (encapsFig 0x31)
  | 0x0305 => get (decapsFig 0x31)
  | 0x0306 => get (verifyFig 0x20)
  | 0x0307 => get (rsaDecFig 0x20)
  | 0x0101 => get (genFig 0x10)
  | _ => wsRefFig

/-- The key type of an opcode's reference operation (R210). -/
def refType (opc : Nat) : Nat :=
  match opc with
  | 0x0303 => 0x14 | 0x0304 => 0x31 | 0x0305 => 0x31 | 0x0306 => 0x20 | 0x0307 => 0x20 | 0x0405 => 0
  | _ => 0x10

/-- Figures with the destination of R207: 5 µs more execution, 1 µs more allowance, 6 MU more. -/
def Fig.toKey (f : Fig) : Fig := { f with e := f.e + 30000, a := f.a + 6000, b := f.b + 6, cCharge := f.cCharge + 6 }

/-- The modulus length of an RSA type in octets. -/
def rsaLen (t : Nat) : Nat := match keyType t with | some k => k.pub | none => 0

/-- The length of a signature by key type. -/
def sigLen (t : Nat) : Nat :=
  match t with
  | 0x10 => 64 | 0x11 => 96 | 0x12 => 132 | 0x13 => 64 | 0x38 => 2420 | 0x39 => 3309 | 0x3A => 4627
  | _ => rsaLen t

/-- The length of a public key in the form of R509. -/
def pubLen (t : Nat) : Nat :=
  match keyType t with
  | none => 0
  | some k =>
    if 0x10 ≤ t && t ≤ 0x12 then k.pub + 1 else if isRsa t then k.pub + 4
    else if 0x30 ≤ t && t ≤ 0x32 then k.pub - 32 else k.pub

/-- The message mode and length suit the key type and scheme (R204, R205). -/
def messageOk (t mode scheme len : Nat) : Bool :=
  (if isRsa t then schemeHash scheme != 0 else scheme == 0) &&
  (if mode == 0 then
    (if isRsa t then len == schemeHash scheme
     else if 0x10 ≤ t && t ≤ 0x12 then len == 32 || len == 48 || len == 64
     else len == 64)
   else mode == 1 && (if t == 0x13 then decide (len ≤ 1024) else decide (len ≤ 65536)))

/-- The signature algorithm of a key type. -/
def signAlg (t scheme : Nat) : Config.Alg :=
  match t with
  | 0x10 => .ecdsaP256 | 0x11 => .ecdsaP384 | 0x12 => .ecdsaP521 | 0x13 => .ed25519
  | 0x38 => .mlDsa44 | 0x39 => .mlDsa65 | 0x3A => .mlDsa87
  | _ => if scheme < 0x10 then .rsaPss else .rsaPkcs1

/-- The key agreement algorithm of a key type. -/
def agreeAlg (t : Nat) : Config.Alg :=
  match t with
  | 0x10 => .ecdhP256 | 0x11 => .ecdhP384 | 0x12 => .ecdhP521
  | _ => .x25519

/-- The length of a shared secret by key type (R220). -/
def sharedLen (t : Nat) : Nat :=
  match t with
  | 0x11 => 48 | 0x12 => 66
  | _ => 32

/-- The ciphertext length of an ML-KEM type. -/
def kemCtLen (t : Nat) : Nat :=
  match t with
  | 0x30 => 768 | 0x31 => 1088
  | _ => 1568

/-- The encapsulation and decapsulation algorithms of an ML-KEM type. -/
def encapsAlg (t : Nat) : Config.Alg :=
  match t with
  | 0x30 => .mlKem512Encaps | 0x31 => .mlKem768Encaps
  | _ => .mlKem1024Encaps
def decapsAlg (t : Nat) : Config.Alg :=
  match t with
  | 0x30 => .mlKem512Decaps | 0x31 => .mlKem768Decaps
  | _ => .mlKem1024Decaps

end Sys2Proof.Machine
end

