-- ==== Sys2Proof/Machine/PkWork.lean ====
section
/-! DEFINITION. What a public-key job makes (R187, R204 to R208, R211 to R215, R218 to R220): none where an input or a parameter is invalid, so that the packet completes with REJECTED (R177). Log entries of this file: DESIGN CHOICE 84, 231, 232, 249. -/

namespace Sys2Proof.Machine

/-- A DONE result with an output. -/
def JobRes.plain (out : Bytes) : JobRes := ⟨.done, out, none, none, [], 0⟩

/-- A result of another status. -/
def JobRes.of (st : Status) : JobRes := ⟨st, [], none, none, [], 0⟩

/-- An ML-DSA type. -/
def isMlDsa (t : Nat) : Bool := 0x38 ≤ t && t ≤ 0x3A

/-- The hash of a message under R205: by the curve, or by the RSA scheme. -/
def messageHash (t scheme : Nat) (msg : Bytes) : Bytes :=
  let n := if isRsa t then schemeHash scheme else if t == 0x10 then 32 else if t == 0x11 then 48 else 64
  fitLen n (Config.prim (if n = 32 then .sha256 else if n = 48 then .sha384 else .sha512) [msg])

/-- The message of a packet is hashed in a bulk cluster before its job starts (R205, R206): EC and RSA keys in message mode. -/
def hashesMessage (t mode : Nat) : Bool := mode == 1 && (isEc t || isRsa t)

/-- What a signature covers (R205): a digest, cut to the length of n for EC, and under its scheme for RSA; for Ed25519 and ML-DSA the pre-hash mark, the digest or the message, and an empty context. -/
def signForm (t mode scheme : Nat) (msg : Bytes) : List Bytes :=
  let digest := if mode == 0 then msg else messageHash t scheme msg
  if isEc t then [digest.take (ecLen t)]
  else if isRsa t then [natLE 1 scheme, digest]
  else [natLE 1 (if mode == 0 then 1 else 0), msg, []]

/-- A private scalar or per-message secret from random bits (R218): (c mod (n - 1)) + 1, with c of len(n) + 64 bits. -/
def ecSecret (t : Nat) (c : Bytes) : Bytes :=
  natBE (ecLen t) (beNat c % 2 ^ (ecBits t + 64) % (ecOrder (ecBits t) - 1) + 1)

/-- The random part of a signature (R218): the per-message secret of ECDSA, a PSS salt as long as the hash, the hedging octets of ML-DSA, and nothing for Ed25519 and PKCS1-v1_5. -/
def signRandom (t scheme : Nat) (p : Packet) : Bytes :=
  if isEc t then ecSecret t (p.random 2 (ceilDiv (ecBits t + 64) 8))
  else if isRsa t then (if scheme < 0x10 then p.random 2 (schemeHash scheme) else [])
  else if isMlDsa t then p.random 2 32 else []

/-- The public key as a verification takes it: the form of R509, with the exponent of an RSA key apart. -/
def verifyKey (t : Nat) (form : Bytes) : Bytes := if isRsa t then form.take (rsaLen t) else form

/-- What arithmetic decides of a verification (R212, R220): the ranges of r, s and S, the points, and the SampleInBall allotment of three blocks. -/
def sigShape (t : Nat) (pub : Bytes) (form : List Bytes) (sig : Bytes) : Bool :=
  if isEc t then pointOk t pub && ecSigOk t sig
  else if isRsa t then rsaRange (beNat pub) (beNat sig)
  else if t == 0x13 then edSigOk pub sig && !allZero sig
  else !allZero sig && Config.accepts .sampleInBall (natLE 1 3 :: natLE 1 t :: pub :: sig :: form)

/-- The verification of a signature by its standard (R219, R220). -/
def sigAccepts (t scheme : Nat) (pub : Bytes) (e : Nat) (form : List Bytes) (sig : Bytes) : Bool :=
  sigShape t pub form sig && Config.accepts (signAlg t scheme) (form ++ [pub, natBE 4 e, sig])

/-- Attempts of a quantum (R211): three for every parameter set. -/
def attempts : Nat := 3

/-- An attempt at an ML-DSA signature is accepted: by its norms, and with the SampleInBall allotment of two blocks enough (R181, R212). -/
def attemptOk (t : Nat) (secret : Bytes) (form : List Bytes) (rnd : Bytes) (i : Nat) : Bool :=
  Config.accepts .mlDsaAttempt (natLE 1 t :: secret :: rnd :: natLE 4 i :: form) &&
    Config.accepts .sampleInBall (natLE 1 2 :: natLE 1 t :: secret :: rnd :: natLE 4 i :: form)

/-- The first accepted attempt of quantum `q`, from 1 on (R181). -/
def firstAttempt (t : Nat) (secret : Bytes) (form : List Bytes) (rnd : Bytes) (q : Nat) : Option Nat :=
  ((List.range attempts).map (fun i => attempts * (q - 1) + i)).find? (attemptOk t secret form rnd)

/-- SIGN: the signature, of attempt `att` for ML-DSA, and the verdict of its verification before release (R29, R219). -/
def workSign (p : Packet) (k : Key) (att : Nat) : Option JobRes :=
  let mode := p.par 0 0
  let sch := p.par 1 1
  let form := signForm k.typ mode sch p.input
  if p.areasOk ioBoth && p.inlineFrom 2 && messageOk k.typ mode sch p.inTotal && p.fits (sigLen k.typ) then
    let sig := fitLen (sigLen k.typ) (Config.prim (signAlg k.typ sch)
      (form ++ [k.secret, natBE 4 k.exponent, signRandom k.typ sch p, natLE 4 att]))
    some { JobRes.plain sig with
      verdict := some (sigAccepts k.typ sch (verifyKey k.typ (pubForm k.typ k.pub k.exponent)) k.exponent form sig) }
  else none

/-- A public key supplied with VERIFY is in range (R220, R509). -/
def suppliedOk (t : Nat) (pub : Bytes) (e : Nat) : Bool := !isRsa t || rsaKeyOk (rsaLen t) (beNat pub) e

/-- VERIFY: DONE where the signature verifies under the record's or the supplied public key (R205, R220). -/
def workVerify (p : Packet) (k : Option Key) : Option JobRes :=
  let mode := p.par 0 0
  let sch := p.par 2 2
  let sup := p.par 1 1 == 1
  let t := if sup then p.par 3 3 else (match k with | some k => k.typ | none => 0)
  let lp := if sup then pubLen t else 0
  let msgLen := p.inTotal - lp - sigLen t
  let head := p.input.take lp
  let form := if sup then head else (match k with | some k => pubForm k.typ k.pub k.exponent | none => [])
  let e := if isRsa t then beNat (form.drop (rsaLen t)) else 0
  let pub := verifyKey t form
  if p.areasOk ioIn && p.inlineFrom 4 && decide (p.par 1 1 ≤ 1) && (sup || p.par 3 3 == 0) &&
      decide (lp + sigLen t ≤ p.inTotal) && messageOk t mode sch msgLen && (!sup || p.khandle0 == 0) &&
      (!sup || suppliedOk t pub e) &&
      sigAccepts t sch pub e (signForm t mode sch (slice p.input lp msgLen)) (p.input.drop (lp + msgLen)) then
    some (JobRes.plain [])
  else none

/-- The new TRAFFIC key of destination 0x01 (R208): none where a parameter is invalid or the slice has no vault root. -/
def State.agreedKey (s : State) (p : Packet) (k : Key) (shared info : Bytes) : Option NewKey :=
  match keyType (p.par 4 4) with
  | none => none
  | some kt =>
    if kt.classes.contains clsTraffic && usageOk (p.par 4 4) clsTraffic (p.par 2 3) && (s.vaultOf p.ring).isSome then
      some ⟨clsTraffic, p.par 4 4, 4, p.par 2 3, leNat (p.random 0 8), k.ident, 0,
        fitLen kt.s (Config.prim .hkdfSha256 [[], shared, info, natBE 4 kt.s]), []⟩
    else none

/-- The output of a key agreement or encapsulation by its destination (R207, R208): the octets before it, then the secret or the new key. -/
def State.deliverShared (s : State) (p : Packet) (k : Key) (before shared info : Bytes) : Option JobRes :=
  match p.par 0 0 with
  | 0 => if p.inlineFrom 1 && p.fits (before.length + shared.length) then some (JobRes.plain (before ++ shared)) else none
  | 1 =>
    match s.agreedKey p k shared info with
    | some nk =>
      if p.inlineFrom 5 && p.fits (before.length + 96 + nk.secret.length) then
        some { JobRes.plain before with key := some nk }
      else none
    | none => none
  | _ => none

/-- The length of the HKDF info in the input (R204). -/
def infoLen (p : Packet) : Nat := if p.par 0 0 == 1 then p.par 1 1 else 0

/-- A peer key of KEY_AGREE is valid: an EC point on its curve, or a u-coordinate that is not on the twist (R220). -/
def peerOk (t : Nat) (peer : Bytes) : Bool := if t == 0x14 then x25519Ok (x25519U peer) else pointOk t peer

/-- The shared secret of a key agreement: an X25519 peer as it is processed (R220). -/
def sharedOf (k : Key) (peer : Bytes) : Bytes :=
  let peer := if k.typ == 0x14 then natLE 32 (x25519U peer) else peer
  fitLen (sharedLen k.typ) (Config.prim (agreeAlg k.typ) [k.secret, peer])

/-- KEY_AGREE (R208, R220): an all-zero result of X25519 is rejected. -/
def State.workAgree (s : State) (p : Packet) (k : Key) : Option JobRes :=
  let peer := p.input.take (pubLen k.typ)
  let z := sharedOf k peer
  if p.areasOk ioBoth && p.inTotal == pubLen k.typ + infoLen p && peerOk k.typ peer && !(k.typ == 0x14 && allZero z) then
    s.deliverShared p k [] z (p.input.drop (pubLen k.typ))
  else none

/-- KEM_ENCAPS (R208, R220). -/
def State.workEncaps (s : State) (p : Packet) (k : Key) : Option JobRes :=
  let ek := k.pub.take (k.pub.length - 32)
  if p.areasOk ioBoth && p.inTotal == infoLen p && kemKeyOk ek then
    let o := Config.prim (encapsAlg k.typ) [ek, p.random 2 32]
    s.deliverShared p k (fitLen (kemCtLen k.typ) o) (fitLen 32 (o.drop (kemCtLen k.typ))) p.input
  else none

/-- KEM_DECAPS (R208, R220): a record whose H(ek) does not match its ek completes with FAULTED. -/
def State.workDecaps (s : State) (p : Packet) (k : Key) : Option JobRes :=
  let ek := k.pub.take (k.pub.length - 32)
  let ct := p.input.take (kemCtLen k.typ)
  if p.areasOk ioBoth && p.inTotal == kemCtLen k.typ + infoLen p then
    if fitLen 32 (Config.prim .sha3_256 [ek]) != k.pub.drop (k.pub.length - 32) then some (JobRes.of .faulted)
    else s.deliverShared p k [] (fitLen 32 (Config.prim (decapsAlg k.typ) [k.secret, k.pub, ct])) (p.input.drop (kemCtLen k.typ))
  else none

/-- RSA_ENCRYPT (R220). -/
def workRsaEncrypt (p : Packet) (k : Key) : Option JobRes :=
  let h := oaepHash (p.par 0 0)
  let n := rsaLen k.typ
  if p.areasOk ioBoth && p.inlineFrom 1 && h != 0 && decide (p.inTotal + 2 * h + 2 ≤ n) && p.fits n then
    some (JobRes.plain (fitLen n (Config.prim .rsaOaepEncrypt [natLE 1 (p.par 0 0), k.pub, natBE 4 k.exponent, p.input, p.random 2 48])))
  else none

/-- RSA_DECRYPT (R220): a ciphertext of the modulus length in 2 to n - 2 whose decoding passes; the message is as long as the decoding gives it, within the capacity that R508 asks for. -/
def workRsaDecrypt (p : Packet) (k : Key) : Option JobRes :=
  let h := oaepHash (p.par 0 0)
  let n := rsaLen k.typ
  let args := [natLE 1 (p.par 0 0), k.secret, k.pub, p.input]
  let c := beNat p.input
  if p.areasOk ioBoth && p.inlineFrom 1 && h != 0 && p.inTotal == n && p.fits (n - 2 * h - 2) &&
      rsaRange (beNat k.pub) c && c != 1 && c + 1 != beNat k.pub && Config.accepts .rsaOaepDecrypt args then
    some (JobRes.plain ((Config.prim .rsaOaepDecrypt args).take (n - 2 * h - 2)))
  else none

/-- The public exponent of KEY_GENERATE (R204): zero selects 65,537 for an RSA type. -/
def genExponent (p : Packet) : Nat := if isRsa (p.par 1 1) && p.par 4 7 == 0 then 65537 else p.par 4 7

/-- The random octets of a key generation (R218), from the words reserved to the job or to its quantum. -/
def genSeed (t : Nat) (p : Packet) : Bytes :=
  if isEc t then p.random 2 (ceilDiv (ecBits t + 64) 8)
  else if isRsa t then p.random 2 512
  else if 0x30 ≤ t && t ≤ 0x32 then p.random 2 64 else p.random 2 32

/-- The private part of a generated key by its type's method (R218): a symmetric key is the random octets themselves. -/
def genSecret (t e : Nat) (seed : Bytes) : Bytes :=
  if isEc t then ecSecret t seed
  else if t == 0x13 then
    let h := fitLen 64 (Config.prim .sha512 [seed])
    clamp25519 h ++ h.drop 32
  else if t == 0x14 then clamp25519 seed
  else
    match keyType t with
    | some kt => if kt.pub = 0 then fitLen kt.s seed else fitLen kt.s (Config.prim .keyPrivate [natLE 1 t, natBE 4 e, seed])
    | none => []

/-- The public part of a generated key. -/
def genPublic (t e : Nat) (secret : Bytes) : Bytes :=
  match keyType t with
  | some kt => if kt.pub = 0 then [] else fitLen kt.pub (Config.prim .keyPublic [natLE 1 t, natBE 4 e, secret])
  | none => []

/-- KEY_GENERATE of an ASYM or CUSTODY key (R218). -/
def State.workGenerate (s : State) (p : Packet) : Option JobRes :=
  let t := p.par 1 1
  let e := genExponent p
  match keyType t with
  | none => none
  | some kt =>
    if p.areasOk ioOut && p.inlineFrom 8 && kt.classes.contains (p.par 0 0) && exponentOk t e && usageOk t (p.par 0 0) (p.par 2 3) &&
        s.oneRoot p.ring t && (s.vaultOf p.ring).isSome && p.fits (96 + kt.s + kt.pub) then
      let k := genSecret t e (genSeed t p)
      some { JobRes.plain [] with key := some ⟨p.par 0 0, t, 1, p.par 2 3, leNat (p.random 0 8), 0, e, k, genPublic t e k⟩ }
    else none

/-- A random factor of 64 bits (R187). -/
def blind (p : Packet) (i : Nat) : Nat := leNat (p.random (3 + i) 8)

/-- Numbers held as two shares modulo q, under fresh masks. -/
def polyShares (q : Nat) (p : Packet) : Nat → Nat → Bytes → List Nat
  | _, 0, _ => []
  | i, n + 1, b =>
    let a := leNat (slice (p.random 6 (4 * (i + n + 1))) (4 * i) 4) % q
    a :: (leNat (b.take 4) + q - a) % q :: polyShares q p (i + 1) n (b.drop 4)

/-- The randomised representation of a class C secret (R187): a scalar plus a random multiple of the order, the blinded CRT exponents with the input's blinding factor, or two shares of each polynomial coefficient. -/
def secretForm (t : Nat) (secret : Bytes) (p : Packet) : List Nat :=
  if isEc t then [beNat secret + blind p 0 * ecOrder (ecBits t)]
  else if t == 0x13 then [leNat (secret.take 32) + blind p 0 * edOrder]
  else if t == 0x14 then [leNat secret + blind p 0 * (8 * edOrder)]
  else if isRsa t then
    let n := rsaLen t / 2
    let part := fun i => beNat (slice secret (i * n) n)
    [part 2 + blind p 0 * (part 0 - 1), part 3 + blind p 1 * (part 1 - 1), beNat (p.random 5 (2 * n)) % (part 0 * part 1)]
  else if 0x30 ≤ t then
    let b := Config.prim .polySecret [natLE 1 t, secret]
    polyShares (if t < 0x38 then 3329 else 8380417) p 0 (b.length / 4) b
  else []

/-- The octets of an attestation statement's body (R161). -/
def State.statementBody (s : State) (sl : Nat) (own : Bool) (nonce : Bytes) : Bytes :=
  let v := s.vaultOf sl
  let blk := match v with | some (_, _, b) => b | none => []
  natLE 4 1 ++ natLE 4 12854 ++ s.deviceId ++ (List.range 4).flatMap (fun n => natLE 4 (s.reg .CFG_VDOM n).toNat) ++
  natLE 2 (if own then sl else 0xFFFF) ++ natLE 1 s.lc ++ natLE 1 s.ep ++
  natLE 2 (if own then s.fget Fld.SLC_STATE_share_gen sl else 0) ++
  natLE 2 (if own then b2n v.isSome + 2 * b2n (s.enduring sl) else 0) ++ natLE 8 s.now ++ fitLen 32 nonce ++
  (List.range 8).flatMap s.mr ++
  (if own && v.isSome then fitLen 16 (s.vaultId sl) ++ natLE 4 (s.vaultCounter sl) ++ natLE 4 blk.length ++ sha384 blk else zeros 72)

/-- An attestation statement (R161): body, certificate and the attestation signatures over both. -/
def State.statement (s : State) (sl : Nat) (own : Bool) (nonce : Bytes) : Bytes :=
  let b := s.statementBody sl own nonce ++ fitLen 7587 s.boot.certificate
  b ++ s.attestSign b

/-- The verification of an attestation's two signatures before release (R29, R219). -/
def State.attestAccepts (s : State) (b sig : Bytes) : Bool :=
  let pub := devicePublic s.ks.dev.attest.value
  Config.accepts .ecdsaP384 [b, pub.take 97, sig.take 96] && Config.accepts .mlDsa87 [b, pub.drop 97, sig.drop 96]

/-- ATTEST (R161). -/
def State.workAttest (s : State) (p : Packet) : Option JobRes :=
  if p.areasOk ioBoth && p.inlineFrom 0 && p.inTotal == 32 && p.fits 12854 then
    let o := s.statement p.ring (!p.manager) p.input
    some { JobRes.plain o with verdict := some (s.attestAccepts (o.take 8131) (o.drop 8131)) }
  else none

/-- The slice that METER_READ names (R444). -/
def meterSlice (p : Packet) : Nat := if p.manager then p.par 2 3 else p.ring

/-- The parameters of METER_READ are valid: the slice on the manager ring, zero octets elsewhere, a BOUND slice (R444). -/
def State.meterParams (s : State) (p : Packet) : Bool :=
  p.areasOk ioOut && !p.pind && p.par 1 1 == 0 && (p.manager || p.par 2 3 == 0) && allZero (p.params.drop 4) &&
    decide (meterSlice p < 4096) && s.sliceState (meterSlice p) == 1

/-- METER_READ mode 0x00: the interim record of the open interval (R444). -/
def State.workMeter (s : State) (p : Packet) : Option JobRes :=
  match s.met.accs.get? (meterSlice p) with
  | none => none
  | some a =>
    if s.meterParams p && p.fits 256 then
      let r := s.meterRecord (meterSlice p) 5 s.now a
      some { JobRes.plain r with verdict := some (Config.accepts .ecdsaP384 [Config.prim .sha384 [meterLabel ++ r.take 160], s.met.pub, r.drop 160]) }
    else none

/-- The fixed message of a pairwise signature (R214). -/
def testMessage : Bytes := fitLen 32 (Config.prim .pairwise [])

/-- Quantum `q` of a quantised operation succeeds (R181, R211 to R215): the number of its first accepted attempt, for a signature, the pairwise signature of a generated key or an attestation; for RSA, a search and its checks that passed on the quantum's words. -/
def State.quantumPick (s : State) (p : Packet) (k : Option Key) (q : Nat) : Option Nat :=
  match p.opcode, k with
  | 0x0301, some k => firstAttempt k.typ k.secret (signForm k.typ (p.par 0 0) (p.par 1 1) p.input) (signRandom k.typ 0 p) q
  | 0x0101, _ =>
    let t := p.par 1 1
    let e := genExponent p
    if isRsa t then (if Config.accepts .rsaSearch [natLE 1 t, natBE 4 e, genSeed t p] then some 0 else none)
    else firstAttempt t (genSecret t e (genSeed t p)) [natLE 1 0, testMessage, []] (p.random 3 32) q
  | 0x0801, _ =>
    firstAttempt 0x3A (seedXi s.ks.dev.attest.value) [natLE 1 0, s.statementBody p.ring (!p.manager) p.input, []] (p.random 2 32) q
  | _, _ => none

end Sys2Proof.Machine
end

