-- ==== Sys2Proof/Machine/Workspaces.lean ====
section
/-! DEFINITION. Workspaces and their arithmetic (R189 to R197). Log entries of this file: DEDUCED 80; DESIGN CHOICE 45, 233. -/

namespace Sys2Proof.Machine

/-- An instruction of a WS_EXEC descriptor (R192). -/
structure WsInstr where
  op : Nat
  variant : Nat
  dst : Nat
  a : Nat
  b : Nat
  m : Nat
  imm : Nat
  zero : Bool
deriving DecidableEq, Repr

/-- Instruction `i` of a descriptor. -/
def wsInstr (d : Bytes) (i : Nat) : WsInstr :=
  let o := 16 + 16 * i
  ⟨field d o 1, field d (o + 1) 1, field d (o + 2) 2, field d (o + 4) 2, field d (o + 6) 2, field d (o + 8) 2,
    field d (o + 10) 2, allZero (slice d (o + 12) 4)⟩

/-- The instructions of a descriptor, as far as its octets go (DESIGN CHOICE, log 233). -/
def wsInstrs (d : Bytes) : List WsInstr := (List.range (min (field d 4 2) ((d.length - 16) / 16))).map (wsInstr d)

/-- Operand slots that an operation reads: a, b, m (R193). -/
def wsReads (op : Nat) : Bool × Bool × Bool :=
  if op == 0x01 then (true, false, false)
  else if op == 0x02 then (false, false, false)
  else if 0x03 ≤ op && op ≤ 0x06 then (true, true, false)
  else if 0x07 ≤ op && op ≤ 0x0A then (true, true, true)
  else if op == 0x0B then (true, false, true)
  else if op == 0x0C || op == 0x0D || op == 0x0F then (true, false, false)
  else (true, true, false)

/-- The NTT family (R193). -/
def wsNtt (op : Nat) : Bool := 0x0C ≤ op && op ≤ 0x0E

/-- The modulus of an NTT variant. -/
def nttQ (v : Nat) : Nat := if v == 1 then 3329 else 8380417

/-- The rate of a SHAKE variant in octets. -/
def shakeRate (v : Nat) : Nat := if v == 0 then 168 else 136

/-- Source slots of an instruction. -/
def WsInstr.sources (i : WsInstr) : List Nat :=
  let r := wsReads i.op
  (if r.1 then [i.a] else []) ++ (if r.2.1 then [i.b] else []) ++ (if r.2.2 then [i.m] else [])

/-- The fields of an instruction are in range for a workspace (R192 to R194). -/
def WsInstr.ok (i : WsInstr) (w c : Nat) : Bool :=
  let r := wsReads i.op
  decide (1 ≤ i.op) && decide (i.op ≤ 0x0F) && i.zero && (r.1 || i.a == 0) && (r.2.1 || i.b == 0) && (r.2.2 || i.m == 0) &&
  (i.dst :: i.sources).all (fun k => decide (k < c)) &&
  (if wsNtt i.op then (i.variant == 1 || i.variant == 2) && i.imm == 0 && w == 128
   else if i.op == 0x0F then decide (i.variant ≤ 1) && decide (i.imm ≤ 8 * w)
   else i.variant == 0 && (if i.op == 0x0A then decide (1 ≤ i.imm) && decide (i.imm ≤ 64 * w) else i.imm == 0))

/-- Cycles of an instruction (R193). An unassigned operation, which R193 gives no cycles, counts none (DESIGN CHOICE, log 233). -/
def WsInstr.cycles (i : WsInstr) (w : Nat) : Nat :=
  match i.op with
  | 0x01 => 4 + ceilDiv w 4
  | 0x02 => 4 + ceilDiv w 4
  | 0x03 => 8 + ceilDiv w 4
  | 0x04 => 8 + ceilDiv w 4
  | 0x05 => 16 + w
  | 0x06 => 16 + w
  | 0x07 => 40 + 4 * w
  | 0x08 => 40 + 4 * w
  | 0x09 => 48 + 4 * w
  | 0x0A => 96 + 4 * w + 2 * i.imm * (32 + 2 * w)
  | 0x0B => 96 + 4 * w + 128 * w * (32 + 2 * w)
  | 0x0C => 1024
  | 0x0D => 1024
  | 0x0E => 384
  | 0x0F => 16 + 24 * ceilDiv (i.imm + 8 * w) (shakeRate i.variant)
  | _ => 0

/-- Distinct members of a list. -/
def distinct (l : List Nat) : List Nat := l.foldl (fun a k => if a.contains k then a else a ++ [k]) []

/-- Slots that a descriptor reads from the workspace: sources not written by an earlier instruction. -/
def wsExternal (l : List WsInstr) : List Nat :=
  distinct (l.foldl (fun (acc : List Nat × List Nat) i =>
    (acc.1 ++ i.sources.filter (fun k => !acc.2.contains k), acc.2 ++ [i.dst])) ([], [])).1

/-- The cycle count of a descriptor (R196). -/
def wsCycles (l : List WsInstr) (w : Nat) : Nat :=
  l.foldl (fun a i => a + i.cycles w) 0 +
    (16 + ceilDiv w 4) * ((wsExternal l).length + (distinct (l.map (·.dst))).length)

/-- The figures of a WS_EXEC job of `c` cycles (R196). -/
def wsFig (c : Nat) : Fig :=
  let b := 2 + ceilDiv c 960
  ⟨5 * c, 0, 6000 * b - 12000 - 5 * c, b, false, 0, b, 0, 0⟩

/-- An instruction runs the ladder of R193: its first cycle within the instruction, the length of 32 steps, and the steps. -/
def WsInstr.ladder (i : WsInstr) (w : Nat) : Option (Nat × Nat × Nat) :=
  if i.op == 0x0A then some (48 + 2 * w, 64 * (32 + 2 * w), i.imm / 32)
  else if i.op == 0x0B then some (48 + 2 * w, 64 * (32 + 2 * w), 2 * w)
  else none

/-- Cycle `c` of a run of instructions that begins at cycle `pos` is a yield point (R182, R193): after every 32 steps of a ladder, and at the end of an instruction where 20,000 cycles have passed since the last one. -/
def wsYield (w c : Nat) : List WsInstr → Nat → Nat → Bool
  | [], _, _ => false
  | i :: is, pos, last =>
    let fin := pos + i.cycles w
    match i.ladder w with
    | some (lo, n, k) =>
      let first := pos + lo
      let last := if k = 0 then last else first + n * k
      (decide (first < c) && (c - first) % n == 0 && decide ((c - first) / n ≤ k)) ||
        (if 20000 < fin - last then c == fin || wsYield w c is fin fin else wsYield w c is fin last)
    | none => if 20000 < fin - last then c == fin || wsYield w c is fin fin else wsYield w c is fin last

/-- Cycle `c` of a WS_EXEC job is a yield point, the transfer of its source slots coming first (R196). -/
def wsYieldAt (l : List WsInstr) (w c : Nat) : Bool := wsYield w c l ((16 + ceilDiv w 4) * (wsExternal l).length) 0

/-- Slot values by number, as a job holds them. -/
abbrev WsVals := List (Nat × Nat)

/-- A value of a slot; zero where it has none. -/
def wsVal (v : WsVals) (k : Nat) : Nat := (cellsGet v k).getD 0

/-- Coefficient-wise product of two slots modulo q (R193). -/
def polyMul (q a b : Nat) : Nat :=
  (List.range 256).foldl (fun acc i =>
    acc + ((bits a (32 * i + 31) (32 * i) % q) * (bits b (32 * i + 31) (32 * i) % q) % q) <<< (32 * i)) 0

/-- The octets of a slot with each of its 256 coefficients reduced modulo q (R193). -/
def nttIn (q a : Nat) : Bytes := (List.range 256).flatMap (fun i => natLE 4 (bits a (32 * i + 31) (32 * i) % q))

/-- The result of an instruction (R193): none for the data cases of R195. -/
def WsInstr.value (i : WsInstr) (w : Nat) (v : WsVals) : Option Nat :=
  let a := wsVal v i.a
  let b := wsVal v i.b
  let m := wsVal v i.m
  let top := 2 ^ (64 * w)
  let modOk := decide (3 ≤ m) && m % 2 == 1
  match i.op with
  | 0x01 => some a
  | 0x02 => some 0
  | 0x03 => some ((a + b) % top)
  | 0x04 => some ((a + top - b) % top)
  | 0x05 => some (a * b % top)
  | 0x06 => some (a * b / top)
  | 0x07 => if modOk then some ((a % m + b % m) % m) else none
  | 0x08 => if modOk then some ((a % m + m - b % m) % m) else none
  | 0x09 => if modOk then some (a % m * (b % m) % m) else none
  | 0x0A => if modOk then some (powMod (a % m) (b % 2 ^ i.imm) m i.imm) else none
  | 0x0B => if modOk && a % m != 0 then some (powMod (a % m) (m - 2) m (64 * w)) else none
  | 0x0C => some (leNat (fitLen 1024 (Config.prim .ntt [[0], natLE 1 i.variant, nttIn (nttQ i.variant) a])))
  | 0x0D => some (leNat (fitLen 1024 (Config.prim .ntt [[1], natLE 1 i.variant, nttIn (nttQ i.variant) a])))
  | 0x0E => some (polyMul (nttQ i.variant) a b)
  | 0x0F =>
    let msg := (natBE (8 * w) a).take i.imm
    some (beNat (fitLen (8 * w) (Config.prim (if i.variant == 0 then .shake128 else .shake256) [msg])))
  | _ => none

/-- Instructions run in order, on the values of slots. -/
def wsRun (w : Nat) : List WsInstr → WsVals → Option WsVals
  | [], v => some v
  | i :: is, v =>
    match i.value w v with
    | some r => wsRun w is (cellsInsert v i.dst r)
    | none => none

/-- A slot is valid (R190). -/
def Workspace.valid (x : Workspace) (k : Nat) : Bool := match x.slots.get? k with | some c => c.valid | none => false

/-- A descriptor is well formed for a workspace (R194), source slots aside. -/
def wsShapeOk (d : Bytes) (x : Workspace) : Bool :=
  d.length == 16 + 16 * field d 4 2 && decide (1 ≤ field d 4 2) && decide (field d 4 2 ≤ 255) && field d 0 4 == 1 && field d 6 2 == 0 && (wsInstrs d).all (fun i => i.ok x.w x.c)

/-- The descriptor can be decoded as far as n (R194). -/
def wsCounted (d : Bytes) : Bool := decide (6 ≤ d.length)

/-- The slots that a WS_EXEC job writes, with their values: none where a check of R194 or R195 fails. -/
def workExec (p : Packet) (x : Workspace) : Option JobRes :=
  let d := p.block
  let l := wsInstrs d
  let ext := wsExternal l
  if p.areasOk ioNone && wsShapeOk d x && ext.all x.valid then
    let v := ext.map (fun k => (k, match x.slots.get? k with | some c => c.value | none => 0))
    match wsRun x.w l (v.foldl (fun m e => cellsInsert m e.1 e.2) []) with
    | some r => some { JobRes.plain [] with slots := (distinct (l.map (·.dst))).map (fun k => (k, wsVal r k)) }
    | none => none
  else none

/-- A workspace's record replaced. -/
def State.setSpace (s : State) (id : Nat) (x : Workspace) : State :=
  { s with pke := { s.pke with spaces := s.pke.spaces.insert id x } }

/-- Slots written back, each marked valid (R197). -/
def State.writeBack (s : State) (id : Nat) (slots : List (Nat × Nat)) : State :=
  match s.pke.spaces.get? id with
  | none => s
  | some x => s.setSpace id { x with slots := slots.foldl (fun m e => m.insert e.1 ⟨e.2, true⟩) x.slots }

/-- The residue of an aborted WS_EXEC job (R200): every dst slot zero, the last instruction's marked invalid. -/
def State.wsResidue (s : State) (id : Nat) (d : Bytes) : State :=
  match s.pke.spaces.get? id with
  | none => s
  | some x =>
    let dst := ((wsInstrs d).map (·.dst)).filter (fun k => decide (k < x.c))
    let z := dst.foldl (fun (m : NMap WsSlot) k => m.insert k ⟨0, true⟩) x.slots
    s.setSpace id { x with slots := match (wsInstrs d).getLast? with | some i => if i.dst < x.c then z.insert i.dst ⟨0, false⟩ else z | none => z }

/-- Open workspaces of a slice. -/
def State.wsCount (s : State) (sl : Nat) : Nat := s.pke.spaces.count (fun _ x => x.slice == sl)

/-- A free workspace identifier of a slice: the hardware's choice where it is free and nonzero, the lowest free one otherwise (R189). -/
def State.wsIdent (s : State) (sl : Nat) : Nat :=
  let c := sl * 2 ^ 52 + Config.choice s.free % 2 ^ 52
  if c != 0 && !s.pke.spaces.has c then c
  else (firstFrom (fun i => !s.pke.spaces.has i) (s.pke.spaces.cells.length + 1) (sl * 2 ^ 52 + 1)).getD (sl * 2 ^ 52 + 1)

/-- WS_OPEN (R189). -/
def opWsOpen : Op := fun s pid p => do
  let _ ← s.handles pid p
  let c := p.par 0 1
  let w := p.par 2 3
  require (p.inlineFrom 4 && decide (1 ≤ c) && decide (4 ≤ w) && decide (w ≤ 256) && decide (c * w ≤ 7680)) .rejected
  require (decide (s.wsCount p.ring < 4) && decide (s.wsWords + c * w ≤ workspaceWords)) .noResource
  let id := s.wsIdent p.ring
  .ok ⟨({ s with free := s.free + 1 }).setSpace id ⟨p.ring, w, c, .empty⟩, [], 1, id⟩

/-- The workspace that a packet names, where it is the slice's and open (R190). -/
def State.spaceOf (s : State) (p : Packet) (id : Nat) : Except Stop Workspace :=
  match s.pke.spaces.get? id with
  | some x => if x.slice == p.ring then .ok x else failWith .rejected
  | none => failWith .rejected

/-- WS_WRITE (R190). -/
def opWsWrite : Op := fun s pid p => do
  let _ ← s.handles pid p
  let x ← s.spaceOf p (p.par 0 7)
  let k := p.par 8 9
  require (p.areasOk ioIn && p.inlineFrom 10 && decide (k < x.c) && decide (1 ≤ p.inTotal) && decide (p.inTotal ≤ 8 * x.w)) .rejected
  .ok ⟨s.setSpace (p.par 0 7) { x with slots := x.slots.insert k ⟨beNat p.input, true⟩ }, [], 1, 0⟩

/-- WS_READ (R190). -/
def opWsRead : Op := fun s pid p => do
  let _ ← s.handles pid p
  let x ← s.spaceOf p (p.par 0 7)
  let k := p.par 8 9
  require (p.areasOk ioOut && p.inlineFrom 10 && decide (k < x.c) && x.valid k && p.fits (8 * x.w)) .rejected
  .ok ⟨s, natBE (8 * x.w) (match x.slots.get? k with | some c => c.value | none => 0), 1, 0⟩

/-- WS_CLOSE (R190): the slots are zeroized, and the words and the identifier freed. -/
def opWsClose : Op := fun s pid p => do
  let _ ← s.handles pid p
  let _ ← s.spaceOf p (p.par 0 7)
  require (p.inlineFrom 8) .rejected
  .ok ⟨{ s with pke := { s.pke with spaces := s.pke.spaces.erase (p.par 0 7) } }, [], 0, 0⟩

end Sys2Proof.Machine
end

