-- ==== Sys2Proof/Machine/PkEngine.lean ====
section
/-! DEFINITION. The life of a public-key job: acceptance (R177), its descriptor and slot area (R164 to R169), scheduling (R170 to R172), start (R175), yields (R182 to R186), verification (R173), its end and its release (R178 to R181, R188, R196 to R203). Log entries of this file: DEDUCED 77, 151, 219, 244; DESIGN CHOICE 14, 75, 76, 82, 214, 246, 247, 248, 250. -/

namespace Sys2Proof.Machine

/-- Sixths of a ns in `n` core cycles. -/
def cyc (n : Nat) : Nat := 5 * n

/-- The ns of a context switch, rounded up (R186). -/
def switchNs : Nat := 214

/-- A job's record replaced. -/
def State.setJob (s : State) (pid : Nat) (j : Job) : State := { s with pke := { s.pke with jobs := s.pke.jobs.insert pid j } }

/-- A job ends and leaves the engine, and the cluster that hashes its message (R206). -/
def State.dropJob (s : State) (pid : Nat) : State :=
  { s with pke := { s.pke with jobs := s.pke.jobs.erase pid }, blk := { s.blk with jobs := s.blk.jobs.erase (2 * pid) } }

/-- The job is pending or running (R170): it is not at the gate, and not a workspace packet without a core job. -/
def Job.live (j : Job) : Bool := j.kind != .slots && match j.at_ with | .gate _ _ => false | _ => true

/-- A slice has no pending or running public-key job (R170). -/
def State.pkIdle (s : State) (sl : Nat) : Bool := !s.pke.jobs.any (fun _ j => j.slice == sl && !j.device && j.live)

/-- The class M budget that counts for scheduling (R170): one quantum, with the key generation prefix. -/
def Fig.first (f : Fig) : Nat := f.pk + f.b

/-- A job as it is accepted. -/
def mkJob (stamp sl : Nat) (device : Bool) (kind : JobKind) (f : Fig) (reject : Bool) (handle ws : Nat) (closes : Bool) : Job :=
  { stamp := stamp, slice := sl, device := device, kind := kind, opc := 0, typ := 0, fig := f, reject := reject, handle := handle
    ws := ws, closes := closes, at_ := .pending, start := 0, since := 0, ran := 0, allow := f.a, quanta := 0, retried := false
    avoid := none, verifyRetried := false, verifyAvoid := none, draw := none, area := ⟨0, 0, 0⟩, key := none, shares := Shares.none
    form := [], base := 0, accepted := false, owed := 0, lines := 0, charged := false, sbIn := 0, sbOut := 0, res := JobRes.of .rejected }

/-- A packet's job is accepted and waits for a core: an idle slice takes Vs = max(Vs, Vg) (R170). Firmware chooses where its input and output are staged in SB (R168). -/
def State.accept (s : State) (pid : Nat) (p : Packet) (device : Bool) (kind : JobKind) (f : Fig) (reject : Bool)
    (handle ws : Nat) (closes : Bool) (typ lines : Nat) : State :=
  let s := if !device && kind != .slots && s.pkIdle p.ring then s.setV p.ring (max (s.vtime p.ring).v s.pke.vg) else s
  let j := { mkJob s.pke.stamp p.ring device kind f reject handle ws closes with
    opc := p.opcode, typ := typ, lines := lines
    sbIn := Config.choice s.free % 2 ^ 24, sbOut := Config.choice (s.free + 1) % 2 ^ 24 }
  let s := { s with free := s.free + 2, pke := { s.pke with stamp := s.pke.stamp + 1 } }
  (s.setJob pid j).setPacket pid { p with phase := .waitCore, keys := if handle = 0 then [] else [handle] }

/-- The job in the main context of a core. -/
def State.mainOf (s : State) (n : Nat) : Option (Nat × Job) := s.pke.jobs.find? (fun _ j => j.at_ == .main n)

/-- The waiting descriptor of a core. -/
def State.assignedOf (s : State) (n : Nat) : Option (Nat × Job) := s.pke.jobs.find? (fun _ j => j.at_ == .assigned n)

/-- The suspended job of a core. -/
def State.suspendedOf (s : State) (n : Nat) : Option (Nat × Job) := s.pke.jobs.find? (fun _ j => j.at_ == .suspended n)

/-- The job that the verify context of a core holds. -/
def State.verifyingOn (s : State) (n : Nat) : Option (Nat × Job) :=
  s.pke.jobs.find? (fun _ j => match j.at_ with | .verifying _ c => c == n | _ => false)

/-- A core is active: not resting, fenced or retired (R172). -/
def State.coreActive (s : State) (n : Nat) : Bool := decide (n < 72) && s.fget Fld.PKE_CORE_MAP_role n == 0

/-- A core takes new work: it is active, and no class 1 hold covers its island (R389). -/
def State.coreTakes (s : State) (n : Nat) : Bool := s.coreActive n && !s.islandHeld (0x30 + n / 9)

/-- An idle core that takes new work. -/
def State.coreIdle (s : State) (n : Nat) : Bool := s.coreTakes n && !s.coreBusy n

/-- Busy cores of an island. -/
def State.islandBusy (s : State) (i : Nat) : Nat := ((List.range 9).filter (fun k => s.coreBusy (9 * i + k))).length

/-- The idle active core in the island with the fewest busy cores, ties to the lower index (R172); `avoid` is the core of a retry's first attempt (R180). -/
def State.pickCore (s : State) (avoid : Option Nat) : Option Nat :=
  ((List.range 72).filter (fun n => s.coreIdle n && avoid != some n)).foldl
    (fun best n => match best with
      | none => some n
      | some b => if s.islandBusy (n / 9) < s.islandBusy (b / 9) then some n else some b) none

/-! Slot areas and descriptors -/

/-- The words of a slot area. -/
def Area.words (a : Area) : Nat := a.w * a.c

/-- A slot area has a slot length of 4 to 256 words and at least one slot, and lies in the slot space, words 512 to 8,191 (R164, R165). -/
def Area.ok (a : Area) : Bool :=
  decide (4 ≤ a.w) && decide (a.w ≤ 256) && decide (1 ≤ a.c) && decide (512 ≤ a.base) && decide (a.base + a.words ≤ 8192)

/-- Two slot areas share a word. -/
def Area.meets (a b : Area) : Bool := decide (a.base < b.base + b.words) && decide (b.base < a.base + a.words)

/-- The slot areas of the other resident jobs of a core. -/
def State.areasOn (s : State) (n pid : Nat) : List Area :=
  (s.pke.jobs.cells.filter (fun e => e.1 != pid && e.2.at_.inContext n)).map (fun e => e.2.area)

/-- The number that names a schedule program: its opcode and key type. -/
def schedOf (opc typ : Nat) : Nat := opc * 256 + typ

/-- The words that a key of a type needs: its secret as two shares, its public part, and one more slot's worth of room. -/
def keyWords (t : Nat) : Nat := match keyType t with | some k => 2 * ceilDiv k.s 8 + ceilDiv k.pub 8 + 1 | none => 1

/-- The slot length and count of a schedule program, which the spec does not state: free values within R165 that hold the program's key. -/
def slotShape (opc typ : Nat) : Nat × Nat :=
  let w := 4 + Config.unstated (0x1000000 + 4 * schedOf opc typ) % 253
  let least := ceilDiv (keyWords typ) w
  (w, least + Config.unstated (0x1000001 + 4 * schedOf opc typ) % (7680 / w - least + 1))

/-- The slot length and count of a job (R165): those of its workspace, or of its schedule program. -/
def State.shapeOf (s : State) (j : Job) : Nat × Nat :=
  match j.kind, s.pke.spaces.get? j.ws with
  | .ws, some x => (x.w, x.c)
  | _, _ => slotShape j.opc j.typ

/-- The slot area that firmware gives a job on a core: the lowest base beside the areas of the resident jobs (R165); none where it does not fit. -/
def State.placeArea (s : State) (n pid : Nat) (shape : Nat × Nat) : Option Area :=
  match s.areasOn n pid with
  | [] => some ⟨512, shape.1, shape.2⟩
  | l =>
    (((512 :: l.map (fun a => a.base + a.words)).map (fun b => (⟨b, shape.1, shape.2⟩ : Area))).filter
      (fun a => a.ok && !l.any a.meets)).foldl
      (fun best a => match best with
        | none => some a
        | some b => if a.base < b.base then some a else some b) none

/-- The words of a slot area zeroized in a core's operand memory (R198, R200). -/
def State.clearArea (s : State) (n : Nat) (a : Area) : State :=
  { s with pke := { s.pke with
    opmem := s.pke.opmem.filter (fun k _ => k / 8192 != n || decide (k % 8192 < a.base) || decide (a.base + a.words ≤ k % 8192)) } }

/-- A core job descriptor (R167). -/
structure CoreDesc where
  sched : Nat
  kind : Nat
  flags : Nat
  slice : Nat
  bits : Nat
  job : Nat
  area : Area
  reserved : Nat
  line : Nat
  words : Nat
  inOff : Nat
  inLen : Nat
  outOff : Nat
  outCap : Nat
  budget : Nat
  allow : Nat
  first : Nat
deriving DecidableEq, Repr

/-- The 64 octets of a descriptor (R167). -/
def CoreDesc.encode (d : CoreDesc) : Bytes :=
  natLE 2 d.sched ++ natLE 1 d.kind ++ natLE 1 d.flags ++ natLE 2 d.slice ++ natLE 2 d.bits ++ natLE 8 d.job ++
  natLE 2 d.area.base ++ natLE 2 d.area.w ++ natLE 2 d.area.c ++ natLE 2 d.reserved ++ natLE 4 d.line ++ natLE 4 d.words ++
  natLE 4 d.inOff ++ natLE 4 d.inLen ++ natLE 4 d.outOff ++ natLE 4 d.outCap ++ natLE 4 d.budget ++ natLE 4 d.allow ++ natLE 8 d.first

/-- A descriptor read from its octets (R167). -/
def CoreDesc.decode (b : Bytes) : CoreDesc :=
  ⟨field b 0 2, field b 2 1, field b 3 1, field b 4 2, field b 6 2, field b 8 8, ⟨field b 0x10 2, field b 0x12 2, field b 0x14 2⟩,
    field b 0x16 2, field b 0x18 4, field b 0x1C 4, field b 0x20 4, field b 0x24 4, field b 0x28 4, field b 0x2C 4,
    field b 0x30 4, field b 0x34 4, field b 0x38 8⟩

/-- The schedule identifier of a program in the custody image's table, which the spec does not give. -/
def schedId (opc typ : Nat) : Nat := Config.unstated (0x1000002 + 4 * schedOf opc typ) % 2 ^ 16

/-- The programs of the schedule table: every opcode with the key types that it has figures for, and WS_EXEC. -/
def schedTable : List (Nat × Nat) :=
  (0x0405, 0) :: (0x0801, 0) :: (0x0802, 0) ::
  [0x0101, 0x0301, 0x0302, 0x0303, 0x0304, 0x0305, 0x0306, 0x0307].flatMap (fun o =>
    ((List.range 256).filter (fun t => (pkFig o t).isSome)).map (fun t => (o, t)))

/-- The short-job flag (R183): E of at most 100 µs, for the jobs whose execution length is fixed. -/
def Job.short (j : Job) : Bool := j.kind != .c && !j.fig.quant && decide (j.fig.e ≤ 600000)

/-- The length of an operand in bits, by key type. -/
def operandBits (t : Nat) : Nat := if isEc t then ecBits t else if isRsa t then 8 * rsaLen t else 256

/-- The descriptor of a job with its slot area (R167): `verify` for its verification. -/
def State.descriptor (s : State) (pid : Nat) (j : Job) (a : Area) (verify : Bool) : CoreDesc :=
  let p := s.cmd.packets.get? pid
  let fixed := !verify && j.kind != .c
  ⟨if verify then schedId 0x0302 j.typ else schedId j.opc j.typ,
    if verify then 3 else match j.kind with | .m => 1 | .c => 2 | _ => 4,
    b2n (j.short && !verify) + 2 * b2n j.retried, if j.device then 0xFFFF else j.slice, operandBits j.typ, pid, a, 0,
    if verify || j.handle = 0 then 0 else hLine j.handle, if verify then 0 else Config.unstated (0x1000003 + 4 * schedOf j.opc j.typ) % 65,
    j.sbIn, match p with | some p => p.inTotal | none => 0, j.sbOut, match p with | some p => p.capacity | none => 0,
    if fixed then 1000 * j.fig.b else 0, if fixed then j.fig.a / 6 else 0, if j.retried then j.start else 0⟩

/-- A core refuses a descriptor (R169): no context for it, a slot area that breaks R165, a reserved field that is not zero, or a schedule that is not in the table. -/
def State.coreRefuses (s : State) (n : Nat) (d : CoreDesc) : Bool :=
  (d.kind != 3 && (s.mainOf n).isSome && (!bit d.flags 0 || (s.assignedOf n).isSome || (s.suspendedOf n).isSome)) ||
  (d.kind == 3 && (s.verifyingOn n).isSome) ||
  !d.area.ok || (s.areasOn n d.job).any d.area.meets ||
  decide (4 ≤ d.flags) || d.reserved != 0 || !schedTable.any (fun e => schedId e.1 e.2 == d.sched)

/-! Scheduling -/

/-- Packets that name the job's workspace and started before it are complete (R191). -/
def State.wsTurn (s : State) (j : Job) : Bool :=
  j.ws == 0 || !s.pke.jobs.any (fun _ k => k.ws == j.ws && decide (k.stamp < j.stamp))

/-- The random words that a retry draws are to be had (R180, R506). -/
def State.retryReady (s : State) (j : Job) : Bool := !j.retried || s.drbgReady 1

/-- The slice of a job may start it: a device job, a retry, or a slice with weight (R74, R80, R170); and KS is not held where the job needs a key (R389). -/
def State.mayStart (s : State) (j : Job) : Bool :=
  (j.device || j.retried || decide (0 < s.weight j.slice)) && !(j.handle != 0 && s.islandHeld 0x02)

/-- A pending job may start: its slice has weight, its workspace is free, its words are to be had (R74, R170, R191, R506). -/
def State.jobStartable (s : State) (j : Job) : Bool :=
  j.at_ == .pending && j.kind != .slots && s.wsTurn j && s.retryReady j && s.mayStart j

/-- Cores that run device jobs (R171). -/
def State.deviceJobs (s : State) : Nat := s.pke.jobs.count (fun _ j => j.device && (List.range 72).any j.at_.onCore)

/-- One job precedes another in dispatch (R170, R171): device jobs, then retries, then the smallest Vs, ties to the Vs set earliest and to the lower slice; within a slice the job fetched earliest. -/
def State.jobBefore (s : State) (a b : Nat × Job) : Bool :=
  let key := fun (x : Nat × Job) =>
    let v := s.vtime x.2.slice
    (if x.2.device then 0 else if x.2.retried then 1 else 2, if x.2.device then 0 else v.v, if x.2.device then 0 else v.set, x.2.slice, x.1)
  let (a0, a1, a2, a3, a4) := key a
  let (b0, b1, b2, b3, b4) := key b
  a0 < b0 || (a0 == b0 && (a1 < b1 || (a1 == b1 && (a2 < b2 || (a2 == b2 && (a3 < b3 || (a3 == b3 && a4 < b4)))))))

/-- The job that firmware dispatches next (R170, R171). -/
def State.nextJob (s : State) : Option (Nat × Job) :=
  (s.pke.jobs.cells.filter (fun e => s.jobStartable e.2 && (!e.2.device || decide (s.deviceJobs < 4)))).foldl
    (fun best e => match best with
      | none => some e
      | some b => if s.jobBefore e b then some e else some b) none

/-- A dispatch adds a job's first budget to its slice's virtual time, once (R170). -/
def State.chargeDispatch (s : State) (j : Job) : State :=
  if j.device || j.charged then s
  else ({ s with pke := { s.pke with vg := (s.vtime j.slice).v } }).charge j.slice j.fig.first

/-! Start -/

/-- KS sends a key of a class to a job of this kind (R112, R168): ASYM to class M, CUSTODY to class C. -/
def keyPath (kind : JobKind) (cls : Nat) : Bool := if kind == .c then cls == clsCustody else cls == clsAsym

/-- The key that a job takes, as it arrives from KS (R58, R112, R131): none where the record is gone or being unloaded, or KS has no path for it, with the slot marked bad where its check fails. -/
def State.jobKey (s : State) (j : Job) : Option Key × State :=
  match s.resolve j.handle with
  | none => (none, s)
  | some k =>
    if !keyPath j.kind k.cls || (!j.retried && s.unloading j.handle) then (none, s)
    else
      match s.slotFails k.line with
      | some c => (none, s.slotBad k.line c)
      | none => (some k, s.pmc 0x0D0 1)

/-- What the job of a packet makes from its key (R177), with the accepted attempt of a quantised signature: none for an invalid input or parameter. -/
def State.work (s : State) (p : Packet) (j : Job) (k : Option Key) (att : Nat) : Option JobRes :=
  match p.opcode, k with
  | 0x0101, _ => s.workGenerate p
  | 0x0301, some k => workSign p k att
  | 0x0302, k => workVerify p k
  | 0x0303, some k => s.workAgree p k
  | 0x0304, some k => s.workEncaps p k
  | 0x0305, some k => s.workDecaps p k
  | 0x0306, some k => workRsaEncrypt p k
  | 0x0307, some k => workRsaDecrypt p k
  | 0x0405, _ => match s.pke.spaces.get? j.ws with | some x => workExec p x | none => none
  | 0x0801, _ => s.workAttest p
  | 0x0802, _ => s.workMeter p
  | _, _ => none

/-- A retry draws fresh random words for its packet (R180). -/
def State.freshWords (s : State) (pid : Nat) (p : Packet) (j : Job) : State × Packet :=
  if j.retried then
    let p := { p with rnd := some s.free }
    ({ (s.drbgCall 1) with free := s.free + drawBlock }.setPacket pid p, p)
  else (s, p)

/-- The key slots of a job (R17, R166): class M combines the shares into one slot, class C keeps two. -/
def keySlots (kind : JobKind) (n : Nat) (secret : Bytes) : Shares :=
  if kind == .c then Shares.make n secret else ⟨secret, zeros secret.length⟩

/-- The key of a job, from its key slots. -/
def Job.held (j : Job) : Option Key := j.key.map (fun k => { k with secret := j.shares.value })

/-- What quantum `q` of a job has made, as far as its inputs are valid (R177, R181): whether it succeeds, and the result that it then has. A workspace job keeps the result of the inputs staged at its first start (R168). -/
def State.quantum (s : State) (p : Packet) (j : Job) (k : Option Key) (q : Nat) : Bool × Option JobRes :=
  if j.fig.quant then
    let a := s.quantumPick p k q
    (a.isSome, s.work p j k (a.getD 0))
  else (true, if j.kind == .ws && j.retried then some j.res else s.work p j k 0)

/-- Device time at which the first quantum of a job that starts now begins (R181, R214, R216): after the key generation prefix; a retry begins at the next quantum boundary. -/
def Job.baseAt (j : Job) (t : Nat) : Nat :=
  if j.fig.quant && j.retried then
    let b0 := j.start + 1000 * j.fig.pk
    b0 + ceilDiv (t - b0) (1000 * j.fig.b) * (1000 * j.fig.b) + 1000 * j.fig.pk
  else t + 1000 * j.fig.pk

/-- A job starts in the main context of a core at a device time (R175): its slot area is its own from now on, its key arrives, and its result is settled; a wipe in progress refuses the key request (R138). -/
def State.startJob (s : State) (pid : Nat) (j : Job) (n t : Nat) : State :=
  match s.cmd.packets.get? pid with
  | none => s.dropJob pid
  | some p =>
    if j.handle != 0 && s.wiping then (s.dropJob pid).fail pid .busyRetry
    else
    let shape := s.shapeOf j
    let area := (s.placeArea n pid shape).getD ⟨512, shape.1, shape.2⟩
    let (s, p) := s.freshWords pid p j
    let (k, s) := if j.handle = 0 then (none, s) else s.jobKey j
    let lost := j.handle != 0 && k.isNone
    let (won, r) := if j.reject || lost then (true, none) else s.quantum p j k 1
    let s := s.chargeDispatch j
    let secret := match k with | some k => k.secret | none => []
    let s := { s with free := s.free + 1 }.setPacket pid { p with phase := .running }
    (s.setJob pid { j with
      at_ := .main n
      start := if j.retried then j.start else t
      since := j.baseAt t
      base := j.baseAt t
      ran := 0
      allow := j.fig.a
      owed := 0
      quanta := 1
      charged := true
      accepted := won || r.isNone
      area := area
      key := k.map (fun k => { k with secret := [] })
      shares := keySlots j.kind s.free secret
      form := if j.kind == .c then secretForm j.typ secret p else []
      reject := j.reject || r.isNone
      res := r.getD (JobRes.of .rejected) }).countStart p j.retried

/-! Execution, yields and verifications -/

/-- Sixths of a ns that the job on a main context has executed: none while the verify context has the core, for `since` then lies ahead (R163). -/
def State.executed (s : State) (j : Job) : Nat := j.ran + 6 * (s.now - j.since)

/-- Device time at which the running quantum of a quantised job ends. -/
def Job.boundary (j : Job) : Nat := j.base + 1000 * (j.quanta * j.fig.b)

/-- The attempts of a quantum have ended without success, and the job waits for the boundary (R213). -/
def State.between (s : State) (j : Job) : Bool := j.fig.quant && j.kind != .c && !j.accepted && decide (j.fig.e ≤ s.executed j)

/-- What is left of a job's execution: between quanta, the next quantum. -/
def State.remaining (s : State) (j : Job) : Nat := if s.between j then j.fig.e else j.fig.e - s.executed j

/-- A job's remaining allowance covers a number of sixths of a ns (R183, R184): class C has none to keep, and between quanta the time to the boundary counts (R213). -/
def State.covers (s : State) (j : Job) (n : Nat) : Bool :=
  j.kind == .c || decide (n ≤ if s.between j then 6 * (j.boundary - s.now) else j.allow)

/-- An allowance is taken for a time in which the job does not run (R183, R184). -/
def State.spend (s : State) (j : Job) (n : Nat) : Job :=
  if j.kind == .c || s.between j then j else { j with allow := j.allow - n, owed := j.owed + n }

/-- Device time from which the main context of a core may run: when its verify context has ended (R163). -/
def State.coreFreeAt (s : State) (n t : Nat) : Nat :=
  match s.verifyingOn n with
  | some (_, v) => max t (v.since + ceilDiv (v.fig.ev + cyc 256) 6)
  | none => t

/-- The waiting descriptor of a core goes back to firmware, which dispatches it again. -/
def State.unassign (s : State) (pid : Nat) (j : Job) : State := s.setJob pid { j with at_ := .pending }

/-- A core's main context is free from a device time on: the suspended job resumes, the time of its suspension and both switches taken from its allowance; else the waiting descriptor enters, unless its core or its slice may start no job now (R80, R163, R172, R183). -/
def State.coreNext (s : State) (n t : Nat) : State :=
  match s.suspendedOf n with
  | some (pid, j) =>
    let u := s.coreFreeAt n t + switchNs
    let allow := if j.fig.quant && decide (j.fig.e ≤ j.ran) then j.allow else j.allow + j.owed - 6 * (u - j.since)
    s.setJob pid { j with at_ := .main n, allow := allow, owed := 0, since := u }
  | none =>
    match s.assignedOf n with
    | some (pid, j) =>
      if s.coreTakes n && s.mayStart j && (s.placeArea n pid (s.shapeOf j)).isSome then s.startJob pid j n (s.coreFreeAt n t)
      else s.unassign pid j
    | none => s

/-- Islands that a verification may use, in the order of R173: after the producing island, ascending. -/
def verifyOrder (from_ : Nat) : List Nat :=
  (List.range 7).flatMap (fun k => (List.range 9).map (fun c => 9 * ((from_ / 9 + 1 + k) % 8) + c))

/-- The jobs that a verification on a core would keep waiting, main and suspended, have the allowance for it (R173, R184, R185). -/
def State.verifyRoom (s : State) (ev n : Nat) : Bool :=
  !s.pke.jobs.any (fun _ j => (j.at_ == .main n || j.at_ == .suspended n) && !s.covers j (ev + cyc 512))

/-- A core can take a verification beside its main job (R173): its verify context is free, a slot area fits, and the jobs kept waiting have the allowance. -/
def State.verifyFits (s : State) (classC : Bool) (pid : Nat) (j : Job) (n : Nat) : Bool :=
  s.coreTakes n && j.verifyAvoid != some n && (s.verifyingOn n).isNone && (s.placeArea n pid (slotShape 0x0302 j.typ)).isSome &&
    s.verifyRoom j.fig.ev n &&
    match s.mainOf n with
    | none => false
    | some (_, x) => (x.kind == .c) == classC

/-- The core that takes a verification (R173). -/
def State.verifyCore (s : State) (from_ pid : Nat) (j : Job) : Option Nat :=
  let o := verifyOrder from_
  match o.find? (fun n => s.coreIdle n && j.verifyAvoid != some n) with
  | some n => some n
  | none =>
    match o.find? (s.verifyFits true pid j) with
    | some n => some n
    | none => o.find? (s.verifyFits false pid j)

/-- The jobs of a core wait while its verify context runs (R163, R184): the main job stops at a group boundary, and the allowance of each is taken. -/
def State.pauseFor (s : State) (n ev : Nat) : State :=
  let d := ev + cyc 512
  let s := match s.mainOf n with
    | some (q, x) =>
      let y := if x.kind == JobKind.c || s.between x then x else { x with allow := x.allow - d }
      s.setJob q { y with ran := s.executed x, since := max s.now x.since + ceilDiv d 6 }
    | none => s
  match s.suspendedOf n with
  | some (q, x) => s.setJob q (s.spend x d)
  | none => s

/-- A verification that waits is placed on the core that R173 names, if there is one. -/
def State.placeVerify (s : State) (pid : Nat) : State :=
  match s.pke.jobs.get? pid with
  | some j =>
    (match j.at_ with
    | .verifyQueue f =>
      (match s.verifyCore f pid j with
      | none => s
      | some n =>
        let shape := slotShape 0x0302 j.typ
        let area := (s.placeArea n pid shape).getD ⟨512, shape.1, shape.2⟩
        let start := if (s.mainOf n).isSome then s.now + switchNs else s.now
        (s.pauseFor n j.fig.ev).setJob pid { j with at_ := .verifying f n, since := start, area := area })
    | _ => s)
  | none => s

/-- The verifications that wait, the one that waits longest first. -/
def State.verifyWaiting (s : State) : List (Nat × Job) :=
  (s.pke.jobs.cells.filter (fun e => match e.2.at_ with | .verifyQueue _ => true | _ => false)).mergeSort
    (fun a b => decide (a.2.since ≤ b.2.since))

/-- The verification queue is served, before every main dispatch (R173). -/
def State.serveVerify (s : State) : State := s.verifyWaiting.foldl (fun s e => s.placeVerify e.1) s

/-- Cycle `c` of a schedule program is a yield point: at most 60,000 cycles lie between one and the next (R182). -/
def yieldReached (sched c : Nat) : Nat → Nat → Bool
  | 0, _ => false
  | n + 1, y =>
    let z := y + 1 + Config.yieldGap sched y % 60000
    z == c || (decide (z < c) && yieldReached sched c n z)

/-- Cycle `c` of a job is a yield point (R182, R193). -/
def Job.yieldAt (j : Job) (p : Packet) (c : Nat) : Bool :=
  if j.kind == .ws then wsYieldAt (wsInstrs p.block) j.area.w c else yieldReached (schedOf j.opc j.typ) c (c + 1) 0

/-- The core reached a yield point of its main job, at a cycle of its program, within the last ns, or the job waits between quanta (R182, R213). -/
def State.atYield (s : State) (p : Packet) (j : Job) (cycle : Nat) : Bool :=
  let x := s.executed j
  s.between j || (decide (cyc cycle ≤ x) && decide (x < cyc cycle + 6) && j.yieldAt p cycle)

/-- The main job of a core may give way to the core's waiting descriptor (R183): the short-job flag, its length below what is left, the allowance for it, a slot area beside the resident ones, and a main job that displaced none. -/
def State.yields (s : State) (x : Job) (yp : Nat) (y : Job) (n : Nat) : Bool :=
  y.short && decide (y.fig.e < s.remaining x) && s.covers x (y.fig.e + cyc 512) && (s.placeArea n yp (s.shapeOf y)).isSome &&
    (s.suspendedOf n).isNone

/-! End, verification and release -/

/-- A job reaches the release gate with its result, at a device time; its key slots are gone. -/
def State.toGate (s : State) (pid : Nat) (j : Job) (core t : Nat) : State :=
  s.setJob pid { j with at_ := .gate core t, key := none, shares := Shares.none, form := [] }

/-- The key that a job returns enters the cache, and its mitten joins the output (R208); where the banks have no room for it, although its lines were kept, the packet completes with NO_RESOURCE. -/
def State.jobKeyOut (s : State) (p : Packet) (r : JobRes) : State × JobRes :=
  match r.key, s.vaultOf p.ring with
  | some k, some (_, root, _) =>
    match s.enterKey p.ring (s.vaultId p.ring) k with
    | some (h, t) =>
      (t.hwuLoad root, { r with out := r.out ++ mkMitten root (k.header (s.vaultId p.ring)) (p.random 1 12) k.secret k.pub, result := h, key := none })
    | none => (s, JobRes.of .noResource)
  | some _, none => (s, JobRes.of .rejected)
  | none, _ => (s, r)

/-- The result of a job that has ended, with its write-back and its new key (R197, R198, R208). -/
def State.jobOutput (s : State) (pid : Nat) (j : Job) : State × Job :=
  match s.cmd.packets.get? pid with
  | none => (s, j)
  | some p =>
    if j.reject then (s, j)
    else
      let s := if j.ws = 0 then s else s.writeBack j.ws j.res.slots
      let (s, r) := s.jobKeyOut p j.res
      (s, { j with res := r, lines := 0 })

/-- The islands whose hold keeps a result at the gate (R179, R203): the packet's command pair, HLU, and the island of the core that made it. -/
def Job.path (j : Job) (p : Packet) (core : Nat) : List Nat := (8 + p.pair) :: 0 :: (if j.kind == .slots then [] else [0x30 + core / 9])

/-- A class 1 hold keeps a result at the gate (R179, R203). -/
def State.resultHeld (s : State) (p : Packet) (j : Job) (core : Nat) : Bool := (j.path p core).any s.islandHeld

/-- Device time at which a hold of a result's path last lifted. -/
def State.liftedAt (s : State) (p : Packet) (j : Job) (core : Nat) : Nat :=
  min s.now ((j.path p core).foldl (fun t i => max t (s.pke.lifted.getD i 0)) 0)

/-- The charge of a job's completion in MU (R52, R181, R188, R214, R221, R222). -/
def Job.charge (j : Job) : Nat :=
  match j.kind with
  | .c => j.fig.cCharge
  | _ => if j.fig.quant then j.fig.pk + (if j.reject then 1 else j.quanta) * j.fig.b else j.fig.b

/-- The completion of a job (R50, R52). -/
def Job.completion (j : Job) (release charge : Nat) : Compl :=
  let tc := if j.kind == .c then TimeClass.c else TimeClass.m
  let paid := j.res.status == .done || j.res.status == .rejected
  let n := if paid then charge else 0
  ⟨j.res.status, tc, release, if j.res.status == .done then j.res.out.length else 0, if n = 0 then 0 else 1, n,
    if j.res.status == .done then j.res.result else 0, j.fig.energy⟩

/-- A key whose output the host refused does not stay: a result that is no handle of a record frees nothing (R49). -/
def State.unmakeKey (s : State) (h : Nat) : State := if h != 0 && (s.resolve h).isSome then s.freeRecord (hLine h) else s

/-- The completion of a job is released at a time (R178, R188): its output is written, then its completion posted. Where the host refuses the output, the octets already written are zeroed and the packet completes with REJECTED (R49). -/
def State.releaseJob (s : State) (pid : Nat) (j : Job) (release : Nat) : State :=
  let s := s.dropJob pid
  match s.cmd.packets.get? pid with
  | none => s
  | some p =>
    let mu := if p.opcode == 0x0802 then 0 else j.charge
    if j.res.status == .done then
      match p.refusesOut j.res.out with
      | some n => ((s.unmakeKey j.res.result).writeRefused p j.res.out n).complete pid ({ j with res := JobRes.of .rejected }.completion release mu)
      | none => (s.writeOut p j.res.out).complete pid (j.completion release mu)
    else s.complete pid (j.completion release mu)

/-- The release of a job at the gate since a time (R178, R179, R216): the time, and the count of R179. -/
def Job.due (j : Job) (since : Nat) : Nat × Nat :=
  let b := 1000 * j.fig.b
  if j.fig.quant then
    let base := j.start + 1000 * j.fig.pk
    let k := if j.reject then 1 else j.quanta
    let q := max k (ceilDiv (since - base) b)
    (base + q * b, q - k + 1)
  else
    let q := max 1 (ceilDiv (since - j.start) b)
    (j.start + q * b, q)

/-- A late release is counted and recorded (R179). -/
def State.noteLate (s : State) (core count : Nat) : State :=
  if 2 ≤ count then (s.bumpSat Fld.PKE_LATE_count 0 1).event 0x40 0x06 (core + 256 * count) else s

/-- The result of a class C job is at the gate: it is released at once, unless a hold covers its path (R188); past twice the budget it counts as late (R223). -/
def State.releaseC (s : State) (pid : Nat) (j : Job) (core release : Nat) : State :=
  match s.cmd.packets.get? pid with
  | none => s.dropJob pid
  | some p =>
    if s.resultHeld p j core then s
    else
      let s := if !j.fig.quant && decide (j.start + 2000 * j.fig.b < release) then s.bumpSat Fld.PKE_LATE_count 0 1 else s
      s.releaseJob pid j release

/-- A job is at the gate, and through it for class C. -/
def State.passGate (s : State) (pid : Nat) (j : Job) (core t : Nat) : State :=
  let s := s.toGate pid j core t
  if j.kind == .c then s.releaseC pid { j with at_ := .gate core t } core t else s

/-- A job's result is final, at a device time: its output is staged, and it goes to the gate. -/
def State.finishJob (s : State) (pid : Nat) (j : Job) (core t : Nat) : State :=
  let (s, j) := s.jobOutput pid j
  s.passGate pid j core t

/-- A main job's schedule has ended at a device time (R188, R198): its slot area is zeroized; a signature goes to verification, any other result to the gate. A class C job that fails validation ends at start + VC. -/
def State.endMain (s : State) (pid : Nat) (j : Job) (n t : Nat) : State :=
  let s := s.clearArea n j.area
  if j.reject && j.kind == .c then (s.passGate pid j n (j.start + j.fig.vc)).coreNext n t
  else
    match j.res.verdict with
    | some _ =>
      if j.reject then (s.finishJob pid j n t).coreNext n t
      else (s.setJob pid { j with at_ := .verifyQueue n, since := t, key := none, shares := Shares.none, form := [] }).coreNext n t
    | none => (s.finishJob pid j n t).coreNext n t

/-- A verification has ended at a device time (R29, R219): the signature goes to the gate, or the packet completes with FAULTED. -/
def State.endVerify (s : State) (pid : Nat) (j : Job) (from_ t : Nat) : State :=
  let s := match j.at_ with | .verifying _ n => s.clearArea n j.area | _ => s
  s.finishJob pid (if j.res.verdict == some true then j else { j with res := JobRes.of .faulted }) from_ t

/-- The main job of a core has run its schedule: class M and workspace jobs in full, class C jobs at least their validation stage, and a quantised job in a quantum that succeeded. -/
def State.mainDone (s : State) (j : Job) : Bool :=
  (!j.fig.quant || j.accepted) &&
  match j.kind with
  | .c => decide (j.start + j.fig.vc ≤ s.now)
  | _ => decide (j.fig.e ≤ s.executed j)

/-- Device time at which a job that has run its schedule ended: E after its start, its interruptions apart (R174); for class C, now. -/
def State.mainEnd (s : State) (j : Job) : Nat := if j.kind == .c then s.now else j.since + ceilDiv (j.fig.e - j.ran) 6

/-- Device time at which the verification on a core ends (R174). -/
def Job.verifyEnd (j : Job) : Nat := j.since + ceilDiv j.fig.ev 6

/-- The verification on a core has run its length (R173). -/
def State.verifyDone (s : State) (j : Job) : Bool := decide (j.verifyEnd ≤ s.now)

/-- The core whose context holds a job, or that made its result. -/
def JobAt.core : JobAt → Nat
  | .main c => c | .suspended c => c | .assigned c => c | .verifyQueue c => c | .verifying c _ => c | .gate c _ => c
  | _ => 0

/-- The core on which a job holds a slot area. -/
def JobAt.resident : JobAt → Option Nat
  | .main c => some c | .suspended c => some c | .verifying _ c => some c
  | _ => none

/-- An aborted job leaves its residue (R200): its slot area zeroized, and for a workspace job the dst slots of its descriptor; the reference operation names none. -/
def State.residue (s : State) (pid : Nat) (j : Job) : State :=
  let s := match j.at_.resident with | some n => s.clearArea n j.area | none => s
  match j.at_, s.cmd.packets.get? pid with
  | .gate _ _, _ => s
  | .pending, _ => s
  | .assigned _, _ => s
  | _, some p => if j.kind == .ws then s.wsResidue j.ws p.block else s
  | _, none => s

/-- The status of a job that cannot go on (R180, R203): it is aborted, and the packet completes with the status at its release time, class C at once. -/
def State.jobFails (s : State) (pid : Nat) (j : Job) (st : Status) (core : Nat) : State :=
  (s.residue pid j).passGate pid { j with res := JobRes.of st, reject := false, quanta := max 1 j.quanta, lines := 0 } core s.now

/-- A job that has started ends with a status, and its core takes what waits (R180, R203). -/
def State.jobStops (s : State) (pid : Nat) (j : Job) (st : Status) : State :=
  let t := s.jobFails pid j st j.at_.core
  match j.at_ with
  | .main n => t.coreNext n s.now
  | _ => t

/-- A packet with a job completes with FAULTED: at once where the job has not started, at its release time otherwise. -/
def State.jobFaults (s : State) (pid : Nat) (j : Job) : State :=
  match j.kind, j.at_ with
  | .slots, _ => (s.dropJob pid).fail pid .faulted
  | _, .hashing => (s.dropJob pid).fail pid .faulted
  | _, .pending => if j.retried then s.jobStops pid j .faulted else (s.dropJob pid).fail pid .faulted
  | _, .assigned _ => if j.retried then s.jobStops pid j .faulted else (s.dropJob pid).fail pid .faulted
  | _, _ => s.jobStops pid j .faulted

/-- A job is aborted (R199, R200): its residue, then one retry with its start kept, or FAULTED (R180). -/
def State.abortJob (s : State) (pid : Nat) (j : Job) (core : Nat) : State :=
  if j.retried then s.jobFails pid j .faulted core
  else (s.residue pid j).setJob pid { j with
    at_ := .pending, retried := true, avoid := some core, since := s.now, draw := some s.now, key := none, shares := Shares.none, form := []
    accepted := false, owed := 0 }

/-- Every job in a context of a core is aborted, a verification on it is retried elsewhere once, and its waiting descriptor goes back (R180, R202). -/
def State.abortCore (s : State) (n : Nat) : State :=
  (s.pke.jobs.cells.filter (fun e => e.2.at_.onCore n)).foldl (fun s e =>
    match e.2.at_ with
    | .verifying f _ =>
      if e.2.verifyRetried then s.jobFails e.1 e.2 .faulted f
      else (s.clearArea n e.2.area).setJob e.1 { e.2 with at_ := .verifyQueue f, since := s.now, verifyRetried := true, verifyAvoid := some n }
    | .assigned _ => s.unassign e.1 e.2
    | _ => s.abortJob e.1 e.2 n) s

/-- A class 2 or class 3 erase (R203): every started job ends with FAULTED, its residue left, and every job that waits for a key of the destroyed set with it (R138). -/
def State.eraseJobs (s : State) : State :=
  s.pke.jobs.cells.foldl (fun s e =>
    let (pid, j) := e
    let waits := match j.at_ with | .hashing => true | .pending => true | .assigned _ => true | _ => false
    let atGate := match j.at_ with | .gate _ _ => true | _ => false
    if atGate then s
    else if waits && !j.retried then
      if j.handle = 0 then (match j.at_ with | .assigned _ => s.unassign pid j | _ => s) else (s.dropJob pid).fail pid .faulted
    else s.jobFails pid j .faulted j.at_.core) s

end Sys2Proof.Machine
end

