-- ==== Sys2Proof/Machine/PkCmds.lean ====
section
/-! DEFINITION. The opcodes of time classes M and C: asymmetric operations, key generation, workspaces, attestation and meter readings (R67, R74, R177, R189 to R197, R204 to R210). Log entries of this file: DEDUCED 210; DESIGN CHOICE 14, 56, 78, 79, 83. -/

namespace Sys2Proof.Machine

/-- The usage bit that an asymmetric opcode needs (R114). -/
def useOf (opc : Nat) : Nat :=
  match opc with
  | 0x0301 => useSign | 0x0302 => useVerify | 0x0303 => useAgree | 0x0304 => useEncaps | 0x0305 => useDecaps
  | 0x0306 => useEncrypt
  | _ => useDecrypt

/-- The packet makes a new key (R207). -/
def toNewKey (opc : Nat) (p : Packet) : Bool := (opc == 0x0303 || opc == 0x0304 || opc == 0x0305) && p.par 0 0 == 1

/-- A CUSTODY key may not serve the packet: its result would go to the host (R67). -/
def custodyDenied (opc : Nat) (p : Packet) : Bool :=
  opc == 0x0307 || ((opc == 0x0303 || opc == 0x0304 || opc == 0x0305) && p.par 0 0 == 0)

/-- VERIFY takes its public key from the input. -/
def supplied (opc : Nat) (p : Packet) : Bool := opc == 0x0302 && p.par 1 1 == 1

/-- The handle checks of a class M or class C packet (R511): a REJECTED leaves the packet to run under R177. The key with its handle, and whether the packet is to be rejected. -/
def State.askKey (s : State) (opc pid : Nat) (p : Packet) : Except Stop (Option (Nat × Key) × Bool) :=
  match s.firstHandle pid p with
  | none => .ok (none, true)
  | some h =>
    let use := if supplied opc p then KeyUse.unused else match opInfo opc with | some o => o.key | none => .unused
    match s.checkHandles p use h with
    | .ok k => .ok (k.map (fun k => (h, k)), false)
    | .error e => if e.st == .rejected then .ok (none, true) else .error e

/-- The policy of an asymmetric opcode on its key (R67, R114). -/
def keyPolicy (opc : Nat) (p : Packet) (k : Option (Nat × Key)) : Bool :=
  match k with
  | none => true
  | some (_, k) => bit k.usage (useOf opc) && !(k.cls == clsCustody && custodyDenied opc p)

/-- The checks of steps 3 and 4 of an asymmetric packet (R8, R74, R108, R114), then its acceptance (R177): its figures are those of the operation that its key and parameters name, or of the reference operation. -/
def State.askAsym (s : State) (opc pid : Nat) (p : Packet) : Except Stop State := do
  let (k, bad) ← s.askKey opc pid p
  require (s.weight p.ring != 0) .denied
  require (keyPolicy opc p k) .denied
  require (!(toNewKey opc p && s.wiping)) .busyRetry
  require (!toNewKey opc p || s.quotaOk p.ring (p.par 4 4)) .noResource
  let t := if supplied opc p then p.par 3 3 else match k with | some (_, k) => k.typ | none => 0
  match opFig opc t (fun i => p.par i i), bad && !supplied opc p with
  | some f, false =>
    let custody := match k with | some (_, k) => k.cls == clsCustody | none => false
    .ok (s.accept pid p false (if custody then .c else .m) (if toNewKey opc p then f.toKey else f) bad
      (match k with | some (h, _) => h | none => 0) 0 false t (if toNewKey opc p then s.quotaLines p.ring (typeLines (p.par 4 4)) else 0))
  | _, _ => .ok (s.accept pid p false .m (refFig opc) true 0 0 false (refType opc) 0)

/-- A packet is accepted, or completes with a failing status. -/
def State.accepted (s : State) (pid : Nat) (r : Except Stop State) : State :=
  match r with
  | .ok t => t
  | .error e => (e.s.getD s).fail pid e.st

/-- The run of an asymmetric opcode. -/
def State.runAsym (s : State) (opc pid : Nat) (d : PktData) : State :=
  s.runPacket opc pid d (fun s pid p => s.accepted pid (s.askAsym opc pid p))

/-- KEY_AGREE (R208, R220). -/
def execKeyAgree (dt pid : Nat) (d : PktData) (s : State) : Host.Outcome State Fault Refusal := .next ((s.tick dt).runAsym 0x0303 pid d)

/-- KEM_ENCAPS (R208, R220). -/
def execKemEncaps (dt pid : Nat) (d : PktData) (s : State) : Host.Outcome State Fault Refusal := .next ((s.tick dt).runAsym 0x0304 pid d)

/-- KEM_DECAPS (R208, R220). -/
def execKemDecaps (dt pid : Nat) (d : PktData) (s : State) : Host.Outcome State Fault Refusal := .next ((s.tick dt).runAsym 0x0305 pid d)

/-- RSA_ENCRYPT (R220). -/
def execRsaEncrypt (dt pid : Nat) (d : PktData) (s : State) : Host.Outcome State Fault Refusal := .next ((s.tick dt).runAsym 0x0306 pid d)

/-- RSA_DECRYPT (R220). -/
def execRsaDecrypt (dt pid : Nat) (d : PktData) (s : State) : Host.Outcome State Fault Refusal := .next ((s.tick dt).runAsym 0x0307 pid d)

/-- KEY_GENERATE of an ASYM or CUSTODY key: steps 3 and 4, then its acceptance; a type that the class does not permit runs the reference operation (R210). -/
def State.askGenerate (s : State) (pid : Nat) (p : Packet) : Except Stop State := do
  let (_, bad) ← s.askKey 0x0101 pid p
  require (s.weight p.ring != 0) .denied
  require (!s.wiping) .busyRetry
  require (s.quotaOk p.ring (p.par 1 1)) .noResource
  let permitted := match keyType (p.par 1 1) with | some k => k.classes.contains (p.par 0 0) | none => false
  match genFig (p.par 1 1), permitted with
  | some f, true =>
    .ok (s.accept pid p false (if p.par 0 0 == clsCustody then .c else .m) f bad 0 0 false (p.par 1 1) (s.quotaLines p.ring (typeLines (p.par 1 1))))
  | _, _ => .ok (s.accept pid p false .m (refFig 0x0101) true 0 0 false (refType 0x0101) 0)

/-- KEY_GENERATE by its target class (R67, R210). -/
def State.keyGenerate (s : State) (pid : Nat) (p : Packet) : State :=
  if p.par 0 0 == clsTraffic then s.conclude pid (opGenTraffic s pid p)
  else if p.par 0 0 == clsCustody || p.par 0 0 == clsAsym then s.accepted pid (s.askGenerate pid p)
  else s.conclude pid (do
    let _ ← s.handles pid p
    failWith .rejected)

/-- KEY_GENERATE (R67, R218). -/
def execKeyGenerate (dt pid : Nat) (d : PktData) (s : State) : Host.Outcome State Fault Refusal :=
  .next ((s.tick dt).runPacket 0x0101 pid d State.keyGenerate)

/-- The switch of command pairs has begun and the activation point is not reached: ATTEST and METER_READ complete with BUSY_RETRY (R133). -/
def State.switching (s : State) : Bool := match s.fw.act with | some a => a.kind == 1 && decide (2 ≤ a.phase) | none => false

/-- The figures of ATTEST (R161, R222): an ECDSA P-384 and an ML-DSA-87 signature. -/
def attestFig : Fig := ⟨6000 * 214, 6000 * 184, 6000 * 14, 416, true, 0, 575, 1000, 235200⟩

/-- Steps 3 and 4 of a class C packet without a key of its own, then its acceptance; from the manager ring it is a device job (R171). -/
def State.askDevice (s : State) (pid : Nat) (p : Packet) (f : Fig) (reject : Bool) : Except Stop State := do
  let (_, bad) ← s.askKey p.opcode pid p
  require (p.manager || s.weight p.ring != 0) .denied
  require (!s.switching && !s.wiping) .busyRetry
  .ok (s.accept pid p p.manager .c f (bad || reject) 0 0 false (if p.opcode == 0x0801 then 0x3A else 0x11) 0)

/-- ATTEST (R161). -/
def execAttest (dt pid : Nat) (d : PktData) (s : State) : Host.Outcome State Fault Refusal :=
  .next ((s.tick dt).runPacket 0x0801 pid d (fun s pid p => s.accepted pid (s.askDevice pid p attestFig false)))

/-- METER_READ mode 0x00 (R444): a class C signature without a charge. -/
def State.meterInterim (s : State) (pid : Nat) (p : Packet) : State :=
  if p.par 0 0 == 0 then s.accepted pid (s.askDevice pid p (mkFig 70 104 8 184 82500 1) false) else s

/-- METER_READ_INTERIM (R444). -/
def execMeterReadInterim (dt pid : Nat) (d : PktData) (s : State) : Host.Outcome State Fault Refusal :=
  let s := s.tick dt
  match s.cmd.packets.get? pid with
  | some p => if p.par 0 0 == 0 then .next (s.runPacket 0x0802 pid d State.meterInterim) else .next s
  | none => .next s

/-- METER_READ mode 0x01 (R444, R445): the meter key statement; any other mode but 0x00 is unassigned. -/
def opMeterStatement : Op := fun s pid p => do
  let _ ← s.handles pid p
  require (!s.switching) .busyRetry
  require (p.par 0 0 == 1 && s.meterParams p && p.fits 12486) .rejected
  .ok ⟨s, fitLen 12486 s.met.statement, 0, 0⟩

/-- METER_READ_STATEMENT (R444). -/
def execMeterReadStatement (dt pid : Nat) (d : PktData) (s : State) : Host.Outcome State Fault Refusal :=
  let s := s.tick dt
  match s.cmd.packets.get? pid with
  | some p => if p.par 0 0 == 0 then .next s else .next (s.runOp 0x0802 pid d opMeterStatement)
  | none => .next s

/-- The workspace that a packet names: in p[0:7], or in the descriptor of WS_EXEC; none for WS_OPEN. -/
def wsNamed (p : Packet) : Nat :=
  if p.opcode == 0x0401 then 0 else if p.opcode == 0x0405 then field p.block 8 8 else p.par 0 7

/-- A WS_CLOSE of the workspace by its slice has started (R191). -/
def State.wsClosing (s : State) (sl id : Nat) : Bool := s.pke.jobs.any (fun _ j => j.closes && j.ws == id && j.slice == sl)

/-- The work of a workspace opcode without a core job. -/
def wsOp (opc : Nat) : Op :=
  match opc with
  | 0x0401 => opWsOpen
  | 0x0402 => opWsClose
  | 0x0403 => opWsWrite
  | _ => opWsRead

/-- The figures of a workspace opcode without a core job: its charge as its budget, none for WS_CLOSE (R67). -/
def slotsFig (opc : Nat) : Fig := { wsRefFig with e := 0, a := 0, b := if opc == 0x0402 then 0 else 1 }

/-- A workspace packet without a core job executes (R190, R191): its result goes to the release gate. -/
def State.runSlots (s : State) (pid : Nat) (j : Job) : State :=
  match s.cmd.packets.get? pid with
  | none => s.dropJob pid
  | some p =>
    let r := if j.reject then (do
        let _ ← s.handles pid p
        failWith .rejected) else wsOp p.opcode s pid p
    let s := s.setPacket pid { p with phase := .running }
    let j := { j with start := s.now, at_ := .gate 0 s.now }
    match r with
    | .ok d =>
      let j := { j with res := { JobRes.plain d.out with result := d.result } }
      let u := d.s.setPacket pid { p with phase := .running }
      if j.closes then u.releaseJob pid j s.now else u.setJob pid j
    | .error e =>
      if e.st == .rejected then
        let j := { j with reject := true }
        if j.closes then s.releaseJob pid j s.now else s.setJob pid j
      else (s.dropJob pid).fail pid e.st

/-- A workspace packet is accepted (R74, R191), and executes at once where no earlier packet names its workspace. -/
def State.askSlots (s : State) (pid : Nat) (p : Packet) : State :=
  if s.weight p.ring = 0 then s.fail pid .denied
  else
    let id := wsNamed p
    let s := s.accept pid p false .slots (slotsFig p.opcode) (id != 0 && s.wsClosing p.ring id) 0 id (p.opcode == 0x0402) 0 0
    match s.pke.jobs.get? pid with
    | some j => if s.wsTurn j then s.runSlots pid j else s
    | none => s

/-- WS_OPEN (R189). -/
def execWsOpen (dt pid : Nat) (d : PktData) (s : State) : Host.Outcome State Fault Refusal := .next ((s.tick dt).runPacket 0x0401 pid d State.askSlots)

/-- WS_CLOSE (R190, R191). -/
def execWsClose (dt pid : Nat) (d : PktData) (s : State) : Host.Outcome State Fault Refusal := .next ((s.tick dt).runPacket 0x0402 pid d State.askSlots)

/-- WS_WRITE (R190). -/
def execWsWrite (dt pid : Nat) (d : PktData) (s : State) : Host.Outcome State Fault Refusal := .next ((s.tick dt).runPacket 0x0403 pid d State.askSlots)

/-- WS_READ (R190). -/
def execWsRead (dt pid : Nat) (d : PktData) (s : State) : Host.Outcome State Fault Refusal := .next ((s.tick dt).runPacket 0x0404 pid d State.askSlots)

/-- WS_EXEC's acceptance (R192 to R196): the budget follows the descriptor, or is the reference operation's where the descriptor has no count or names no workspace of the slice. -/
def State.askExec (s : State) (pid : Nat) (p : Packet) : Except Stop State := do
  let (_, bad) ← s.askKey 0x0405 pid p
  require (s.weight p.ring != 0) .denied
  let id := wsNamed p
  match s.spaceOf p id, wsCounted p.block && p.areasOk ioNone with
  | .ok x, true => .ok (s.accept pid p false .ws (wsFig (wsCycles (wsInstrs p.block) x.w)) (bad || s.wsClosing p.ring id) 0 id false 0 0)
  | _, _ => .ok (s.accept pid p false .m wsRefFig true 0 0 false 0 0)

/-- WS_EXEC (R192). -/
def execWsExec (dt pid : Nat) (d : PktData) (s : State) : Host.Outcome State Fault Refusal :=
  .next ((s.tick dt).runPacket 0x0405 pid d (fun s pid p => s.accepted pid (s.askExec pid p)))

/-- PKE_DISPATCH: waiting verifications are placed first; then the job that scheduling chooses starts on an idle core, or becomes the waiting descriptor of a core where it is short and every active core is busy (R163, R170 to R173, R183). -/
def execPkeDispatch (dt : Nat) (onto : Option Nat) (s : State) : Host.Outcome State Fault Refusal :=
  let s := (s.tick dt).serveVerify
  match s.nextJob with
  | none => .next s
  | some (pid, j) =>
    match s.pickCore j.avoid, onto with
    | some n, _ => .next (s.startJob pid j n s.now)
    | none, some n =>
      if s.coreTakes n && (s.mainOf n).isSome && (s.assignedOf n).isNone && (s.suspendedOf n).isNone && j.short && j.avoid != some n then
        .next ((s.chargeDispatch j).setJob pid { j with at_ := .assigned n, charged := true })
      else .next s
    | none, none => .next s

/-- VERIFY_JOB_PLACEMENT: a verification that waits is placed on the core that R173 names; its length and two switches are taken from the allowances of the jobs it keeps waiting (R163, R184, R185). -/
def execVerifyJobPlacement (dt pid : Nat) (s : State) : Host.Outcome State Fault Refusal :=
  .next ((s.tick dt).placeVerify pid)

/-- YIELD_POINT: at a yield point of its program, which lies at a cycle of it, the main job of a core is suspended, and the waiting short job starts after a context switch (R163, R182, R183). -/
def execYieldPoint (dt core cycle : Nat) (s : State) : Host.Outcome State Fault Refusal :=
  let s := s.tick dt
  match s.mainOf core, s.assignedOf core with
  | some (xp, x), some (yp, y) =>
    match s.cmd.packets.get? xp with
    | some p =>
      if s.coreTakes core && s.mayStart y && s.atYield p x cycle && s.yields x yp y core then
        let s := s.setJob xp { s.spend x (y.fig.e + cyc 512) with at_ := .suspended core, ran := s.executed x, since := s.now }
        .next ((s.bumpSat Fld.PKE_PREEMPT_count 0 1).startJob yp y core (s.now + switchNs))
      else .next s
    | none => .next s
  | _, _ => .next s

/-- The largest quantum count (R181, R211, R215). -/
def kmax : Nat := 64

/-- RSA key generation draws fresh words for each quantum (R215, R506). -/
def drawsPerQuantum (p : Packet) : Bool := p.opcode == 0x0101 && isRsa (p.par 1 1)

/-- The next quantum of a job begins (R181, R215): on another core where its own is withdrawn (R409), with fresh words where the quantum draws them. -/
def State.nextQuantum (s : State) (pid : Nat) (j : Job) (p : Packet) (n : Nat) : State :=
  let (s, p) := if drawsPerQuantum p then
      let p := { p with rnd := some s.free }
      ({ (s.drbgCall 1) with free := s.free + drawBlock }.setPacket pid p, p)
    else (s, p)
  let q := j.quanta + 1
  let (won, r) := s.quantum p j j.held q
  let m := if s.coreActive n then n else (s.pickCore none).getD n
  let shape := s.shapeOf j
  let area := if m = n then j.area else (s.placeArea m pid shape).getD ⟨512, shape.1, shape.2⟩
  let t := if m = n then s else s.clearArea n j.area
  let t := t.setJob pid { j with
    at_ := .main m, quanta := q, since := if j.kind == .c then s.now else max j.since j.boundary, ran := 0, draw := none, allow := j.fig.a, owed := 0
    accepted := won || r.isNone, area := area, res := r.getD j.res }
  if m = n then t else t.coreNext n s.now

/-- LATTICE_QUANTUM_BOUNDARY: a quantum ended without success; the next begins, or the job goes to the gate with BUSY_RETRY after kmax (R181, R214, R215, R222). -/
def execLatticeQuantumBoundary (dt pid : Nat) (s : State) : Host.Outcome State Fault Refusal :=
  let s := s.tick dt
  match s.pke.jobs.get? pid, s.cmd.packets.get? pid with
  | some j, some p =>
    match j.at_ with
    | .main n =>
      if !j.fig.quant || j.accepted || (j.kind != JobKind.c && decide (s.now < j.boundary)) then .next s
      else if kmax ≤ j.quanta then
        let s := if p.opcode == 0x0301 && j.kind == JobKind.m then s.bumpSat Fld.PKE_CAPPED_count 0 1 else s
        let t := if j.kind == JobKind.c then s.now else j.boundary
        .next ((((s.clearArea n j.area).passGate pid { j with res := JobRes.of .busyRetry, lines := 0 } n t).coreNext n s.now))
      else if drawsPerQuantum p && !s.drbgReady 1 then
        .next (s.setJob pid { j with draw := some (j.draw.getD s.now) })
      else .next (s.nextQuantum pid j p n)
    | _ => .next s
  | _, _ => .next s

/-- RANDOM_DRAW_TIMEOUT: a draw made after the start has waited 250 ms; the job is aborted with the residue of R200, and its packet completes with NOT_READY without a charge (R506). -/
def execRandomDrawTimeout (dt pid : Nat) (s : State) : Host.Outcome State Fault Refusal :=
  let s := s.tick dt
  match s.pke.jobs.get? pid with
  | none => .next s
  | some j =>
    match j.draw with
    | none => .next s
    | some t =>
      if s.drbgReady 1 || s.now < t + holdNs then .next s
      else
        match j.at_ with
        | .main _ => .next (s.jobStops pid j .notReady)
        | .pending => .next (s.jobStops pid j .notReady)
        | _ => .next s

/-- The operand memory of a core zeroized. -/
def State.zeroCore (s : State) (n : Nat) : State :=
  { s with pke := { s.pke with opmem := s.pke.opmem.filter (fun k _ => k / 8192 != n) } }

/-- The window of a core is open: no context holds a job (R36). -/
def State.windowOpen (s : State) (n : Nat) : Bool := decide (n < 72) && !s.coreBusy n

/-- PKE_CORE_ZERO: a write of 0x2E40 to the register zeroizes the whole operand memory of a core without a job (R36, R186); any other value is discarded. -/
def execPkeCoreZero (dt core value : Nat) (s : State) : Host.Outcome State Fault Refusal :=
  let s := s.tick dt
  if s.windowOpen core && value % 2 ^ 16 == 0x2E40 then .next (s.zeroCore core) else .next s

end Sys2Proof.Machine
end

