-- ==== Sys2Proof/Machine/Bulk.lean ====
section
/-! DEFINITION. The bulk clusters and the lookaside opcodes (R75, R224 to R243): checks, tokens, steering, register files, results, zero-fill, and the alarms that meet a packet in a cluster. Log entries of this file: DEDUCED 66, 91, 92, 95, 151, 244; DESIGN CHOICE 6, 41, 85, 90, 93, 98, 214, 234. -/

namespace Sys2Proof.Machine

/-- Blocks of an input: input octets over 64, rounded up (R67). -/
def Packet.blocks (p : Packet) : Nat := ceilDiv p.inTotal 64

/-- The AAD length of an AEAD packet. -/
def Packet.aad (p : Packet) : Nat := p.par 2 3

/-- Digest length, in octets, and algorithm of a hash code (R67). -/
def hashAlg : Nat → Option (Config.Alg × Nat)
  | 0x01 => some (.sha256, 32)
  | 0x02 => some (.sha384, 48)
  | 0x03 => some (.sha512, 64)
  | 0x11 => some (.sha3_256, 32)
  | 0x12 => some (.sha3_384, 48)
  | 0x13 => some (.sha3_512, 64)
  | 0x21 => some (.shake128, 0)
  | 0x22 => some (.shake256, 0)
  | _ => none

/-- The HMAC of a hash code, its key type and its length (R229). -/
def hmacAlg : Nat → Option (Config.Alg × Nat × Nat)
  | 1 => some (.hmacSha256, 0x06, 32)
  | 2 => some (.hmacSha384, 0x07, 48)
  | 3 => some (.hmacSha512, 0x07, 64)
  | _ => none

/-- HKDF by hash code, with the hash length. -/
def hkdfAlg : Nat → Option (Config.Alg × Nat)
  | 1 => some (.hkdfSha256, 32)
  | 2 => some (.hkdfSha384, 48)
  | 3 => some (.hkdfSha512, 64)
  | _ => none

/-- The two steps of an AEAD mode (R229): keystream and tag. -/
def aeadAlgs : Nat → Option (Config.Alg × Config.Alg)
  | 1 => some (.gcmStream, .gcmTag)
  | 2 => some (.ccmStream, .ccmTag)
  | 3 => some (.chachaStream, .chachaTag)
  | _ => none

/-- The AEAD mode of a TLS suite, with its key type (R229). -/
def tlsSuite : Nat → Option (Nat × Nat)
  | 1 => some (1, 0x01)
  | 2 => some (1, 0x02)
  | 3 => some (3, 0x05)
  | _ => none

/-- The text under an AEAD's keystream. -/
def aeadCrypt (a : Config.Alg) (key nonce text : Bytes) : Bytes :=
  xorBytes text (fitLen text.length (Config.prim a [key, nonce, natBE 4 text.length]))

/-- The tag of an AEAD, at a length (CCM's tag depends on it). -/
def aeadTag (a : Config.Alg) (key nonce aad ct : Bytes) (n : Nat) : Bytes :=
  fitLen n (Config.prim a [key, nonce, aad, ct, natBE 1 n])

/-- The mode, key type and tag length of an AEAD packet are among those of R229. -/
def aeadModeOk (mode t tag : Nat) : Bool :=
  match mode with
  | 1 => (t == 1 || t == 2) && decide (12 ≤ tag) && decide (tag ≤ 16)
  | 2 => (t == 1 || t == 2) && decide (4 ≤ tag) && decide (tag ≤ 16) && tag % 2 == 0
  | 3 => t == 5 && tag == 16
  | _ => false

/-- The usage bit that a symmetric opcode needs (R114). -/
def symUse (opc : Nat) : Nat :=
  match opc with
  | 0x0201 => useEncrypt | 0x0203 => useEncrypt | 0x020B => useEncrypt
  | 0x0202 => useDecrypt | 0x0204 => useDecrypt | 0x020C => useDecrypt
  | _ => useMac

/-- The parameters, lengths and key type of AEAD_SEAL and AEAD_OPEN are within R229. -/
def aeadOk (p : Packet) (t : Nat) (enc : Bool) : Bool :=
  let tag := p.par 1 1
  let c := p.inTotal - p.aad - (if enc then 0 else tag)
  !p.pind && aeadModeOk (p.par 0 0) t tag && decide (p.aad + (if enc then 0 else tag) ≤ p.inTotal) &&
    (p.par 0 0 != 2 || decide (c ≤ 16777215)) && p.fits (if enc then c + tag else c)

/-- XTS_ENCRYPT and XTS_DECRYPT are within R229. -/
def xtsOk (p : Packet) (k : Key) : Bool :=
  !p.pind && (k.typ == 3 || k.typ == 4) && decide (16 ≤ p.inTotal) && decide (p.inTotal ≤ 16777216) &&
    k.secret.take (k.secret.length / 2) != k.secret.drop (k.secret.length / 2) && p.fits p.inTotal

/-- CMAC_GENERATE and CMAC_VERIFY are within R229. -/
def cmacOk (p : Packet) (t : Nat) (verify : Bool) : Bool :=
  let n := p.par 0 0
  p.inlineFrom 1 && (t == 1 || t == 2) && decide (8 ≤ n) && decide (n ≤ 16) &&
    (if verify then decide (n ≤ p.inTotal) else p.fits n)

/-- HMAC_GENERATE and HMAC_VERIFY are within R229. -/
def hmacOk (p : Packet) (t : Nat) (verify : Bool) : Bool :=
  let n := p.par 1 1
  match hmacAlg (p.par 0 0) with
  | none => false
  | some (_, kt, len) => p.inlineFrom 2 && t == kt && decide (16 ≤ n) && decide (n ≤ len) &&
      (if verify then decide (n ≤ p.inTotal) else p.fits n)

/-- The output length of a HASH packet. -/
def hashLen (p : Packet) : Nat :=
  match hashAlg (p.par 0 0) with
  | some (_, 0) => p.par 4 7
  | some (_, n) => n
  | none => 0

/-- HASH is within R229. -/
def hashOk (p : Packet) : Bool :=
  match hashAlg (p.par 0 0) with
  | none => false
  | some (_, n) => p.inlineFrom 8 && p.par 1 3 == 0 && p.fits (hashLen p) &&
      (if n = 0 then decide (1 ≤ p.par 4 7) && decide (p.par 4 7 ≤ 65536) else p.par 4 7 == 0)

/-- HKDF is within R229. -/
def hkdfOk (p : Packet) : Bool :=
  match hkdfAlg (p.par 0 0) with
  | none => false
  | some (_, n) => p.inlineFrom 8 && p.par 1 1 == 0 && p.par 2 3 + p.par 4 5 + p.par 6 7 == p.inTotal &&
      decide (1 ≤ p.capacity) && decide (p.capacity ≤ 255 * n)

/-- The suite's key type is the key's. -/
def tlsKeyOk (p : Packet) (t : Nat) : Bool :=
  match tlsSuite (p.par 0 0) with
  | some (_, kt) => kt == t
  | none => false

/-- TLS_PROTECT is within R230. -/
def tlsProtectOk (p : Packet) (t : Nat) : Bool :=
  let c := p.inTotal - 12
  !p.pind && tlsKeyOk p t && p.par 2 7 == 0 && decide (0x15 ≤ p.par 1 1) && decide (p.par 1 1 ≤ 0x17) &&
    decide (12 ≤ p.inTotal) && decide (c ≤ 16384) && p.fits (c + 22)

/-- The record of a TLS_UNPROTECT packet. -/
def tlsRecord (p : Packet) : Bytes := p.input.drop 12

/-- TLS_UNPROTECT passes the checks of R230 that need no key, and has room for the longest content of its record (R508). -/
def tlsUnprotectOk (p : Packet) (t : Nat) : Bool :=
  let r := tlsRecord p
  let n := fieldBE r 3 2
  !p.pind && tlsKeyOk p t && p.par 1 7 == 0 && decide (17 ≤ p.inTotal) && field r 0 1 == 0x17 && fieldBE r 1 2 == 0x0303 &&
    r.length == 5 + n && decide (17 ≤ n) && decide (n ≤ 16640) && p.fits (n - 17)

/-- The limits of R229 and R230 for an opcode. -/
def symOk (opc : Nat) (p : Packet) (k : Option Key) : Bool :=
  match opc, k with
  | 0x0201, some k => aeadOk p k.typ true
  | 0x0202, some k => aeadOk p k.typ false
  | 0x0203, some k => xtsOk p k
  | 0x0204, some k => xtsOk p k
  | 0x0205, some k => cmacOk p k.typ false
  | 0x0206, some k => cmacOk p k.typ true
  | 0x0207, _ => hashOk p
  | 0x0208, some k => hmacOk p k.typ false
  | 0x0209, some k => hmacOk p k.typ true
  | 0x020A, _ => hkdfOk p
  | 0x020B, some k => tlsProtectOk p k.typ
  | 0x020C, some k => tlsUnprotectOk p k.typ
  | _, _ => false

/-- The areas of a symmetric opcode: the verify opcodes ignore the output descriptor (R234). -/
def symUses (opc : Nat) : Uses := ⟨true, opc != 0x0206 && opc != 0x0209, true⟩

/-- The handle that a packet's start takes its key from, or zero. -/
def Packet.symHandle (p : Packet) : Nat := p.keys.headD 0

/-- The checks of R8 on a symmetric packet (R74, R114, R229); it then waits for tokens with its handle. -/
def State.askSym (s : State) (opc pid : Nat) (p : Packet) : Except Stop State := do
  let k ← s.handles pid p
  require (s.fget Fld.SLC_BULK_SHARE_rate p.ring != 0) .denied
  require (match k with | some k => bit k.usage (symUse opc) | none => true) .denied
  require (p.areasOk (symUses opc) && symOk opc p k) .rejected
  let h := match k with | some _ => (s.firstHandle pid p).getD 0 | none => 0
  .ok (s.setPacket pid { p with phase := .tokens s.now, keys := if h = 0 then [] else [h] })

/-- The run of a symmetric opcode. -/
def State.runSym (s : State) (opc pid : Nat) (d : PktData) : State :=
  s.runPacket opc pid d (fun s pid p => s.accepted pid (s.askSym opc pid p))

/-- AEAD_SEAL (R67, R229). -/
def execAeadSeal (dt pid : Nat) (d : PktData) (s : State) : Host.Outcome State Fault Refusal := .next ((s.tick dt).runSym 0x0201 pid d)

/-- AEAD_OPEN (R67, R229). -/
def execAeadOpen (dt pid : Nat) (d : PktData) (s : State) : Host.Outcome State Fault Refusal := .next ((s.tick dt).runSym 0x0202 pid d)

/-- XTS_ENCRYPT (R67, R229). -/
def execXtsEncrypt (dt pid : Nat) (d : PktData) (s : State) : Host.Outcome State Fault Refusal := .next ((s.tick dt).runSym 0x0203 pid d)

/-- XTS_DECRYPT (R67, R229). -/
def execXtsDecrypt (dt pid : Nat) (d : PktData) (s : State) : Host.Outcome State Fault Refusal := .next ((s.tick dt).runSym 0x0204 pid d)

/-- CMAC_GENERATE (R67, R229). -/
def execCmacGenerate (dt pid : Nat) (d : PktData) (s : State) : Host.Outcome State Fault Refusal := .next ((s.tick dt).runSym 0x0205 pid d)

/-- CMAC_VERIFY (R67, R229, R234). -/
def execCmacVerify (dt pid : Nat) (d : PktData) (s : State) : Host.Outcome State Fault Refusal := .next ((s.tick dt).runSym 0x0206 pid d)

/-- HASH (R67, R229). -/
def execHash (dt pid : Nat) (d : PktData) (s : State) : Host.Outcome State Fault Refusal := .next ((s.tick dt).runSym 0x0207 pid d)

/-- HMAC_GENERATE (R67, R229). -/
def execHmacGenerate (dt pid : Nat) (d : PktData) (s : State) : Host.Outcome State Fault Refusal := .next ((s.tick dt).runSym 0x0208 pid d)

/-- HMAC_VERIFY (R67, R229, R234). -/
def execHmacVerify (dt pid : Nat) (d : PktData) (s : State) : Host.Outcome State Fault Refusal := .next ((s.tick dt).runSym 0x0209 pid d)

/-- HKDF (R67, R229). -/
def execHkdf (dt pid : Nat) (d : PktData) (s : State) : Host.Outcome State Fault Refusal := .next ((s.tick dt).runSym 0x020A pid d)

/-- TLS_PROTECT (R67, R230). -/
def execTlsProtect (dt pid : Nat) (d : PktData) (s : State) : Host.Outcome State Fault Refusal := .next ((s.tick dt).runSym 0x020B pid d)

/-- TLS_UNPROTECT (R67, R230). -/
def execTlsUnprotect (dt pid : Nat) (d : PktData) (s : State) : Host.Outcome State Fault Refusal := .next ((s.tick dt).runSym 0x020C pid d)

/-- The depth of a slice's bucket in eightieths of a byte (R75). -/
def State.bucketFull (s : State) (sl : Nat) : Int := (s.fget Fld.SLC_BULK_SHARE_burst sl * 1024 * 80 : Nat)

/-- The level of a slice's bucket now: it has filled at `rate` eightieths of a byte per ns up to its depth (R75). -/
def State.bucketLevel (s : State) (sl : Nat) : Int :=
  let b := s.slc.buckets.getD sl ⟨s.bucketFull sl, s.now⟩
  min (b.level + (s.fget Fld.SLC_BULK_SHARE_rate sl * (s.now - b.at_) : Nat)) (s.bucketFull sl)

/-- The bucket of a slice set to a level, as of now. -/
def State.setBucket (s : State) (sl : Nat) (level : Int) : State :=
  { s with slc := { s.slc with buckets := s.slc.buckets.insert sl ⟨level, s.now⟩ } }

/-- Since when a packet waits for tokens. -/
def Packet.tokensSince (p : Packet) : Option Nat :=
  match p.phase with
  | .tokens t => some t
  | _ => none

/-- The packet has waited longest for its slice's tokens (R75). -/
def State.tokensFirst (s : State) (pid sl t : Nat) : Bool :=
  !s.cmd.packets.any (fun q e =>
    e.ring == sl && match e.tokensSince with | some u => decide (u < t) || (u == t && decide (q < pid)) | none => false)

/-- A unit of the device drains before a visit or a replacement (R19, R408). -/
def State.draining (s : State) (u : Nat) : Bool := s.rot.draining.contains u

/-- A cluster takes new work: active and not being withdrawn (R237). -/
def State.clusterOpen (s : State) (n : Nat) : Bool :=
  decide (n < 16) && s.fget Fld.BLK_CLUSTER_MAP_role n == 0 && !s.draining (0x20 + n)

/-- The work in a cluster. -/
def State.clusterJobs (s : State) (n : Nat) : List (Nat × BlkJob) := s.blk.jobs.cells.filter (fun e => e.2.cluster == some n)

/-- Lookaside packets in a cluster's queue. -/
def State.lookasideOf (s : State) (n : Nat) : List (Nat × BlkJob) := (s.clusterJobs n).filter (fun e => e.1 % 2 == 0)

/-- Queued lookaside bytes of a cluster. -/
def State.queuedBytes (s : State) (n : Nat) : Nat := (s.lookasideOf n).foldl (fun a e => a + e.2.bytes) 0

/-- The slot of a cluster's register file that holds a key. -/
def State.entryOf (s : State) (n : Nat) (t : KeyTag) : Option (Nat × BlkEntry) :=
  s.blk.files.find? (fun k e => k / 64 == n && e.tag == t && e.loaded)

/-- The slot of a cluster's register file that is a key's, arrived or on its way. -/
def State.slotOf (s : State) (n : Nat) (t : KeyTag) : Option (Nat × BlkEntry) :=
  s.blk.files.find? (fun k e => k / 64 == n && e.tag == t)

/-- Work in a cluster references an entry: it is pinned (R227). -/
def State.pinned (s : State) (n : Nat) (t : KeyTag) : Bool := (s.clusterJobs n).any (fun e => e.2.tag == some t)

/-- A cluster can take a key: it has an entry for it already, or one that is empty or unpinned; an entry that an outstanding miss has taken is pinned (R227). -/
def State.entryFree (s : State) (n : Nat) (t : Option KeyTag) : Bool :=
  decide (s.blk.files.count (fun k _ => k / 64 == n) < 64) || s.blk.files.any (fun k e => k / 64 == n && !s.pinned n e.tag) ||
    match t with
    | some t => (s.slotOf n t).isSome
    | none => false

/-- Among clusters, the one with the fewest queued lookaside bytes, ties to the lower number. -/
def State.fewest (s : State) (l : List Nat) : Option Nat :=
  l.foldl (fun best n => match best with
    | none => some n
    | some b => if s.queuedBytes n < s.queuedBytes b then some n else some b) none

/-- The cluster that a lookaside packet goes to (R237). -/
def State.steer (s : State) (t : Option KeyTag) : Option Nat :=
  let holds := match t with
    | some t => (List.range 16).filter (fun n => s.clusterOpen n && (s.entryOf n t).isSome && decide ((s.lookasideOf n).length < 16))
    | none => []
  match s.fewest holds with
  | some n => some n
  | none => s.fewest ((List.range 16).filter (fun n => s.clusterOpen n && s.entryFree n t))

/-- The work of a cluster is not held by a class 1 response (R238). -/
def State.clusterRuns (s : State) (n : Nat) : Bool := !s.islandHeld (0x20 + n)

/-- The cluster for an inline frame: open and not held (R273), by the order of R237. -/
def State.steerFrame (s : State) (t : Option KeyTag) : Option Nat :=
  let open_ := (List.range 16).filter (fun n => s.clusterOpen n && s.clusterRuns n)
  let holds := match t with | some t => open_.filter (fun n => (s.entryOf n t).isSome) | none => []
  match s.fewest holds with
  | some n => some n
  | none => s.fewest (open_.filter (fun n => s.entryFree n t))

/-- An entry is used now. -/
def State.touch (s : State) (n : Nat) (t : KeyTag) : State :=
  match s.entryOf n t with
  | some (k, e) => { s with blk := { s.blk with files := s.blk.files.insert k { e with used := s.blk.stamp }, stamp := s.blk.stamp + 1 } }
  | none => s

/-- Octets of the hold pool in use (R231). -/
def State.poolUsed (s : State) : Nat := s.blk.jobs.sum (fun _ j => if j.pooled then j.hold else 0)

/-- Packets that wait for the hold pool take space in order (R231). -/
def State.fillPool (s : State) : State :=
  s.blk.jobs.cells.foldl (fun s e =>
    if !e.2.pooled && decide (s.poolUsed + e.2.hold ≤ poolSize) then
      { s with blk := { s.blk with jobs := s.blk.jobs.insert e.1 { e.2 with pooled := true } } }
    else s) s

/-- A miss takes an entry of a register file: an empty one, or the least recently used one that nothing references, whose key is erased (R227); nothing where every entry is pinned. -/
def State.takeEntry (s : State) (n : Nat) (t : KeyTag) : State :=
  let e : BlkEntry := ⟨t, 0, [], [], s.blk.stamp, false⟩
  let put := fun (s : State) (k : Nat) => { s with blk := { s.blk with files := s.blk.files.insert k e, stamp := s.blk.stamp + 1 } }
  match firstFrom (fun k => !s.blk.files.has (64 * n + k)) 64 0 with
  | some k => put s (64 * n + k)
  | none =>
    match s.blk.files.cells.filter (fun e => e.1 / 64 == n && !s.pinned n e.2.tag) with
    | [] => s
    | f :: fs =>
      let v := fs.foldl (fun (a b : Nat × BlkEntry) => if b.2.used < a.2.used then b else a) f
      put (s.bumpSat Fld.BLK_KEY_EVICTS_count 0 1) v.1

/-- Work enters a cluster's queue (R227): the entry that holds its key is used; on a miss an entry is taken for it and the key is requested. -/
def State.place (s : State) (id : Nat) (j : BlkJob) (n : Nat) : State :=
  let enter := fun (s : State) => { s with blk := { s.blk with jobs := s.blk.jobs.insert id { j with cluster := some n } } }
  match j.tag with
  | none => enter s
  | some t => if (s.slotOf n t).isSome then enter (s.touch n t) else enter (s.takeEntry n t)

/-- Packets that wait at their command pair for a cluster, and frames that wait for one, are steered (R237, R273), in order. -/
def State.steerWaiting (s : State) : State :=
  (s.blk.jobs.cells.filter (fun e => e.2.cluster.isNone)).foldl (fun s e =>
    match if e.1 % 2 = 0 then s.steer e.2.tag else s.steerFrame e.2.tag with
    | some n => s.place e.1 e.2 n
    | none => s) s

/-- The tag of a handle (R227). -/
def tagOf (h : Nat) : Option KeyTag := if h = 0 then none else some ⟨hSlice h, hLine h, hGen h⟩

/-- The message body length C of a decrypting packet, and whether it is held (R231). -/
def Packet.holdLen (p : Packet) : Nat :=
  if p.opcode == 0x0202 then
    let c := p.inTotal - p.aad - p.par 1 1
    if c ≤ 65536 then c else 0
  else if p.opcode == 0x020C then p.inTotal - 33
  else 0

/-- A decrypting AEAD packet is streamed (R231). -/
def Packet.streamed (p : Packet) : Bool := p.opcode == 0x0202 && decide (65536 < p.inTotal - p.aad - p.par 1 1)

/-- Octets at the head of a packet's input that are taken in chunks of their own: the AAD of an AEAD packet. -/
def Packet.headLen (p : Packet) : Nat := if p.opcode == 0x0201 || p.opcode == 0x0202 then p.aad else 0

/-- The chunks of a packet's input, of at most 4,096 octets each (R224). -/
def Packet.chunkCount (p : Packet) : Nat := max 1 (ceilDiv p.headLen 4096 + ceilDiv (p.inTotal - p.headLen) 4096)

/-- Work for the clusters that waits for one. -/
def mkBlk (tag : Option KeyTag) (bytes hold stamp chunks : Nat) : BlkJob := ⟨none, tag, bytes, hold, hold == 0, stamp, chunks, 0, 0⟩

/-- Work is handed to the clusters, and steered (R237). -/
def State.addBlk (s : State) (id : Nat) (j : BlkJob) : State :=
  { s with blk := { s.blk with jobs := s.blk.jobs.insert id j, stamp := s.blk.stamp + 1 } }

/-- A packet with its tokens starts (R75): its key is still to be had (R58, R138), then it is steered or waits for a cluster. -/
def State.startSym (s : State) (pid : Nat) (p : Packet) : State :=
  let h := p.symHandle
  if h != 0 && s.wiping then s.fail pid .busyRetry
  else if h != 0 && ((s.resolve h).isNone || s.unloading h) then s.fail pid .rejected
  else
    let s := s.setBucket p.ring (s.bucketLevel p.ring - (p.blocks * 64 * 80 : Nat))
    let s := s.setPacket pid { p with phase := .cluster, start := s.now }
    let s := s.addBlk (2 * pid) (mkBlk (tagOf h) p.inTotal p.holdLen s.blk.stamp p.chunkCount)
    let s := s.countStart p false
    let s := if p.streamed then s.bumpSat Fld.BLK_STREAMED_count 0 1 else s
    s.fillPool.steerWaiting

/-- TOKEN_BUCKET_START: a packet that waits for tokens starts when it is its turn and the level is zero or more (R75). -/
def execTokenBucketStart (dt pid : Nat) (s : State) : Host.Outcome State Fault Refusal :=
  let s := s.tick dt
  match s.cmd.packets.get? pid with
  | none => .next s
  | some p =>
    match p.tokensSince with
    | none => .next s
    | some t =>
      if s.tokensFirst pid p.ring t && decide (0 ≤ s.bucketLevel p.ring) then .next (s.startSym pid p) else .next s

/-- Zeros over the first `n` octets of a packet's output area (R232). -/
def State.zeroFill (s : State) (p : Packet) (n : Nat) : State := s.writeOut p (zeros n)

/-- A job leaves the clusters; the pool and the queues take what waits. -/
def State.dropBlk (s : State) (id : Nat) : State :=
  (({ s with blk := { s.blk with jobs := s.blk.jobs.erase id } }).fillPool).steerWaiting

/-! The chunk sequencer -/

/-- The key of a job in a cluster, if it has arrived; the empty key where the job has none. -/
def State.blkKey (s : State) (n : Nat) (j : BlkJob) : Option (Bytes × Nat) :=
  match j.tag with
  | none => some ([], 0)
  | some t => (s.entryOf n t).map (fun e => (e.2.key, e.2.typ))

/-- Octets of output that a packet has produced after `k` of its chunks, where it writes them as they are produced (R231, R234): the text of a streamed packet, of a seal, and of XTS, whose stolen block comes with the last chunk. -/
def Packet.producedAt (p : Packet) (k : Nat) : Nat :=
  let b := 4096 * (k - ceilDiv p.headLen 4096)
  match p.opcode with
  | 0x0201 => min b (p.inTotal - p.aad)
  | 0x0202 => if p.streamed then min b (p.inTotal - p.aad - p.par 1 1) else 0
  | 0x0203 => if k < p.chunkCount && p.inTotal < b + 16 then b - 16 else min b p.inTotal
  | 0x0204 => if k < p.chunkCount && p.inTotal < b + 16 then b - 16 else min b p.inTotal
  | _ => 0

/-- The host has refused a write of the output (R49). -/
def Packet.outStopped (p : Packet) (j : BlkJob) : Bool := match p.data.outFail with | some n => decide (n < p.producedAt j.done) | none => false

/-- A packet's job in a cluster can give a chunk: its input came, its plaintext has space, its key is there, chunks are left, and no hold covers the path of its output (R238, R389). -/
def State.chunkReady (s : State) (n : Nat) (e : Nat × BlkJob) : Bool :=
  decide (e.2.done < e.2.chunks) && e.2.pooled && (s.blkKey n e.2).isSome &&
    (e.1 % 2 == 1 || match s.cmd.packets.get? (e.1 / 2) with | some p => !p.data.refused && !p.outStopped e.2 && !s.gateHeld p | none => false)

/-- The first of some work by its stamp. -/
def oldest (l : List (Nat × BlkJob)) : Option (Nat × BlkJob) :=
  l.foldl (fun best e => match best with
    | none => some e
    | some b => if e.2.stamp < b.2.stamp then some e else some b) none

/-- The next chunk of the inline queue of a cluster. -/
def State.inlineChunk (s : State) (n : Nat) : Option (Nat × BlkJob) :=
  oldest ((s.clusterJobs n).filter (fun e => e.1 % 2 == 1 && s.chunkReady n e))

/-- The packets of a cluster that are interleaved: the sixteen oldest with chunks left (R224, R236). -/
def State.interleaved (s : State) (n : Nat) : List (Nat × BlkJob) :=
  (((s.lookasideOf n).filter (fun e => decide (e.2.done < e.2.chunks))).mergeSort (fun a b => decide (a.2.stamp ≤ b.2.stamp))).take 16

/-- The next chunk of the lookaside queue: round-robin, one chunk each (R236). -/
def State.lookasideChunk (s : State) (n : Nat) : Option (Nat × BlkJob) :=
  let l := (s.interleaved n).filter (s.chunkReady n)
  match oldest (l.filter (fun e => decide (s.blk.turn.getD n 0 < e.2.stamp))) with
  | some e => some e
  | none => oldest l

/-- The chunks of the last 4,096 cycles of a cluster, 2,731 ns at 1.5 GHz (R236). -/
def State.recentChunks (s : State) (n : Nat) : List ChunkUse :=
  (s.blk.recent.getD n []).filter (fun c => decide (s.now < c.time + 2731))

/-- Lookaside chunks have used less than their floor of the input cycles of the last 4,096 cycles (R236). -/
def State.belowFloor (s : State) (n : Nat) : Bool :=
  let l := s.recentChunks n
  let all := l.foldl (fun a c => a + c.cycles) 0
  let la := l.foldl (fun a c => if c.lookaside then a + c.cycles else a) 0
  decide (la * 256 < s.fget Fld.BLK_ARB_la_floor 0 * all)

/-- The chunk that the sequencer of a cluster takes next (R236). -/
def State.nextChunk (s : State) (n : Nat) : Option (Nat × BlkJob) :=
  if s.clusterRuns n then
    match s.inlineChunk n, s.lookasideChunk n with
    | some f, some p => if s.belowFloor n then some p else some f
    | some f, none => some f
    | none, p => p
  else none

/-- As many chunks as fill a number of cycles, newest first. -/
def trimChunks : Nat → List ChunkUse → List ChunkUse
  | _, [] => []
  | b, c :: l => if b ≤ c.cycles then [c] else c :: trimChunks (b - c.cycles) l

/-- Input octets of a job's next chunk. -/
def chunkOctets (j : BlkJob) : Nat := min 4096 (j.bytes - 4096 * j.done)

/-- What a lookaside packet makes: its status, its output, how many octets are zeroed on a failed tag (R232), and its `result`. -/
structure SymRes where
  status : Status
  out : Bytes
  zero : Nat
  result : Nat

/-- A result with an output. -/
def SymRes.good (out : Bytes) : SymRes := ⟨.done, out, 0, 0⟩

/-- A tag decision without output (R234). -/
def SymRes.verdict (ok : Bool) : SymRes := ⟨if ok then .done else .authFailed, [], 0, 0⟩

/-- AEAD_SEAL: ciphertext and tag. -/
def workSeal (p : Packet) (key : Bytes) : Option SymRes :=
  (aeadAlgs (p.par 0 0)).map (fun (st, tg) =>
    let nonce := slice p.params 4 12
    let ct := aeadCrypt st key nonce (p.input.drop p.aad)
    SymRes.good (ct ++ aeadTag tg key nonce (p.input.take p.aad) ct (p.par 1 1)))

/-- AEAD_OPEN: the plaintext where the tag passes; zeros over C octets otherwise (R232). -/
def workOpen (p : Packet) (key : Bytes) : Option SymRes :=
  (aeadAlgs (p.par 0 0)).map (fun (st, tg) =>
    let nonce := slice p.params 4 12
    let n := p.par 1 1
    let c := p.inTotal - p.aad - n
    let ct := slice p.input p.aad c
    if aeadTag tg key nonce (p.input.take p.aad) ct n = p.input.drop (p.aad + c) then SymRes.good (aeadCrypt st key nonce ct)
    else ⟨.authFailed, aeadCrypt st key nonce ct, c, 0⟩)

/-- The nonce of a TLS record (R230). -/
def tlsNonce (p : Packet) : Bytes := xorBytes (p.input.take 12) (zeros 4 ++ natBE 8 (p.par 8 15))

/-- TLS_PROTECT (R230). -/
def workProtect (p : Packet) (key : Bytes) : Option SymRes :=
  match tlsSuite (p.par 0 0) with
  | none => none
  | some (mode, _) =>
    (aeadAlgs mode).map (fun (st, tg) =>
      let inner := p.input.drop 12 ++ natLE 1 (p.par 1 1)
      let head := natBE 1 0x17 ++ natBE 2 0x0303 ++ natBE 2 (inner.length + 16)
      let ct := aeadCrypt st key (tlsNonce p) inner
      SymRes.good (head ++ ct ++ aeadTag tg key (tlsNonce p) head ct 16))

/-- The content of an inner plaintext and its type: zero padding and the type octet removed; none where every octet is zero. -/
def tlsContent (b : Bytes) : Option (Bytes × Nat) :=
  match b.reverse.dropWhile (· == 0) with
  | [] => none
  | t :: r => some (r.reverse, t.toNat)

/-- TLS_UNPROTECT (R230, R232). -/
def workUnprotect (p : Packet) (key : Bytes) : Option SymRes :=
  match tlsSuite (p.par 0 0) with
  | none => none
  | some (mode, _) =>
    (aeadAlgs mode).map (fun (st, tg) =>
      let r := tlsRecord p
      let ct := (r.drop 5).take (r.length - 21)
      if aeadTag tg key (tlsNonce p) (r.take 5) ct 16 = r.drop (r.length - 16) then
        match tlsContent (aeadCrypt st key (tlsNonce p) ct) with
        | some (c, t) => if c.length ≤ 16384 then ⟨.done, c, 0, t⟩ else ⟨.rejected, [], 0, 0⟩
        | none => ⟨.rejected, [], 0, 0⟩
      else ⟨.authFailed, [], min p.capacity (r.length - 5), 0⟩)

/-- What a lookaside packet makes under its key (empty where it has none). -/
def symWork (p : Packet) (key : Bytes) : Option SymRes :=
  let m := p.input
  match p.opcode with
  | 0x0201 => workSeal p key
  | 0x0202 => workOpen p key
  | 0x0203 => some (.good (fitLen m.length (Config.prim .xtsEncrypt [key, p.params, m])))
  | 0x0204 => some (.good (fitLen m.length (Config.prim .xtsDecrypt [key, p.params, m])))
  | 0x0205 => some (.good (fitLen (p.par 0 0) (Config.prim .aesCmac [key, m])))
  | 0x0206 =>
    let c := m.length - p.par 0 0
    some (.verdict (fitLen (p.par 0 0) (Config.prim .aesCmac [key, m.take c]) = m.drop c))
  | 0x0207 => (hashAlg (p.par 0 0)).map (fun (a, _) => .good (fitLen (hashLen p) (Config.prim a [m])))
  | 0x0208 => (hmacAlg (p.par 0 0)).map (fun (a, _, _) => .good (fitLen (p.par 1 1) (Config.prim a [key, m])))
  | 0x0209 =>
    let c := m.length - p.par 1 1
    (hmacAlg (p.par 0 0)).map (fun (a, _, _) => .verdict (fitLen (p.par 1 1) (Config.prim a [key, m.take c]) = m.drop c))
  | 0x020A =>
    (hkdfAlg (p.par 0 0)).map (fun (a, _) =>
      let n := p.par 2 3
      let i := p.par 4 5
      .good (fitLen p.capacity (Config.prim a [m.take n, slice m n i, m.drop (n + i), natBE 4 p.capacity])))
  | 0x020B => workProtect p key
  | 0x020C => workUnprotect p key
  | _ => none

/-- The output that a chunk of a packet produces is written, as far as the host takes it: how much of the output is written then (R231, R234). -/
def State.writeChunk (s : State) (p : Packet) (key : Bytes) (j : BlkJob) (k : Nat) : State × Nat :=
  let up := p.producedAt k
  let lim := match p.data.outFail with | some n => min n up | none => up
  if j.written < lim then
    match symWork p key with
    | some r => (s.writePart p j.written (slice r.out j.written (lim - j.written)), lim)
    | none => (s, j.written)
  else (s, j.written)

/-- A chunk is processed (R236): the sequencer's record of it, its count, and the output that it produces. -/
def State.takeChunk (s : State) (n : Nat) (e : Nat × BlkJob) : State :=
  let la := e.1 % 2 == 0
  let use : ChunkUse := ⟨s.now, la, ceilDiv (chunkOctets e.2) 16⟩
  let s := (s.pmc (0x020 + n) 1)
  let s := { s with blk := { s.blk with
    recent := s.blk.recent.insert n (trimChunks 4096 (use :: s.recentChunks n))
    turn := if la then s.blk.turn.insert n e.2.stamp else s.blk.turn } }
  let (s, w) := match s.cmd.packets.get? (e.1 / 2), s.blkKey n e.2, la with
    | some p, some (key, _), true => s.writeChunk p key e.2 (e.2.done + 1)
    | _, _, _ => (s, e.2.written)
  { s with blk := { s.blk with jobs := s.blk.jobs.insert e.1 { e.2 with done := e.2.done + 1, written := w } } }

/-- The sequencer of a cluster takes one chunk, if there is one. -/
def State.sequence (s : State) (n : Nat) : State :=
  match s.nextChunk n with
  | some e => s.takeChunk n e
  | none => s

/-- Every chunk of a job has been processed. -/
def State.chunksDone (s : State) (id : Nat) : Bool := match s.blk.jobs.get? id with | some j => decide (j.chunks ≤ j.done) | none => false

/-- A cluster works, in the order of its sequencer, until the chunks of a job are processed. -/
def State.sequenceUntil (s : State) (n id : Nat) : Nat → State
  | 0 => s
  | k + 1 => if s.chunksDone id then s else (s.sequence n).sequenceUntil n id k

/-- Chunks left in a cluster. -/
def State.chunksLeft (s : State) (n : Nat) : Nat := (s.clusterJobs n).foldl (fun a e => a + (e.2.chunks - e.2.done)) 0

/-- A cluster works on a job until its last chunk. -/
def State.workOn (s : State) (n id : Nat) : State := s.sequenceUntil n id (s.chunksLeft n)

/-- Every cluster takes its next chunk. -/
def State.clustersWork (s : State) : State := (List.range 16).foldl State.sequence s

/-! Results -/

/-- Typ energy in tenths of pJ per bit of an AEAD mode with a key type (R243). -/
def aeadEnergy (mode t : Nat) : Nat :=
  match mode with
  | 1 => if t = 1 then 44 else 46
  | 2 => 78
  | _ => 52

/-- Typ energy in tenths of pJ per bit of a hash code (R243). -/
def hashEnergy : Nat → Nat
  | 0x01 => 95
  | 0x11 => 61
  | 0x12 => 80
  | 0x13 => 115
  | 0x21 => 49
  | 0x22 => 61
  | _ => 60

/-- Typ energy in tenths of pJ per bit of a packet (R243). -/
def symEnergy (p : Packet) (t : Nat) : Nat :=
  match p.opcode with
  | 0x0201 => aeadEnergy (p.par 0 0) t
  | 0x0202 => aeadEnergy (p.par 0 0) t
  | 0x0203 => if t = 3 then 42 else 44
  | 0x0204 => if t = 3 then 42 else 44
  | 0x0205 => 78
  | 0x0206 => 78
  | 0x0207 => hashEnergy (p.par 0 0)
  | 0x020B => match tlsSuite (p.par 0 0) with | some (m, k) => aeadEnergy m k | none => 0
  | 0x020C => match tlsSuite (p.par 0 0) with | some (m, k) => aeadEnergy m k | none => 0
  | _ => hashEnergy (p.par 0 0)

/-- nJ of a number of blocks at a coefficient in tenths of pJ per bit: 8 × 64 × blocks × coefficient (R440). -/
def blockEnergy (tenths blocks : Nat) : Nat := tenths * 512 * blocks / 10000

/-- The completion of a lookaside packet with its result (R52, R232): what it has not yet written of its output, or the zero-fill. -/
def State.finishSym (s : State) (pid : Nat) (p : Packet) (t written : Nat) (r : SymRes) : State :=
  let e := blockEnergy (symEnergy p t) p.blocks
  let paid := r.status == .done || r.status == .authFailed
  let n := if paid then p.blocks else 0
  let s := if r.status == .done then s.writePart p written (r.out.drop written) else s
  let s := s.zeroFill p r.zero
  let s := if r.status == .authFailed then s.bumpSat Fld.BLK_AUTH_FAIL_count 0 1 else s
  s.complete pid ⟨r.status, .none, s.now, if r.status == .done then r.out.length else 0, if n = 0 then 0 else 2, n,
    if r.status == .done then r.result else 0, e⟩

/-- The host refused a transfer of the packet (R49): zeros over the octets that it had taken, then REJECTED. -/
def State.rejectSym (s : State) (pid : Nat) (p : Packet) (written : Nat) : State :=
  (s.zeroFill p written).complete pid (Compl.plain .rejected s.now)

/-- The result of a packet whose chunks are processed, as the host takes its output (R49, R232). -/
def State.decideSym (s : State) (pid : Nat) (p : Packet) (t written : Nat) (r : SymRes) : State :=
  match r.status, p.refusesOut r.out with
  | .done, some n => (s.writePart p written (slice r.out written (n - written))).rejectSym pid p (max written n)
  | _, _ => s.finishSym pid p t written r

/-- A message has been hashed: its public-key job waits for dispatch (R206). -/
def State.hashEnds (s : State) (pid : Nat) : State :=
  match s.pke.jobs.get? pid with
  | some j => if j.at_ == .hashing then s.setJob pid { j with at_ := .pending } else s
  | none => s

/-- The end of a packet's work in a cluster, all its chunks processed or its transfer refused. -/
def State.blkEnds (s : State) (pid n : Nat) (j : BlkJob) (p : Packet) : State :=
  if (s.pke.jobs.get? pid).isSome then
    if j.chunks ≤ j.done then (s.hashEnds pid).dropBlk (2 * pid) else s
  else if p.data.refused || p.outStopped j then (s.rejectSym pid p j.written).dropBlk (2 * pid)
  else
    match s.blkKey n j with
    | some (key, t) =>
      if j.chunks ≤ j.done then
        ((s.pmc (0x030 + n) p.blocks).decideSym pid p t j.written ((symWork p key).getD ⟨.rejected, [], 0, 0⟩)).dropBlk (2 * pid)
      else s
    | none => s

/-- A cluster works until it has processed a packet; the tag decision, any zero-fill and the completion follow (R232, R236, R240). A class 1 hold of the cluster or of the completion's path keeps it (R238). -/
def State.lookasideEnds (s : State) (pid : Nat) : State :=
  match s.blk.jobs.get? (2 * pid), s.cmd.packets.get? pid with
  | some j, some p =>
    match j.cluster with
    | none => s
    | some n =>
      if !s.clusterRuns n || s.gateHeld p then s
      else
        let s := s.workOn n (2 * pid)
        s.blkEnds pid n ((s.blk.jobs.get? (2 * pid)).getD j) p
  | _, _ => s

/-- A key arrives in the entry that its miss has taken, with the values derived from it (R227). -/
def State.loadEntry (s : State) (n : Nat) (t : KeyTag) (typ : Nat) (key : Bytes) : State :=
  match s.slotOf n t with
  | some (k, e) =>
    let e := { e with
      typ := typ, key := key, loaded := true, used := s.blk.stamp
      derived := if typ == 6 || typ == 7 then Config.prim .hmacStates [key]
        else if typ == 1 || typ == 2 then fitLen 16 (Config.prim .ghashKey [key]) else [] }
    ({ s with blk := { s.blk with files := s.blk.files.insert k e, stamp := s.blk.stamp + 1 } }).bumpSat Fld.BLK_KEY_LOADS_count 0 1
  | none => s

/-- The entry that a miss has taken is free again: its key does not come. -/
def State.untake (s : State) (n line : Nat) : State :=
  { s with blk := { s.blk with files := s.blk.files.filter (fun k e => k / 64 != n || e.loaded || e.tag.line != line) } }

/-- Lookaside packets in a cluster that wait for a key complete with a status. -/
def State.failWaiting (s : State) (n line : Nat) (st : Status) : State :=
  ((s.lookasideOf n).filter (fun e => match e.2.tag with | some t => t.line == line && (s.entryOf n t).isNone | none => false)).foldl
    (fun s e => (s.fail (e.1 / 2) st).dropBlk e.1) (s.untake n line)

/-- Work in a cluster waits for a key of a line: its tag. -/
def State.missOn (s : State) (n line : Nat) : Option KeyTag :=
  (s.clusterJobs n).findSome? (fun e => match e.2.tag with
    | some t => if t.line == line && (s.entryOf n t).isNone then some t else none
    | none => none)

/-- A packet in a cluster completes with FAULTED, what it has written zeroed (R238, R239); its space in the pool goes to what waits. -/
def State.faultSym (s : State) (id : Nat) : State :=
  let written := match s.blk.jobs.get? id with | some j => j.written | none => 0
  let s := (({ s with blk := { s.blk with jobs := s.blk.jobs.erase id } } : State)).fillPool
  match s.pke.jobs.get? (id / 2), s.cmd.packets.get? (id / 2) with
  | some j, _ => s.jobFaults (id / 2) j
  | none, some p => (s.zeroFill p written).fail (id / 2) .faulted
  | none, none => s

/-- A packet in a cluster is to be steered again (R239, R409). -/
def State.unsteer (s : State) (id : Nat) (j : BlkJob) : State :=
  { s with blk := { s.blk with jobs := s.blk.jobs.insert id { j with cluster := none } } }

/-- A fault check on a cluster (R239, R241): a packet with a chunk processed completes with FAULTED, any other is steered again; the register file is erased as the cluster is withdrawn (R227). -/
def State.clusterFault (s : State) (n : Nat) : State :=
  let s := (s.lookasideOf n).foldl (fun s e => if e.2.done = 0 then s.unsteer e.1 e.2 else s.faultSym e.1) s
  { s with blk := { s.blk with files := s.blk.files.filter (fun k _ => k / 64 != n) } }

/-- Packets with a key that wait for tokens complete with FAULTED: their keys are destroyed (R138). -/
def State.tokensErased (s : State) : State :=
  s.cmd.packets.cells.foldl (fun s e => if e.2.tokensSince.isSome && e.2.symHandle != 0 then s.fail e.1 .faulted else s) s

/-- A class 2 or class 3 response in the clusters (R238): every register file is erased; packets in a cluster complete with FAULTED, waiting packets whose keys are destroyed too; a keyless packet without a chunk processed runs after the erase. -/
def State.blkErase (s : State) : State :=
  let s := { s with blk := { s.blk with files := .empty } }
  let s := s.bumpSat Fld.BLK_ERASE_count 0 1
  let s := (s.blk.jobs.cells.filter (fun e => e.1 % 2 == 0 && (e.2.tag.isSome || e.2.done != 0))).foldl (fun s e => s.faultSym e.1) s
  s.tokensErased.steerWaiting

/-- A wipe of the whole key cache meets the commands that use its keys (R137, R138): packets with a key that wait for tokens, for a core or for its delivery to a cluster, and those that a cluster processes under it, complete with FAULTED. -/
def State.wipeUses (s : State) : State :=
  let s := s.pke.jobs.cells.foldl (fun s e =>
    let waits := match e.2.at_ with | .hashing => true | .pending => true | .assigned _ => true | _ => false
    if waits && e.2.handle != 0 then s.jobFaults e.1 e.2 else s) s
  let s := (s.blk.jobs.cells.filter (fun e => e.1 % 2 == 0 && e.2.tag.isSome)).foldl (fun s e => s.faultSym e.1) s
  s.tokensErased.steerWaiting

end Sys2Proof.Machine
end

