-- ==== Sys2Proof/Machine/Tables.lean ====
section
/-! DEFINITION. Table memory (R274 to R296): the mixing function, the SA index table, the policy table, the flow cache banks with learning and aging, and the table opcodes. Log entries of this file: DEDUCED 96; DESIGN CHOICE 45, 98, 239. -/

namespace Sys2Proof.Machine

/-- The keyed mixing function (R275). -/
def mix (k0 k1 seed : Nat) : Nat :=
  let x : BitVec 64 := (BitVec.ofNat 64 k0 ^^^ BitVec.ofNat 64 seed) * 0x9E3779B97F4A7C15#64
  let x := (x ^^^ BitVec.ofNat 64 k1) * 0xC2B2AE3D27D4EB4F#64
  (x ^^^ (x >>> 29)).toNat

/-- The positions of a list that are not in `seen`, each once. -/
def unseen (seen : List Nat) : List Nat → List Nat
  | [] => []
  | p :: l => if seen.contains p then unseen seen l else p :: unseen (p :: seen) l

/-- Breadth-first search for a free position (R278): `q` holds the paths to be followed, each from its last position back to a candidate of the new item; `seen` the positions on any path. -/
def searchPath (occ : Nat → Option Nat) (cands : Nat → List Nat) : Nat → List Nat → List (List Nat) → Option (List Nat)
  | fuel + 1, seen, (p :: path) :: q =>
    match occ p with
    | none => some (p :: path)
    | some i =>
      let new := unseen seen (cands i)
      searchPath occ cands fuel (new ++ seen) (q ++ new.map (fun r => r :: p :: path))
  | _, _, _ => none

/-- A path of table positions from a free one back to a candidate of a new item, breadth first and of any depth (R278): `occ` gives the item at a position, `cands` the positions of an item. A search meets each of the `n` items at most once. -/
def findPath (occ : Nat → Option Nat) (cands : Nat → List Nat) (n : Nat) (start : List Nat) : Option (List Nat) :=
  let first := unseen [] start
  searchPath occ cands (n + 1) first (first.map (fun p => [p]))

/-- A sparse table with every item of a path moved one place on, the last into the free position: copies before clears (R278). -/
def shiftPath {α : Type} (m : NMap α) : List Nat → NMap α
  | free :: p :: path =>
    match m.get? p with
    | some v => shiftPath (m.insert free v) (p :: path)
    | none => shiftPath m (p :: path)
  | _ => m

/-- The positions of the SA index table: 163,840 buckets of 8 entries (R274). -/
def idxSize : Nat := 1310720

/-- The positions of the policy table: 16,384 buckets of 4 slots (R274). -/
def polSize : Nat := 65536

/-- The seeds of TM (R275). -/
def State.seedI0 (s : State) : Nat := s.tbl.seeds[0]
def State.seedI1 (s : State) : Nat := s.tbl.seeds[1]
def State.seedP0 (s : State) : Nat := s.tbl.seeds[2]
def State.seedP1 (s : State) : Nat := s.tbl.seeds[3]
def State.seedF (s : State) : Nat := s.tbl.seeds[4]

/-- Kinds of SA (R261). -/
def macIn : Nat := 1
def macOut : Nat := 2
def espIn : Nat := 3
def espOut : Nat := 4

/-- A MACsec kind. -/
def isMac (k : Nat) : Bool := k == macIn || k == macOut

/-- An inbound kind. -/
def isIn (k : Nat) : Bool := k == macIn || k == espIn

/-- The second key word of the SA index table (R275): protocol and AN. -/
def idxKey1 (mac : Bool) (an : Nat) : Nat := b2n mac * 4 + (if mac then an else 0)

/-- The two candidate buckets of an index key, as positions in examination order (R275, R277). -/
def State.idxCands (s : State) (k0 k1 : Nat) : List Nat :=
  let b := fun seed => ((mix k0 k1 seed >>> 32) * 163840) >>> 32
  (List.range 8).map (fun e => 8 * b s.seedI0 + e) ++ (List.range 8).map (fun e => 8 * b s.seedI1 + e)

/-- The tag of an index key (R275). -/
def State.idxTag (s : State) (k0 k1 : Nat) : Nat := (mix k0 k1 s.seedI0 % 2 ^ 32) % 4095 + 1

/-- The candidate positions of the SA with a head context. -/
def State.idxCandsOf (s : State) (head : Nat) : List Nat :=
  match s.tbl.sas.get? head with
  | some a => s.idxCands a.ident (idxKey1 (isMac a.kind) a.an)
  | none => []

/-- The index entry of an inbound SA is inserted (R278). Placement always succeeds: where the seeds leave no path at all, the entry lies beyond the buckets, at its head context's own position (DESIGN CHOICE 239). -/
def State.idxInsert (s : State) (head : Nat) : State :=
  match s.tbl.sas.get? head with
  | none => s
  | some a =>
    let k1 := idxKey1 (isMac a.kind) a.an
    let occ := fun p => (s.tbl.idx.get? p).map (fun v => v % 2 ^ 20)
    let path := (findPath occ s.idxCandsOf s.tbl.idx.cells.length (s.idxCands a.ident k1)).getD [idxSize + head]
    let m := shiftPath s.tbl.idx path
    { s with tbl := { s.tbl with idx := m.insert (path.getLastD 0) (s.idxTag a.ident k1 * 2 ^ 20 + head) } }

/-- The index entry of an SA is removed. -/
def State.idxRemove (s : State) (head : Nat) : State :=
  { s with tbl := { s.tbl with idx := s.tbl.idx.filter (fun _ v => v % 2 ^ 20 != head) } }

/-- The positions that a lookup of the index table reads, in order (R277): the two candidate buckets, then what lies beyond the buckets (DESIGN CHOICE 239). -/
def State.idxReads (s : State) (k0 k1 : Nat) : List Nat := s.idxCands k0 k1 ++ s.tbl.idx.keys.filter (fun p => idxSize ≤ p)

/-- The inbound SA that a frame's key finds in the index table (R277). -/
def State.idxFind (s : State) (mac : Bool) (ident an : Nat) : Option Nat :=
  let k1 := idxKey1 mac an
  let tag := s.idxTag ident k1
  (s.idxReads ident k1).findSome? (fun p =>
    match s.tbl.idx.get? p with
    | none => none
    | some v =>
      if v / 2 ^ 20 == tag then
        match s.tbl.sas.get? (v % 2 ^ 20) with
        | some a =>
          if isIn a.kind && isMac a.kind == mac && a.ident == ident && (!mac || a.an == an) then some (v % 2 ^ 20) else none
        | none => none
      else none)

/-- The generation of a head context (R265): under the rule of R109. -/
def State.saGen (s : State) (head : Nat) : Nat := (Config.genStart s.ks.genEpoch (2 ^ 20 + head) + s.tbl.saFrees.getD head 0) % 4096

/-- An SA identifier (R265). -/
def mkSaId (slice gen head : Nat) : Nat := slice * 2 ^ 52 + gen * 2 ^ 40 + head

/-- The identifier of the SA with a head context. -/
def State.saIdOf (s : State) (head : Nat) : Nat :=
  match s.tbl.sas.get? head with
  | some a => mkSaId a.slice (s.saGen head) head
  | none => 0

/-- The SA that an identifier names for a slice (R265): its head context. -/
def State.saOfId (s : State) (slice id : Nat) : Option (Nat × SaCtx) :=
  let head := id % 2 ^ 20
  match s.tbl.sas.get? head with
  | some a => if a.slice == slice && mkSaId slice (s.saGen head) head == id then some (head, a) else none
  | none => none

/-- The pair is in the port mode (R244). -/
def State.pairOk (s : State) (k : Nat) : Bool := decide (k < s.ports / 2)

/-- The configuration of a pair; pair 0 is MACSEC with side A clear in the default configuration (R373). -/
def State.pairCfg (s : State) (k : Nat) : PairCfg := s.pairs.getD k ⟨false, false⟩

/-- The map entry of a pair and VLAN (none: untagged), with its map index (R246). -/
def State.mapEntry (s : State) (pair : Nat) (vlan : Option Nat) : Option (Nat × MapEntry) :=
  s.tbl.map.find? (fun _ m => m.pair == pair && m.vlan == vlan)

/-- A VLAN ID as blocks carry it: none for untagged. -/
def vlanOf (n untagged : Nat) : Option Nat := if n = untagged then none else some n

/-- The 64-bit key word of a destination (R275): IPv4 in bits [63:32], IPv6 its first 64 bits. -/
def dstWord (family : Nat) (dst : Bytes) : Nat :=
  if family = 4 then fieldBE dst 0 4 * 2 ^ 32 else fieldBE (fitLen 8 dst) 0 8

/-- A key word cut to a prefix length. -/
def cutWord (w len : Nat) : Nat := w / 2 ^ (64 - len) * 2 ^ (64 - len)

/-- The second key word of the policy table (R275). -/
def polKey1 (index family len : Nat) : Nat := index + b2n (family == 6) * 2 ^ 14 + len * 2 ^ 16

/-- The candidate slots of a policy key (R275). -/
def State.polCands (s : State) (k0 k1 : Nat) : List Nat :=
  let b := fun seed => mix k0 k1 seed >>> 50
  (List.range 4).map (fun e => 4 * b s.seedP0 + e) ++ (List.range 4).map (fun e => 4 * b s.seedP1 + e)

/-- The key words of a policy. -/
def Policy.k0 (p : Policy) : Nat := dstWord p.family p.prefix_
def Policy.k1 (p : Policy) : Nat := polKey1 p.index p.family p.len

/-- The generation of a policy slot (R279). -/
def State.polGen (s : State) (slot : Nat) : Nat :=
  (Config.genStart s.ks.genEpoch (2 ^ 21 + slot) + s.tbl.polFrees.getD slot 0) % 4096

/-- A policy identifier (R279). -/
def State.polId (s : State) (slice slot : Nat) : Nat := slice * 2 ^ 52 + s.polGen slot * 2 ^ 40 + slot

/-- The length mask of a map entry for a family (R274, R280). -/
def State.lengthUsed (s : State) (index family len : Nat) : Bool :=
  s.tbl.pols.any (fun _ p => p.index == index && p.family == family && p.len == len)

/-- The two filter bits of a key (R275). -/
def State.filterBits (s : State) (k0 k1 : Nat) : Nat × Nat :=
  let x := mix k0 k1 s.seedF
  (x >>> 49, (x >>> 32) % 2 ^ 15)

/-- A bit of the length filter of a family and length: set while a policy sets it (R280). -/
def State.filterBit (s : State) (family len b : Nat) : Bool :=
  s.tbl.pols.any (fun _ p => p.family == family && p.len == len &&
    ((s.filterBits p.k0 p.k1).1 == b || (s.filterBits p.k0 p.k1).2 == b))

/-- The length filter reports a length as possibly present (R280, R281). -/
def State.filterPasses (s : State) (index family len k0 : Nat) : Bool :=
  let (a, b) := s.filterBits (cutWord k0 len) (polKey1 index family len)
  s.filterBit family len a && s.filterBit family len b

/-- A probe of the policy table (R281): the policy of a length that matches. -/
def State.probe (s : State) (index family len k0 : Nat) : Option (Nat × Policy) :=
  let k := cutWord k0 len
  let cs := s.polCands k (polKey1 index family len)
  s.tbl.pols.find? (fun _ p => (cs.contains p.place || decide (polSize ≤ p.place)) && p.index == index && p.family == family && p.len == len && p.k0 == k)

/-- The table path of a policy lookup: the longest match (R281). -/
def State.tableLookup (s : State) (index family k0 : Nat) : Option (Nat × Policy) :=
  let top := if family = 4 then 32 else 64
  ((List.range (top + 1)).reverse).findSome? (fun len =>
    if s.lengthUsed index family len && s.filterPasses index family len k0 then s.probe index family len k0 else none)

/-- Outcome codes of a kind P entry (R286). -/
def outcomeProtect : Nat := 0
def outcomeBypass : Nat := 1
def outcomeDiscard : Nat := 2
def outcomeNone : Nat := 3

/-- The key words of a kind P entry (R275, R286). -/
def keyP (index family k0 : Nat) : Nat × Nat := (k0, 1 * 2 ^ 59 + index * 2 + b2n (family == 6))

/-- The key words of a kind S entry. -/
def keyS (pair : Nat) (mac : Bool) (an ident : Nat) : Nat × Nat :=
  (ident, 2 * 2 ^ 59 + pair * 2 ^ 24 + b2n mac * 2 ^ 23 + (if mac then an else 0))

/-- The key words of a kind X entry. -/
def keyX (gen head family k0 : Nat) : Nat × Nat :=
  (k0, 3 * 2 ^ 59 + (gen * 2 ^ 20 + head) * 2 ^ 27 + b2n (family == 6) * 2 ^ 26)

/-- The slot of a key in way `w` of a bank (R275). -/
def State.waySlot (s : State) (b w k0 k1 : Nat) : Nat :=
  524288 * b + 131072 * w + (mix k0 k1 (s.tbl.ways.toList.getD (4 * b + w) 0) >>> 47)

/-- Where a bank holds a key: a way slot, or a stash position (R291). -/
inductive BankPos where
  | way (k : Nat)
  | stash (k : Nat)
deriving DecidableEq, Repr

/-- The entry holds the key. -/
def FlowEntry.holds (e : FlowEntry) (k0 k1 : Nat) : Bool := e.k0 == k0 && e.k1 == k1

/-- The entry of a key in a bank: the four ways, together with the stash (R287, R291). -/
def State.bankFind (s : State) (b k0 k1 : Nat) : Option (BankPos × FlowEntry) :=
  match (List.range 4).findSome? (fun w =>
      let k := s.waySlot b w k0 k1
      match s.tbl.bank.get? k with
      | some e => if e.holds k0 k1 then some (BankPos.way k, e) else none
      | none => none) with
  | some r => some r
  | none => (s.tbl.stash.find? (fun k e => k / 64 == b && e.holds k0 k1)).map (fun (k, e) => (BankPos.stash k, e))

/-- An entry of a bank is written. -/
def State.putEntry (s : State) (p : BankPos) (e : FlowEntry) : State :=
  match p with
  | .way k => { s with tbl := { s.tbl with bank := s.tbl.bank.insert k e } }
  | .stash k => { s with tbl := { s.tbl with stash := s.tbl.stash.insert k e } }

/-- An entry of a bank is removed. -/
def State.dropEntry (s : State) (p : BankPos) : State :=
  match p with
  | .way k => { s with tbl := { s.tbl with bank := s.tbl.bank.erase k } }
  | .stash k => { s with tbl := { s.tbl with stash := s.tbl.stash.erase k } }

/-- A lookup hits an entry: `hit` set, `strike` cleared, counted (R294). -/
def State.bankHit (s : State) (b : Nat) (p : BankPos) (e : FlowEntry) : State :=
  ((s.putEntry p { e with hit := true, strike := false }).bumpSat Fld.TBL_FC_HITS_count b 1).pmc (0x094 + b) 1

/-- A lookup takes the table path, counted. -/
def State.bankMiss (s : State) (b : Nat) : State := (s.bumpSat Fld.TBL_FC_MISSES_count b 1).pmc (0x098 + b) 1

/-- The learn queue of a bank. -/
def State.learnQueue (s : State) (b : Nat) : List FlowEntry := s.tbl.learn.getD b []

/-- The learn queue of a bank replaced. -/
def State.setLearn (s : State) (b : Nat) (l : List FlowEntry) : State :=
  { s with tbl := { s.tbl with learn := s.tbl.learn.setD [] b l } }

/-- A learn request (R289): queued, discarded on a full queue, or discarded while learning is off. -/
def State.learnRequest (s : State) (b : Nat) (e : FlowEntry) : State :=
  if !s.flag Fld.TBL_FC_CTRL_learn_en 0 then s
  else if 1024 ≤ (s.learnQueue b).length then s.bumpSat Fld.TBL_FC_LEARN_DROP_count b 1
  else s.setLearn b (s.learnQueue b ++ [e])

/-- The pipeline that serves a bank's port-direction (R248). -/
def State.pdPipe (s : State) (b : Nat) : Nat :=
  match b with
  | 0 => s.fget Fld.TBL_INL_PD_a_rx 0
  | 1 => s.fget Fld.TBL_INL_PD_b_rx 0
  | 2 => s.fget Fld.TBL_INL_PD_a_tx 0
  | _ => s.fget Fld.TBL_INL_PD_b_tx 0

/-- The table pipeline of a bank and TM are not held (R295). -/
def State.bankRuns (s : State) (b : Nat) : Bool := decide (b < 4) && !s.islandHeld (0x18 + s.pdPipe b) && !s.islandHeld 0x1D

/-- The LFSR of a bank steps; the way it picks among those allowed (R290). -/
def State.lfsrPick (s : State) (b : Nat) (from_ : Option Nat) : Nat × State :=
  let v := s.tbl.lfsr.toList.getD b 0
  let ws := (List.range 4).filter (fun w => from_ != some w)
  (ws.getD (v % ws.length) 0, { s with tbl := { s.tbl with lfsr := s.tbl.lfsr.setIfInBounds b (Config.lfsrNext v % 65536) } })

/-- The first way slot of an entry that is empty, other than one way's. -/
def State.emptyWay (s : State) (b : Nat) (e : FlowEntry) (not_ : Option Nat) : Option Nat :=
  ((List.range 4).filter (fun w => not_ != some w)).findSome? (fun w =>
    let k := s.waySlot b w e.k0 e.k1
    if s.tbl.bank.has k then none else some k)

/-- A kick chain (R290): the entry left in hand after the kicks, where no empty slot was met. -/
def State.kickChain (b : Nat) : Nat → Option Nat → FlowEntry → State → Option FlowEntry × State
  | 0, _, e, s => (some e, s)
  | fuel + 1, from_, e, s =>
    let (w, s) := s.lfsrPick b from_
    let k := s.waySlot b w e.k0 e.k1
    match s.tbl.bank.get? k with
    | none => (none, s.putEntry (.way k) e)
    | some v =>
      let s := s.putEntry (.way k) e
      match s.emptyWay b v (some w) with
      | some j => (none, s.putEntry (.way j) v)
      | none => State.kickChain b fuel (some w) v s

/-- An entry is placed in the ways (R290): the entry that 32 kick-outs leave in hand, if any. -/
def State.placeEntry (s : State) (b : Nat) (e : FlowEntry) : Option FlowEntry × State :=
  match s.emptyWay b e none with
  | some k => (none, s.putEntry (.way k) e)
  | none => State.kickChain b 32 none e s

/-- A free stash position of a bank. -/
def State.stashFree (s : State) (b : Nat) : Option Nat := firstFrom (fun k => !s.tbl.stash.has (64 * b + k)) 64 0

/-- A rehash is requested, the first time since the last rehash or flush (R292). -/
def State.requestRehash (s : State) (b : Nat) : State :=
  if s.flag Fld.TBL_FC_STATUS_req b then s
  else ((s.fset Fld.TBL_FC_STATUS_req b 1).event 0x48 (0x18 + s.pdPipe b) b).deviceCause 4

/-- An entry goes to the stash, or is discarded and counted where it is full (R291). -/
def State.stashPut (s : State) (b : Nat) (e : FlowEntry) : State :=
  match s.stashFree b with
  | some k => (s.putEntry (.stash (64 * b + k)) e).requestRehash b
  | none => s.bumpSat Fld.TBL_FC_LOST_count b 1

/-- A learn request is served (R289, R290). -/
def State.learnServe (s : State) (b : Nat) (e : FlowEntry) : State :=
  match s.bankFind b e.k0 e.k1 with
  | some (p, _) => s.putEntry p { e with hit := true, strike := false }
  | none =>
    let (left, s) := s.placeEntry b { e with hit := true, strike := false }
    match left with
    | none => s.bumpSat Fld.TBL_FC_LEARNED_count b 1
    | some v => if (s.stashFree b).isSome then (s.stashPut b v).bumpSat Fld.TBL_FC_LEARNED_count b 1 else s.stashPut b v

/-- LEARN_INSERT: a bank's engine takes the oldest learn request and serves it, or discards it while learning is off (R289, R290). -/
def execLearnInsert (dt bank : Nat) (s : State) : Host.Outcome State Fault Refusal :=
  let s := s.tick dt
  match s.learnQueue bank with
  | [] => .next s
  | e :: r =>
    if s.bankRuns bank then
      let s := s.setLearn bank r
      .next (if s.flag Fld.TBL_FC_CTRL_learn_en 0 then s.learnServe bank e else s)
    else .next s

/-- STASH_REINSERT: with the learn queue empty, the engine tries to move one stash entry back into the ways; the entry that a failed chain leaves in hand returns to the stash (R291). -/
def execStashReinsert (dt bank : Nat) (s : State) : Host.Outcome State Fault Refusal :=
  let s := s.tick dt
  match s.tbl.stash.find? (fun k _ => k / 64 == bank) with
  | none => .next s
  | some (k, e) =>
    if s.bankRuns bank && (s.learnQueue bank).isEmpty then
      let (left, s) := (s.dropEntry (.stash k)).placeEntry bank e
      match left with
      | none => .next s
      | some v => .next (s.putEntry (.stash k) v)
    else .next s

/-- The map index of a kind P entry. -/
def FlowEntry.mapIndex (e : FlowEntry) : Nat := e.k1 / 2 % 2 ^ 14

/-- The policy epoch of a map entry. -/
def State.epochOf (s : State) (i : Nat) : Nat := match s.tbl.map.get? i with | some m => m.epoch | none => 0

/-- One visit of a sweeper to an entry (R294). -/
def State.sweepEntry (s : State) (b : Nat) (p : BankPos) (e : FlowEntry) : State :=
  if e.kind == 1 && e.epoch != s.epochOf e.mapIndex then (s.dropEntry p).bumpSat Fld.TBL_FC_AGED_count b 1
  else if e.hit then s.putEntry p { e with hit := false, strike := false }
  else if !e.strike then s.putEntry p { e with strike := true }
  else (s.dropEntry p).bumpSat Fld.TBL_FC_AGED_count b 1

/-- Slots that a sweeper visits in a pass: the ways, then the stash. -/
def sweepSlots : Nat := 524288 + 64

/-- SWEEPER_VISIT: a bank's sweeper visits its next slot (R294). -/
def execSweeperVisit (dt bank : Nat) (s : State) : Host.Outcome State Fault Refusal :=
  let s := s.tick dt
  if s.bankRuns bank then
    let n := s.tbl.sweep.toList.getD bank 0
    let t := { s with tbl := { s.tbl with sweep := s.tbl.sweep.setIfInBounds bank ((n + 1) % sweepSlots) } }
    if n < 524288 then
      match s.tbl.bank.get? (524288 * bank + n) with
      | some e => .next (t.sweepEntry bank (.way (524288 * bank + n)) e)
      | none => .next t
    else
      match s.tbl.stash.get? (64 * bank + (n - 524288)) with
      | some e => .next (t.sweepEntry bank (.stash (64 * bank + (n - 524288))) e)
      | none => .next t
  else .next s

/-- A kind P entry of a map index. -/
def FlowEntry.ofMap (e : FlowEntry) (i : Nat) : Bool := e.kind == 1 && e.mapIndex == i

/-- A directed flush (R284, R294): every bank removes each kind P entry of one map index, counted as aged. -/
def State.directedFlush (s : State) (i : Nat) : State :=
  let n := fun b => s.tbl.bank.count (fun k e => k / 524288 == b && e.ofMap i) + s.tbl.stash.count (fun k e => k / 64 == b && e.ofMap i)
  let t := { s with tbl := { s.tbl with
    bank := s.tbl.bank.filter (fun _ e => !e.ofMap i)
    stash := s.tbl.stash.filter (fun _ e => !e.ofMap i) } }
  (List.range 4).foldl (fun t b => t.bumpSat Fld.TBL_FC_AGED_count b (n b)) t

/-- DIRECTED_FLUSH: before the epoch of a map entry wraps (R284). -/
def execDirectedFlush (dt index : Nat) (s : State) : Host.Outcome State Fault Refusal :=
  let s := s.tick dt
  if s.epochOf index == 1023 && s.tbl.map.has index then .next (s.directedFlush index) else .next s

/-- The epoch of a map entry advances by 1 modulo 1,024, after a directed flush where it wraps (R284). -/
def State.advanceEpoch (s : State) (i : Nat) : State :=
  match s.tbl.map.get? i with
  | none => s
  | some m =>
    let s := if m.epoch = 1023 then s.directedFlush i else s
    { s with tbl := { s.tbl with map := s.tbl.map.insert i { m with epoch := (m.epoch + 1) % 1024 } } }

/-- A bank is emptied: entries, stash and learn queue (R293, R295). -/
def State.bankClear (s : State) (b : Nat) : State :=
  let s := { s with tbl := { s.tbl with
    bank := s.tbl.bank.filter (fun k _ => k / 524288 != b)
    stash := s.tbl.stash.filter (fun k _ => k / 64 != b) } }
  s.setLearn b []

/-- A bank is emptied by TBL_REHASH or TBL_FLUSH, which alone clear `req` (R292, R293). -/
def State.bankFlush (s : State) (b : Nat) : State := (s.bankClear b).fset Fld.TBL_FC_STATUS_req b 0

/-- A bank takes four way seeds and an LFSR state from 34 random octets (R276, R293). -/
def State.bankSeed (s : State) (b : Nat) (r : Bytes) : State :=
  let ways := (List.range 4).foldl (fun (v : Vector Nat 16) w => v.setIfInBounds (4 * b + w) (field r (8 * w) 8)) s.tbl.ways
  { s with tbl := { s.tbl with ways := ways, lfsr := s.tbl.lfsr.setIfInBounds b (field r 32 2) } }

/-- The banks of a TBL_REHASH or TBL_FLUSH mask. -/
def maskBanks (p : Packet) : List Nat := (List.range 4).filter (fun b => bit (p.par 0 0) b)

/-- The mask and the other parameters of TBL_REHASH and TBL_FLUSH are valid (R293). -/
def maskOk (p : Packet) : Bool := p.inlineFrom 1 && p.par 0 0 != 0 && decide (p.par 0 0 < 16)

/-- TBL_REHASH (R293). -/
def opTblRehash : Op := fun s pid p => do
  let _ ← s.handles pid p
  require (maskOk p) .rejected
  let s := (maskBanks p).foldl (fun s b =>
    ((s.bankFlush b).bankSeed b (p.random b 34)).bumpSat Fld.TBL_FC_STATUS_rehashes b 1) s
  .ok ⟨s, [], 0, 0⟩

/-- TBL_REHASH (R293). -/
def execTblRehash (dt pid : Nat) (d : PktData) (s : State) : Host.Outcome State Fault Refusal :=
  .next ((s.tick dt).runOp 0x0710 pid d opTblRehash)

/-- TBL_FLUSH (R293). -/
def opTblFlush : Op := fun s pid p => do
  let _ ← s.handles pid p
  require (maskOk p) .rejected
  .ok ⟨(maskBanks p).foldl State.bankFlush s, [], 0, 0⟩

/-- TBL_FLUSH (R293). -/
def execTblFlush (dt pid : Nat) (d : PktData) (s : State) : Host.Outcome State Fault Refusal :=
  .next ((s.tick dt).runOp 0x0711 pid d opTblFlush)

/-- A policy entry is well formed (R279), the SA identifier aside. -/
def policyForm (e : Bytes) : Bool :=
  let fam := field e 1 1
  let len := field e 2 1
  let act := field e 3 1
  let vlan := field e 6 2
  let addr := slice e 0x10 16
  e.length == 48 && field e 0 1 == 1 && (fam == 4 || fam == 6) && decide (len ≤ if fam = 4 then 32 else 64) &&
    decide (1 ≤ act) && decide (act ≤ 3) && decide (field e 4 1 < 8) && field e 5 1 == 0 &&
    (vlan == 0xFFFF || decide (1 ≤ vlan) && decide (vlan ≤ 4094)) && allZero (slice e 0x28 8) &&
    beNat addr % 2 ^ (128 - len) == 0

/-- The SA identifier of a policy entry is valid (R283): for PROTECT an active or frozen outbound ESP SA of the slice on the same pair, zero otherwise. -/
def State.policySa (s : State) (sl : Nat) (e : Bytes) : Bool :=
  if field e 3 1 == 1 then
    match s.saOfId sl (field e 8 8) with
    | some (_, a) => a.kind == espOut && (a.state == .active || a.state == .frozen) && a.pair == field e 4 1
    | none => false
  else field e 8 8 == 0

/-- A policy entry passes the checks of form of R283. -/
def State.policyEntryOk (s : State) (sl : Nat) (e : Bytes) : Bool :=
  policyForm e && s.policySa sl e && s.pairOk (field e 4 1) && (s.pairCfg (field e 4 1)).esp

/-- The map entry of a policy entry that the slice owns. -/
def State.policyMap (s : State) (sl : Nat) (e : Bytes) : Option Nat :=
  match s.mapEntry (field e 4 1) (vlanOf (field e 6 2) 0xFFFF) with
  | some (i, m) => if m.owner == some sl then some i else none
  | none => none

/-- Prefix lengths that a map entry uses in a family. -/
def State.lengthsOf (s : State) (index family : Nat) : List Nat :=
  (List.range 65).filter (s.lengthUsed index family)

/-- A policy of the same key exists (R283). -/
def State.policyExists (s : State) (index : Nat) (e : Bytes) : Bool :=
  s.tbl.pols.any (fun _ p => p.index == index && p.family == field e 1 1 && p.len == field e 2 1 && p.prefix_ == slice e 0x10 16)

/-- The most policies of the device (R282). -/
def policyMax : Nat := 49152

/-- A policy fits the limits of R282. -/
def State.policyRoom (s : State) (index : Nat) (e : Bytes) : Bool :=
  !s.policyExists index e && (s.lengthUsed index (field e 1 1) (field e 2 1) || decide ((s.lengthsOf index (field e 1 1)).length < 8)) &&
    decide (s.tbl.pols.cells.length < policyMax)

/-- A policy slot index is free: unused, and its generations not exhausted. -/
def State.polSlotFree (s : State) (k : Nat) : Bool := !s.tbl.pols.has k && decide (s.tbl.polFrees.getD k 0 < 4096) && decide (k < 65536)

/-- The slot index of a new policy: firmware's choice where it is free, the first free otherwise. -/
def State.polSlot (s : State) : Nat :=
  let c := Config.choice s.free % 65536
  if s.polSlotFree c then c else (firstFrom s.polSlotFree 65536 0).getD 0

/-- A policy takes a place in the table under its slot index (R280, R282): copies before clears. Placement always succeeds: where the seeds leave no path at all, the policy lies beyond the buckets (DESIGN CHOICE 239). -/
def State.placePolicy (s : State) (k : Nat) (p : Policy) : State :=
  let at_ := fun (pos : Nat) => s.tbl.pols.find? (fun _ q => q.place == pos)
  let occ := fun pos => (at_ pos).map (·.1)
  let cands := fun i => match s.tbl.pols.get? i with | some q => s.polCands q.k0 q.k1 | none => []
  let path := (findPath occ cands s.tbl.pols.cells.length (s.polCands p.k0 p.k1)).getD [polSize + k]
  let moved := (path.zip path.tail).foldl (fun (m : NMap Policy) (st : Nat × Nat) =>
    match m.find? (fun _ q => q.place == st.2) with
    | some (i, q) => m.insert i { q with place := st.1 }
    | none => m) s.tbl.pols
  { s with tbl := { s.tbl with pols := moved.insert k { p with place := path.getLastD 0 } } }

/-- A policy enters the table, and its map entry's epoch advances (R284): its slot index with the state. -/
def State.policyInsert (s : State) (sl index : Nat) (e : Bytes) : Nat × State :=
  let k := s.polSlot
  let s := s.placePolicy k ⟨sl, index, field e 1 1, field e 2 1, slice e 0x10 16, field e 3 1, field e 8 8, 0⟩
  (k, ({ s with free := s.free + 1 }).advanceEpoch index)

/-- POLICY_ADD (R283). -/
def opPolicyAdd : Op := fun s pid p => do
  let _ ← s.handles pid p
  require (p.areasOk ioIn && p.inlineFrom 0) .rejected
  let e := p.input
  require (s.policyEntryOk p.ring e && allZero (slice e 0x20 8)) .rejected
  let i ← getOr (s.policyMap p.ring e) .denied
  require (s.policyRoom i e) .noResource
  let (k, t) := s.policyInsert p.ring i e
  .ok ⟨t, [], 1, t.polId p.ring k⟩

/-- POLICY_ADD (R283). -/
def execPolicyAdd (dt pid : Nat) (d : PktData) (s : State) : Host.Outcome State Fault Refusal :=
  .next ((s.tick dt).runOp 0x0701 pid d opPolicyAdd)

/-- A policy leaves the table, its slot's generation advances (R279); its map entry's epoch advances (R284). -/
def State.policyRemove (s : State) (slot : Nat) : State :=
  match s.tbl.pols.get? slot with
  | none => s
  | some p =>
    let s := { s with tbl := { s.tbl with
      pols := s.tbl.pols.erase slot
      polFrees := s.tbl.polFrees.setD 0 slot (s.tbl.polFrees.getD slot 0 + 1) } }
    s.advanceEpoch p.index

/-- The policy that an identifier names for a slice (R283). -/
def State.policyOfId (s : State) (sl id : Nat) : Option Nat :=
  let slot := id % 2 ^ 16
  match s.tbl.pols.get? slot with
  | some p => if p.slice == sl && s.polId sl slot == id then some slot else none
  | none => none

/-- The map entry whose lost policy an identifier names for a slice (R419). -/
def State.lostPolicy (s : State) (sl id : Nat) : Option Nat :=
  (s.tbl.map.find? (fun _ m => m.owner == some sl && m.lost.contains id)).map (·.1)

/-- A lost policy's identifier is deleted (R419). -/
def State.dropLost (s : State) (i id : Nat) : State :=
  match s.tbl.map.get? i with
  | some m => { s with tbl := { s.tbl with map := s.tbl.map.insert i { m with lost := m.lost.filter (· != id) } } }
  | none => s

/-- A damaged map entry is whole again once no policy of it remains (R419). -/
def State.mend (s : State) (i : Nat) : State :=
  match s.tbl.map.get? i with
  | some m =>
    if m.damaged && !s.tbl.pols.any (fun _ p => p.index == i) then
      { s with tbl := { s.tbl with map := s.tbl.map.insert i { m with damaged := false } } }
    else s
  | none => s

/-- POLICY_DELETE (R283, R419). -/
def opPolicyDelete : Op := fun s pid p => do
  let _ ← s.handles pid p
  require (p.inlineFrom 8) .rejected
  let id := p.par 0 7
  match s.policyOfId p.ring id with
  | some k =>
    let i := match s.tbl.pols.get? k with | some q => q.index | none => 0
    .ok ⟨(s.policyRemove k).mend i, [], 0, 0⟩
  | none =>
    let i ← getOr (s.lostPolicy p.ring id) .rejected
    .ok ⟨(s.dropLost i id).mend i, [], 0, 0⟩

/-- POLICY_DELETE (R283). -/
def execPolicyDelete (dt pid : Nat) (d : PktData) (s : State) : Host.Outcome State Fault Refusal :=
  .next ((s.tick dt).runOp 0x0702 pid d opPolicyDelete)

/-- Every policy of a slice is deleted, with the epochs of their map entries advanced (R71, R284). -/
def State.policiesDelete (s : State) (sl : Nat) : State :=
  (s.tbl.pols.filter (fun _ p => p.slice == sl)).keys.foldl State.policyRemove s

/-- Class 2 and class 3 (R295): every bank and stash is flushed and the SA index table emptied; policies stay. -/
def State.tablesErase (s : State) : State :=
  let s := (List.range 4).foldl State.bankClear s
  { s with tbl := { s.tbl with idx := .empty } }

end Sys2Proof.Machine
end

