-- ==== Sys2Proof/Machine/Sas.lean ====
section
/-! DEFINITION. Security associations (R260 to R268, R273): contexts, sequence numbers, windows, limits, events, and the SA opcodes. Log entries of this file: DEDUCED 100, 105; DESIGN CHOICE 45, 99; PRESUMED 101. -/

namespace Sys2Proof.Machine

/-- Flag bits of an SA (R261). -/
def fExt : Nat := 0
def fTunnel : Nat := 1
def fOuter6 : Nat := 2
def fConf : Nat := 3
def fSci : Nat := 4
def fEs : Nat := 5
def fReplay : Nat := 6
def fMirrored : Nat := 7
def fSoftSent : Nat := 8

namespace SaCtx

def flag (a : SaCtx) (b : Nat) : Bool := bit a.flags b
/-- The SA is inbound. -/
def inbound (a : SaCtx) : Bool := isIn a.kind
/-- The largest usable number (R264). -/
def top (a : SaCtx) : Nat := if a.flag fExt then 2 ^ 64 - 1 else 2 ^ 32 - 1
/-- Contexts of one copy (R260). -/
def size (a : SaCtx) : Nat := 1 + a.x
/-- Contexts of an SA, its mirror included (R260); a mirror that an error took still counts (R417). -/
def total (a : SaCtx) : Nat := if a.flag fMirrored then 2 * a.size else a.size
/-- The context index lies in the SA, or in its mirror. -/
def covers (a : SaCtx) (head i : Nat) : Bool :=
  (decide (head ≤ i) && decide (i < head + a.size)) ||
    match a.mirror with
    | some m => decide (m ≤ i) && decide (i < m + a.size)
    | none => false
/-- Offset bytes of a MACsec SA (R261). -/
def offsetLen (a : SaCtx) : Nat := match a.offset with | 1 => 30 | 2 => 50 | _ => 0
/-- The state's code (R261). -/
def stateCode (a : SaCtx) : Nat := match a.state with | .active => 1 | .frozen => 2 | .draining => 3 | .exhausted => 4

end SaCtx

/-- An SA as it is once it is no longer frozen (R92, R94): active, or exhausted where it was or has become so. -/
def SaCtx.thawed (a : SaCtx) : SaCtx :=
  if a.state == .frozen then { a with state := if a.spent then .exhausted else .active, spent := false } else a

/-- A frozen SA (R92): one that was exhausted stays so behind its freeze. -/
def SaCtx.freeze (a : SaCtx) : SaCtx :=
  match a.state with
  | .active => { a with state := .frozen, spent := false }
  | .exhausted => { a with state := .frozen, spent := true }
  | _ => a

/-- An SA's record replaced. -/
def State.setSa (s : State) (head : Nat) (a : SaCtx) : State := { s with tbl := { s.tbl with sas := s.tbl.sas.insert head a } }

/-- An event of a slice's SA is posted (R268): the oldest of 256 is dropped; a waiting query completes with it. -/
def State.saEvent (s : State) (sl id code seq : Nat) : State :=
  let e := s.saEvents sl
  let b := natLE 8 id ++ natLE 1 code ++ zeros 3 ++ natLE 4 seq
  let e := if 256 ≤ e.list.length then ⟨true, e.list.drop 1 ++ [b]⟩ else { e with list := e.list ++ [b] }
  (s.setSaEvents sl e).saAnswer sl

/-- An active SA becomes exhausted, with its event (R264); a frozen one whose frames in flight reach the limit does so behind its freeze. -/
def State.saExhaust (s : State) (head : Nat) : State :=
  match s.tbl.sas.get? head with
  | some a =>
    if a.state == .active then (s.setSa head { a with state := .exhausted }).saEvent a.slice (s.saIdOf head) 0x02 a.seq
    else if a.state == .frozen && !a.spent then (s.setSa head { a with spent := true }).saEvent a.slice (s.saIdOf head) 0x02 a.seq
    else s
  | none => s

/-- The soft and the hard limit of an SA whose count of frames is `n` (R264). -/
def State.saLimits (s : State) (head n : Nat) : State :=
  match s.tbl.sas.get? head with
  | none => s
  | some a =>
    let s := if a.soft != 0 && decide (a.soft ≤ n) && !a.flag fSoftSent then
        (s.setSa head { a with flags := a.flags + 2 ^ fSoftSent }).saEvent a.slice (s.saIdOf head) 0x01 a.seq
      else s
    if a.hard != 0 && decide (a.hard ≤ n) then s.saExhaust head else s

/-- An outbound SA assigns its next number (R264): none where it would exceed the largest usable one. The SA becomes exhausted when the number after it would. -/
def State.saNext (s : State) (head : Nat) : Option Nat × State :=
  match s.tbl.sas.get? head with
  | none => (none, s)
  | some a =>
    if a.top < a.seq then (none, s.saExhaust head)
    else
      let s := s.setSa head { a with seq := a.seq + 1 }
      (some a.seq, if a.top < a.seq + 1 then s.saExhaust head else s)

/-- The early replay check, which the commit repeats (R263). -/
def SaCtx.fresh (a : SaCtx) (n : Nat) : Bool :=
  if n = 0 then false
  else if a.w = 0 || !a.flag fReplay then true
  else if a.seq < n then true
  else decide (a.seq < n + a.w) && !bit a.window (a.seq - n)

/-- The window after a number is committed (R263). -/
def SaCtx.commit (a : SaCtx) (n : Nat) : SaCtx :=
  let m := 2 ^ a.w
  if a.seq < n then { a with seq := n, window := (a.window * 2 ^ (n - a.seq) + 1) % m }
  else if a.seq < n + a.w then { a with window := (a.window ||| 2 ^ (a.seq - n)) % m }
  else a

/-- The lower bound of the window. -/
def SaCtx.lower (a : SaCtx) : Nat := a.seq + 1 - a.w

/-- The full number of a received one: for ESN its upper half is inferred as RFC 4303 Appendix A states, for XPN as IEEE 802.1AE-2018 recovers it (R257, R258). -/
def SaCtx.fullSeq (a : SaCtx) (low : Nat) : Nat :=
  if !a.flag fExt then low
  else
    let lb := a.lower
    let v := lb / 2 ^ 32 * 2 ^ 32 + low
    if isMac a.kind then (if bit lb 31 && !bit low 31 then v + 2 ^ 32 else v)
    else if v < lb then v + 2 ^ 32 else v

/-- A context index is in use, or its head's generations are exhausted (R109, R265). -/
def State.ctxFree (s : State) (i : Nat) : Bool :=
  decide (i < 1048576) && !s.tbl.sas.any (fun h a => a.covers h i) && decide (s.tbl.saFrees.getD i 0 < 4096)

/-- `n` consecutive context indices from `i` on are free. -/
def State.ctxRun (s : State) (n i : Nat) : Bool := (List.range n).all (fun k => s.ctxFree (i + k))

/-- The banks of TM in which `n` contexts from a head on lie: 16 banks, by bits [19:16] of the index (DESIGN CHOICE 99). -/
def ctxBanks (head n : Nat) : List Nat := (List.range n).map (fun k => bankOf (head + k))

/-- `n` contexts from an index on are free, in none of some banks. -/
def State.ctxOk (s : State) (n : Nat) (not : List Nat) (i : Nat) : Bool :=
  s.ctxRun n i && !(ctxBanks i n).any not.contains

/-- The head context of `n` new ones in none of some banks: firmware's choice where it is free, the first free run otherwise. -/
def State.ctxAlloc (s : State) (n : Nat) (not : List Nat) : Option Nat :=
  let c := Config.choice (s.free + 1) % 1048576
  if s.ctxOk n not c then some c
  else ((List.range 16).filter (fun b => !not.contains b)).findSome? (fun b => firstFrom (s.ctxOk n not) 65536 (65536 * b))

/-- The head contexts of an SA and of its mirror, in no common bank (R260): firmware's choices where they are usable, and otherwise the mirror in the highest bank that leaves room for the SA. -/
def State.ctxPair (s : State) (n : Nat) : Option (Nat × Nat) :=
  let c := Config.choice (s.free + 1) % 1048576
  let m := Config.choice (s.free + 2) % 1048576
  if s.ctxOk n [] c && s.ctxOk n (ctxBanks c n) m then some (c, m)
  else ((List.range 16).reverse).findSome? (fun b =>
    match firstFrom (s.ctxOk n ((List.range 16).filter (· != b))) 65536 (65536 * b) with
    | some m => (s.ctxAlloc n [b]).map (fun h => (h, m))
    | none => none)

/-- The slice's SA context count changes. -/
def State.saUse (s : State) (sl : Nat) (n : Nat) : State :=
  s.fset Fld.SLC_SA_USED_used sl (s.fget Fld.SLC_SA_USED_used sl + n)

/-- The slice's SA context count after contexts are freed. -/
def State.saUnuse (s : State) (sl : Nat) (n : Nat) : State :=
  s.fset Fld.SLC_SA_USED_used sl (s.fget Fld.SLC_SA_USED_used sl - n)

/-- Contexts that an SA of `n` takes against its slice's quota (R76, R260). -/
def State.saNeed (s : State) (sl n : Nat) : Nat := if s.mirrors sl then 2 * n else n

/-- An allocation of contexts fits the slice's quota (R74). -/
def State.saFits (s : State) (sl n : Nat) : Bool :=
  decide (s.fget Fld.SLC_SA_USED_used sl + n ≤ s.fget Fld.SLC_SA_QUOTA_quota sl)

/-- An SA enters TM with its mirror, its quota and its index entry (R260, R265, R278): its head context with the state. None where no contexts are free. -/
def State.saAdd (s : State) (a : SaCtx) : Option (Nat × State) :=
  let put := fun (h : Nat) (a : SaCtx) =>
    let t := ({ s with free := s.free + 3 }.setSa h a).saUse a.slice (s.saNeed a.slice a.size)
    (h, if a.inbound then t.idxInsert h else t)
  if s.mirrors a.slice then
    (s.ctxPair a.size).map (fun e => put e.1 { a with mirror := some e.2, flags := a.flags ||| 2 ^ fMirrored })
  else (s.ctxAlloc a.size []).map (fun h => put h { a with mirror := none })

/-- The SPI, or the SCI and AN, is installed for some SA (R265). -/
def State.saTaken (s : State) (mac : Bool) (ident an : Nat) : Bool :=
  s.tbl.sas.any (fun _ a => isMac a.kind == mac && a.ident == ident && (!mac || a.an == an))

/-- The transmit SA of a binding (R254): an active one, else one that is frozen or exhausted. -/
def State.bindingSa (s : State) (sl pair vlan : Nat) : Option (Nat × SaCtx) :=
  let on := fun (a : SaCtx) => a.kind == macOut && a.slice == sl && a.pair == pair && a.vlan == vlan && a.state != .draining
  match s.tbl.sas.find? (fun _ a => on a && a.state == .active) with
  | some r => some r
  | none => s.tbl.sas.find? (fun _ a => on a)

/-- Frames in the pipelines that were looked up under an SA. -/
def State.saFrames (s : State) (head : Nat) : Bool :=
  s.tbl.frames.any (fun _ f => f.at_ != .bypass && f.head == head && f.gen == s.saGen head)

/-- A head context's generation advances on free (R265). -/
def State.bumpSa (s : State) (head : Nat) : State :=
  { s with tbl := { s.tbl with saFrees := s.tbl.saFrees.setD 0 head (s.tbl.saFrees.getD head 0 + 1) } }

/-- An SA's contexts are freed; the SA_RETIRE that waits for them completes (R267). -/
def State.saFree (s : State) (head : Nat) : State :=
  match s.tbl.sas.get? head with
  | none => s
  | some a =>
    let s := (s.idxRemove head).saUnuse a.slice a.total
    let s := ({ s with tbl := { s.tbl with sas := s.tbl.sas.erase head } }).bumpSa head
    let s := match a.mirror with | some m => s.bumpSa m | none => s
    match a.waiter with
    | some pid => s.finish pid [] 0 0
    | none => s

/-- An SA ends: its index entry and its use by bindings and policies end, and it is freed when no frame is left (R266, R267). -/
def State.saDrain (s : State) (head : Nat) (waiter : Option Nat) : State :=
  match s.tbl.sas.get? head with
  | none => s
  | some a =>
    let s := (s.idxRemove head).setSa head { a with state := .draining, waiter := waiter }
    if s.saFrames head then s else s.saFree head

/-- The last frame of a draining SA has left (R266, R267). -/
def State.saDrained (s : State) (head : Nat) : State :=
  match s.tbl.sas.get? head with
  | some a => if a.state == .draining && !s.saFrames head then (s.saFree head) else s
  | none => s

/-- The kind has an ESP extension (R260). -/
def espExt (kind flags : Nat) : Bool := kind == espIn || (kind == espOut && bit flags fTunnel)

/-- Extension contexts of an SA (R260). -/
def extCount (kind flags w : Nat) : Nat := b2n (espExt kind flags) + ceilDiv (w - 64) 1024

/-- The XPN suites. -/
def isXpn (suite : Nat) : Bool := suite == 3 || suite == 4

/-- The key type that a suite takes (R265). -/
def suiteKey (suite : Nat) : Nat := if suite == 7 then 0x05 else if suite % 2 == 1 then 0x01 else 0x02

/-- An ICV length is supported for a suite (R252). -/
def icvOk (suite icv : Nat) : Bool := if suite ≤ 4 || suite == 7 then icv == 16 else icv == 8 || icv == 12 || icv == 16

/-- The template of an ESP extension is valid for a kind (R262). -/
def templateOk (kind : Nat) (t : Bytes) : Bool :=
  let fam := field t 0 1
  let sel := field t 0x28 1
  let len := field t 0x29 1
  !bit (field t 2 1) 6 && decide (field t 3 1 ≤ 2) && decide (field t 4 4 < 2 ^ 20) && allZero (slice t 0x2A 6) &&
    (if kind == espOut then (fam == 4 || fam == 6) && sel == 0
     else fam == 0 && (sel == 4 || sel == 6) && decide (len ≤ if sel = 4 then 32 else 128))

/-- The identifier of an SA is valid for its protocol: an SPI from 256 on in four octets (R261, R265). -/
def identOk (mac : Bool) (id : Nat) : Bool := mac || (decide (256 ≤ id) && decide (id < 2 ^ 32))

/-- Salt and SSCI are valid for a suite (R261, R265). -/
def saltOk (suite ssci : Nat) (salt : Bytes) : Bool := (isXpn suite || ssci == 0) && (decide (suite ≤ 4) || allZero (salt.drop 4))

/-- The VLAN ID of a block (R265): 0xFFFF for 0xFFF, as the head context stores it. -/
def blockVlan (b : Bytes) : Nat := let v := bits (field b 8 4) 27 16; if v = 0xFFF then 0xFFFF else v

/-- An SA_INSTALL block passes the checks of form of R265, the key type and the pair aside. -/
def saForm (b : Bytes) : Bool :=
  let kind := field b 3 1
  let suite := field b 4 1
  let flags := field b 6 2
  let w := field b 0x0C 2
  let id := field b 0x10 8
  let soft := field b 0x30 8
  let hard := field b 0x38 8
  let mtu := field b 0x40 2
  let an := field b 0x0E 1
  let v := bits (field b 8 4) 27 16
  b.length == (if espExt kind flags then 192 else 128) && decide (1 ≤ kind) && decide (kind ≤ 4) &&
  (if isMac kind then decide (1 ≤ suite) && decide (suite ≤ 4) else decide (5 ≤ suite) && decide (suite ≤ 7)) &&
  icvOk suite (field b 5 1) && field b 0 3 == 0 && field b 0x0F 1 == 0 && decide (flags < 128) &&
  allZero (slice b 0x42 62) && bits (field b 8 4) 15 3 == 0 && bits (field b 8 4) 31 28 == 0 &&
  decide (an < 16) && decide (an / 4 ≤ 2) && decide (w ≤ 4096) && (isIn kind || w == 0) &&
  (!isMac kind || bit flags fExt == isXpn suite) && identOk (isMac kind) id &&
  saltOk suite (field b 0x2C 4) (slice b 0x20 12) && (hard == 0 || decide (soft ≤ hard)) &&
  (mtu == 0 || decide (576 ≤ mtu) && decide (mtu ≤ 9216)) && (isIn kind || decide (1 ≤ field b 0x18 8)) &&
  (if kind == macOut then v == 0xFFF || decide (1 ≤ v) && decide (v ≤ 4094) else v == 0xFFF) &&
  (if espExt kind flags then templateOk kind (b.drop 128) else true) &&
  (if kind == espOut && bit flags fTunnel then bit flags fOuter6 == (field (b.drop 128) 0 1 == 6) else !bit flags fOuter6)

/-- The SA that a block describes (R265), under a key. -/
def saOfBlock (now sl line gen : Nat) (b : Bytes) : SaCtx :=
  let kind := field b 3 1
  let flags := field b 6 2
  let w := field b 0x0C 2
  { spent := false, slice := sl, state := .active, kind := kind, suite := field b 4 1, icv := field b 5 1, flags := flags,
    keyLine := line, keyGen := gen, w := w, an := field b 0x0E 1 % 4, offset := field b 0x0E 1 / 4 % 4,
    x := extCount kind flags w, ident := field b 0x10 8, seq := field b 0x18 8, salt := slice b 0x20 12,
    ssci := field b 0x2C 4, soft := field b 0x30 8, hard := field b 0x38 8, window := if isIn kind then 2 ^ w - 1 else 0,
    mirror := none, frames := 0, octets := 0, icvDrops := 0, replayDrops := 0, otherDrops := 0, mtu := field b 0x40 2,
    pair := field b 8 4 % 8, vlan := blockVlan b, installed := now, template := if espExt kind flags then slice b 128 64 else [],
    accepted := 0, waiter := none }

/-- The inline map gives the slice what an SA needs (R265): for MACsec outbound the binding, for the other kinds some entry of the pair. -/
def State.saOwned (s : State) (sl : Nat) (kind pair vlan : Nat) : Bool :=
  s.tbl.map.any (fun _ m => m.owner == some sl && m.pair == pair && (kind != macOut || m.vlan == vlanOf vlan 0xFFFF))

/-- SA_INSTALL and SA_REKEY are accepted in the mode in force (R249). -/
def State.saAccepts (s : State) : Bool := s.fget Fld.DEV_MODE_mode 0 != 4

/-- The checks of R265 that come after the form, on a new SA and its key; `old` is the head of the SA that a rekey replaces (R266). -/
def State.saJudge (s : State) (k : Key) (a : SaCtx) (old : Option Nat) : Except Stop Unit := do
  require (bit k.usage useInline) .denied
  require (s.saOwned a.slice a.kind a.pair a.vlan) .denied
  require s.saAccepts .busyRetry
  require (s.saFits a.slice (s.saNeed a.slice a.size)) .noResource
  require (!s.saTaken (isMac a.kind) a.ident a.an) .noResource
  require (a.kind != macOut ||
    !s.tbl.sas.any (fun h b => some h != old &&  b.kind == macOut && b.slice == a.slice && b.pair == a.pair && b.vlan == a.vlan && b.state == .active)) .noResource

/-- SA_INSTALL (R265). -/
def opSaInstall : Op := fun s pid p => do
  let k ← s.keyOf pid p
  let b := p.block
  require (p.areasOk ioNone && p.pind && saForm b && k.typ == suiteKey (field b 4 1) && s.pairOk (field b 8 4 % 8)) .rejected
  let a := saOfBlock s.now p.ring k.line (s.lineGen k.line) b
  s.saJudge k a none
  let (h, t) ← getOr (s.saAdd a) .noResource
  .ok ⟨t, [], 1, t.saIdOf h⟩

/-- SA_INSTALL (R265). -/
def execSaInstall (dt pid : Nat) (d : PktData) (s : State) : Host.Outcome State Fault Refusal :=
  .next ((s.tick dt).runOp 0x0601 pid d opSaInstall)

/-- An SA_REKEY block passes its checks of form against the old SA (R265, R266). -/
def rekeyForm (b : Bytes) (a : SaCtx) : Bool :=
  let mac := isMac a.kind
  let an := field b 0x10 1
  b.length == 48 && !a.inbound && (a.state == .active || a.state == .exhausted) && allZero (slice b 0x11 7) && decide (an < 4) &&
  (!mac || an != a.an) && identOk mac (field b 8 8) && saltOk a.suite (field b 0x24 4) (slice b 0x18 12) &&
  decide (1 ≤ field b 0x28 8)

/-- The SA that a rekey makes from the old one (R266). -/
def rekeyOf (now line gen : Nat) (b : Bytes) (a : SaCtx) : SaCtx :=
  { a with
    state := .active, flags := a.flags % 128, keyLine := line, keyGen := gen, an := field b 0x10 1, ident := field b 8 8,
    seq := field b 0x28 8, salt := slice b 0x18 12, ssci := field b 0x24 4, mirror := none, frames := 0, octets := 0,
    icvDrops := 0, replayDrops := 0, otherDrops := 0, installed := now, accepted := 0, waiter := none }

/-- Every policy that names the old SA names the new one, each map entry's epoch advancing once (R266, R284). -/
def State.policiesRename (s : State) (old new : Nat) : State :=
  let is := (s.tbl.map.keys).filter (fun i => s.tbl.pols.any (fun _ p => p.index == i && p.sa == old))
  let s := { s with tbl := { s.tbl with pols := s.tbl.pols.map (fun _ p => if p.sa == old then { p with sa := new } else p) } }
  is.foldl State.advanceEpoch s

/-- SA_REKEY (R266). -/
def opSaRekey : Op := fun s pid p => do
  let k ← s.keyOf pid p
  let b := p.block
  require (p.areasOk ioNone && p.pind) .rejected
  let (oh, o) ← getOr (s.saOfId p.ring (field b 0 8)) .rejected
  require (rekeyForm b o && k.typ == suiteKey o.suite) .rejected
  let a := rekeyOf s.now k.line (s.lineGen k.line) b o
  s.saJudge k a (some oh)
  let (h, t) ← getOr (s.saAdd a) .noResource
  let t := (t.policiesRename (s.saIdOf oh) (t.saIdOf h)).saDrain oh none
  .ok ⟨t, [], 1, t.saIdOf h⟩

/-- SA_REKEY (R266). -/
def execSaRekey (dt pid : Nat) (d : PktData) (s : State) : Host.Outcome State Fault Refusal :=
  .next ((s.tick dt).runOp 0x0602 pid d opSaRekey)

/-- SA_RETIRE (R267): the SA drains; the packet completes when its contexts are freed. -/
def State.askRetire (s : State) (pid : Nat) (p : Packet) : Except Stop State := do
  let _ ← s.handles pid p
  require (p.inlineFrom 8) .rejected
  let (h, a) ← getOr (s.saOfId p.ring (p.par 0 7)) .rejected
  require (a.state != .draining) .rejected
  .ok ((s.setPacket pid { p with phase := .waiting }).saDrain h (some pid))

/-- SA_RETIRE (R267). -/
def execSaRetire (dt pid : Nat) (d : PktData) (s : State) : Host.Outcome State Fault Refusal :=
  .next ((s.tick dt).runPacket 0x0603 pid d (fun s pid p => s.accepted pid (s.askRetire pid p)))

/-- The 64 octets that SA_QUERY reports (R268). -/
def State.saStatus (s : State) (head : Nat) (a : SaCtx) : Bytes :=
  natLE 8 (s.saIdOf head) ++ natLE 1 a.stateCode ++ natLE 1 a.kind ++ natLE 2 a.w ++ zeros 4 ++ natLE 8 a.seq ++
  natLE 8 a.frames ++ natLE 8 a.octets ++ natLE 4 (min a.icvDrops (2 ^ 32 - 1)) ++ natLE 4 (min a.replayDrops (2 ^ 32 - 1)) ++
  natLE 4 (min a.otherDrops (2 ^ 32 - 1)) ++ zeros 4 ++ natLE 8 s.now

/-- SA_QUERY in mode 0x00 (R268); an unassigned mode is rejected. -/
def opSaQueryState : Op := fun s pid p => do
  let _ ← s.handles pid p
  require (p.areasOk ioOut && !p.pind && p.par 0 7 == 0 && p.fits 64) .rejected
  let (h, a) ← getOr (s.saOfId p.ring (p.par 8 15)) .rejected
  .ok ⟨s, s.saStatus h a, 0, 0⟩

/-- The mode of a fetched SA_QUERY packet. -/
def State.queryMode (s : State) (pid : Nat) : Nat :=
  match s.cmd.packets.get? pid with
  | some p => p.par 0 0
  | none => 0

/-- SA_QUERY_STATE: SA_QUERY in any mode but 0x01 (R268). -/
def execSaQueryState (dt pid : Nat) (d : PktData) (s : State) : Host.Outcome State Fault Refusal :=
  let s := s.tick dt
  if s.queryMode pid == 1 then .next s else .next (s.runOp 0x0604 pid d opSaQueryState)

/-- SA_QUERY in mode 0x01 (R268): it completes with the pending events, or waits for one. -/
def State.askWait (s : State) (pid : Nat) (p : Packet) : Except Stop State := do
  let _ ← s.handles pid p
  require (p.areasOk ioOut && !p.pind && p.par 1 3 == 0 && p.par 8 15 == 0 && decide (1 ≤ p.par 4 7) && decide (p.par 4 7 ≤ 60000)) .rejected
  require (!s.tbl.waits.has p.ring) .busyRetry
  let s := s.setPacket pid { p with phase := .waiting }
  let e := s.saEvents p.ring
  if e.lost || !e.list.isEmpty then .ok (s.saReport pid p.ring)
  else .ok { s with tbl := { s.tbl with waits := s.tbl.waits.insert p.ring ⟨pid, s.now + 1000000 * p.par 4 7⟩ } }

/-- SA_QUERY_WAIT: SA_QUERY in mode 0x01 (R268). -/
def execSaQueryWait (dt pid : Nat) (d : PktData) (s : State) : Host.Outcome State Fault Refusal :=
  let s := s.tick dt
  if s.queryMode pid == 1 then .next (s.runPacket 0x0604 pid d (fun s pid p => s.accepted pid (s.askWait pid p))) else .next s

/-- SA_QUERY_TIMEOUT: a waiting query reaches its timeout (R268). -/
def execSaQueryTimeout (dt slice : Nat) (s : State) : Host.Outcome State Fault Refusal :=
  let s := s.tick dt
  match s.tbl.waits.get? slice with
  | some w => if w.deadline ≤ s.now then .next (s.saAnswer slice) else .next s
  | none => .next s

/-- The device frees an SA, with its event (R268, R273). -/
def State.saFreedByDevice (s : State) (head : Nat) : State :=
  match s.tbl.sas.get? head with
  | some a => (s.saEvent a.slice (s.saIdOf head) 0x03 a.seq).saFree head
  | none => s

/-- A class 2 or class 3 response frees every SA (R273). -/
def State.sasErase (s : State) : State := s.tbl.sas.keys.foldl State.saFreedByDevice s

/-- Every SA of a slice ends (R71); its pending events go with it. -/
def State.sasRetire (s : State) (sl : Nat) : State :=
  let s := (s.tbl.sas.filter (fun _ a => a.slice == sl)).keys.foldl (fun s h => s.saDrain h none) s
  { s with tbl := { s.tbl with events := s.tbl.events.erase sl } }

/-- The 128 octets of a head context (R261); `head` gives the place of the first extension context. -/
def SaCtx.encode (a : SaCtx) (head : Nat) : Bytes :=
  natLE 2 a.slice ++ natLE 1 a.stateCode ++ natLE 1 a.kind ++ natLE 1 a.suite ++ natLE 1 a.icv ++ natLE 2 a.flags ++
  natLE 4 (a.keyLine + a.keyGen * 2 ^ 20) ++ natLE 2 a.w ++ natLE 1 (a.an + 4 * a.offset) ++ natLE 1 a.x ++ natLE 8 a.ident ++
  natLE 8 a.seq ++ fitLen 12 a.salt ++ natLE 4 a.ssci ++ natLE 8 a.soft ++ natLE 8 a.hard ++ natLE 8 a.window ++
  natLE 4 (if a.x = 0 then 0 else head + 1) ++ natLE 4 (a.mirror.getD 0) ++ natLE 8 a.frames ++ natLE 8 a.octets ++
  natLE 4 a.icvDrops ++ natLE 4 a.replayDrops ++ natLE 4 a.otherDrops ++ natLE 2 a.mtu ++ natLE 1 a.pair ++ zeros 1 ++
  natLE 2 a.vlan ++ zeros 6 ++ natLE 8 a.installed

/-- The extension contexts (R260, R262): the ESP extension, then the window extensions. -/
def SaCtx.encodeExt (a : SaCtx) : Bytes :=
  (if espExt a.kind a.flags then fitLen 64 a.template ++ zeros 64 else []) ++
  (List.range (ceilDiv (a.w - 64) 1024)).flatMap (fun j => natLE 128 (a.window / 2 ^ (64 + 1024 * j)))

/-- The SA of a head context and its extension contexts (R261, R262). -/
def saOfCtx (b : Bytes) : SaCtx :=
  let kind := field b 3 1
  let flags := field b 6 2
  let e := b2n (espExt kind flags) * 128
  { spent := false, slice := field b 0 2, state := if field b 2 1 = 4 then .exhausted else .active, kind := kind, suite := field b 4 1,
    icv := field b 5 1, flags := flags, keyLine := field b 8 4 % 2 ^ 20, keyGen := field b 8 4 / 2 ^ 20, w := field b 0x0C 2,
    an := field b 0x0E 1 % 4, offset := field b 0x0E 1 / 4 % 4, x := field b 0x0F 1, ident := field b 0x10 8,
    seq := field b 0x18 8, salt := slice b 0x20 12, ssci := field b 0x2C 4, soft := field b 0x30 8, hard := field b 0x38 8,
    window := field b 0x40 8 + leNat (b.drop (128 + e)) * 2 ^ 64, mirror := none, frames := field b 0x50 8, octets := field b 0x58 8,
    icvDrops := field b 0x60 4, replayDrops := field b 0x64 4, otherDrops := field b 0x68 4, mtu := field b 0x6C 2,
    pair := field b 0x6E 1 % 8, vlan := field b 0x70 2, installed := field b 0x78 8,
    template := if espExt kind flags then slice b 128 64 else [], accepted := field b 0x50 8, waiter := none }

end Sys2Proof.Machine
end

