-- ==== Sys2Proof/Machine/Frames.lean ====
section
/-! DEFINITION. Frames as octets: Ethernet, IPv4, IPv6, MACsec and ESP headers, taken apart and put together (R252, R253, R258, R259). Log entries of this file: DESIGN CHOICE 102, 103, 106, 107. -/

namespace Sys2Proof.Machine

/-- A parsed Ethernet header: the two addresses, the VLAN tags, their VLAN IDs, the EtherType after them, and the rest of the frame. `deep` says that a third tag follows (R253). -/
structure Eth where
  macs : Bytes
  tags : Bytes
  vlans : List Nat
  et : Nat
  body : Bytes
  deep : Bool
deriving DecidableEq, Repr

/-- A tag protocol identifier (R253). -/
def isTag (t : Nat) : Bool := t == 0x8100 || t == 0x88A8

/-- The Ethernet header of a frame, with up to two VLAN tags (R253). -/
def parseEth (b : Bytes) : Eth :=
  let t0 := fieldBE b 12 2
  let v0 := fieldBE b 14 2 % 4096
  let t1 := fieldBE b 16 2
  let v1 := fieldBE b 18 2 % 4096
  if !isTag t0 then ⟨b.take 12, [], [], t0, b.drop 14, false⟩
  else if !isTag t1 then ⟨b.take 12, slice b 12 4, [v0], t1, b.drop 18, false⟩
  else ⟨b.take 12, slice b 12 8, [v0, v1], fieldBE b 20 2, b.drop 22, isTag (fieldBE b 20 2)⟩

/-- The outer VLAN ID of a frame, none where it has no tag. -/
def Eth.vlan (e : Eth) : Option Nat := e.vlans.head?

/-- A parsed IP header: family, header octets with options or extension headers, the protocol that follows and where the header names it, the payload, addresses, and whether the packet is a fragment. -/
structure Ip where
  family : Nat
  hdr : Bytes
  nh : Nat
  nhAt : Nat
  payload : Bytes
  dst : Bytes
  tos : Nat
  df : Bool
  frag : Bool
  deep : Bool
deriving DecidableEq, Repr

/-- An IPv4 header; none where it is malformed. -/
def parseV4 (b : Bytes) : Option Ip :=
  let ihl := field b 0 1 % 16 * 4
  let len := fieldBE b 2 2
  if field b 0 1 / 16 == 4 && decide (20 ≤ ihl) && decide (ihl ≤ len) && decide (len ≤ b.length) then
    some ⟨4, b.take ihl, field b 9 1, 9, (b.take len).drop ihl, slice b 16 4, field b 1 1, bit (field b 6 1) 6,
      fieldBE b 6 2 % 16384 != 0, false⟩
  else none

/-- The end of the IPv6 extension headers from an offset on: offset, next header, where it is named, whether a Fragment header was met, and how many headers there were. None where they run past the packet. -/
def v6Chain (b : Bytes) : Nat → Nat → Nat → Nat → Bool → Nat → Option (Nat × Nat × Nat × Bool × Nat)
  | 0, off, nh, at_, frag, n => some (off, nh, at_, frag, n)
  | fuel + 1, off, nh, at_, frag, n =>
    if nh == 0 || nh == 43 || nh == 60 || nh == 44 then
      let len := if nh == 44 then 8 else (field b (off + 1) 1 + 1) * 8
      if b.length < off + len then none
      else v6Chain b fuel (off + len) (field b off 1) off (frag || nh == 44) (n + 1)
    else some (off, nh, at_, frag, n)

/-- An IPv6 header with its extension headers; none where it is malformed. -/
def parseV6 (b : Bytes) : Option Ip :=
  let len := 40 + fieldBE b 4 2
  if field b 0 1 / 16 == 6 && decide (len ≤ b.length) && decide (40 ≤ b.length) then
    let b := b.take len
    match v6Chain b 5 40 (field b 6 1) 6 false 0 with
    | some (off, nh, at_, frag, n) =>
      some ⟨6, b.take off, nh, at_, b.drop off, slice b 24 16, fieldBE b 0 4 / 2 ^ 20 % 256, false, frag,
        decide (4 < n) || decide (296 < off)⟩
    | none => none
  else none

/-- The IP header of a frame's body by its EtherType; none where the frame is not IP. -/
def ipOf (e : Eth) : Option (Option Ip) :=
  if e.et == 0x0800 then some (parseV4 e.body) else if e.et == 0x86DD then some (parseV6 e.body) else none

/-- The EtherType of an IP family. -/
def etOf (family : Nat) : Nat := if family = 4 then 0x0800 else 0x86DD

/-- A frame of an Ethernet header, an EtherType and a body. -/
def mkFrame (e : Eth) (et : Nat) (body : Bytes) : Bytes := e.macs ++ e.tags ++ natBE 2 et ++ body

/-- The sum of big-endian 16-bit words. -/
def sum16 : Bytes → Nat
  | a :: b :: r => a.toNat * 256 + b.toNat + sum16 r
  | [a] => a.toNat * 256
  | [] => 0

/-- The ones' complement sum of 16-bit words, folded. -/
def fold16 (n : Nat) : Nat :=
  let a := n / 65536 + n % 65536
  a / 65536 + a % 65536

/-- Octets of a block replaced from an offset on. -/
def patch (b : Bytes) (off : Nat) (v : Bytes) : Bytes := b.take off ++ v ++ b.drop (off + v.length)

/-- An IPv4 header with its checksum. -/
def withChecksum (h : Bytes) : Bytes :=
  let h := patch h 10 [0, 0]
  patch h 10 (natBE 2 (65535 - fold16 (sum16 h)))

/-- An IP header that names another protocol for a payload of a length. -/
def reheader (ip : Ip) (nh len : Nat) : Bytes :=
  let h := patch ip.hdr ip.nhAt (natLE 1 nh)
  if ip.family = 4 then withChecksum (patch h 2 (natBE 2 (h.length + len))) else patch h 4 (natBE 2 (h.length - 40 + len))

/-- The outer header of a tunnel from the template of R262, for an inner packet (R259); `id` is the IPv4 Identification. -/
def outerHeader (t : Bytes) (inner : Ip) (len id : Nat) : Bytes :=
  let dscp := if bit (field t 2 1) 7 then inner.tos / 4 else field t 2 1 % 64
  let tos := dscp * 4 + inner.tos % 4
  let df := match field t 3 1 with | 0 => false | 1 => true | _ => if inner.family = 4 then inner.df else Config.unstated 259 % 2 == 1
  if field t 0 1 = 4 then
    withChecksum (natBE 1 0x45 ++ natBE 1 tos ++ natBE 2 (20 + len) ++ natBE 2 id ++ natBE 2 (b2n df * 16384) ++
      slice t 1 1 ++ natBE 1 50 ++ zeros 2 ++ slice t 8 4 ++ slice t 24 4)
  else
    natBE 4 (6 * 2 ^ 28 + tos * 2 ^ 20 + field t 4 4 % 2 ^ 20) ++ natBE 2 len ++ natBE 1 50 ++ slice t 1 1 ++
      slice t 8 16 ++ slice t 24 16

/-- The pad octets 1, 2, 3, … of an ESP payload (R259). -/
def espPad (n : Nat) : Bytes := (List.range n).map (fun k => BitVec.ofNat 8 (k + 1))

/-- The pad length of an ESP payload. -/
def espPadLen (n : Nat) : Nat := (4 - (n + 2) % 4) % 4

/-- The payload of an ESP packet up to its next header octet (R259). -/
def espBody (payload : Bytes) (nh : Nat) : Bytes :=
  let p := espPadLen payload.length
  payload ++ espPad p ++ natLE 1 p ++ natLE 1 nh

/-- The associated data of ESP (R259). -/
def espAad (a : SaCtx) (sn : Nat) : Bytes :=
  natBE 4 a.ident ++ (if a.flag fExt then natBE 8 sn else natBE 4 (sn % 2 ^ 32))

/-- The IV of ESP: the full 64-bit number (R259). -/
def espIv (sn : Nat) : Bytes := natBE 8 sn

/-- The AEAD mode of a suite. -/
def suiteMode (suite : Nat) : Nat := if suite = 7 then 3 else 1

/-- Keystream and tag algorithms of a suite. -/
def suiteAlgs (suite : Nat) : Config.Alg × Config.Alg := (aeadAlgs (suiteMode suite)).getD (.gcmStream, .gcmTag)

/-- An ESP packet from SPI to ICV (R259). -/
def espSeal (a : SaCtx) (key : Bytes) (sn : Nat) (body : Bytes) : Bytes :=
  let (st, tg) := suiteAlgs a.suite
  let nonce := a.salt.take 4 ++ espIv sn
  let ct := aeadCrypt st key nonce body
  natBE 4 a.ident ++ natBE 4 (sn % 2 ^ 32) ++ espIv sn ++ ct ++ aeadTag tg key nonce (espAad a sn) ct a.icv

/-- The plaintext of an ESP packet from its SPI on, where its ICV passes. -/
def espOpen (a : SaCtx) (key : Bytes) (sn : Nat) (b : Bytes) : Option Bytes :=
  let (st, tg) := suiteAlgs a.suite
  let nonce := a.salt.take 4 ++ slice b 8 8
  let ct := (b.drop 16).take (b.length - 16 - a.icv)
  if decide (16 + a.icv ≤ b.length) && aeadTag tg key nonce (espAad a sn) ct a.icv == b.drop (b.length - a.icv) then
    some (aeadCrypt st key nonce ct)
  else none

/-- The payload and next header of a decrypted ESP body whose trailer is valid (R257 step 8). -/
def espTrailer (b : Bytes) : Option (Bytes × Nat) :=
  let n := field b (b.length - 2) 1
  let len := b.length - 2 - n
  if decide (2 ≤ b.length) && decide (n + 2 ≤ b.length) && slice b len n == espPad n then
    some (b.take len, field b (b.length - 1) 1)
  else none

/-- The length of an outbound ESP frame (R256 step 7). -/
def espLength (a : SaCtx) (e : Eth) (ip : Ip) : Nat :=
  let tunnel := a.flag fTunnel
  let pay := if tunnel then ip.hdr.length + ip.payload.length else ip.payload.length
  let hdr := if tunnel then (if field a.template 0 1 = 4 then 20 else 40) else ip.hdr.length
  14 + e.tags.length + hdr + 16 + pay + espPadLen pay + 2 + a.icv

/-- An outbound ESP frame under a key and a number (R259). -/
def espFrame (a : SaCtx) (key : Bytes) (sn id : Nat) (e : Eth) (ip : Ip) : Bytes :=
  if a.flag fTunnel then
    let esp := espSeal a key sn (espBody (ip.hdr ++ ip.payload) (if ip.family = 4 then 4 else 41))
    mkFrame e (etOf (field a.template 0 1)) (outerHeader a.template ip esp.length id ++ esp)
  else
    let esp := espSeal a key sn (espBody ip.payload ip.nh)
    mkFrame e e.et (reheader ip 50 esp.length ++ esp)

/-- An inner packet with its ECN field set to CE (R259). -/
def setCe (b : Bytes) (ip : Ip) : Bytes :=
  if ip.family = 4 then withChecksum (patch (b.take ip.hdr.length) 1 (natLE 1 (ip.tos / 4 * 4 + 3))) ++ b.drop ip.hdr.length
  else patch b 0 (natBE 4 (fieldBE b 0 4 / 2 ^ 28 * 2 ^ 28 + (ip.tos / 4 * 4 + 3) * 2 ^ 20 + fieldBE b 0 4 % 2 ^ 20))

/-- An inner packet after decapsulation: an outer CE mark sets CE in an ECT inner header (R259). -/
def decap (outer inner : Ip) (b : Bytes) : Bytes :=
  if outer.tos % 4 == 3 && (inner.tos % 4 == 1 || inner.tos % 4 == 2) then setCe b inner else b

/-- A destination lies in the selector prefix of a template (R257 step 9). -/
def selectorPasses (t : Bytes) (family : Nat) (dst : Bytes) : Bool :=
  let w := 8 * dst.length
  let n := field t 0x29 1
  field t 0x28 1 == family && beNat dst / 2 ^ (w - n) == beNat (slice t 0x30 dst.length) / 2 ^ (w - n)

/-- A SecTAG (R258): offsets are from the EtherType on. -/
structure SecTag where
  v : Bool
  es : Bool
  sc : Bool
  scb : Bool
  an : Nat
  sl : Nat
  pn : Nat
  sci : Nat
  len : Nat
deriving DecidableEq, Repr

/-- The SecTAG of a MACsec frame, whose SCI is the source address and port 1 where it carries none (R255). -/
def parseSecTag (b : Bytes) : SecTag :=
  let tci := field b 14 1
  let sc := bit tci 5
  ⟨bit tci 7, bit tci 6, sc, bit tci 4, tci % 4, field b 15 1, fieldBE b 16 4,
    if sc then fieldBE b 20 8 else fieldBE b 6 6 * 65536 + 1, if sc then 16 else 8⟩

/-- The secure data length of a MACsec frame. -/
def SecTag.secure (t : SecTag) (b : Bytes) : Nat := b.length - 12 - t.len - 16

/-- The SecTAG passes the checks of R255 step 2. -/
def SecTag.ok (t : SecTag) (b : Bytes) : Bool :=
  decide (28 + t.len ≤ b.length) && !t.v && !t.scb && !(t.sc && t.es) &&
    (t.sl == 0 || (decide (t.secure b < 48) && t.sl == t.secure b))

/-- The GCM nonce of a MACsec SA (R258). -/
def macNonce (a : SaCtx) (pn : Nat) : Bytes :=
  if isXpn a.suite then xorBytes (natBE 4 a.ssci ++ natBE 8 pn) (fitLen 12 a.salt)
  else natBE 8 a.ident ++ natBE 4 pn

/-- The SecTAG that an outbound SA writes (R258). -/
def macTag (a : SaCtx) (pn secure : Nat) : Bytes :=
  natBE 2 0x88E5 ++
  natLE 1 (b2n (a.flag fEs) * 64 + b2n (a.flag fSci) * 32 + b2n (a.flag fConf) * 12 + a.an) ++
  natLE 1 (if secure < 48 then secure else 0) ++ natBE 4 (pn % 2 ^ 32) ++ (if a.flag fSci then natBE 8 a.ident else [])

/-- How many octets of the user data stay in clear (R258). -/
def clearLen (a : SaCtx) (n : Nat) : Nat := if a.flag fConf then min a.offsetLen n else n

/-- An outbound MACsec frame under a key and a PN (R258). -/
def macFrame (a : SaCtx) (key : Bytes) (pn : Nat) (b : Bytes) : Bytes :=
  let (st, tg) := suiteAlgs a.suite
  let user := b.drop 12
  let head := b.take 12 ++ macTag a pn user.length
  let n := clearLen a user.length
  let ct := aeadCrypt st key (macNonce a pn) (user.drop n)
  head ++ user.take n ++ ct ++ aeadTag tg key (macNonce a pn) (head ++ user.take n) ct 16

/-- The length of an outbound MACsec frame (R254 step 6). -/
def macLength (a : SaCtx) (b : Bytes) : Nat := b.length + (if a.flag fSci then 16 else 8) + 16

/-- The frame inside a MACsec frame where its ICV passes. -/
def macOpen (a : SaCtx) (key : Bytes) (pn : Nat) (t : SecTag) (b : Bytes) : Option Bytes :=
  let (st, tg) := suiteAlgs a.suite
  let head := b.take (12 + t.len)
  let user := slice b (12 + t.len) (t.secure b)
  let n := clearLen a user.length
  let ct := user.drop n
  if aeadTag tg key (macNonce a pn) (head ++ user.take n) ct 16 = b.drop (b.length - 16) then
    some (b.take 12 ++ user.take n ++ aeadCrypt st key (macNonce a pn) ct)
  else none

end Sys2Proof.Machine
end

