-- ==== Sys2Proof/Machine/Inline.lean ====
section
/-! DEFINITION. The inline path (R244 to R257, R263, R269 to R273): arrival, the steps of the rx pipeline, the cluster operation, and the steps of the tx pipeline. Log entries of this file: DEDUCED 251; DESIGN CHOICE 102, 104, 150, 202, 234. -/

namespace Sys2Proof.Machine

/-- Drop reasons (R269). -/
inductive Drop where
  | parse | noSa | frozen | mismatch | replayEarly | icv | replay | seqExhausted | selector | trailer | mtu | fragment
  | policy | unprotected | alarm | fault | overflow | noSaOut
deriving DecidableEq, Repr

/-- The code of a drop reason (R269). -/
def Drop.code : Drop → Nat
  | .parse => 0 | .noSa => 1 | .frozen => 2 | .mismatch => 3 | .replayEarly => 4 | .icv => 5 | .replay => 6
  | .seqExhausted => 7 | .selector => 8 | .trailer => 9 | .mtu => 10 | .fragment => 11 | .policy => 12 | .unprotected => 13
  | .alarm => 14 | .fault => 15 | .overflow => 16 | .noSaOut => 17

/-- A frame is dropped: counted once at its arrival port (R269). -/
def State.dropFrame (s : State) (port : Nat) (r : Drop) : State :=
  (s.bumpSat Fld.TBL_INL_DROP_count (18 * port + r.code) 1).pmc (0x0C0 + port) 1

/-- A drop counter of an SA advances (R261, R269), saturating. -/
def SaCtx.countDrop (a : SaCtx) (r : Drop) : SaCtx :=
  let m := 2 ^ 32 - 1
  match r with
  | .icv => { a with icvDrops := min (a.icvDrops + 1) m }
  | .replayEarly => { a with replayDrops := min (a.replayDrops + 1) m }
  | .replay => { a with replayDrops := min (a.replayDrops + 1) m }
  | _ => { a with otherDrops := min (a.otherDrops + 1) m }

/-- A frame that is attributed to an SA is dropped (R269). -/
def State.dropSa (s : State) (port head : Nat) (r : Drop) : State :=
  let s := s.dropFrame port r
  match s.tbl.sas.get? head with
  | some a => s.setSa head (a.countDrop r)
  | none => s

/-- The pair of a port, its side (B where true), and the partner port (R245). -/
def State.portPair (s : State) (port : Nat) : Nat := port % (s.ports / 2)
def State.sideB (s : State) (port : Nat) : Bool := decide (s.ports / 2 ≤ port)
def State.partner (s : State) (port : Nat) : Nat := (port + s.ports / 2) % s.ports

/-- The bank of the rx port-direction of a port, and of the tx port-direction of its partner. -/
def State.rxBank (s : State) (port : Nat) : Nat := b2n (s.sideB port)
def State.txBank (s : State) (port : Nat) : Nat := if s.sideB port then 2 else 3

/-- The NET islands of a port (R457). -/
def State.portNets (s : State) (port : Nat) : List Nat :=
  (List.range 4).filter (s.portUses port)

/-- The port's NET islands are not held. -/
def State.portRuns (s : State) (port : Nat) : Bool := (s.portNets port).all (fun m => !s.islandHeld (0x10 + m))

/-- A port's link is up. -/
def State.linkUp (s : State) (port : Nat) : Bool := decide (port < s.ports) && s.flag Fld.NET_PORT_STATUS_up port

/-- The pipeline that serves the tx port-direction of a frame that arrives on a port (R248, R413): none where no pipeline does. -/
def State.txPipe (s : State) (port : Nat) : Option Nat :=
  (List.range 5).find? (fun n => let pd := s.fget Fld.DEV_UNIT_TP_pd n; pd == s.txBank port + 1 || pd == 5)

/-- A frame takes its place in the device (R250): its number with the state. It is finished by the pipeline that serves its tx port-direction now (R248). -/
def State.addFrame (s : State) (port : Nat) (b : Bytes) (head gen seq : Nat) (at_ : FrameAt) : Nat × State :=
  let k := s.tbl.nextFrame
  (k, { s with tbl := { s.tbl with frames := s.tbl.frames.insert k ⟨port, b, head, gen, seq, at_, [], s.txPipe port⟩, nextFrame := k + 1 } })

/-- A frame leaves the device. -/
def State.eraseFrame (s : State) (fid : Nat) : State := { s with tbl := { s.tbl with frames := s.tbl.frames.erase fid } }

/-- A frame is bypassed: it keeps its place (R250). -/
def State.bypass (s : State) (port : Nat) (b : Bytes) : State := (s.addFrame port b 0 0 0 .bypass).2

/-- A BYPASS or DISCARD action on a frame. -/
def State.act (s : State) (port : Nat) (b : Bytes) (discard : Bool) (r : Drop) : State :=
  if discard then s.dropFrame port r else s.bypass port b

/-- A frame is dispatched to a cluster under its SA's key, with its number. -/
def State.dispatchFrame (s : State) (port : Nat) (b : Bytes) (head : Nat) (a : SaCtx) (n : Nat) : State :=
  let t : KeyTag := ⟨a.slice, a.keyLine, a.keyGen⟩
  let (k, s) := s.addFrame port b head (s.saGen head) n .cluster
  let j := mkBlk (some t) b.length 0 s.blk.stamp 1
  let s := s.addBlk (2 * k + 1) j
  match s.steerFrame (some t) with
  | some c => s.place (2 * k + 1) j c
  | none => s

/-- The reason that an SA's state gives for a drop, none where it is active (R254 to R257). -/
def stateDrop (a : SaCtx) (other : Drop) : Option Drop :=
  match a.state with
  | .active => none
  | .frozen => some .frozen
  | .exhausted => some .seqExhausted
  | .draining => some other

/-- Octets of the largest frame of an SA (R261): its MTU, or the port's maximum. -/
def SaCtx.maxFrame (a : SaCtx) : Nat := if a.mtu = 0 then 9216 else a.mtu

/-- A frame whose map entry and owner are known, before the steps of its table: damaged entries drop it, an entry without owner acts on it, headers beyond R253 drop it, a control EtherType takes its action (R246, R247, R253, R419). The rest of the table follows where `next` is called. -/
def State.mapStep (s : State) (port : Nat) (b : Bytes) (e : Eth) (deep discard : Bool) (r : Drop)
    (next : Nat → MapEntry → Nat → State) : State :=
  match s.mapEntry (s.portPair port) e.vlan with
  | none => s.dropFrame port .policy
  | some (i, m) =>
    if m.damaged then s.dropFrame port .fault
    else
      match m.owner with
      | none => s.act port b (if discard then m.unmatched else m.unprotected) r
      | some sl =>
        if deep then s.dropFrame port .parse
        else if m.types.contains e.et then s.act port b m.control .policy
        else next i m sl

/-- Steps 3 to 7 of R254. -/
def State.macOutSteps (s : State) (port : Nat) (b : Bytes) (e : Eth) (sl : Nat) : State :=
  match s.bindingSa sl (s.portPair port) (e.vlan.getD 0xFFFF) with
  | none => s.dropFrame port .noSaOut
  | some (h, a) =>
    match stateDrop a .noSaOut with
    | some r => s.dropSa port h r
    | none =>
      match s.saNext h with
      | (none, s) => s.dropSa port h .seqExhausted
      | (some n, s) =>
        if a.maxFrame < macLength a b then s.dropSa port h .mtu else s.dispatchFrame port b h a n

/-- Outbound on a MACSEC pair (R254). -/
def State.macOutFrame (s : State) (port : Nat) (b : Bytes) : State :=
  let e := parseEth b
  s.mapStep port b e false true .policy (fun _ _ sl => s.macOutSteps port b e sl)

/-- The SA of a sealed-side frame, through the rx bank (R285, R287): the state after the lookup, with the head context found. -/
def State.lookupS (s : State) (port : Nat) (mac : Bool) (ident an : Nat) : Option Nat × State :=
  let b := s.rxBank port
  let (k0, k1) := keyS (s.portPair port) mac an ident
  let found := s.bankFind b k0 k1
  let valid := match found with
    | some (_, f) =>
      match s.tbl.sas.get? (f.sa % 2 ^ 20) with
      | some a => s.saGen (f.sa % 2 ^ 20) == f.sa / 2 ^ 20 && a.state != .draining && isIn a.kind && isMac a.kind == mac &&
          a.ident == ident && (!mac || a.an == an)
      | none => false
    | none => false
  match found, valid with
  | some (p, f), true => (some (f.sa % 2 ^ 20), s.bankHit b p f)
  | _, _ =>
    let s := match found with | some (p, _) => s.dropEntry p | none => s
    let s := s.bankMiss b
    match s.idxFind mac ident an with
    | some h => (some h, s.learnRequest b ⟨true, false, 2, k0, k1, 0, 0, s.saGen h * 2 ^ 20 + h⟩)
    | none => (none, s)

/-- Steps 3 to 6 of R255. -/
def State.macInSteps (s : State) (port : Nat) (b : Bytes) : State :=
  let t := parseSecTag b
  if !t.ok b then s.dropFrame port .parse
  else
    match s.lookupS port true t.sci t.an with
    | (none, s) => s.dropFrame port .noSa
    | (some h, s) =>
      match s.tbl.sas.get? h with
      | none => s.dropFrame port .noSa
      | some a =>
        if a.pair != s.portPair port then s.dropFrame port .mismatch
        else
          match stateDrop a .noSa with
          | some r => s.dropSa port h r
          | none =>
            let n := a.fullSeq t.pn
            if a.fresh n then s.dispatchFrame port b h a n else s.dropSa port h .replayEarly

/-- Inbound on a MACSEC pair (R255): an unprotected frame takes its entry's action; a SecTAG behind a clear VLAN tag is malformed. -/
def State.macInFrame (s : State) (port : Nat) (b : Bytes) : State :=
  let e := parseEth b
  s.mapStep port b e false false .unprotected (fun _ m _ =>
    if e.et != 0x88E5 then s.act port b m.unprotected .unprotected
    else if !e.tags.isEmpty then s.dropFrame port .parse
    else s.macInSteps port b)

/-- The result of the table path of a policy lookup: outcome and SA identifier. -/
def tableResult (r : Option (Nat × Policy)) : Nat × Nat :=
  match r with
  | some (_, q) => (if q.action = 1 then outcomeProtect else if q.action = 2 then outcomeBypass else outcomeDiscard, q.sa)
  | none => (outcomeNone, 0)

/-- The policy of a clear-side frame, through the rx bank (R281, R287): outcome and SA identifier, with the state after the lookup. -/
def State.lookupP (s : State) (port index : Nat) (m : MapEntry) (sl family : Nat) (dst : Bytes) : (Nat × Nat) × State :=
  let b := s.rxBank port
  let k := dstWord family dst
  let (k0, k1) := keyP index family k
  let (outcome, id) := tableResult (s.tableLookup index family k)
  let miss := (s.bankMiss b).learnRequest b
    ⟨true, false, 1, k0, k1, m.epoch, outcome, id % 2 ^ 52 / 2 ^ 40 * 2 ^ 20 + id % 2 ^ 20⟩
  match s.bankFind b k0 k1 with
  | some (p, f) =>
    if f.epoch == m.epoch then ((f.outcome, mkSaId sl (f.sa / 2 ^ 20) (f.sa % 2 ^ 20)), s.bankHit b p f)
    else ((outcome, id), miss)
  | none => ((outcome, id), miss)

/-- Steps 4 to 8 of R256 under an SA identifier. -/
def State.espProtect (s : State) (port : Nat) (b : Bytes) (e : Eth) (ip : Ip) (sl id : Nat) : State :=
  match s.saOfId sl id with
  | none => s.dropFrame port .noSaOut
  | some (h, a) =>
    if a.pair != s.portPair port || a.kind != espOut then s.dropFrame port .noSaOut
    else
      match stateDrop a .noSaOut with
      | some r => s.dropSa port h r
      | none =>
        if !a.flag fTunnel && ip.frag then s.dropSa port h .fragment
        else
          match s.saNext h with
          | (none, s) => s.dropSa port h .seqExhausted
          | (some n, s) =>
            if a.maxFrame < espLength a e ip then s.dropSa port h .mtu else s.dispatchFrame port b h a n

/-- Outbound on an ESP pair (R256). -/
def State.espOutFrame (s : State) (port : Nat) (b : Bytes) : State :=
  let e := parseEth b
  let deep := e.deep || match ipOf e with | some (some ip) => ip.deep | some none => true | none => false
  s.mapStep port b e deep true .policy (fun i m sl =>
    match ipOf e with
    | some (some ip) =>
      let ((outcome, id), s) := s.lookupP port i m sl ip.family ip.dst
      if outcome = outcomeProtect then s.espProtect port b e ip sl id
      else if outcome = outcomeBypass then s.bypass port b
      else if outcome = outcomeDiscard then s.dropFrame port .policy
      else s.act port b m.unmatched .policy
    | _ => s.act port b m.unmatched .policy)

/-- Steps 3 to 6 of R257. -/
def State.espInSteps (s : State) (port : Nat) (b : Bytes) (ip : Ip) (sl : Nat) : State :=
  if ip.frag then s.dropFrame port .fragment
  else if ip.payload.length < 16 then s.dropFrame port .parse
  else
    match s.lookupS port false (fieldBE ip.payload 0 4) 0 with
    | (none, s) => s.dropFrame port .noSa
    | (some h, s) =>
      match s.tbl.sas.get? h with
      | none => s.dropFrame port .noSa
      | some a =>
        if a.slice != sl || a.pair != s.portPair port then s.dropFrame port .mismatch
        else
          match stateDrop a .noSa with
          | some r => s.dropSa port h r
          | none =>
            let n := a.fullSeq (fieldBE ip.payload 4 4)
            if a.fresh n then s.dispatchFrame port b h a n else s.dropSa port h .replayEarly

/-- Inbound on an ESP pair (R257). -/
def State.espInFrame (s : State) (port : Nat) (b : Bytes) : State :=
  let e := parseEth b
  let deep := e.deep || match ipOf e with | some (some ip) => ip.deep | some none => true | none => false
  s.mapStep port b e deep false .unprotected (fun _ m sl =>
    match ipOf e with
    | some (some ip) => if ip.nh == 50 then s.espInSteps port b ip sl else s.act port b m.unprotected .unprotected
    | _ => s.act port b m.unprotected .unprotected)

/-- The rx pipeline of a port takes frames: the port's NET islands, the pipeline and TM are not held (R273). -/
def State.rxRuns (s : State) (port : Nat) : Bool := s.portRuns port && s.bankRuns (s.rxBank port)

/-- The steps of its table on a frame that the rx pipeline takes (R254 to R257). -/
def State.frameSteps (s : State) (port : Nat) (b : Bytes) : State :=
  let c := s.pairCfg (s.portPair port)
  let s := s.pmc (0x090 + s.rxBank port) 1
  match c.esp, s.sideB port == c.clearB with
  | false, true => s.macOutFrame port b
  | false, false => s.macInFrame port b
  | true, true => s.espOutFrame port b
  | true, false => s.espInFrame port b

/-- Octets staged in the rx port-direction of a port (R271, R273). -/
def State.stagedOctets (s : State) (port : Nat) : Nat :=
  s.tbl.staged.foldl (fun a e => if s.sideB e.1 == s.sideB port then a + e.2.length else a) 0

/-- A frame waits for its turn in the staging of its port-direction: a class 1 hold keeps its rx pipeline, TM or the port's NET islands, or an earlier frame of the port waits (R273). -/
def State.stages (s : State) (port : Nat) : Bool := !s.rxRuns port || s.tbl.staged.any (fun e => e.1 == port)

/-- The arrival of a frame (R254 step 1, R458 to R460, R272, R273): FCS and size, MAC control, a leaving port whose link is down, full staging; then the staging behind a hold, or the steps of its table. -/
def State.arrive (s : State) (port : Nat) (b : Bytes) (fcs room : Bool) : State :=
  if !fcs then s.bumpSat Fld.NET_FCS_ERR_count port 1
  else if b.length < 64 || 9216 < b.length then s.bumpSat Fld.NET_SIZE_ERR_count port 1
  else if fieldBE b 12 2 == 0x8808 then s.bumpSat Fld.NET_MACCTL_count port 1
  else
    let s := s.pmc (0x0A0 + port) 1
    if !s.linkUp (s.partner port) || !room then s.dropFrame port .overflow
    else if s.stages port then
      if stagingSize < s.stagedOctets port + b.length then s.dropFrame port .overflow
      else { s with tbl := { s.tbl with staged := s.tbl.staged ++ [(port, b)] } }
    else s.frameSteps port b

/-- Frames in staging whose way is free again are taken by their rx pipelines, oldest first (R273). -/
def State.takeStaged (s : State) : State :=
  let l := s.tbl.staged
  (l.filter (fun e => s.rxRuns e.1)).foldl (fun s e => s.frameSteps e.1 e.2)
    { s with tbl := { s.tbl with staged := l.filter (fun e => !s.rxRuns e.1) } }

/-- A frame of a kind arrives on the port: its link is up, the pair has the protocol, and the port is on the kind's side. -/
def State.frameKind (s : State) (port : Nat) (esp outbound : Bool) : Bool :=
  let c := s.pairCfg (s.portPair port)
  s.linkUp port && c.esp == esp && (s.sideB port == c.clearB) == outbound

/-- MACSEC_OUTBOUND_FRAME: a clear-side frame of a MACSEC pair (R254). -/
def execMacsecOutboundFrame (dt port : Nat) (data : Bytes) (fcs room : Bool) (s : State) : Host.Outcome State Fault Refusal :=
  let s := s.tick dt
  if s.frameKind port false true then .next (s.arrive port data fcs room) else .next s

/-- MACSEC_INBOUND_FRAME: a sealed-side frame of a MACSEC pair (R255). -/
def execMacsecInboundFrame (dt port : Nat) (data : Bytes) (fcs room : Bool) (s : State) : Host.Outcome State Fault Refusal :=
  let s := s.tick dt
  if s.frameKind port false false then .next (s.arrive port data fcs room) else .next s

/-- ESP_OUTBOUND_FRAME: a clear-side frame of an ESP pair (R256). -/
def execEspOutboundFrame (dt port : Nat) (data : Bytes) (fcs room : Bool) (s : State) : Host.Outcome State Fault Refusal :=
  let s := s.tick dt
  if s.frameKind port true true then .next (s.arrive port data fcs room) else .next s

/-- ESP_INBOUND_FRAME: a sealed-side frame of an ESP pair (R257). -/
def execEspInboundFrame (dt port : Nat) (data : Bytes) (fcs room : Bool) (s : State) : Host.Outcome State Fault Refusal :=
  let s := s.tick dt
  if s.frameKind port true false then .next (s.arrive port data fcs room) else .next s

/-- Typ energy in tenths of pJ per bit of a suite (R243). -/
def suiteEnergy (suite : Nat) : Nat := if suite = 7 then 52 else if suite % 2 = 1 then 44 else 46

/-- A frame's cluster operation is metered for its slice (R270, R440). -/
def State.meterFrame (s : State) (a : SaCtx) (len : Nat) : State :=
  match s.met.accs.get? a.slice with
  | some m =>
    let n := ceilDiv len 64
    let m := m.count s.now s.now (fun x =>
      { x with inlBlocks := x.inlBlocks + n, frames := x.frames + 1, energy := x.energy + blockEnergy (suiteEnergy a.suite) n })
    { s with met := { s.met with accs := s.met.accs.insert a.slice m } }
  | none => s

/-- What the cluster makes of a frame (R258, R259): none where its ICV fails. -/
def clusterWork (a : SaCtx) (key : Bytes) (n id : Nat) (b : Bytes) : Option Bytes :=
  let e := parseEth b
  if a.kind == macOut then some (macFrame a key n b)
  else if a.kind == macIn then macOpen a key n (parseSecTag b) b
  else
    match ipOf e with
    | some (some ip) => if a.kind == espOut then some (espFrame a key n id e ip) else espOpen a key n ip.payload
    | _ => none

/-- The job of a frame leaves its cluster. -/
def State.dropFrameJob (s : State) (fid : Nat) : State := s.dropBlk (2 * fid + 1)

/-- A frame in the device is dropped. -/
def State.loseFrame (s : State) (fid : Nat) (r : Drop) : State :=
  match s.tbl.frames.get? fid with
  | none => s
  | some f =>
    let s := ({ s with blk := { s.blk with jobs := s.blk.jobs.erase (2 * fid + 1) } }).eraseFrame fid
    if f.at_ == .bypass || s.saGen f.head != f.gen then s.dropFrame f.port r else s.dropSa f.port f.head r

/-- A frame's SA, where it is still the one that the frame was looked up under. -/
def State.frameSa (s : State) (f : Frame) : Option SaCtx :=
  if s.saGen f.head == f.gen then s.tbl.sas.get? f.head else none

/-- The frame's counts in its SA (R261), and the limits of an outbound SA (R264). -/
def State.countFrame (s : State) (f : Frame) (a : SaCtx) : State :=
  let s := s.setSa f.head { a with frames := a.frames + 1, octets := a.octets + f.data.length }
  if a.inbound then s else s.saLimits f.head (a.frames + 1)

/-- The cluster operation of a frame ends. -/
def State.clusterDone (s : State) (fid n : Nat) (f : Frame) (key : Bytes) : State :=
  match s.frameSa f with
  | none => s.loseFrame fid .alarm
  | some a =>
    let s := s.pmc (0x030 + n) (ceilDiv f.data.length 64)
    let s := (s.countFrame f a).meterFrame a f.data.length
    match clusterWork a key f.seq (Config.choice s.free % 65536) f.data with
    | none => (s.loseFrame fid .icv).fillPool.steerWaiting
    | some out =>
      let g : Frame := { f with at_ := .ready, out := out }
      let s := { s with tbl := { s.tbl with frames := s.tbl.frames.insert fid g }, free := s.free + 1 }
      s.dropFrameJob fid

/-- INLINE_CLUSTER_DONE: a cluster that holds the SA's key and is not held finishes the one operation of a frame (R28, R258, R259, R270). -/
def execInlineClusterDone (dt fid : Nat) (s : State) : Host.Outcome State Fault Refusal :=
  let s := s.tick dt
  match s.blk.jobs.get? (2 * fid + 1), s.tbl.frames.get? fid with
  | some j, some f =>
    match j.cluster, j.tag with
    | some n, some t =>
      match s.entryOf n t with
      | some (_, e) =>
        let s := s.workOn n (2 * fid + 1)
        if s.clusterRuns n && s.chunksDone (2 * fid + 1) then .next (s.clusterDone fid n f e.key) else .next s
      | none => .next s
    | _, _ => .next s
  | _, _ => .next s

/-- A frame leaves on the partner of its arrival port (R245), counted as protected or bypassed. -/
def State.transmit (s : State) (fid : Nat) (f : Frame) (out : Bytes) (byp : Bool) : State :=
  let q := s.partner f.port
  let s := (s.eraseFrame fid).pmc (0x0B0 + q) 1
  (if byp then s.bumpSat Fld.TBL_INL_BYP_count f.port 1 else s.bumpSat Fld.TBL_INL_PROT_count f.port 1).emit (.frame q out)

/-- The selector's result for an inner destination, through the tx bank where kind X is learned (R285, R287). -/
def State.lookupX (s : State) (f : Frame) (a : SaCtx) (family : Nat) (dst : Bytes) : Bool × State :=
  let t := a.template
  let ok := selectorPasses t family dst
  if field t 0x28 1 == 4 || decide (field t 0x29 1 ≤ 64) then
    let b := s.txBank f.port
    let (k0, k1) := keyX f.gen f.head family (dstWord family dst)
    match s.bankFind b k0 k1 with
    | some (p, e) => (e.outcome == 1, s.bankHit b p e)
    | none => (ok, (s.bankMiss b).learnRequest b ⟨true, false, 3, k0, k1, 0, b2n ok, 0⟩)
  else (ok, s)

/-- Steps 8 to 10 of R257: the frame without its ESP, or the reason of its drop. -/
def State.espFinish (s : State) (f : Frame) (a : SaCtx) : (Except Drop Bytes) × State :=
  let e := parseEth f.data
  match ipOf e with
  | some (some ip) =>
    match espTrailer f.out with
    | none => (.error .trailer, s)
    | some (payload, nh) =>
      if a.flag fTunnel then
        if nh != 4 && nh != 41 then (.error .trailer, s)
        else
          match if nh = 4 then parseV4 payload else parseV6 payload with
          | none => (.error .selector, s)
          | some inner =>
            let (ok, s) := s.lookupX f a inner.family inner.dst
            if ok then (.ok (mkFrame e (etOf inner.family) (decap ip inner (inner.hdr ++ inner.payload))), s) else (.error .selector, s)
      else
        let (ok, s) := s.lookupX f a ip.family ip.dst
        if ok then (.ok (mkFrame e e.et (reheader ip nh payload.length ++ payload)), s) else (.error .selector, s)
  | _ => (.error .parse, s)

/-- The commit of an inbound frame: its number enters the window, and the limits of accepted frames act (R263, R264). -/
def State.commitFrame (s : State) (f : Frame) (a : SaCtx) : State :=
  let a := a.commit f.seq
  (s.setSa f.head { a with accepted := a.accepted + 1 }).saLimits f.head (a.accepted + 1)

/-- The tx pipeline finishes a protected frame (R254 to R257). -/
def State.txFinish (s : State) (fid : Nat) (f : Frame) (room : Bool) : State :=
  match s.frameSa f with
  | none => s.loseFrame fid .alarm
  | some a =>
    if !a.inbound then if room then s.transmit fid f f.out false else s.loseFrame fid .overflow
    else if !a.fresh f.seq then s.loseFrame fid .replay
    else
      let s := s.commitFrame f a
      let (r, s) := if a.kind == macIn then (Except.ok f.out, s) else s.espFinish f a
      match r with
      | .error d => s.loseFrame fid d
      | .ok out => if room then s.transmit fid f out false else s.loseFrame fid .overflow

/-- The pipeline that finishes a frame (R248): the one of its acceptance, or the one that serves its tx port-direction now. -/
def State.framePipe (s : State) (f : Frame) : Option Nat := match f.pipe with | some n => some n | none => s.txPipe f.port

/-- The tx pipeline of a frame takes it: no earlier frame of its arrival port is in the device (R250), and nothing on its way is held (R273). -/
def State.txTurn (s : State) (fid : Nat) (f : Frame) : Bool :=
  !s.tbl.frames.any (fun k g => decide (k < fid) && g.port == f.port) && !s.islandHeld (0x18 + (s.framePipe f).getD 0) &&
    !s.islandHeld 0x1D && s.portRuns (s.partner f.port)

/-- A pipeline serves the tx port-direction that a frame leaves by (R413). -/
def State.txServed (s : State) (f : Frame) : Bool := (s.framePipe f).isSome

/-- The egress pipeline commits, checks, finishes and transmits a frame, or drops it; `room` says that the egress queue takes it (R254 to R257, R272, R460). -/
def State.txEnds (s : State) (fid : Nat) (room : Bool) : State :=
  match s.tbl.frames.get? fid with
  | none => s
  | some f =>
    let room := room && s.linkUp (s.partner f.port) && s.txServed f
    if !s.txTurn fid f then s
    else
      let s := s.pmc (0x090 + s.txBank f.port) 1
      match f.at_ with
      | .cluster => s
      | .bypass => (if room then s.transmit fid f f.data true else s.loseFrame fid .overflow)
      | .ready => (s.txFinish fid f room)

/-- Frames in a cluster that wait for a key of a line are dropped: the key is gone. -/
def State.loseWaiting (s : State) (n line : Nat) : State :=
  ((s.clusterJobs n).filter (fun e => e.1 % 2 == 1 && match e.2.tag with | some t => t.line == line && (s.entryOf n t).isNone | none => false)).foldl
    (fun s e => s.loseFrame (e.1 / 2) .fault) s

/-- KEY_FILE_KEY_DELIVERED: a key requested on a register-file miss arrives over the key channel, and its derived values are formed (R227); a record that is gone rejects the packet (R138) and drops the frame, a failing slot check marks its slot (R131), a wipe in progress asks for a retry (R138). -/
def execKeyFileKeyDelivered (dt cluster line : Nat) (s : State) : Host.Outcome State Fault Refusal :=
  let s := s.tick dt
  match s.missOn cluster line with
  | none => .next s
  | some t =>
    if s.islandHeld 0x02 then .next s
    else if s.wiping then .next (s.failWaiting cluster line .busyRetry)
    else
      match s.resolve (mkHandle t.slice t.gen clsTraffic line) with
      | none => .next ((s.failWaiting cluster line .rejected).loseWaiting cluster line)
      | some k =>
        match s.slotFails line with
        | some c => .next (((s.slotBad line c).failWaiting cluster line .rejected).loseWaiting cluster line)
        | none => .next ((s.loadEntry cluster t k.typ k.secret).pmc 0x0D0 1)

/-- Frames in the clusters are dropped by a class 2 or class 3 response (R238). -/
def State.framesErase (s : State) : State :=
  (s.tbl.frames.cells.filter (fun e => e.2.at_ == .cluster)).foldl (fun s e => s.loseFrame e.1 .alarm) s

/-- Frames in a cluster are dropped by a fault check (R239, R241). -/
def State.framesFault (s : State) (n : Nat) : State :=
  ((s.clusterJobs n).filter (fun e => e.1 % 2 == 1)).foldl (fun s e => s.loseFrame (e.1 / 2) .fault) s

end Sys2Proof.Machine
end

