-- ==== Sys2Proof/Machine/Slices.lean ====
section
/-! DEFINITION. Slices and shares (R69 to R84), the dirty-page log controls (R85 to R89). Log entries of this file: DEDUCED 199; DESIGN CHOICE 67, 108, 109, 110, 114, 224, 225, 226. -/

namespace Sys2Proof.Machine

/-- Slice states of R69. -/
def slUnbound : Nat := 0
def slBound : Nat := 1
def slUnbinding : Nat := 2
def slExporting : Nat := 3
def slImporting : Nat := 4

/-- A slice's state changes (R69). -/
def State.setSliceState (s : State) (sl n : Nat) : State := s.fset Fld.SLC_STATE_state sl n

/-- Slices whose state register is not at its reset value, by number. -/
def State.slicesListed (s : State) : List Nat :=
  (s.regs.filter (fun k _ => decide (regKey .SLC_STATE 0 ≤ k) && decide (k < regKey .SLC_STATE 0 + 4096))).keys.map
    (· - regKey .SLC_STATE 0)

/-- Slices that hold a share record: BOUND, UNBINDING and EXPORTING (R78). -/
def State.holders (s : State) : List Nat :=
  s.slicesListed.filter (fun sl => decide (1 ≤ s.sliceState sl) && decide (s.sliceState sl ≤ 3))

/-- The fields of a share block (R77). -/
def shSlice (b : Bytes) : Nat := field b 0x00 2
def shGen (b : Bytes) : Nat := field b 0x02 2
def shPasid (b : Bytes) : Nat := field b 0x04 4
def shWeight (b : Bytes) : Nat := field b 0x08 2
def shRate (b : Bytes) : Nat := field b 0x0A 2
def shBurst (b : Bytes) : Nat := field b 0x0C 2
def shSq (b : Bytes) : Nat := field b 0x0E 1
def shCq (b : Bytes) : Nat := field b 0x0F 1
def shKc (b : Bytes) : Nat := field b 0x10 4
def shSa (b : Bytes) : Nat := field b 0x14 4
def shQp (b : Bytes) : Nat := field b 0x18 1
def shClass (b : Bytes) : Nat := field b 0x19 1
def shVec (b : Bytes) : Nat := field b 0x1A 2
def shVecs (b : Bytes) : Nat := field b 0x1C 2

/-- The record fields of a share block are in range, and its length is 32 (R77, R78). -/
def shareRecordOk (b : Bytes) : Bool :=
  b.length == 32 && decide (shWeight b ≤ 4095) && decide (shRate b ≤ 24000) && decide (1 ≤ shBurst b) &&
  decide (6 ≤ shSq b) && decide (shSq b ≤ 16) && decide (6 ≤ shCq b) && decide (shCq b ≤ 16) &&
  decide (shKc b ≤ 1048576) && decide (shSa b ≤ 1048576) && decide (1 ≤ shQp b) && decide (shQp b ≤ 8) &&
  decide (shClass b ≤ 1) && decide (shVec b ≤ 2047) && decide (shVecs b ≤ 2048) && decide (shVec b + shVecs b ≤ 2048) &&
  field b 0x1E 2 == 0

/-- A share block of SLICE_BIND is in range (R70, R77). -/
def bindBlockOk (b : Bytes) : Bool :=
  shareRecordOk b && decide (shSlice b ≤ 4095) && shGen b == 0 && decide (shPasid b ≤ 0xFFFFF)

/-- A share block of SHARE_SET is in range (R77). -/
def setBlockOk (b : Bytes) : Bool := shareRecordOk b && decide (shSlice b ≤ 4095) && shPasid b == 0

/-- A PASID is bound to some slice (R70). -/
def State.pasidBound (s : State) (pasid : Nat) : Bool :=
  s.slicesListed.any (fun sl => s.flag Fld.SLC_PASID_valid sl && s.fget Fld.SLC_PASID_pasid sl == pasid)

/-- A sum over the holders other than one slice. -/
def State.shareSum (s : State) (f : Fld) (but : Nat) : Nat :=
  ((s.holders.filter (· != but)).map (s.fget f)).sum

/-- The share sums and the enduring count of R78 hold with a slice's record replaced by a block. -/
def State.sumsOk (s : State) (sl : Nat) (b : Bytes) : Bool :=
  decide (s.shareSum Fld.SLC_KC_QUOTA_quota sl + shKc b ≤ s.fget Fld.DEV_KC_CAP_lines 0) &&
  decide (s.shareSum Fld.SLC_SA_QUOTA_quota sl + shSa b ≤ 1048576) &&
  decide (s.shareSum Fld.SLC_STATE_enduring sl + shClass b ≤ 256)

/-- A slice's share registers take the record of a block (R77). -/
def State.putShare (s : State) (sl : Nat) (b : Bytes) : State :=
  let s := s.fset Fld.SLC_PKE_SHARE_weight sl (shWeight b)
  let s := (s.fset Fld.SLC_BULK_SHARE_rate sl (shRate b)).fset Fld.SLC_BULK_SHARE_burst sl (shBurst b)
  let s := (s.fset Fld.SLC_KC_QUOTA_quota sl (shKc b)).fset Fld.SLC_SA_QUOTA_quota sl (shSa b)
  let s := (s.fset Fld.SLC_RING_LIMIT_qp_max sl (shQp b)).fset Fld.SLC_RING_LIMIT_cq_log2_max sl (shCq b)
  let s := s.fset Fld.SLC_RING_LIMIT_sq_log2_max sl (shSq b)
  (s.fset Fld.SLC_MSIX_vec_count sl (shVecs b)).fset Fld.SLC_MSIX_vec_base sl (shVec b)

/-- The count of enduring slices follows their bits (`DEV_ENDURING`). -/
def State.countEnduring (s : State) : State :=
  s.fset Fld.DEV_ENDURING_count 0 (s.slicesListed.filter s.enduring).length

/-- A slice's class: `enduring` and `mirrored` together (R83). -/
def State.setClass (s : State) (sl n : Nat) : State :=
  ((s.fset Fld.SLC_STATE_enduring sl n).fset Fld.SLC_STATE_mirrored sl n).countEnduring

/-- The dirty-log registers of a slice at their reset values (R70, R71). -/
def State.clearDlog (s : State) (sl : Nat) : State :=
  let s := ((s.setReg .SLC_DLOG_CTRL sl 0).setReg .SLC_DLOG_BUF0 sl 0).setReg .SLC_DLOG_BUF1 sl 0
  let s := (s.setReg .SLC_DLOG_WIN sl 0).setReg .SLC_DLOG_PAGES sl 0
  { s with slc := { s.slc with marked := s.slc.marked.erase sl } }

/-- A slice is BOUND under a PASID with the record of a block (R70, R95): generation 1, usage counters zero, a full bucket, its first interval open. Every dirty-log register is cleared with the log (DESIGN CHOICE 224). -/
def State.bindSlice (s : State) (sl pasid : Nat) (b : Bytes) : State :=
  let s := (s.fset Fld.SLC_PASID_pasid sl pasid).fset Fld.SLC_PASID_valid sl 1
  let s := (s.putShare sl b).fset Fld.SLC_STATE_share_gen sl 1
  let s := (s.fset Fld.SLC_KC_USED_used sl 0).fset Fld.SLC_SA_USED_used sl 0
  let s := ((s.setSliceState sl slBound).setClass sl (shClass b)).clearDlog sl
  (s.setBucket sl (s.bucketFull sl)).meterBegin sl

/-- SLICE_BIND (R70). -/
def opSliceBind : Op := fun s pid p => do
  let _ ← s.handles pid p
  let b := p.block
  let sl := shSlice b
  require (p.pind && p.areasOk ioNone && bindBlockOk b) .rejected
  require (s.sliceState sl == slUnbound && !s.pasidBound (shPasid b) && s.sumsOk sl b) .rejected
  .ok ⟨s.bindSlice sl (shPasid b) b, [], 0, 0⟩

/-- SLICE_BIND: binds a slice to a PASID with a share record (R70). -/
def execSliceBind (dt pid : Nat) (d : PktData) (s : State) : Host.Outcome State Fault Refusal :=
  .next ((s.tick dt).runOp 0x0F01 pid d opSliceBind)

/-- R41 begins on every queue pair of a slice. -/
def State.stopSlice (s : State) (sl : Nat) : State := (List.range 8).foldl (fun s q => s.stopQp sl q) s

/-- No queue pair of a slice runs. -/
def State.sliceStopped (s : State) (sl : Nat) : Bool :=
  s.qpRunning sl == 0 && !s.cmd.packets.any (fun _ p => p.ring == sl)

/-- The mirrors of a slice's records and contexts are freed (R83); one that an error took is off the quota too, as it still counted (R76, R417). -/
def State.dropMirrors (s : State) (sl : Nat) : State :=
  let s := (s.ks.recs.filter (fun _ r => r.slice == sl)).cells.foldl (fun s e =>
    match e.2.mirror with
    | some m =>
      let s := { s with ks := { s.ks with recs := s.ks.recs.insert e.1 { e.2 with mirror := none } } }
      (s.bumpGen (m.lines.headD 0)).kcSub sl m.lines.length
    | none => s.kcSub sl e.2.copy.lines.length) s
  (s.tbl.sas.filter (fun _ a => a.slice == sl && a.flag fMirrored)).cells.foldl (fun s e =>
    let a : SaCtx := { e.2 with mirror := none, flags := e.2.flags &&& (0xFFFF ^^^ 2 ^ fMirrored) }
    let s := (s.setSa e.1 a).saUnuse sl e.2.size
    match e.2.mirror with
    | some m => s.bumpSa m
    | none => s) s

/-- A record gets its mirror (R82, R83): none where the cache has no room in other banks. -/
def State.mirrorRecord (s : State) (e : Nat × KeyRec) : Option State :=
  match e.2.mirror with
  | some _ => some s
  | none =>
    let n := e.2.copy.lines.length
    (s.allocLines n e.2.copy.lines).map (fun l =>
      let c := mkCopy l e.2.copy.secret (Config.random s.free)
      let s := { s with free := s.free + 1 }
      ({ s with ks := { s.ks with recs := s.ks.recs.insert e.1 { e.2 with mirror := some c } } }).kcAdd e.2.slice n)

/-- An SA gets its mirror contexts (R82, R83). -/
def State.mirrorSa (s : State) (e : Nat × SaCtx) : Option State :=
  match e.2.mirror with
  | some _ => some s
  | none =>
    (s.ctxAlloc e.2.size (ctxBanks e.1 e.2.size)).map (fun m =>
      let a : SaCtx := { e.2 with mirror := some m, flags := e.2.flags ||| 2 ^ fMirrored }
      (({ s with free := s.free + 2 }).setSa e.1 a).saUse e.2.slice e.2.size)

/-- Mirrors of every record and context of a slice (R83): none where the device has no room for them. -/
def State.buildMirrors (s : State) (sl : Nat) : Option State :=
  let s1 := (s.ks.recs.filter (fun _ r => r.slice == sl)).cells.foldl (fun o e => o.bind (fun s => s.mirrorRecord e)) (some s)
  s1.bind (fun t =>
    (t.tbl.sas.filter (fun _ a => a.slice == sl)).cells.foldl (fun o e => o.bind (fun s => s.mirrorSa e)) (some t))

/-- A slice's use lies within the quotas of a block (R83). -/
def State.withinQuota (s : State) (sl : Nat) (b : Bytes) : Bool :=
  decide (s.fget Fld.SLC_KC_USED_used sl ≤ shKc b) && decide (s.fget Fld.SLC_SA_USED_used sl ≤ shSa b)

/-- A build of mirrors is given up: its packet completes with a status, and the mirrors are freed (R83). -/
def State.endBuild (s : State) (sl : Nat) (st : Status) : State :=
  match s.slc.builds.get? sl with
  | none => s
  | some b => ((({ s with slc := { s.slc with builds := s.slc.builds.erase sl } }).dropMirrors sl).countPid b.pid false).fail b.pid st

/-- A slice holds a key in a compatibility slot (R84). -/
def State.holdsCompat (s : State) (sl : Nat) : Bool := s.ks.slots.any (fun _ c => c.slice == sl && !c.bad)

/-- An enabled queue pair of the slice interrupts on a vector outside the new range (R78). -/
def State.vecLeft (s : State) (sl : Nat) (b : Bytes) : Bool :=
  (List.range 8).any (fun q => s.flag Fld.CMD_QP_CTRL_enable (qpi sl q) && s.flag Fld.CMD_QP_IRQ_ien (qpi sl q) &&
    !vecIn (s.fget Fld.CMD_QP_IRQ_vec (qpi sl q)) (shVec b) (shVecs b))

/-- The switch point (R79, R80): the new record, the next generation, the bucket cut to its new depth. -/
def State.switchShare (s : State) (sl : Nat) (b : Bytes) : State :=
  let level := s.bucketLevel sl
  let g := s.fget Fld.SLC_STATE_share_gen sl
  let s := (s.putShare sl b).fset Fld.SLC_STATE_share_gen sl (if g = 0xFFFF then 1 else g + 1)
  let was := s.enduring sl
  let s := s.setClass sl (shClass b)
  let s := if was && shClass b == 0 then s.dropMirrors sl else s
  s.setBucket sl (min level (s.bucketFull sl))

/-- The checks of R78 and R84 on a SHARE_SET. -/
def State.askShare (s : State) (pid : Nat) (p : Packet) : Except Stop Bytes := do
  let _ ← s.handles pid p
  let b := p.block
  let sl := shSlice b
  require (p.pind && p.areasOk ioNone && setBlockOk b) .rejected
  require (!(shClass b == 1 && !s.enduring sl && s.holdsCompat sl)) .denied
  require (s.sliceState sl ≤ slBound) .busyRetry
  require (s.sliceState sl == slBound && !s.slc.builds.has sl && shGen b == s.fget Fld.SLC_STATE_share_gen sl &&
    s.sumsOk sl b && !s.vecLeft sl b) .rejected
  .ok b

/-- SHARE_SET (R77 to R84): an accepted change switches at once, or waits for the mirrors of a slice that becomes enduring. -/
def State.shareSet (s : State) (pid : Nat) (p : Packet) : State :=
  match s.askShare pid p with
  | .error e => s.conclude pid (.error e)
  | .ok b =>
    let sl := shSlice b
    if shClass b == 1 && !s.enduring sl then
      match s.buildMirrors sl with
      | some t =>
        if t.withinQuota sl b then
          ({ t with slc := { t.slc with builds := t.slc.builds.insert sl ⟨pid, b⟩ } }).setPacket pid
            { p with start := s.now, phase := .waiting }
        else s.conclude pid (failWith .noResource)
      | none => s.conclude pid (failWith .noResource)
    else s.conclude pid (.ok ⟨s.switchShare sl b, [], 0, 0⟩)

/-- SHARE_SET: replaces a slice's share record (R77 to R84). -/
def execShareSet (dt pid : Nat) (d : PktData) (s : State) : Host.Outcome State Fault Refusal :=
  .next ((s.tick dt).runPacket 0x0F03 pid d State.shareSet)

/-- MIRROR_BUILD_DONE: the last mirror of a slice that becomes enduring is written, and its share change switches (R83). A mirror that an error took during the build is written again first. The sums of R78 are not checked again here (DESIGN CHOICE 225). -/
def execMirrorBuildDone (dt slice : Nat) (s : State) : Host.Outcome State Fault Refusal :=
  let s := s.tick dt
  match s.slc.builds.get? slice with
  | none => .next s
  | some b =>
    match s.buildMirrors slice with
    | some t =>
      if t.withinQuota slice b.block then
        let t := { t with slc := { t.slc with builds := t.slc.builds.erase slice } }
        .next (((t.switchShare slice b.block).countPid b.pid false).finish b.pid [] 0 0)
      else .next (s.endBuild slice .noResource)
    | none => .next (s.endBuild slice .noResource)

/-- A slice holds no share record any more (R71): its share registers read as at reset. -/
def State.clearShare (s : State) (sl : Nat) : State :=
  let s := ((s.setReg .SLC_PASID sl 0).setReg .SLC_PKE_SHARE sl 0).setReg .SLC_BULK_SHARE sl 0
  let s := ((s.setReg .SLC_KC_QUOTA sl 0).setReg .SLC_SA_QUOTA sl 0).setReg .SLC_RING_LIMIT sl 0
  let s := ((s.setReg .SLC_MSIX sl 0).setReg .SLC_STATE sl 0).countEnduring
  { s with slc := { s.slc with buckets := s.slc.buckets.erase sl } }

/-- Live challenges of a slice end (R144). -/
def State.endChallenges (s : State) (sl : Nat) : State :=
  { s with vlt := { s.vlt with challenges := s.vlt.challenges.filter (fun c => c.slice != sl) } }

/-- The slice's vault table entry at its end (R117): the counter advances and `exists` clears, where the vault exists. -/
def State.endVault (s : State) (sl : Nat) : State :=
  if s.vaultExists sl then (s.vaultAdvance sl false false).getD s else s

/-- Steps 3 to 5 of R71: workspaces, policies and key-cache lines of a slice. -/
def State.destroySlice (s : State) (sl : Nat) : State :=
  let s := { s with pke := { s.pke with spaces := s.pke.spaces.filter (fun _ x => x.slice != sl) } }
  ((s.policiesDelete sl).freeSlice sl).endChallenges sl

/-- Steps 3 to 6 of R71 and the completion. -/
def State.unbindEnd (s : State) (pid sl : Nat) : State :=
  let s := (((s.destroySlice sl).endVault sl).clearDlog sl).clearShare sl
  s.finish pid [] 0 0

/-- The SLICE_UNBIND of a slice goes on (R71): once the stop sequences have ended the final meter record is made and the SAs are retired; once they are gone the rest follows. -/
def State.unbindNow (s : State) (pid sl : Nat) : State :=
  if !s.sliceStopped sl then s
  else
    let s := if s.met.accs.has sl then (s.finalRecord sl 0x02).sasRetire sl else s
    if s.tbl.sas.any (fun _ a => a.slice == sl) then s
    else
      let s := { s with cmd := { s.cmd with deferred := s.cmd.deferred.filter (· != Deferred.unbind pid sl) } }
      s.unbindEnd pid sl

/-- The checks of R71 and R443 on a SLICE_UNBIND, with its reservation. -/
def State.askUnbind (s : State) (pid : Nat) (p : Packet) : Except Stop State := do
  let _ ← s.handles pid p
  let sl := p.par 0 1
  require (p.areasOk ioNone && p.inlineFrom 2 && decide (sl ≤ 4095)) .rejected
  require (s.sliceState sl ≤ slBound && !s.sealing) .busyRetry
  let t ← getOr (s.meterReserve 1) .busyRetry
  require (s.sliceState sl == slBound) .rejected
  .ok t

/-- SLICE_UNBIND (R71). -/
def State.unbind (s : State) (pid : Nat) (p : Packet) : State :=
  match s.askUnbind pid p with
  | .error e => s.conclude pid (.error e)
  | .ok t =>
    let sl := p.par 0 1
    let t := ((t.endBuild sl .busyRetry).countPid pid false).setPacket pid { p with start := t.now, phase := .waiting }
    let t := (t.setSliceState sl slUnbinding).stopSlice sl
    ({ t with cmd := { t.cmd with deferred := t.cmd.deferred ++ [Deferred.unbind pid sl] } }).unbindNow pid sl

/-- SLICE_UNBIND: destroys a slice's custody state and frees the slice (R71). -/
def execSliceUnbind (dt pid : Nat) (d : PktData) (s : State) : Host.Outcome State Fault Refusal :=
  .next ((s.tick dt).runPacket 0x0F02 pid d State.unbind)

/-- The dirty-log configuration of a slice passes R89. -/
def State.dlogOk (s : State) (sl : Nat) : Bool :=
  let b0 := (s.reg .SLC_DLOG_BUF0 sl).toNat
  let b1 := (s.reg .SLC_DLOG_BUF1 sl).toNat
  let w := s.fget Fld.SLC_DLOG_WIN_win_log2 sl
  b0 != 0 && b1 != 0 && b0 % 64 == 0 && b1 % 64 == 0 && decide (21 ≤ w) && decide (w ≤ 44)

/-- The effect of a write of 1 to `SLC_DLOG_CTRL.enable` (R89). -/
def State.dlogEnable (s : State) (sl : Nat) : State :=
  if s.flag Fld.SLC_DLOG_CTRL_enable sl then s
  else if s.dlogOk sl then
    let s := (s.fset Fld.SLC_DLOG_CTRL_enable sl 1).fset Fld.SLC_DLOG_CTRL_active sl 0
    let s := s.setReg .SLC_DLOG_PAGES sl 0
    { s with slc := { s.slc with marked := s.slc.marked.erase sl } }
  else s.fset Fld.SLC_DLOG_CTRL_err sl 1

/-- DLOG_ENABLE: a write of 1 to `SLC_DLOG_CTRL.enable` (R85, R89). -/
def execDlogEnable (dt slice : Nat) (s : State) : Host.Outcome State Fault Refusal :=
  let s := s.tick dt
  if slice < 4096 then .next (s.dlogEnable slice) else .next s

/-- The effect of a write of 0 to `SLC_DLOG_CTRL.enable`. A flip under way stays pending and completes (DESIGN CHOICE 226). -/
def State.dlogDisable (s : State) (sl : Nat) : State := s.fset Fld.SLC_DLOG_CTRL_enable sl 0

/-- DLOG_DISABLE: a write of 0 to `SLC_DLOG_CTRL.enable` stops the log. -/
def execDlogDisable (dt slice : Nat) (s : State) : Host.Outcome State Fault Refusal :=
  let s := s.tick dt
  if slice < 4096 then .next (s.dlogDisable slice) else .next s

/-- The effect of a write of 1 to `SLC_DLOG_CTRL.flip` (R88). -/
def State.dlogFlip (s : State) (sl : Nat) : State :=
  if s.flag Fld.SLC_DLOG_CTRL_enable sl && !s.flag Fld.SLC_DLOG_CTRL_flip sl then
    let s := s.fset Fld.SLC_DLOG_CTRL_flip sl 1
    { s with slc := { s.slc with marked := s.slc.marked.erase sl } }
  else s

/-- DLOG_FLIP: a write of 1 to `SLC_DLOG_CTRL.flip` (R88). -/
def execDlogFlip (dt slice : Nat) (s : State) : Host.Outcome State Fault Refusal :=
  let s := s.tick dt
  if slice < 4096 then .next (s.dlogFlip slice) else .next s

/-- DLOG_FLIP_DONE: the bits of the earlier writes are in the old buffer, and the other one becomes active (R88). -/
def execDlogFlipDone (dt slice : Nat) (s : State) : Host.Outcome State Fault Refusal :=
  let s := s.tick dt
  if slice < 4096 && s.flag Fld.SLC_DLOG_CTRL_flip slice then
    let s := s.fset Fld.SLC_DLOG_CTRL_active slice (1 - s.fget Fld.SLC_DLOG_CTRL_active slice)
    .next ((s.fset Fld.SLC_DLOG_CTRL_flip slice 0).setReg .SLC_DLOG_PAGES slice 0)
  else .next s

end Sys2Proof.Machine
end

