-- ==== Sys2Proof/Machine/Migrate.lean ====
section
/-! DEFINITION. Migration of a slice (R90 to R95, R120): offers, the export with its package, and the import. Log entries of this file: DEDUCED 115; DESIGN CHOICE 12, 111, 112, 113, 114, 227. -/

namespace Sys2Proof.Machine

/-- The vault domain identifier of the configuration in force. -/
def State.domain (s : State) : Bytes := (List.range 4).flatMap (fun n => natLE 4 (s.reg .CFG_VDOM n).toNat)

/-- The attestation certificate of a statement (R160, R161). -/
def statementCert (st : Bytes) : Bytes := slice st 544 7587

/-- A hybrid signature passes under the attestation keys of a certificate (R160). -/
def attestVerify (cert msg sig : Bytes) : Bool :=
  Config.accepts .ecdsaP384 [slice cert 0xA8 97, msg, sig.take 96] &&
  Config.accepts .mlDsa87 [slice cert 0x109 2592, msg, sig.drop 96]

/-- A statement is well formed, with its signatures passing, and carries a nonce (R161). -/
def statementOk (st nonce : Bytes) : Bool :=
  st.length == 12854 && field st 0 4 == 1 && field st 4 4 == 12854 && slice st 0x38 32 == nonce &&
    attestVerify (statementCert st) (st.take 8131) (st.drop 8131)

/-- The domain and the custody firmware measurement of a statement. -/
def statementDomain (st : Bytes) : Bytes := slice st 0x18 16
def statementMeas (st : Bytes) : Bytes := slice st (0x58 + 96) 48

/-- The length of an offer: its body, the attestation statement and the hybrid signature (R90). -/
def offerLen : Nat := 0x6F8 + 12854 + 4723

/-- The octets of an offer (R90). -/
def State.offerBytes (s : State) (sl : Nat) (nonce seed : Bytes) : Bytes :=
  let b := natLE 4 1 ++ s.deviceId ++ s.domain ++ fitLen 32 nonce ++ s.mr 2 ++ hybridPub seed ++ zeros 3
  b ++ s.statement sl true nonce ++ s.attestSign b

/-- A slice's offer ends, its private values with it, and the slice returns to UNBOUND (R90). -/
def State.endOffer (s : State) (sl : Nat) : State :=
  if s.slc.offers.has sl then
    let s := { s with slc := { s.slc with offers := s.slc.offers.erase sl } }
    (s.setReg .SLC_STATE sl 0).setReg .SLC_PASID sl 0
  else s

/-- Seconds that an offer lives (R90), in ns. -/
def offerNs : Nat := 600000000000

/-- SLICE_IMPORT in offer mode (R90). A slice that is not UNBOUND, or a PASID that is bound, makes it REJECTED (DESIGN CHOICE 227). -/
def opSliceOffer : Op := fun s pid p => do
  let _ ← s.handles pid p
  let sl := p.par 2 3
  let pasid := p.par 4 7
  require (!s.sealing && !s.wiping) .busyRetry
  require (p.areasOk ioOut && p.inlineFrom 8 && p.par 1 1 == 0 && decide (sl ≤ 4095) && decide (pasid ≤ 0xFFFFF)) .rejected
  let t := s.endOffer sl
  require (t.sliceState sl == slUnbound && !t.pasidBound pasid && p.fits offerLen) .rejected
  let ident := max 1 (leNat (p.random 0 8))
  let nonce := p.random 1 32
  let seed := p.random 2 64
  let body := t.offerBytes sl nonce seed
  let u := ((t.setSliceState sl slImporting).fset Fld.SLC_PASID_pasid sl pasid).fset Fld.SLC_PASID_valid sl 1
  let o : Offer := ⟨ident, sl, pasid, nonce, Shares.make u.free seed, body, s.now + offerNs⟩
  .ok ⟨{ u with slc := { u.slc with offers := u.slc.offers.insert sl o }, free := u.free + 1 }, body, 0, ident⟩

/-- SLICE_IMPORT in offer mode, p[0] = 0x01: issues an offer for one import (R90). -/
def execSliceImportOffer (dt pid : Nat) (d : PktData) (s : State) : Host.Outcome State Fault Refusal :=
  let s := s.tick dt
  match s.cmd.packets.get? pid with
  | some p => if p.par 0 0 == 1 then .next (s.runOp 0x0F09 pid d opSliceOffer) else .next s
  | none => .next s

/-- OFFER_EXPIRY: 600 s have passed since an offer was issued (R90). -/
def execOfferExpiry (dt slice : Nat) (s : State) : Host.Outcome State Fault Refusal :=
  let s := s.tick dt
  match s.slc.offers.get? slice with
  | some o => if o.expiry ≤ s.now then .next (s.endOffer slice) else .next s
  | none => .next s

/-- The customization string of a package's transfer key (R93). -/
def migrateLabel : Bytes := ascii "SLICE-MIGRATE"

/-- A section of a package body (R93): type, length and content, padded to 8 octets. -/
def packSection (t : Nat) (c : Bytes) : Bytes :=
  natLE 2 t ++ zeros 2 ++ natLE 4 c.length ++ c ++ zeros ((8 - c.length % 8) % 8)

/-- The share block of a slice, as its registers hold it (R77). -/
def State.shareBlock (s : State) (sl : Nat) : Bytes :=
  natLE 2 sl ++ natLE 2 (s.fget Fld.SLC_STATE_share_gen sl) ++ natLE 4 (s.fget Fld.SLC_PASID_pasid sl) ++
  natLE 2 (s.weight sl) ++ natLE 2 (s.fget Fld.SLC_BULK_SHARE_rate sl) ++ natLE 2 (s.fget Fld.SLC_BULK_SHARE_burst sl) ++
  natLE 1 (s.fget Fld.SLC_RING_LIMIT_sq_log2_max sl) ++ natLE 1 (s.fget Fld.SLC_RING_LIMIT_cq_log2_max sl) ++
  natLE 4 (s.fget Fld.SLC_KC_QUOTA_quota sl) ++ natLE 4 (s.fget Fld.SLC_SA_QUOTA_quota sl) ++
  natLE 1 (s.fget Fld.SLC_RING_LIMIT_qp_max sl) ++ natLE 1 (s.fget Fld.SLC_STATE_enduring sl) ++
  natLE 2 (s.fget Fld.SLC_MSIX_vec_base sl) ++ natLE 2 (s.fget Fld.SLC_MSIX_vec_count sl) ++ zeros 2

/-- Keys of a slice in the cache, vault root aside: native records and slots. -/
def State.keysOf (s : State) (sl : Nat) : List Key :=
  (s.ks.recs.filter (fun _ r => r.slice == sl && r.typ != 0x70)).cells.map (fun e => e.2.key e.1) ++
  (s.ks.slots.filter (fun _ c => c.slice == sl && !c.bad)).cells.map (fun e => e.2.key e.1)

/-- The attribute header that a package gives a key: a compatibility key becomes a native one of the vault, imported (R121). -/
def State.moveHeader (s : State) (sl : Nat) (k : Key) : Bytes :=
  if k.compat then attrHeader k.cls k.typ 3 k.usage k.ident (s.vaultId sl) 0 k.secret.length k.pub.length 0 else s.headerOf k

/-- The sections of a slice's keys: old handle, then mitten (R93). The `i`-th mitten takes the `i`-th free value for its nonce. -/
def State.keySections (s : State) (sl : Nat) (root : Bytes) : Bytes :=
  (s.keysOf sl).zipIdx.flatMap (fun e =>
    packSection 3 (natLE 8 (s.handleOf sl e.1.cls e.1.line) ++
      mkMitten root (s.moveHeader sl e.1) (fitLen 12 (Config.random (s.free + e.2))) e.1.secret e.1.pub))

/-- The policy entry of a policy in a package (R279), with its old identifier. -/
def State.policyBytes (s : State) (slot : Nat) (p : Policy) : Bytes :=
  let m := s.tbl.map.get? p.index
  natLE 1 1 ++ natLE 1 p.family ++ natLE 1 p.len ++ natLE 1 p.action ++
  natLE 1 (match m with | some m => m.pair | none => 0) ++ zeros 1 ++
  natLE 2 (match m with | some m => m.vlan.getD 0xFFFF | none => 0xFFFF) ++ natLE 8 p.sa ++ fitLen 16 p.prefix_ ++
  natLE 8 (s.polId p.slice slot) ++ zeros 8

/-- The section content of a workspace: identifier, slot length, slot count, and every slot as its state and value. -/
def spaceBytes (id : Nat) (x : Workspace) : Bytes :=
  natLE 8 id ++ natLE 4 x.w ++ natLE 4 x.c ++
  (List.range x.c).flatMap (fun k =>
    match x.slots.get? k with
    | some v => natLE 8 (if v.valid then 1 else 2) ++ natLE (8 * x.w) v.value
    | none => zeros (8 + 8 * x.w))

/-- The section content of a queue pair (R93); `ran` says that it ran before the export. -/
def State.qpBytes (s : State) (sl q : Nat) (ran : Bool) : Bytes :=
  let i := qpi sl q
  natLE 1 q ++ natLE 1 (b2n ran) ++ natLE 2 (s.fget Fld.CMD_CQ_TAIL_phase i) ++ natLE 4 (s.reg .CMD_QP_SIZE i).toNat ++
  natLE 8 (s.reg .CMD_QP_IRQ i).toNat ++ natLE 8 (s.reg .CMD_SQ_BASE i).toNat ++ natLE 8 (s.reg .CMD_CQ_BASE i).toNat ++
  natLE 4 (s.fget Fld.CMD_SQ_HEAD_head i) ++ natLE 4 (s.fget Fld.CMD_SQ_TAIL_tail i) ++
  natLE 4 (s.fget Fld.CMD_CQ_HEAD_head i) ++ natLE 4 (s.fget Fld.CMD_CQ_TAIL_tail i)

/-- The transit seal of a slice's vault under a transfer key (R124), where it has one loaded. -/
def State.transitSeal (s : State) (sl : Nat) (key : Bytes) : Bytes :=
  match s.vaultOf sl with
  | some (_, root, block) =>
    packSection 2 (mkSeal key (sealHead 2 sl s.lc s.ep (s.vaultCounter sl) (s.vaultId sl) (s.mr 2) block.length) root block)
  | none => []

/-- The body of a slice's package (R93). An SA's section carries its extension contexts, where it has any, after the 128-octet head context (DESIGN CHOICE 111). -/
def State.packageBody (s : State) (sl ran : Nat) (key nonce : Bytes) : Bytes :=
  packSection 1 (s.shareBlock sl) ++ s.transitSeal sl key ++
  (match s.vaultOf sl with | some (_, root, _) => s.keySections sl root | none => []) ++
  (s.tbl.sas.filter (fun _ a => a.slice == sl)).cells.flatMap (fun e =>
    packSection 4 (natLE 8 (s.saIdOf e.1) ++ e.2.thawed.encode e.1 ++ e.2.encodeExt)) ++
  (s.tbl.pols.filter (fun _ p => p.slice == sl)).cells.flatMap (fun e => packSection 5 (s.policyBytes e.1 e.2)) ++
  (s.pke.spaces.filter (fun _ x => x.slice == sl)).cells.flatMap (fun e => packSection 6 (spaceBytes e.1 e.2)) ++
  (List.range 8).flatMap (fun q => packSection 7 (s.qpBytes sl q (bit ran q))) ++
  packSection 8 (s.statement sl true nonce) ++ packSection 0xFF []

/-- The length of a slice's package (R93). -/
def State.packageLen (s : State) (sl : Nat) : Nat := 0x718 + (s.packageBody sl 0 (zeros 32) (zeros 32)).length + 4723

/-- The nonce and the recipient key block of an offer; the destination slice is its statement's. -/
def offerNonce (o : Bytes) : Bytes := slice o 0x24 32
def offerKeys (o : Bytes) : Bytes := slice o 0x74 1665
def offerStatement (o : Bytes) : Bytes := slice o 0x6F8 12854

/-- An offer is well formed and its signatures pass (R90, R91). -/
def offerOk (o : Bytes) : Bool :=
  o.length == offerLen && field o 0 4 == 1 && allZero (slice o 0x6F5 3) && statementOk (offerStatement o) (offerNonce o) &&
    attestVerify (statementCert (offerStatement o)) (o.take 0x6F8) (o.drop (0x6F8 + 12854)) && recipientOk (offerKeys o)

/-- The first 0x80 octets of a package (R93). -/
def State.packageHead (s : State) (sl : Nat) (o : Bytes) (b : Nat) : Bytes :=
  natLE 4 1 ++ natLE 4 (0x718 + b + 4723) ++ s.deviceId ++ s.domain ++ offerNonce o ++ natLE 2 sl ++
  slice (offerStatement o) 0x28 2 ++ natLE 4 b ++ natLE 8 s.now ++ zeros 40

/-- The package of a slice for an offer, before its signatures (R93); `rnd` are random octets. -/
def State.package (s : State) (sl ran : Nat) (o rnd : Bytes) : Bytes :=
  let head := s.packageHead sl o (s.packageBody sl ran (zeros 32) (offerNonce o)).length
  let (ct, point, secret) := hybridSend (offerKeys o) rnd
  let (key, nonce) := transferKey secret head migrateLabel
  let aad := head ++ ct ++ point ++ zeros 7
  let (c, tag) := sivSeal key nonce aad (s.packageBody sl ran key (offerNonce o))
  aad ++ c ++ tag

/-- The SAs of a slice are frozen, or as they were (R92, R94). -/
def State.freezeSas (s : State) (sl : Nat) (on : Bool) : State :=
  { s with tbl := { s.tbl with sas := s.tbl.sas.map (fun _ a =>
      if a.slice == sl then (if on then a.freeze else a.thawed) else a) } }

/-- Frames under SAs of a slice are in the device. -/
def State.sliceFrames (s : State) (sl : Nat) : Bool :=
  s.tbl.sas.any (fun h a => a.slice == sl && s.saFrames h)

/-- A queue pair runs again with its heads, tails and phase kept (R94). -/
def State.resumeQp (s : State) (i : Nat) : State := (s.fset Fld.CMD_QP_STATUS_running i 1).fset Fld.CMD_QP_CTRL_enable i 1

/-- Queue pairs of a slice run again, by their bits. -/
def State.resumeSlice (s : State) (sl ran : Nat) : State :=
  (List.range 8).foldl (fun s q => if bit ran q then s.resumeQp (qpi sl q) else s) s

/-- A deferred export is done with. -/
def State.dropExport (s : State) (pid : Nat) : State :=
  { s with cmd := { s.cmd with deferred := s.cmd.deferred.filter (fun a =>
      match a with | .sliceExport i _ _ _ => i != pid | _ => true) } }

/-- An export that fails at or before step 4 (R94): SAs active, queue pairs running, the slice BOUND, the reservation given up. -/
def State.exportFails (s : State) (pid sl ran : Nat) (st : Status) : State :=
  ((((s.dropExport pid).freezeSas sl false).resumeSlice sl ran).setSliceState sl slBound).meterRelease.fail pid st

/-- The commit point of an export (R120): the package before its signatures is written, the export record stored, and the vault counter advanced. -/
def State.exportCommit (s : State) (p : Packet) (sl : Nat) (pkg : Bytes) : State :=
  let s := s.writeOut p pkg
  let s := { s with bb := { s.bb with exportRec := some (sl, sha384 pkg) } }
  (s.vaultAdvance sl false false).getD s

/-- The slice's custody state leaves with the export: step 6 of R92. -/
def State.exportDestroy (s : State) (sl : Nat) : State :=
  let s := (s.tbl.sas.filter (fun _ a => a.slice == sl)).keys.foldl State.saFree s
  let s := { s with tbl := { s.tbl with events := s.tbl.events.erase sl } }
  (s.destroySlice sl).clearShare sl

/-- Ranges after their first `n` octets. -/
def dropRanges : Nat → List (Nat × Nat) → List (Nat × Nat)
  | _, [] => []
  | n, (a, l) :: r => if n < l then (a + n, l - n) :: r else dropRanges (n - l) r

/-- The signatures of an export, written after the package (R120). -/
def State.exportSign (s : State) (p : Packet) (n : Nat) (sig : Bytes) : State :=
  if p.discard then s else s.writeRanges p.ring (dropRanges n p.outRanges) sig

/-- The draining SAs of a slice whose last frame has left are freed (R266). -/
def State.drainedSas (s : State) (sl : Nat) : State :=
  (s.tbl.sas.filter (fun _ a => a.slice == sl && a.state == .draining)).keys.foldl State.saDrained s

/-- A compatibility slot of a slice whose check fails at the transfer of its key (R131). -/
def State.badSlotOf (s : State) (sl : Nat) : Option (Nat × CompatSlot) :=
  s.ks.slots.find? (fun i c => c.slice == sl && !c.bad && !s.slotPasses i c)

/-- The package of an export fits its output, with the signatures (R92 step 4). -/
def Packet.holdsPackage (p : Packet) (pkg : Bytes) : Bool := decide (pkg.length + 4723 ≤ p.capacity)

/-- The export's remaining steps once its stop sequences and its frames have ended (R92, R120). -/
def State.exportEnd (s : State) (pid sl ran mu : Nat) (p : Packet) : State :=
  let s := s.drainedSas sl
  match s.badSlotOf sl with
  | some (line, c) => (s.slotBad line c).exportFails pid sl ran .rejected
  | none =>
  let pkg := s.package sl ran p.input (p.random 0 64)
  if p.holdsPackage pkg then
    let sig := s.attestSign pkg
    let s := (({ s with free := s.free + (s.keysOf sl).length }).dropExport pid).finalRecord sl 0x03
    let s := (s.exportCommit p sl pkg).exportSign p pkg.length sig
    let s := ({ s with bb := { s.bb with exportRec := none } }).dlogDisable sl
    let s := s.exportDestroy sl
    s.complete pid (Compl.done s.now (pkg.length + 4723) mu 0)
  else s.exportFails pid sl ran .rejected

/-- The export of a slice goes on, if its stop sequences and its frames have ended (R92). -/
def State.exportNow (s : State) (pid sl ran mu : Nat) : State :=
  match s.cmd.packets.get? pid with
  | none => s
  | some p => if s.sliceStopped sl && !s.sliceFrames sl then s.exportEnd pid sl ran mu p else s

/-- A device reset that comes after the commit point of an export, whose stop sequences have ended, and before its completion (R94, R120): the export stands, and its record stays in BBRAM. -/
def State.exportCut (s : State) : State :=
  s.cmd.deferred.foldl (fun s a =>
    match a with
    | .sliceExport pid sl ran _ =>
      match s.cmd.packets.get? pid with
      | some p =>
        let pkg := s.package sl ran p.input (p.random 0 64)
        if (List.range 8).all (fun q => (s.qpPackets sl q).isEmpty) && !s.sliceFrames sl && (s.badSlotOf sl).isNone &&
            p.holdsPackage pkg then
          (s.finalRecord sl 0x03).exportCommit p sl pkg
        else s
      | none => s
    | _ => s) s

/-- The slice that a SLICE_EXPORT block names, and its mode (R91). -/
def exSlice (b : Bytes) : Nat := field b 0 2
def exMode (b : Bytes) : Nat := field b 2 1

/-- The form of a SLICE_EXPORT block: `token` says that a token follows (R91). -/
def exForm (b : Bytes) (token : Bool) : Bool :=
  decide (8 ≤ b.length) && (token || b.length == 8) && decide (exSlice b ≤ 4095) && allZero (slice b 3 5)

/-- The checks of an export (R91, R120, R443), with the state after its quorum check and its reservation, and the charge of the token. -/
def State.askExport (s : State) (pid : Nat) (p : Packet) : Except Stop (State × Nat) := do
  let _ ← s.handles pid p
  let b := p.block
  let sl := exSlice b
  let o := p.input
  require (p.pind && p.readOk true && exForm b true && exMode b == 0 && offerOk o) .rejected
  let (_, _, blk) ← s.vaultNow sl
  let st := offerStatement o
  require (slice o 0x14 16 == s.domain && slice o 0x44 48 == s.mr 2 && statementDomain st == s.domain && statementMeas st == s.mr 2) .denied
  let (u, mu, _) ← getOr (s.vaultQuorum sl qMigrate true blk (sha384 o) (b.drop 8) p.data.approvals) .denied
  requireIn u (u.sliceState sl != slUnbinding && u.sliceState sl != slExporting && u.bb.exportRec.isNone && !u.sealing) .busyRetry
  let t ← getIn u (u.meterReserve 1) .busyRetry
  requireIn u (u.sliceState sl == slBound && p.areasOk ioBoth) .rejected
  .ok (t, mu)

/-- SLICE_EXPORT in export mode (R92): steps 1 and 2 begin. -/
def State.exportSlice (s : State) (pid : Nat) (p : Packet) : State :=
  match s.askExport pid p with
  | .error e => s.conclude pid (.error e)
  | .ok (t, mu) =>
    let sl := exSlice p.block
    let ran := t.qpRunning sl
    let t := ((t.endBuild sl .busyRetry).countPid pid false).setPacket pid { p with start := t.now, phase := .waiting }
    let t := ((t.setSliceState sl slExporting).freezeSas sl true).stopSlice sl
    ({ t with cmd := { t.cmd with deferred := t.cmd.deferred ++ [Deferred.sliceExport pid sl ran mu] } }).exportNow pid sl ran mu

/-- SLICE_EXPORT, mode 0x00, and any mode that R91 does not assign: turns a slice into a migration package for an offer (R91 to R94). -/
def execSliceExport (dt pid : Nat) (d : PktData) (s : State) : Host.Outcome State Fault Refusal :=
  let s := s.tick dt
  if decide (1 ≤ exMode d.pind) && decide (exMode d.pind ≤ 3) then .next s
  else .next (s.runPacket 0x0F08 pid d State.exportSlice)

/-- SLICE_EXPORT in size-query mode (R91). -/
def opExportSize : Op := fun s pid p => do
  let _ ← s.handles pid p
  let sl := exSlice p.block
  require (p.pind && exForm p.block false && p.areasOk ioNone) .rejected
  require (s.sliceState sl != slUnbinding && s.sliceState sl != slExporting) .busyRetry
  require (s.sliceState sl == slBound) .rejected
  .ok ⟨s, [], 0, s.packageLen sl⟩

/-- SLICE_EXPORT, mode 0x01: the package length that the slice would need (R91). -/
def execSliceExportSizeQuery (dt pid : Nat) (d : PktData) (s : State) : Host.Outcome State Fault Refusal :=
  let s := s.tick dt
  if exMode d.pind == 1 then .next (s.runOp 0x0F08 pid d opExportSize) else .next s

/-- The pending export record names the slice of a packet's block (R91). -/
def State.exportPends (s : State) (sl : Nat) : Option Bytes :=
  match s.bb.exportRec with
  | some (r, h) => if r = sl then some h else none
  | none => none

/-- SLICE_EXPORT in sign-pending mode (R91, R120). -/
def opExportSign : Op := fun s pid p => do
  let _ ← s.handles pid p
  require (p.pind && exForm p.block false && p.areasOk ioBoth) .rejected
  let h ← getOr (s.exportPends (exSlice p.block)) .rejected
  require (sha384 p.input == h && p.fits 4723) .rejected
  .ok ⟨{ s with bb := { s.bb with exportRec := none } }, s.attestSign p.input, 0, p.inTotal + 4723⟩

/-- SLICE_EXPORT, mode 0x02: signs the package that a reset left unsigned (R91, R120). -/
def execSliceExportSignPending (dt pid : Nat) (d : PktData) (s : State) : Host.Outcome State Fault Refusal :=
  let s := s.tick dt
  if exMode d.pind == 2 then .next (s.runOp 0x0F08 pid d opExportSign) else .next s

/-- SLICE_EXPORT in discard-pending mode (R91, R120). -/
def opExportDiscard : Op := fun s pid p => do
  let _ ← s.handles pid p
  require (p.pind && exForm p.block false && p.areasOk ioNone) .rejected
  let _ ← getOr (s.exportPends (exSlice p.block)) .rejected
  .ok ⟨{ s with bb := { s.bb with exportRec := none } }, [], 0, 0⟩

/-- SLICE_EXPORT, mode 0x03: clears the pending export record (R91, R120). -/
def execSliceExportDiscardPending (dt pid : Nat) (d : PktData) (s : State) : Host.Outcome State Fault Refusal :=
  let s := s.tick dt
  if exMode d.pind == 3 then .next (s.runOp 0x0F08 pid d opExportDiscard) else .next s

/-- The sections of a package body, up to and with the end section: none where the body is malformed. -/
def unpack : Nat → Bytes → Option (List (Nat × Bytes))
  | 0, _ => none
  | fuel + 1, b =>
    let t := field b 0 2
    let n := field b 4 4
    let full := 8 + (n + 7) / 8 * 8
    if b.length < full || field b 2 2 != 0 then none
    else if t = 0xFF then (if n = 0 && b.length == 8 then some [] else none)
    else (unpack fuel (b.drop full)).map (fun l => (t, slice b 8 n) :: l)

/-- The contents of the sections of a type. -/
def contentsOf (l : List (Nat × Bytes)) (t : Nat) : List Bytes := (l.filter (fun e => e.1 == t)).map (·.2)

/-- The section types rise, and their counts are those of R93. -/
def sectionsOk (l : List (Nat × Bytes)) : Bool :=
  let n := fun t => (contentsOf l t).length
  l.all (fun e => decide (1 ≤ e.1) && decide (e.1 ≤ 8)) && (l.zip l.tail).all (fun e => decide (e.1.1 ≤ e.2.1)) &&
  n 1 == 1 && decide (n 2 ≤ 1) && n 7 == 8 && n 8 == 1 && (n 2 == 1 || n 3 == 0) &&
  (contentsOf l 7).all (fun c => c.length == 48 && decide (field c 1 1 ≤ 1)) &&
  (contentsOf l 7).map (fun c => field c 0 1) == List.range 8

/-- A package opened under an offer: its sections and its transfer key, where every check of R95 on it passes. -/
def State.openPackage (s : State) (o : Offer) (pkg : Bytes) : Option (List (Nat × Bytes) × Bytes) :=
  let b := field pkg 0x4C 4
  if field pkg 0 4 == 1 && field pkg 4 4 == pkg.length && pkg.length == 0x718 + b + 4723 && slice pkg 0x28 32 == o.nonce &&
      field pkg 0x4A 2 == o.slice && allZero (slice pkg 0x58 40) && allZero (slice pkg 0x701 7) then
    match openTransfer o.keys.value pkg migrateLabel b with
    | none => none
    | some (body, key) =>
      match unpack (body.length + 1) body with
      | none => none
      | some l =>
        let st := (contentsOf l 8).headD []
        if sectionsOk l && statementOk st o.nonce && statementDomain st == s.domain && statementMeas st == s.mr 2 &&
            attestVerify (statementCert st) (pkg.take (0x718 + b)) (pkg.drop (0x718 + b)) &&
            shareRecordOk ((contentsOf l 1).headD []) then some (l, key) else none
  else none

/-- What an import has installed so far: the state, and the map of old to new handles and SA identifiers. -/
structure Moved where
  s : State
  map : List (Nat × Nat)

/-- The new value of an old handle or identifier. -/
def Moved.new (m : Moved) (old : Nat) : Option Nat := cellsGet m.map old

/-- The vault root and policy block of a transit seal under a transfer key (R124). -/
def openTransit (key b : Bytes) : Option (Bytes × Bytes) :=
  let p := field b 2 2
  if b.length == 144 + p && field b 0 1 == 1 && field b 1 1 == 2 && field b 0x0C 4 == b.length && field b 0x5C 4 == 32 + p then
    (sivOpen key (slice b 0x50 12) (slice b 0 0x60) (slice b 0x60 (32 + p)) (slice b (0x80 + p) 16)).map
      (fun pt => (pt.take 32, pt.drop 32))
  else none

/-- The vault of a package is installed (R95): the root record. -/
def State.moveVault (s : State) (sl : Nat) (key : Bytes) : List Bytes → Except Stop State
  | [] => .ok s
  | c :: _ => do
    let (root, block) ← getOr (openTransit key c) .rejected
    require (policyOk block false) .rejected
    let (_, t) ← getOr (s.addRecord (rootRecord sl (slice c 0x10 16) block) root) .noResource
    .ok t

/-- A key of a package is installed from its mitten (R95, R122). -/
def moveKey (sl : Nat) (root block vault : Bytes) (m : Moved) (c : Bytes) : Except Stop Moved := do
  let old := field c 0 8
  let mt := c.drop 8
  let (secret, pub) ← getOr (openMitten root block vault mt) .rejected
  let (line, t) ← getOr (m.s.addRecord (recOfHeader sl (mt.take 64) pub) secret) .noResource
  .ok ⟨t, m.map ++ [(old, t.handleOf sl (field mt 1 1) line)]⟩

/-- The SPI or the SCI of an SA is installed for another slice (R95), whatever its AN. -/
def State.identElsewhere (s : State) (sl : Nat) (a : SaCtx) : Bool :=
  s.tbl.sas.any (fun _ b => b.slice != sl && isMac b.kind == isMac a.kind && b.ident == a.ident)

/-- An SA of a package is installed (R95): its key is the one that its old line has become. A pair or VLAN that the slice does not own here makes the import REJECTED (DESIGN CHOICE 112). -/
def moveSa (sl : Nat) (m : Moved) (c : Bytes) : Except Stop Moved := do
  let old := field c 0 8
  let a := saOfCtx (c.drop 8)
  let h ← getOr ((m.map.find? (fun e => hLine e.1 == a.keyLine && hGen e.1 == a.keyGen)).map (·.2)) .rejected
  let a : SaCtx := { a with slice := sl, keyLine := hLine h, keyGen := hGen h, flags := a.flags &&& (0xFFFF ^^^ 2 ^ fMirrored) }
  require (c.length == 8 + 128 * a.size && m.s.saOwned sl a.kind a.pair a.vlan && m.s.pairOk a.pair) .rejected
  require (!m.s.identElsewhere sl a && !(a.inbound && m.s.saTaken (isMac a.kind) a.ident a.an)) .noResource
  let (head, t) ← getOr (m.s.saAdd a) .noResource
  .ok ⟨t, m.map ++ [(old, t.saIdOf head)]⟩

/-- A policy of a package is installed (R95), its SA identifier renewed. -/
def movePolicy (sl : Nat) (m : Moved) (c : Bytes) : Except Stop Moved := do
  let sa ← getOr (if field c 3 1 == 1 then m.new (field c 8 8) else some 0) .rejected
  let e := c.take 8 ++ natLE 8 sa ++ c.drop 16
  require (policyForm e && m.s.policySa sl e) .rejected
  let i ← getOr (m.s.policyMap sl e) .rejected
  require (m.s.policyRoom i e) .noResource
  .ok ⟨(m.s.policyInsert sl i e).2, m.map⟩

/-- A workspace of a package is opened (R95): its identifier keeps its low bits. -/
def moveSpace (sl : Nat) (m : Moved) (c : Bytes) : Except Stop Moved := do
  let w := field c 8 4
  let n := field c 12 4
  require (decide (4 ≤ w) && decide (w ≤ 256) && decide (1 ≤ n) && decide (n * w ≤ 7680) && c.length == 16 + n * (8 + 8 * w)) .rejected
  require (decide (m.s.wsCount sl < 4) && decide (m.s.wsWords + n * w ≤ workspaceWords)) .noResource
  let slots := (List.range n).foldl (fun (t : NMap WsSlot) k =>
    let o := 16 + k * (8 + 8 * w)
    let v := field c o 8
    if v = 0 then t else t.insert k ⟨field c (o + 8) (8 * w), v == 1⟩) .empty
  .ok ⟨m.s.setSpace (sl * 2 ^ 52 + field c 0 8 % 2 ^ 52) ⟨sl, w, n, slots⟩, m.map⟩

/-- A queue pair takes its exported state and runs if it ran (R95). -/
def State.moveQp (s : State) (sl : Nat) (c : Bytes) : State :=
  let i := qpi sl (field c 0 1)
  let w := fun (off len : Nat) => BitVec.ofNat 64 (field c off len)
  let s := ((s.setReg .CMD_QP_SIZE i (w 4 4)).setReg .CMD_QP_IRQ i (w 8 8)).setReg .CMD_SQ_BASE i (w 16 8)
  let s := ((s.setReg .CMD_CQ_BASE i (w 24 8)).setReg .CMD_SQ_HEAD i (w 32 4)).setReg .CMD_SQ_TAIL i (w 36 4)
  let s := (s.setReg .CMD_CQ_HEAD i (w 40 4)).fset Fld.CMD_CQ_TAIL_tail i (field c 44 4)
  let s := s.fset Fld.CMD_CQ_TAIL_phase i (field c 2 2)
  if field c 1 1 == 1 then s.resumeQp i else s

/-- The seal of an imported vault for this device, with its counter advanced (R95, R117). -/
def State.moveSeal (s : State) (sl : Nat) : Except Stop (State × Bytes) :=
  match s.vaultOf sl with
  | none => .ok (s, [])
  | some (_, root, block) => getOr (s.issueSeal sl (s.vaultId sl) root block) .noResource

/-- The map that an import outputs (R95). -/
def moveMap (m : Moved) : Bytes := m.map.flatMap (fun e => natLE 8 e.1 ++ natLE 8 e.2)

/-- The sections of an opened package are installed under their offer (R95). -/
def State.installPackage (s : State) (o : Offer) (p : Packet) (l : List (Nat × Bytes)) (key : Bytes) : Except Stop Did := do
  let sl := o.slice
  let share := (contentsOf l 1).headD []
  require (s.sumsOk sl share) .noResource
  let t := { s with slc := { s.slc with offers := s.slc.offers.erase sl } }
  let t ← (t.bindSlice sl o.pasid share).moveVault sl key (contentsOf l 2)
  let (root, block) := match t.vaultOf sl with | some (_, r, b) => (r, b) | none => ([], [])
  let m ← (contentsOf l 3).foldlM (moveKey sl root block (t.vaultId sl)) ⟨t, []⟩
  let m ← (contentsOf l 4).foldlM (moveSa sl) m
  let m ← (contentsOf l 5).foldlM (movePolicy sl) m
  let m ← (contentsOf l 6).foldlM (moveSpace sl) m
  require (m.s.withinQuota sl share) .noResource
  let u := (contentsOf l 7).foldl (fun s c => s.moveQp sl c) m.s
  let (v, sealOut) ← u.moveSeal sl
  let out := sealOut ++ moveMap m
  require (p.fits out.length) .rejected
  .ok ⟨v, out, 0, m.map.length⟩

/-- The checks and the actions of an import under an offer (R95). -/
def State.importSlice (s : State) (o : Offer) (p : Packet) : Except Stop Did := do
  let (l, key) ← getOr (s.openPackage o p.input) .rejected
  s.installPackage o p l key

/-- SLICE_IMPORT in import mode (R95). -/
def opSliceImport : Op := fun s pid p => do
  let _ ← s.handles pid p
  require (!s.sealing && !s.wiping) .busyRetry
  require (p.areasOk ioBoth && !p.pind && p.par 0 0 == 2 && p.par 1 7 == 0) .rejected
  let (_, o) ← getOr (s.slc.offers.find? (fun _ o => o.ident == p.par 8 15 && decide (s.now < o.expiry))) .rejected
  s.importSlice o p

/-- SLICE_IMPORT, p[0] = 0x02 and any value that R90 and R95 do not assign: imports a package under an offer (R95). -/
def execSliceImport (dt pid : Nat) (d : PktData) (s : State) : Host.Outcome State Fault Refusal :=
  let s := s.tick dt
  match s.cmd.packets.get? pid with
  | some p => if p.par 0 0 == 1 then .next s else .next (s.runOp 0x0F09 pid d opSliceImport)
  | none => .next s

end Sys2Proof.Machine
end

