-- ==== Sys2Proof/Machine/Gauntlet.lean ====
section
/-! DEFINITION. The Gauntlet (R379 to R401): conditions, decisions, responses, evidence records and their log. Log entries of this file: DEDUCED 66, 118, 120, 143, 149, 261; DESIGN CHOICE 12, 51, 70, 116, 117, 119, 123, 124, 243. -/

namespace Sys2Proof.Machine

/-- Every island except GM and KA, as a mask (R386). -/
def maskAll : Nat := (List.range 64).foldl (fun a n => if islandAssigned n && n != 4 && n != 5 then a ||| 2 ^ n else a) 0

/-- Islands as a mask. -/
def maskOf (l : List Nat) : Nat := l.foldl (fun a n => a ||| 2 ^ n) 0

/-- The scope of a rail's excursion (R386). -/
def railScope (rail : Nat) : Nat :=
  if rail ≤ 1 then maskAll else if rail ≤ 3 then maskOf [0x00, 0x10, 0x11, 0x12, 0x13] else maskOf [0x01, 0x06, 0x07]

/-- The islands that use a reference clock (R495). -/
def refScope (c : Nat) : Nat :=
  match c with
  | 0 => maskOf [0x00]
  | 1 => maskOf [0x10, 0x11]
  | 2 => maskOf [0x12, 0x13]
  | _ => maskAll

/-- The levels of a rail in mV (R380): under-voltage reset and warning, over-voltage warning and reset, glitch deviation, nominal. -/
def railLevels (rail : Nat) : Nat × Nat × Nat × Nat × Nat × Nat :=
  match rail with
  | 0 => (665, 700, 820, 860, 60, 750)
  | 1 => (755, 795, 925, 970, 60, 850)
  | 2 => (800, 840, 980, 1030, 60, 900)
  | 3 => (1065, 1120, 1300, 1370, 100, 1200)
  | 4 => (1600, 1680, 1950, 2050, 120, 1800)
  | _ => (2930, 3080, 3580, 3760, 180, 3300)

/-- The class in effect of a sensor (R386). -/
def State.sensorClass (s : State) (n : Nat) : Nat := s.fget Fld.GNT_SENSOR_class n

/-- A class erase runs. -/
def State.erasing (s : State) : Bool := s.flag Fld.GNT_STATUS_erase_busy 0

/-- BBRAM is held in clear (R390). -/
def State.clearHeld (s : State) : Bool := s.flag Fld.GNT_STATUS_clear_held 0

/-- A condition that is present. -/
def Cond.present (c : Cond) : Bool := c.ended.isNone

/-- The islands that a condition holds (R389): its scope until the hold lifts, and every island while a condition of class 2 or 3 persists. -/
def Cond.holds (c : Cond) : Nat :=
  if c.cls = 0 then 0 else if 2 ≤ c.cls && c.present then maskAll else c.scope

/-- The islands held now (R389, R391). -/
def State.heldMask (s : State) : Nat :=
  s.gnt.conds.cells.foldl (fun a e => a ||| e.2.holds) (if s.erasing then maskAll else 0)

/-- Conditions present, of one sensor or all. -/
def State.sensorPresent (s : State) (n : Nat) : Bool := s.gnt.conds.any (fun k c => k / 256 == n && c.present)

/-- The highest class among the conditions present. -/
def State.activeClass (s : State) : Nat :=
  s.gnt.conds.cells.foldl (fun a e => if e.2.present then max a e.2.cls else a) 0

/-- The time at which the hold of each island lifted, where one was held and is not any more (R179). -/
def State.noteLifted (s : State) (before after : Nat) : State :=
  { s with pke := { s.pke with
    lifted := (List.range 64).foldl (fun m n => if bit before n && !bit after n then m.insert n s.now else m) s.pke.lifted } }

/-- The registers that follow the conditions: `GNT_HOLD`, `GNT_STATUS` and `GNT_SENSORn.present`. -/
def State.gntSync (s : State) : State :=
  let held := s.heldMask
  let s := s.noteLifted (s.reg .GNT_HOLD 0).toNat held
  let s := s.setReg .GNT_HOLD 0 (BitVec.ofNat 64 held)
  let s := s.fset Fld.GNT_STATUS_hold_any 0 (b2n (held != 0))
  let s := s.fset Fld.GNT_STATUS_present 0 (b2n (s.gnt.conds.any (fun _ c => c.present)))
  let s := s.fset Fld.GNT_STATUS_active 0 s.activeClass
  (List.range 23).foldl (fun s n => s.fset Fld.GNT_SENSOR_present n (b2n (s.sensorPresent n))) s

/-- The 20 octets of a record before its chain value (R394). -/
def State.evidenceBody (s : State) (typ cls detail : Nat) (union : Bool) : Bytes :=
  let backup := !s.gnt.main
  natLE 1 typ ++ natLE 1 (cls % 4 + 4 * b2n backup + 8 * b2n union) ++ natLE 2 detail ++
  natLE 5 (s.gnt.kaNs / 1000000000) ++ natLE 3 (s.fget Fld.GNT_PWRCYC_count 0) ++ natLE 8 (if backup then 0 else s.now)

/-- A staged record is an overflow record (R397). -/
def isOverflow (b : Bytes) : Bool := field b 0 1 == 0x7F

/-- An overflow record counts one more merged record. -/
def bumpOverflow (b : Bytes) : Bytes := b.take 2 ++ natLE 2 (min (field b 2 2 + 1) 0xFFFF) ++ b.drop 4

/-- Staging of a record (R397): the tail of the buffer, or the overflow record where fifteen slots are in use. -/
def State.stage (s : State) (b : Bytes) : State :=
  if (s.gnt.staged.filter (fun r => !isOverflow r)).length < 15 then
    { s with gnt := { s.gnt with staged := s.gnt.staged ++ [b] } }
  else
    let l := if s.gnt.staged.any isOverflow then s.gnt.staged.map (fun r => if isOverflow r then bumpOverflow r else r)
      else s.gnt.staged ++ [s.evidenceBody 0x7F 0 1 false]
    let s := { s with gnt := { s.gnt with staged := l } }
    if s.gnt.main then (s.bumpSat Fld.GNT_STAGE_merged 0 1).raiseIrq 0x06 else s

/-- A record is made (R394): it is staged, shown in `GNT_LAST`, and copied to the event recorder on main power; a class 0 record raises its interrupt. -/
def State.evidence (s : State) (typ cls detail : Nat) (union : Bool) : State :=
  let b := s.evidenceBody typ cls detail union
  let s := s.stage b
  let s := s.setReg .GNT_LAST 0 (BitVec.ofNat 64 (detail % 2 ^ 16 * 2 ^ 16 + field b 1 1 * 2 ^ 8 + typ))
  if s.gnt.main then
    let s := s.event 0x10 0x05 (field b 0 8)
    if cls = 0 then s.raiseIrq 0x00 else s
  else s

/-- Every DRBG instance and the seed buffer are zeroized (R301, R310, R312). -/
def State.rngZeroize (s : State) : State :=
  let s := (s.fset Fld.RNG_STATUS_inst 0 0).fset Fld.RNG_SEEDS_avail 0 0
  let s := (List.range 4).foldl (fun s n => s.setReg .RNG_DRBG n 0) s
  { s with rng := { s.rng with half := false, calls := .empty } }

/-- Forward sealing meets a class 2 erase: FW_ACTIVATE completes with FAULTED, and the journal becomes SUSPENDED (R136). -/
def State.suspendSeal (s : State) : State :=
  match s.fw.act with
  | some a =>
    if a.kind = 1 && a.phase = 1 then
      let j := if s.bb.journal.state = 1 then { s.bb.journal with state := 2 } else s.bb.journal
      let n := s.fget Fld.PMC_METER_STATUS_reserved_e 0 - a.reserved
      (({ s with bb := { s.bb with journal := j }, fw := ⟨none⟩ }).fset Fld.PMC_METER_STATUS_reserved_e 0 n).fail a.pid .faulted
    else s
  | none => s

/-- The class 2 actions (R389): working keys are erased, SAs freed, banks flushed, the DRBGs zeroized. -/
def State.eraseWork (s : State) : State :=
  let s := s.eraseJobs.framesErase.blkErase
  let s := { s with pke := { s.pke with opmem := .empty } }
  let s := s.wipeCache.sasErase.tablesErase
  s.rngZeroize.suspendSeal

/-- The NET islands. -/
def netIslands : List Nat := [0x10, 0x11, 0x12, 0x13]

/-- The clock of a stopped island restarts for an erase (R327). -/
def State.clockRestarts (s : State) (n : Nat) : State :=
  if s.fget Fld.WLD_ISLAND_pwr n == 1 then s.fset Fld.WLD_ISLAND_pwr n 0 else s

/-- A class 2 erase begins, unless one runs (R391). -/
def State.eraseBegin (s : State) : State :=
  if s.erasing then s
  else
    let s := (s.fset Fld.GNT_STATUS_erase_busy 0 1).fset Fld.KS_STATUS_wipe_busy 0 1
    let s := netIslands.foldl State.clockRestarts s
    (({ s with gnt := { s.gnt with eraseAt := some s.gnt.kaNs } }).endCard .faulted).eraseWork

/-- The KA erase (R390): BBRAM is cleared and held in clear; more than one pulse is recorded. -/
def State.kaErase (s : State) : State :=
  let (c, s) := s.choose 4
  let s := { s with bb := Bbram.reset }
  if c = 0 then s else s.evidence 0x22 0 (c + 1) false

/-- The RP reset that follows a class 3 decision on main power after phase KEYS (R390). -/
def State.askRpReset (s : State) : State :=
  if 3 < s.fget Fld.DEV_BOOT_STATUS_phase 0 then { s with gnt := { s.gnt with rpDue := true } } else s

/-- The actions of a class at a decision (R389 to R392). -/
def State.respond (s : State) (cls : Nat) : State :=
  if !s.gnt.main then
    if cls = 3 && !s.clearHeld then (s.fset Fld.GNT_STATUS_clear_held 0 1).kaErase else s
  else if cls = 1 then s.raiseIrq 0x01
  else if cls = 2 then
    if s.clearHeld then s else (s.raiseIrq 0x03).eraseBegin
  else if cls = 3 then
    if s.clearHeld then s
    else (((s.raiseIrq 0x04).fset Fld.GNT_STATUS_clear_held 0 1).kaErase.eraseBegin).askRpReset
  else s

/-- The count of alarms of a class since reset (`GNT_COUNTS`). -/
def countOf (cls : Nat) : Fld :=
  match cls with
  | 0 => Fld.GNT_COUNTS_c0
  | 1 => Fld.GNT_COUNTS_c1
  | 2 => Fld.GNT_COUNTS_c2
  | _ => Fld.GNT_COUNTS_c3

/-- An alarm is recorded: its count, its record, and the cause of the device interrupt for class 1 and above. -/
def State.alarm (s : State) (typ cls detail : Nat) (union : Bool) : State :=
  let s := (s.bumpSat (countOf cls) 0 1).evidence typ cls detail union
  if 1 ≤ cls && s.gnt.main then s.deviceCause 5 else s

/-- The key of a condition. -/
def condKey (n sub : Nat) : Nat := 256 * n + sub

/-- The condition ended less than 1 s ago, so that it makes no new record (R387). -/
def State.recurs (s : State) (k : Nat) : Bool :=
  match s.gnt.lastEnd.get? k with
  | some t => decide (s.gnt.kaNs < t + 1000000000)
  | none => false

/-- A condition is present already (R387). -/
def State.condOn (s : State) (k : Nat) : Bool :=
  match s.gnt.conds.get? k with
  | some c => c.present
  | none => false

/-- A sensor can report: every sensor on main power, those of KA and its decision units on backup power (R388, R392). -/
def State.sensorRuns (s : State) (n : Nat) : Bool :=
  s.gnt.main || (s.gnt.ka && decide (7 ≤ n) && decide (n ≤ 22))

/-- A sensor of the KA part of the Gauntlet (R386). -/
def kaSensor (n : Nat) : Bool := decide (7 ≤ n) && decide (n ≤ 21)

/-- A step of the decision LFSR of a part (R388). -/
def State.stepLfsr (s : State) (ka : Bool) : State :=
  if ka then { s with gnt := { s.gnt with kaLfsr := Config.lfsrNext s.gnt.kaLfsr % 65536 } }
  else { s with gnt := { s.gnt with lfsr := Config.lfsrNext s.gnt.lfsr % 65536 } }

/-- The decision LFSR of a part. -/
def State.lfsrOf (s : State) (ka : Bool) : Nat := if ka then s.gnt.kaLfsr else s.gnt.lfsr

/-- The record of the second decision unit's wait, its order and delay drawn from the LFSR of the part (R388; which bits give which is DESIGN CHOICE 243): none for the disagreement sensor itself. -/
def State.awaitSecond (s : State) (n k cls : Nat) : State :=
  if n = 22 then s
  else
    let s := s.stepLfsr (kaSensor n)
    let v := s.lfsrOf (kaSensor n)
    { s with gnt := { s.gnt with seconds := s.gnt.seconds.insert k ⟨cls, v % 2, s.now, 8 + v / 2 % 56⟩ } }

/-- A condition begins (R386 to R389): it is held as present, the response of its class is applied, and an alarm is recorded unless it recurs. -/
def State.condBegin (s : State) (n sub scope typ detail : Nat) : State :=
  let k := condKey n sub
  if s.condOn k || !s.sensorRuns n then s
  else
    let cls := s.sensorClass n
    let fresh := !s.recurs k
    let union := s.erasing && decide (2 ≤ cls)
    let s := { s with gnt := { s.gnt with conds := s.gnt.conds.insert k ⟨cls, scope, none⟩ } }
    let s := s.respond cls
    let s := if fresh then s.alarm typ cls detail union else s
    (s.awaitSecond n k cls).gntSync

/-- RAIL_WARNING_EXCURSION: a rail passes a warning level and not the reset level (R381). -/
def execRailWarningExcursion (dt rail : Nat) (above : Bool) (mv : Nat) (s : State) : Host.Outcome State Fault Refusal :=
  let s := s.tick dt
  let (ur, uw, ow, or_, _, _) := railLevels rail
  let crossed := if above then decide (ow < mv) && decide (mv ≤ or_) else decide (mv < uw) && decide (ur ≤ mv)
  if rail < 6 && crossed && s.gnt.main then
    let s := s.fset Fld.GNT_RAIL_mv rail mv
    .next (s.condBegin 0 (2 * rail + b2n above) (railScope rail) 0x01 (rail * 2 ^ 12 + b2n above * 2 ^ 11 + mv / 2 % 2 ^ 11))
  else .next s

/-- GLITCH: a rail deviates from its running mean by more than the glitch deviation (R380). -/
def execGlitch (dt rail : Nat) (positive : Bool) (peak : Nat) (s : State) : Host.Outcome State Fault Refusal :=
  let s := s.tick dt
  let (_, _, _, _, g, _) := railLevels rail
  if rail < 6 && g < peak && s.gnt.main then
    .next (s.condBegin 3 rail maskAll 0x03 (rail * 2 ^ 12 + b2n positive * 2 ^ 11 + peak % 2 ^ 11))
  else .next s

/-- CLOCK_FREQUENCY: an island clock deviates by more than 3 % for 1 µs (R383). -/
def execClockFrequency (dt island : Nat) (s : State) : Host.Outcome State Fault Refusal :=
  let s := s.tick dt
  if islandAssigned island && s.gnt.main then .next (s.condBegin 4 island (maskOf [island]) 0x04 (1 * 2 ^ 8 + island))
  else .next s

/-- SHORT_CYCLE: an island clock period is shorter than 70 % of nominal (R383). -/
def execShortCycle (dt island : Nat) (s : State) : Host.Outcome State Fault Refusal :=
  let s := s.tick dt
  if islandAssigned island && s.gnt.main then .next (s.condBegin 5 island maskAll 0x04 (2 * 2 ^ 8 + island)) else .next s

/-- REFERENCE_LOST: a package reference clock shows no edge for 100 ns (R383, R495). -/
def execReferenceLost (dt clock : Nat) (s : State) : Host.Outcome State Fault Refusal :=
  let s := s.tick dt
  if clock < 4 && s.gnt.main then .next (s.condBegin 6 clock (refScope clock) 0x04 (3 * 2 ^ 8 + clock)) else .next s

/-- The outcome of a check of KA: none is found, or an open line, a short or a mismatch, with its line (R384). `which`: 0 lid, 1 substrate, 2 loop 0, 3 loop 1. -/
def State.meshFault (s : State) (which fault line : Nat) : State :=
  let d := fault * 2 ^ 12
  match which with
  | 0 => s.condBegin 13 0 maskAll 0x07 (d + line)
  | 1 => s.condBegin 14 0 maskAll 0x07 (2 ^ 15 + d + line)
  | 2 => s.condBegin 15 0 maskAll 0x08 d
  | _ => s.condBegin 16 0 maskAll 0x08 (2 ^ 15 + d)

/-- MESH_CHECK: KA drives and compares a mesh or an enclosure loop (R384); fault 0 finds nothing. -/
def execMeshCheck (dt which fault line : Nat) (s : State) : Host.Outcome State Fault Refusal :=
  let s := s.tick dt
  if which < 4 && 1 ≤ fault && fault ≤ 3 && line < 64 then .next (s.meshFault which fault line) else .next s

/-- TAMPER_SWITCH: a switch input is at a level other than its armed one for 30 µs (R384, `GNT_SWITCH_CFG`): open for polarity 0, closed for polarity 1. -/
def execTamperSwitch (dt n : Nat) (open_ : Bool) (s : State) : Host.Outcome State Fault Refusal :=
  let s := s.tick dt
  let armedOpen := bit (s.fget Fld.GNT_SWITCH_CFG_pol 0) n
  if n < 4 && open_ != armedOpen then .next (s.condBegin (17 + n) 0 maskAll 0x09 n) else .next s

/-- ZEROIZE: ZEROIZE_N is held low for 10 µs (R384). -/
def execZeroize (dt : Nat) (s : State) : Host.Outcome State Fault Refusal :=
  .next ((s.tick dt).condBegin 21 0 maskAll 0x0A 0)

/-- The temperature conditions that a reading meets (R385): low below −15 and −25 °C, high above +110 and +125 °C. -/
def tempSensors (c : Int) : List Nat :=
  (if c < -15 then [7] else []) ++ (if c < -25 then [8] else []) ++ (if 110 < c then [9] else []) ++ (if 125 < c then [10] else [])

/-- A temperature reading in two's complement. -/
def celsius (v : Nat) : Int := (BitVec.ofNat 8 v).toInt

/-- TEMPERATURE: the sensor reads a temperature, and the conditions whose levels it crosses begin (R385). -/
def execTemperature (dt value : Nat) (s : State) : Host.Outcome State Fault Refusal :=
  let s := s.tick dt
  if s.gnt.ka then
    let s := s.fset Fld.GNT_TEMP_celsius 0 (value % 256)
    .next ((tempSensors (celsius value)).foldl (fun s n => s.condBegin n 0 maskAll 0x05 (n * 2 ^ 8 + value % 256)) s)
  else .next s

/-- VBAK_LOW: VBAK falls below 2.3 V (R385). -/
def execVbakLow (dt mv : Nat) (s : State) : Host.Outcome State Fault Refusal :=
  let s := s.tick dt
  if s.gnt.ka && mv < 2300 then .next ((s.fset Fld.GNT_VBAK_mv 0 mv).condBegin 11 0 0 0x06 (mv % 2 ^ 12)) else .next s

/-- VBAK_OVER: VBAK rises above 3.8 V (R385). -/
def execVbakOver (dt mv : Nat) (s : State) : Host.Outcome State Fault Refusal :=
  let s := s.tick dt
  if s.gnt.ka && 3800 < mv then .next ((s.fset Fld.GNT_VBAK_mv 0 mv).condBegin 12 0 maskAll 0x06 (2 ^ 15 + mv % 2 ^ 12))
  else .next s

/-- The class of a condition is raised to the second decision's (R388). -/
def State.raiseCond (s : State) (k cls : Nat) : State :=
  match s.gnt.conds.get? k with
  | some c => { s with gnt := { s.gnt with conds := s.gnt.conds.insert k { c with cls := max c.cls cls } } }
  | none => s

/-- The second decision unit reaches a class (R388): it adds it, and a disagreement is raised where it differs. -/
def State.decide2 (s : State) (n k cls : Nat) (d : Second) : State :=
  let s := { s with gnt := { s.gnt with seconds := s.gnt.seconds.erase k } }
  if cls = d.cls then s
  else
    let s := if d.cls < cls then (s.raiseCond k cls).respond cls else s
    let (a, b) := if d.first = 0 then (d.cls, cls) else (cls, d.cls)
    s.gntSync.condBegin 22 0 maskAll 0x0B (n + a * 2 ^ 8 + b * 2 ^ 10)

/-- SECOND_DECISION: after its delay, the second decision unit adds its class (R388). -/
def execSecondDecision (dt sensor sub cls : Nat) (s : State) : Host.Outcome State Fault Refusal :=
  let s := s.tick dt
  match s.gnt.seconds.get? (condKey sensor sub) with
  | some d => if cls < 4 && sub < 256 then .next (s.decide2 sensor (condKey sensor sub) cls d) else .next s
  | none => .next s

/-- A reading lies where a condition ends (R381, R382, R385): a rail inside its warning level by 1 % of nominal, or inside its warning levels after a reset level, a temperature 3 °C inside its level, VBAK above 2.4 V or below 3.7 V. -/
def endsAt (n sub value : Nat) : Bool :=
  match n with
  | 0 =>
    let (_, uw, ow, _, _, nom) := railLevels (sub / 2)
    if sub % 2 = 0 then decide (100 * uw + nom ≤ 100 * value) else decide (100 * value + nom ≤ 100 * ow)
  | 1 => let (_, uw, ow, _, _, _) := railLevels sub; decide (uw ≤ value) && decide (value ≤ ow)
  | 2 => let (_, uw, ow, _, _, _) := railLevels sub; decide (uw ≤ value) && decide (value ≤ ow)
  | 7 => decide (-12 ≤ celsius value)
  | 8 => decide (-22 ≤ celsius value)
  | 9 => decide (celsius value ≤ 107)
  | 10 => decide (celsius value ≤ 122)
  | 11 => decide (2400 < value)
  | 12 => decide (value < 3700)
  | _ => true

/-- The register that a sensor's reading shows in. -/
def State.noteReading (s : State) (n sub value : Nat) : State :=
  if n = 0 then s.fset Fld.GNT_RAIL_mv (sub / 2) value
  else if n = 1 || n = 2 then s.fset Fld.GNT_RAIL_mv sub value
  else if 7 ≤ n && n ≤ 10 then s.fset Fld.GNT_TEMP_celsius 0 (value % 256)
  else if n = 11 || n = 12 then s.fset Fld.GNT_VBAK_mv 0 value
  else s

/-- A class 3 condition is present. -/
def State.class3 (s : State) : Bool := s.gnt.conds.any (fun _ c => c.present && c.cls == 3)

/-- A condition ends: its hold lifts later, or it is gone where it held nothing. -/
def State.condEnd (s : State) (k : Nat) (c : Cond) : State :=
  let t := s.gnt.kaNs
  let conds := if c.cls = 0 then s.gnt.conds.erase k else s.gnt.conds.insert k { c with ended := some t }
  let s := { s with gnt := { s.gnt with conds := conds, lastEnd := s.gnt.lastEnd.insert k t } }
  let s := if c.cls = 3 && !s.class3 then { s with gnt := { s.gnt with clearEnd := t } } else s
  s.gntSync

/-- CONDITION_END: a condition has been absent for its recovery time (R381, R383, R385, R387). -/
def execConditionEnd (dt sensor sub value : Nat) (s : State) : Host.Outcome State Fault Refusal :=
  let s := s.tick dt
  let k := condKey sensor sub
  match s.gnt.conds.get? k with
  | some c =>
    if c.present && sub < 256 && endsAt sensor sub value then .next ((s.noteReading sensor sub value).condEnd k c) else .next s
  | none => .next s

/-- A hold lifts (R389): held results may pass from now on, and the last one raises its interrupt. -/
def State.lift (s : State) (k : Nat) : State :=
  let s := ({ s with gnt := { s.gnt with conds := s.gnt.conds.erase k } }).gntSync
  if s.gnt.main && !s.gnt.conds.any (fun _ c => 1 ≤ c.cls) then s.raiseIrq 0x02 else s

/-- 100 µs after its condition ended, a class 1 hold lifts (R389). -/
def State.holdLifts (s : State) (sensor sub : Nat) : State :=
  let k := condKey sensor sub
  match s.gnt.conds.get? k with
  | some c =>
    match c.ended with
    | some t => if t + 100000 ≤ s.gnt.kaNs && sub < 256 then (s.lift k) else s
    | none => s
  | none => s

/-- The device keys that KS derives (R115): identity, attestation and meter seeds, and the slot-check key. -/
def State.deriveKeys (s : State) : State :=
  let k := s.rootKey
  let nonce := s.ks.dev.nonce
  { s with
    ks := { s.ks with dev := ⟨Shares.make s.free (kmac k s.lcEp (ascii "ELVEVA-IDENTITY") 64),
      Shares.make (s.free + 1) (kmac k (s.lcEp ++ s.mr 0 ++ s.mr 1 ++ s.mr 2) (ascii "ELVEVA-ATTEST") 64),
      Shares.make (s.free + 2) (kmac k (s.lcEp ++ nonce) (ascii "ELVEVA-SLOT-CHECK") 32), nonce⟩ }
    met := { s.met with key := Shares.make (s.free + 3) (kmac k (s.lcEp ++ s.mr 2) (ascii "ELVEVA-METER") 64) }
    free := s.free + 4 }

/-- A working-key erase completes; KS derives the device keys again, the islands resume (R389), and power requests apply again (R327). -/
def State.eraseEnds (s : State) : State :=
  if s.erasing then
    let s := (s.fset Fld.GNT_STATUS_erase_busy 0 0).fset Fld.KS_STATUS_wipe_busy 0 0
    let s := if s.clearHeld || !s.flag Fld.KS_STATUS_seed_valid 0 then s else s.deriveKeys
    (netIslands.foldl State.islandUpdate s).gntSync
  else s

/-- CLEAR_HOLD_RELEASE: 1 s after the last class 3 condition ended, BBRAM is released (R390). -/
def execClearHoldRelease (dt : Nat) (s : State) : Host.Outcome State Fault Refusal :=
  let s := s.tick dt
  if s.clearHeld && !s.class3 && s.gnt.clearEnd + 1000000000 ≤ s.gnt.kaNs then .next (s.fset Fld.GNT_STATUS_clear_held 0 0)
  else .next s

/-- The chain value before record 0 (R396). -/
def chainAnchor : Bytes := (sha384 (ascii "ELVEVA-EVIDENCE1")).take 12

/-- The next free index of the evidence log. -/
def State.evNext (s : State) : Nat := s.gnt.log.cells.length

/-- The chain value of the newest committed record. -/
def State.chainLast (s : State) : Bytes :=
  match s.gnt.log.get? (s.evNext - 1) with
  | some r => slice r 0x14 12
  | none => chainAnchor

/-- The next index takes a record (R398). -/
def State.logTakes (s : State) (b : Bytes) : Bool :=
  let t := field b 0 1
  decide (s.evNext < 4032) || (decide (s.evNext < 4096) && (decide (2 ≤ field b 1 1 % 4) || t == 0x21 || t == 0x7F))

/-- The oldest staged record is committed, or discarded where no index takes it (R396 to R398). -/
def State.commitRecord (s : State) (b : Bytes) (rest : List Bytes) : State :=
  if s.logTakes b then
    let n := s.evNext
    let r := b ++ (sha384 (s.chainLast ++ b)).take 12
    let s := ({ s with gnt := { s.gnt with log := s.gnt.log.insert n r, staged := rest } }).raiseIrq 0x05
    if n = 4031 || n = 4095 then s.raiseIrq 0x07 else s
  else ({ s with gnt := { s.gnt with staged := rest } }).bumpSat Fld.GNT_EV_DROPPED_count 0 1

/-- EVIDENCE_COMMIT: the RP programs the oldest staged record, reads it back and releases its slot (R397). -/
def execEvidenceCommit (dt : Nat) (s : State) : Host.Outcome State Fault Refusal :=
  let s := s.tick dt
  match s.gnt.staged with
  | b :: rest =>
    if s.rpPrograms && 2 ≤ s.fget Fld.DEV_BOOT_STATUS_phase 0 then .next (s.commitRecord b rest) else .next s
  | [] => .next s

/-- GNT_LOCK: a write of 1 to `GNT_LOCK.lock` (R386). -/
def execGntLock (dt : Nat) (s : State) : Host.Outcome State Fault Refusal :=
  .next ((s.tick dt).fset Fld.GNT_LOCK_lock 0 1)

/-- A write to `GNT_SENSORn.class` (R386): limited to floor and maximum, ignored by a fixed sensor and under the lock. -/
def State.writeSensor (s : State) (n v : Nat) : State :=
  let (_, f, m, x) := sensorRow n
  if x || s.flag Fld.GNT_LOCK_lock 0 then s else s.fset Fld.GNT_SENSOR_class n (max f (min m (v % 4)))

/-- PFW_N_ASSERTED: the power-fail warning stops OTP programming, evidence commits and new card writes, and flushes the recorder (R350, R397, R435). -/
def execPfwNAsserted (dt : Nat) (s : State) : Host.Outcome State Fault Refusal :=
  let s := s.tick dt
  if s.gnt.main && s.gnt.pfw.isNone then
    let s := if s.cardWrites then s.endCard .cardRemoved else s
    .next ({ s with gnt := { s.gnt with pfw := some s.gnt.kaNs } }.fset Fld.REC_CTRL_flush 0 1)
  else .next s

/-- The warning ends with power present, and stopped work resumes (R350). -/
def State.pfwEnds (s : State) : State :=
  { s with gnt := { s.gnt with pfw := none } }

end Sys2Proof.Machine
end

