-- ==== Sys2Proof/Machine/Entropy.lean ====
section
/-! DEFINITION. Entropy (R297 to R312): Sirocco's blocks and their tests, the seed buffer, the DRBG instances, and the entropy test mode. Log entries of this file: DEDUCED 240; DESIGN CHOICE 4, 121, 122. -/

namespace Sys2Proof.Machine

/-- A run of identical samples: its bit, its length, and whether a run has reached 41. -/
structure Run where
  bit : Bool
  len : Nat
  hit : Bool

/-- One more sample (R299). -/
def Run.next (r : Run) (b : Bool) : Run :=
  let n := if r.bit == b then r.len + 1 else 1
  ⟨b, n, r.hit || decide (41 ≤ n)⟩

/-- The run after a block of 1,024 samples, sample j in bit j. -/
def runOver (r : Run) (samples : Nat) : Run := (List.range 1024).foldl (fun r j => r.next (samples.testBit j)) r

/-- How often the first sample of a block occurs in it (R299). -/
def firstCount (samples : Nat) : Nat := ((List.range 1024).filter (fun j => samples.testBit j == samples.testBit 0)).length

/-- The frequency of a ring of a pair in a block: the sampling ring (0) or the sampled one (1). -/
def ringFreq (freqs : List Nat) (pair ring : Nat) : Nat := freqs.getD (2 * pair + ring) 0

/-- The frequencies of the 64 rings, pair by pair, from those of the sampling and of the sampled rings. -/
def ringsOf (sampling sampled : List Nat) : List Nat := (List.range 32).flatMap (fun p => [sampling.getD p 0, sampled.getD p 0])

/-- A ring fails the liveness test: its frequency lies outside 0.5 to 2 times its value at the last start-up test (R299). -/
def ringDead (ref freqs : List Nat) (pair ring : Nat) : Bool :=
  let r := ringFreq ref pair ring
  let f := ringFreq freqs pair ring
  decide (2 * f < r) || decide (2 * r < f)

/-- The pairs of which a ring fails the liveness test, as a mask (R299); none before a start-up test gives a reference (DESIGN CHOICE 122). -/
def deadPairs (ref freqs : List Nat) : Nat :=
  if ref.isEmpty then 0
  else (List.range 32).foldl (fun a p => if ringDead ref freqs p 0 || ringDead ref freqs p 1 then a ||| 2 ^ p else a) 0

/-- The 496 combinations of two pairs, in rising order. -/
def pairCombos : List (Nat × Nat) :=
  (List.range 32).flatMap (fun a => ((List.range 32).filter (fun b => decide (a < b))).map (fun b => (a, b)))

/-- The 16 combinations that a block measures, with their numbers: each combination once every 31 blocks (R299). -/
def combosAt (turn : Nat) : List (Nat × Nat × Nat) :=
  (List.range 16).map (fun k => (16 * turn + k, pairCombos.getD (16 * turn + k) (0, 0)))

/-- The ratio of two rings changes by less than 2^−16 between two measurements (R299). -/
def ratioSteady (x y : Nat × Nat) : Bool :=
  decide ((x.1 * y.2 - y.1 * x.2 + (y.1 * x.2 - x.1 * y.2)) * 2 ^ 16 < x.2 * y.2)

/-- A combination is locked: its ratio changes by less than 2^−16 across 8 consecutive measurements (R299). -/
def comboLocked (l : List (Nat × Nat)) : Bool := l.length == 8 && l.all (fun x => l.all (ratioSteady x))

/-- A measurement of a combination: the tables of measurements, and the pairs found locked as a mask. -/
def measureCombo (freqs : List Nat) (st : NMap (List (Nat × Nat)) × Nat) (c : Nat × Nat × Nat) : NMap (List (Nat × Nat)) × Nat :=
  let l := ((ringFreq freqs c.2.1 0, ringFreq freqs c.2.2 0) :: st.1.getD c.1 []).take 8
  (st.1.insert c.1 l, if comboLocked l then st.2 ||| 2 ^ c.2.1 ||| 2 ^ c.2.2 else st.2)

/-- The lock test of a block: the tables of measurements, and the pairs found locked as a mask (R299). -/
def lockTest (g : RngUnit) (freqs : List Nat) : NMap (List (Nat × Nat)) × Nat :=
  (combosAt g.turn).foldl (measureCombo freqs) (g.locks, 0)

/-- The number of the first failing test of a block: 1 repetition count, 2 adaptive proportion, 3 liveness, 4 lock; 0 where the block passes (R299, R429). -/
def blockTest (r : Run) (samples dead locked : Nat) : Nat :=
  if r.hit then 1 else if 794 ≤ firstCount samples then 2 else if dead != 0 then 3 else if locked != 0 then 4 else 0

/-- The failures of a block are counted by test (R300). -/
def State.countTests (s : State) (r : Run) (samples dead locked : Nat) : State :=
  let s := if r.hit then s.bumpSat Fld.RNG_HEALTH_rct 0 1 else s
  let s := if 794 ≤ firstCount samples then s.bumpSat Fld.RNG_HEALTH_apt 0 1 else s
  let s := if dead != 0 then s.bumpSat Fld.RNG_HEALTH_dead 0 1 else s
  if locked != 0 then s.bumpSat Fld.RNG_HEALTH_lock 0 1 else s

/-- The latest liveness and lock findings (`RNG_ALIVE`, `RNG_LOCKED`). -/
def State.notePairs (s : State) (dead locked : Nat) : State :=
  let s := s.fset Fld.RNG_ALIVE_alive 0 (0xFFFFFFFF ^^^ dead % 2 ^ 32)
  s.fset Fld.RNG_LOCKED_pairs 0 (s.fget Fld.RNG_LOCKED_pairs 0 ||| locked % 2 ^ 32)

/-- An entropy event (R300, R309). -/
def State.entropyEvent (s : State) (test inst : Nat) : State :=
  s.event 0x28 0x03 (test + inst * 2 ^ 8 + s.fget Fld.RNG_LOCKED_pairs 0 * 2 ^ 32)

/-- The fatal entropy alarm (R301). -/
def State.entropyFatal (s : State) : State :=
  let s := (s.fset Fld.RNG_STATUS_fatal 0 1).fset Fld.RNG_STATUS_running 0 0
  (s.rngZeroize.fset Fld.RNG_CTRL_restart 0 0).evidence 0x20 0 0 false

/-- Sirocco restarts: 4 warm-up blocks follow (R300). -/
def State.restartSirocco (s : State) : State :=
  ({ s with rng := { s.rng with discard := 4, good := 0, half := false, runLen := 0 } }).fset Fld.RNG_STATUS_running 0 0

/-- A failed block (R300, R301): discarded, counted in the window of 10 s, followed by a restart or the fatal alarm. -/
def State.blockFails (s : State) (test : Nat) : State :=
  let s := s.entropyEvent test 0
  let recent := s.now :: s.rng.fails.filter (fun t => decide (s.now ≤ t + 10000000000))
  let s := { s with rng := { s.rng with fails := recent } }
  if 4 ≤ recent.length then s.entropyFatal else s.restartSirocco

/-- A known-answer failure of an instance (R308, R309): it is uninstantiated, and the third one raises the fatal alarm. -/
def State.katFails (s : State) (n : Nat) : State :=
  let s := s.fset Fld.RNG_STATUS_inst 0 (s.fget Fld.RNG_STATUS_inst 0 &&& (15 ^^^ 2 ^ n))
  let s := s.setReg .RNG_DRBG n 0
  let k := s.rng.kat.getD n 0 + 1
  let s := { s with rng := { s.rng with kat := s.rng.kat.insert n k, calls := s.rng.calls.erase n } }
  let s := s.entropyEvent 5 n
  if 3 ≤ k then s.entropyFatal else s

/-- An instance is instantiated from a seed of the buffer (R308). -/
def State.instantiate (s : State) (n : Nat) : State :=
  let s := s.fset Fld.RNG_SEEDS_avail 0 (s.fget Fld.RNG_SEEDS_avail 0 - 1)
  let s := s.fset Fld.RNG_STATUS_inst 0 (s.fget Fld.RNG_STATUS_inst 0 ||| 2 ^ n)
  { (s.setReg .RNG_DRBG n 0) with rng := { s.rng with calls := s.rng.calls.erase n } }

/-- The first instance that awaits instantiation, in number order (R305, R308). -/
def State.awaiting (s : State) : Option Nat := (List.range 4).find? (fun n => !bit (s.fget Fld.RNG_STATUS_inst 0) n)

/-- The due instance with the highest count, ties to the lower number (R305). -/
def State.dueFirst (s : State) : Option Nat :=
  ((List.range 4).filter (fun n => s.flag Fld.RNG_DRBG_due n)).foldl (fun best n => match best with
    | none => some n
    | some b => if s.fget Fld.RNG_DRBG_count b < s.fget Fld.RNG_DRBG_count n then some n else some b) none

/-- Seeds of the buffer go to the instances that wait for one (R305); `kat` are the instances whose known-answer test fails now. -/
def State.serveSeeds (kat : Nat) : Nat → State → State
  | 0, s => s
  | fuel + 1, s =>
    if s.fget Fld.RNG_SEEDS_avail 0 = 0 || s.flag Fld.RNG_STATUS_fatal 0 then s
    else
      match s.awaiting with
      | some n => if bit kat n then s.katFails n else State.serveSeeds kat fuel (s.instantiate n)
      | none =>
        match s.dueFirst with
        | some n => State.serveSeeds kat fuel (s.reseed n)
        | none => s

/-- A passed block after the start-up test: two of them form a seed, which enters the buffer if it has room (R302). -/
def State.condition (s : State) (kat : Nat) : State :=
  let s := { s with rng := { s.rng with half := !s.rng.half } }
  if s.rng.half then s
  else State.serveSeeds kat 8 (s.bumpSat Fld.RNG_SEEDS_avail 0 (if s.fget Fld.RNG_SEEDS_avail 0 < 4 then 1 else 0))

/-- A passed block (R300, R302, R308): a warm-up block is discarded, a block of the start-up test counts, any other is conditioned. -/
def State.blockPasses (s : State) (kat : Nat) : State :=
  if 0 < s.rng.discard then
    let s := { s with rng := { s.rng with discard := s.rng.discard - 1 } }
    if s.rng.discard = 0 && !s.flag Fld.RNG_STATUS_startup_done 0 && !s.flag Fld.RNG_CTRL_restart 0 then
      s.fset Fld.RNG_STATUS_running 0 1 else s
  else if !s.flag Fld.RNG_STATUS_running 0 then s
  else if !s.flag Fld.RNG_STATUS_startup_done 0 then
    let s := { s with rng := { s.rng with good := s.rng.good + 1 } }
    if 64 ≤ s.rng.good then s.fset Fld.RNG_STATUS_startup_done 0 1 else s
  else s.condition kat

/-- The 16 words of a block, earliest sample in bit 0 of the first. -/
def blockWords (samples : Nat) : List Nat := (List.range 16).map (fun j => samples / 2 ^ (64 * j) % 2 ^ 64)

/-- Words enter the raw FIFO; those that find it full are counted (R310). -/
def State.fifoPut (s : State) (l : List Nat) : State :=
  let room := 2048 - s.rng.fifo.length
  let s := { s with rng := { s.rng with fifo := s.rng.fifo ++ l.take room } }
  s.bumpSat Fld.RNG_RAW_LEVEL_lost 0 (l.length - room)

/-- A block in entropy test mode (R310): tested, and delivered whether or not it passes. -/
def State.rawBlock (s : State) (samples test : Nat) : State :=
  let s := if test = 0 then s else s.fset Fld.RNG_RAW_LEVEL_fail 0 1
  s.fifoPut (blockWords samples)

/-- A block of the test pattern (R311): conditioned into DRBG0 alone where it passes, and DRBG0's output delivered in place of samples. -/
def State.patternBlock (s : State) (test kat : Nat) : State :=
  let s := { s with rng := { s.rng with patterns := s.rng.patterns + 1 } }
  let s := if test = 0 then { s with rng := { s.rng with half := !s.rng.half } } else s.fset Fld.RNG_RAW_LEVEL_fail 0 1
  let s := if test = 0 && !s.rng.half && !bit kat 0 then s.fset Fld.RNG_STATUS_inst 0 (s.fget Fld.RNG_STATUS_inst 0 ||| 1) else s
  if bit (s.fget Fld.RNG_STATUS_inst 0) 0 then
    let w := leNat (fitLen 128 (Config.random s.free))
    ({ s with free := s.free + 1 }).fifoPut (blockWords w)
  else s

/-- Sirocco makes blocks: its island is released, for the boot or for the share of a transition (DEDUCED 240), and not held, and no fatal alarm stops it (R301, R308, R312). -/
def State.siroccoRuns (s : State) : Bool :=
  (decide (2 ≤ s.fget Fld.DEV_BOOT_STATUS_phase 0) || s.shareNext) && s.gnt.main && !s.islandHeld 0x03 && !s.flag Fld.RNG_STATUS_fatal 0

/-- The block that ends the start-up test gives the reference of the liveness test (R299). -/
def State.noteRef (s : State) (was : Bool) (freqs : List Nat) : State :=
  if !was && s.flag Fld.RNG_STATUS_startup_done 0 then { s with rng := { s.rng with ref := freqs } } else s

/-- A block completes and is tested (R299 to R302, R308, R310, R311). -/
def State.entropyBlock (s : State) (samples : Nat) (freqs : List Nat) (kat : Nat) : State :=
  let dead := deadPairs s.rng.ref freqs
  let (locks, locked) := lockTest s.rng freqs
  let pattern := s.flag Fld.RNG_STATUS_pattern 0
  let samples := if pattern then Config.patternBlock (s.fget Fld.RNG_PATTERN_SEED_seed 0) s.rng.patterns else samples
  let r := runOver ⟨s.rng.runBit, s.rng.runLen, false⟩ samples
  let test := blockTest r samples dead locked
  let s := { s with rng := { s.rng with runBit := r.bit, runLen := r.len, locks := locks, turn := (s.rng.turn + 1) % 31 } }
  let s := (s.notePairs dead locked).countTests r samples dead locked
  if pattern then s.patternBlock test kat
  else if s.flag Fld.RNG_STATUS_test 0 then s.rawBlock samples test
  else if test = 0 then (s.blockPasses kat).noteRef (s.flag Fld.RNG_STATUS_startup_done 0) freqs
  else s.blockFails test

/-- ENTROPY_BLOCK: a block of 1,024 samples completes; `sampling` and `sampled` are the frequencies of the two rings of each pair over it, in any one unit, `kat` the instances whose start-up known-answer test fails now. -/
def execEntropyBlock (dt samples : Nat) (sampling sampled : List Nat) (kat : Nat) (s : State) : Host.Outcome State Fault Refusal :=
  let s := s.tick dt
  if s.siroccoRuns then .next (s.entropyBlock samples (ringsOf sampling sampled) kat) else .next s

/-- SIROCCO_RESTART_DONE: the warm-up blocks of a restart have passed, and testing resumes (R300). -/
def execSiroccoRestartDone (dt : Nat) (s : State) : Host.Outcome State Fault Refusal :=
  let s := s.tick dt
  if s.siroccoRuns && s.rng.discard = 0 && !s.flag Fld.RNG_STATUS_running 0 then
    .next ((s.fset Fld.RNG_STATUS_running 0 1).fset Fld.RNG_CTRL_restart 0 0)
  else .next s

/-- The effect of a write of 1 to `RNG_CTRL.restart`: a restart that counts as no failure, ignored after a fatal alarm. -/
def State.askRestart (s : State) : State :=
  if s.flag Fld.RNG_STATUS_fatal 0 then s else s.restartSirocco.fset Fld.RNG_CTRL_restart 0 1

/-- RNG_RESTART: a write of 1 to `RNG_CTRL.restart`. -/
def execRngRestart (dt : Nat) (s : State) : Host.Outcome State Fault Refusal := .next (s.tick dt).askRestart

/-- DRBG_KAT_REPEAT: after 65,536 generate calls an instance repeats its known-answer test (R309). -/
def execDrbgKatRepeat (dt n : Nat) (pass : Bool) (s : State) : Host.Outcome State Fault Refusal :=
  let s := s.tick dt
  if n < 4 && 65536 ≤ s.rng.calls.getD n 0 then
    if pass then .next { s with rng := { s.rng with calls := s.rng.calls.erase n } } else .next (s.katFails n)
  else .next s

/-- The address of `RNG_TEST`. -/
def rngTestAddr : Nat := 0x42000100

/-- Entropy test mode may be entered: start-up or recovery, or a life-cycle state that permits it (R310). -/
def State.testAllowed (s : State) : Bool := !s.booted || s.lc == 1 || s.lc == 4 || s.lc == 5

/-- The entry to entropy test mode (R310). -/
def State.enterTest (s : State) : State :=
  let s := s.rngZeroize
  let s := ((s.fset Fld.RNG_STATUS_test 0 1).fset Fld.RNG_TEST_enable 0 1).setReg .RNG_RAW_LEVEL 0 0
  { s with rng := { s.rng with fifo := [] } }

/-- The effect of a write of 1 to `RNG_TEST.enable`: in a situation that R310 does not name it is discarded and reported. -/
def State.askTest (s : State) (m : Master) : State :=
  if s.masterOpen m then s.report m .write rngTestAddr (worldReason m) 0xFFFF
  else if !s.testAllowed then s.report m .write rngTestAddr 0x09 0xFFFF
  else if s.flag Fld.RNG_STATUS_test 0 then s else s.enterTest

/-- ENTROPY_TEST_MODE_ENTER: a write of 1 to `RNG_TEST.enable` (R310). -/
def execEntropyTestModeEnter (dt : Nat) (m : Master) (s : State) : Host.Outcome State Fault Refusal :=
  .next ((s.tick dt).askTest m)

/-- The exit from entropy test mode: `pattern` clears, and the start-up sequence runs again (R310, R311). -/
def State.leaveTest (s : State) : State :=
  let s := s.rngZeroize
  let s := ((s.fset Fld.RNG_STATUS_test 0 0).fset Fld.RNG_STATUS_pattern 0 0).setReg .RNG_TEST 0 0
  let s := (s.fset Fld.RNG_STATUS_startup_done 0 0).fset Fld.RNG_STATUS_running 0 0
  { s with rng := { s.rng with fifo := [], discard := 16, good := 0, runLen := 0 } }

/-- ENTROPY_TEST_MODE_EXIT: a write of 0 to `RNG_TEST.enable` (R310). -/
def execEntropyTestModeExit (dt : Nat) (s : State) : Host.Outcome State Fault Refusal :=
  let s := s.tick dt
  if s.flag Fld.RNG_STATUS_test 0 then .next s.leaveTest else .next s

/-- The effect of a write of 1 to `RNG_TEST.pattern`: discarded and reported outside FACTORY (R311). -/
def State.askPattern (s : State) (m : Master) : State :=
  if s.masterOpen m then s.report m .write rngTestAddr (worldReason m) 0xFFFF
  else if s.lc != 1 || !s.flag Fld.RNG_TEST_enable 0 then s.report m .write rngTestAddr 0x09 0xFFFF
  else
    let s := (s.fset Fld.RNG_STATUS_pattern 0 1).fset Fld.RNG_TEST_pattern 0 1
    { s with rng := { s.rng with half := false, patterns := 0 } }

/-- RNG_TEST_PATTERN: a write of 1 to `RNG_TEST.pattern` (R311). -/
def execRngTestPattern (dt : Nat) (m : Master) (s : State) : Host.Outcome State Fault Refusal :=
  .next ((s.tick dt).askPattern m)

/-- RNG_RAW_READ: a read of `RNG_RAW` removes the next 64 bits from the FIFO; it returns zero from an empty FIFO and outside test mode. -/
def execRngRawRead (dt : Nat) (s : State) : Host.Outcome State Fault Refusal :=
  let s := s.tick dt
  match s.rng.fifo with
  | w :: rest =>
    if s.flag Fld.RNG_STATUS_test 0 then
      .next ({ s with rng := { s.rng with fifo := rest } }.emit (.readData 0x42000108 w))
    else .next (s.emit (.readData 0x42000108 0))
  | [] => .next (s.emit (.readData 0x42000108 0))

end Sys2Proof.Machine
end

