-- ==== Sys2Proof/Machine/Images.lean ====
section
/-! DEFINITION. What xSPI chip select 0 holds (R361 to R364, R372) and the base configuration image (R368 to R371, R373). Log entries of this file: DEDUCED 131, 157; DESIGN CHOICE 84, 130. -/

namespace Sys2Proof.Machine

/-- One of two slots; a number above 1 names the second. -/
def slotGet (v : Vector Bytes 2) (i : Nat) : Bytes := if i = 0 then v[0] else v[1]

/-- One of two slots written. -/
def slotSet (v : Vector Bytes 2) (i : Nat) (b : Bytes) : Vector Bytes 2 := if i = 0 then #v[b, v[1]] else #v[v[0], b]

/-- A directory record: active custody slot, active steward slot, configuration slot (R362). -/
structure Directory where
  gen : Nat
  cus : Nat
  stw : Nat
  cfg : Nat
deriving DecidableEq, Repr

/-- CRC-32 of IEEE 802.3 over octets: reflected, initial value and final exclusive or all ones. -/
def crc32 (b : Bytes) : Nat :=
  let step := fun (c : Nat) => if c % 2 = 1 then c / 2 ^^^ 0xEDB88320 else c / 2
  (b.foldl (fun c x => step (step (step (step (step (step (step (step (c ^^^ x.toNat))))))))) 0xFFFFFFFF) ^^^ 0xFFFFFFFF

/-- The first 28 octets of a directory record. -/
def Directory.head (d : Directory) : Bytes :=
  natLE 4 1 ++ natLE 4 d.gen ++ natLE 1 d.cus ++ natLE 1 d.stw ++ natLE 1 d.cfg ++ zeros 17

/-- A directory record as it is stored (R362). -/
def Directory.encode (d : Directory) : Bytes := d.head ++ natLE 4 (crc32 d.head)

/-- The record of a directory copy, where its CRC and format are valid (R362). -/
def readDir (b : Bytes) : Option Directory :=
  if decide (32 ≤ b.length) && field b 0 4 == 1 && field b 0x1C 4 == crc32 (b.take 28) then
    some ⟨field b 4 4, field b 8 1, field b 9 1, field b 10 1⟩
  else none

/-- The directory copy in use, with its number: the valid one of the higher generation (R362). -/
def Flash.directory (f : Flash) : Option (Nat × Directory) :=
  match readDir f.dirs[0], readDir f.dirs[1] with
  | some a, some b => if a.gen < b.gen then some (1, b) else some (0, a)
  | some a, none => some (0, a)
  | none, some b => some (1, b)
  | none, none => none

/-- What a directory names where both copies are invalid: slot A for both images, configuration slot 0 (R362). -/
def Directory.none_ : Directory := ⟨0, 0, 0, 0⟩

/-- The directory that boot follows. -/
def Flash.dir (f : Flash) : Directory := match f.directory with | some (_, d) => d | none => Directory.none_

/-- A directory write: the copy not in use, the generation advanced by 1 (R362). -/
def Flash.writeDir (f : Flash) (d : Directory) : Flash :=
  match f.directory with
  | some (i, old) => { f with dirs := slotSet f.dirs (1 - i) { d with gen := (old.gen + 1) % 2 ^ 32 }.encode }
  | none => { f with dirs := slotSet f.dirs 0 { d with gen := 1 }.encode }

/-- The signed octets of an image: 0x000 to 0xAFF + L (R363). -/
def imageSigned (b : Bytes) : Bytes := b.take (0xB00 + field b 0x0C 4)

/-- The image digest D (R366). -/
def imageDigest (b : Bytes) : Bytes := sha384 (imageSigned b)

/-- The two public keys of an image (R363). -/
def imageKeys (b : Bytes) : Bytes := slice b 0x40 (97 + 2592)

/-- The measurement that a register takes from zero with an image's digest (R366). -/
def imageMeasurement (b : Bytes) : Bytes := sha384 (zeros 48 ++ imageDigest b)

/-- The size of a slot by image kind: custody 24 MiB, steward 8 MiB (R361). -/
def slotSize (kind : Nat) : Nat := if kind = 1 then 24 * 2 ^ 20 else 8 * 2 ^ 20

/-- An image of a kind is valid (R364). -/
def imageOk (kind : Nat) (b : Bytes) : Bool :=
  let l := field b 0x0C 4
  let m := imageSigned b
  decide (0xB00 ≤ b.length) && field b 0 4 == 1 && field b 4 1 == kind && decide (field b 5 1 < 4) && field b 6 2 == 0 &&
  allZero (slice b 0xAC1 63) && decide (0xB60 + l + 4627 ≤ slotSize kind) && decide (0xB60 + l + 4627 ≤ b.length) &&
  sha384 (slice b 0xB00 l) == slice b 0x10 48 &&
  sha384 (imageKeys b) == fitLen 48 (Config.vendorKeys (field b 5 1)) &&
  Config.accepts .ecdsaP384 [slice b 0x40 97, m, slice b (0xB00 + l) 96] &&
  Config.accepts .mlDsa87 [slice b 0xA1 2592, m, slice b (0xB60 + l) 4627]

/-- Sections of a configuration image: type and content (R368). None where a head or the padding is malformed. -/
def cfgSections : Nat → Nat → Bytes → Option (List (Nat × Bytes))
  | 0, _, _ => none
  | _ + 1, 0, b => if b.isEmpty then some [] else none
  | fuel + 1, n + 1, b =>
    let len := field b 4 4
    let pad := (8 - len % 8) % 8
    if b.length < 8 || b.length < 8 + len + pad || field b 2 2 != 0 || !allZero (slice b (8 + len) pad) then none
    else (cfgSections fuel n (b.drop (8 + len + pad))).map (fun l => (field b 0 2, slice b 8 len) :: l)

/-- The content of a section that occurs exactly once. -/
def oneSection (l : List (Nat × Bytes)) (t : Nat) : Option Bytes :=
  match l.filter (fun e => e.1 == t) with
  | [e] => some e.2
  | _ => none

/-- An overlay record (R371). -/
structure Overlay where
  floor : Nat
  commit : Nat
  permitted : Bool
deriving DecidableEq, Repr

/-- A base configuration (R368 to R371). -/
structure BaseCfg where
  vdom : Bytes
  mode : Nat
  pairs : List PairCfg
  map : List MapEntry
  nets : Nat
  per : Nat
  /-- By interrupt source: world and targets. -/
  irqs : List (Nat × Nat)
  dbg : Nat
  compat : List Nat
  bootMode : Nat
  overlays : List Overlay
deriving DecidableEq, Repr

/-- The pair records of a ports section (R369). -/
def cfgPairs (b : Bytes) : Option (Nat × List PairCfg) :=
  let mode := field b 0 1
  let n := 2 ^ mode
  let rec_ := fun k => slice b (8 + 4 * k) 4
  if b.length == 40 && decide (mode ≤ 3) && allZero (slice b 1 7) &&
      (List.range 8).all (fun k =>
        if k < n then (field (rec_ k) 0 1 == 1 || field (rec_ k) 0 1 == 2) && decide (field (rec_ k) 1 1 ≤ 1) && field (rec_ k) 2 2 == 0
        else allZero (rec_ k)) then
    some (mode, (List.range n).map (fun k => ⟨field (rec_ k) 0 1 == 2, field (rec_ k) 1 1 == 1⟩))
  else none

/-- An inline map entry (R370). -/
def cfgMapEntry (pairs : Nat) (e : Bytes) : Option MapEntry :=
  let untagged := field e 1 1 == 1
  let vlan := field e 2 2
  let owner := field e 4 2
  let act := field e 6 1
  let count := field e 7 1
  if decide (field e 0 1 < min pairs 8) && decide (field e 1 1 ≤ 1) &&
      (if untagged then vlan == 0 else decide (1 ≤ vlan) && decide (vlan ≤ 4094)) &&
      (owner == 0xFFFF || decide (owner < 4096)) && decide (act < 8) && decide (count ≤ 8) &&
      allZero (slice e (8 + 2 * count) (16 - 2 * count)) && allZero (slice e 0x18 8) then
    some ⟨field e 0 1, if untagged then none else some vlan, if owner = 0xFFFF then none else some owner,
      bit act 0, bit act 1, bit act 2, (List.range count).map (fun j => fieldBE e (8 + 2 * j) 2), 0, false, []⟩
  else none

/-- The inline map of a section (R370): at most 16,384 entries, no two for one pair and VLAN. -/
def cfgMap (pairs : Nat) (b : Bytes) : Option (List MapEntry) :=
  let n := b.length / 32
  let l := (List.range n).filterMap (fun k => cfgMapEntry pairs (slice b (32 * k) 32))
  if b.length % 32 == 0 && decide (n ≤ 16384) && l.length == n && decide ((l.map (fun m => (m.pair, m.vlan))).Nodup) then some l
  else none

/-- The assignments of a section (R368): worlds of NET0 to NET3, `WLD_PER`, worlds and targets of the interrupt sources. -/
def cfgAssign (b : Bytes) : Option (Nat × Nat × List (Nat × Nat)) :=
  let irqs := (List.range 256).map (fun n => (field b (8 + 2 * n) 1 % 2, field b (9 + 2 * n) 1))
  if b.length == 520 && decide (field b 0 1 < 16) && allZero (slice b 1 3) &&
      (List.range 256).all (fun n => !irqAssigned n || irqConfigurable n || (irqs.getD n (0, 0)).1 == irqDefaultWorld n) then
    some (field b 0 1, field b 4 4 % 512, irqs)
  else none

/-- The greatest lookaside floor of a mode with an inline commitment (R371); none where the mode has no bound. -/
def floorMax (code commit : Nat) : Option Nat :=
  match code with
  | 1 => some (256 * (2400 - 1600) / 2880)
  | 4 => some (256 * (2400 - 1600) / 2880)
  | 2 => some (256 * (2400 - commit) / 2880)
  | _ => none

/-- An overlay record of a mode code (R371). -/
def cfgOverlay (code : Nat) (b : Bytes) : Option Overlay :=
  let floor := field b 1 1
  let commit := field b 2 2
  if field b 0 1 == code && decide (field b 4 1 ≤ 1) && allZero (slice b 5 27) &&
      (if code = 2 then decide (1 ≤ commit) && decide (commit ≤ 1599) else commit == 0) &&
      (match floorMax code commit with | some m => decide (floor ≤ m) | none => true) then
    some ⟨floor, commit, field b 4 1 == 1⟩
  else none

/-- The overlays of a section: boot mode code and the records of codes 1 to 5 (R368, R371). -/
def cfgOverlays (b : Bytes) : Option (Nat × List Overlay) :=
  let l := (List.range 5).filterMap (fun j => cfgOverlay (j + 1) (slice b (8 + 32 * j) 32))
  let boot := field b 0 1
  if b.length == 168 && allZero (slice b 1 7) && l.length == 5 && decide (1 ≤ boot) &&
      (match l[boot - 1]? with | some o => o.permitted | none => false) then some (boot, l)
  else none

/-- The overlay record of a mode in an image, as it is measured (R366). -/
def overlayRecord (o : Overlay) (code : Nat) : Bytes :=
  natLE 1 code ++ natLE 1 o.floor ++ natLE 2 o.commit ++ natLE 1 (b2n o.permitted) ++ zeros 27

/-- The largest configuration image (R368). -/
def cfgMax : Nat := 4186112

/-- The configuration that an image holds, where the image is valid (R368 to R371). -/
def parseCfg (b : Bytes) : Option BaseCfg :=
  let n := field b 0x20 4
  if b.length < 64 || cfgMax < b.length || field b 0 4 != 1 || field b 4 4 != b.length || !allZero (slice b 0x24 28) then none
  else
    match cfgSections (b.length + 1) n (b.drop 64) with
    | none => none
    | some l =>
      if !l.all (fun e => decide (1 ≤ e.1) && decide (e.1 ≤ 7)) || decide (1 < (l.filter (fun e => e.1 == 7)).length) then none
      else
        match oneSection l 1, oneSection l 2, oneSection l 3, oneSection l 4, oneSection l 5, oneSection l 6 with
        | some ports, some map, some asg, some dbg, some com, some ovl =>
          match cfgPairs ports, cfgAssign asg, cfgOverlays ovl with
          | some (mode, pairs), some (nets, per, irqs), some (boot, overlays) =>
            match cfgMap pairs.length map with
            | some entries =>
              if dbg.length == 1 && com.length == 16 then
                some ⟨slice b 0x10 16, mode, pairs, entries, nets, per, irqs, field dbg 0 1 % 16,
                  (List.range 4).map (fun k => field com (4 * k) 4), boot, overlays⟩
              else none
            | none => none
          | _, _, _ => none
        | _, _, _, _, _, _ => none

/-- The default configuration (R373). -/
def defaultCfg : BaseCfg where
  vdom := zeros 16
  mode := 0
  pairs := [⟨false, false⟩]
  map := []
  nets := 0
  per := 0x1F0
  irqs := (List.range 256).map (fun n => (irqDefaultWorld n, 0xFF))
  dbg := 0
  compat := [0, 0, 0, 0]
  bootMode := 5
  overlays := [⟨0, 0, false⟩, ⟨0, 0, false⟩, ⟨0x20, 0, true⟩, ⟨0, 0, false⟩, ⟨0x20, 0, true⟩]

/-- The boot sections of a configuration, with the vault domain: what takes effect at the next boot (R368). -/
def BaseCfg.bootPart (c : BaseCfg) : Bytes × Nat × Nat × List (Nat × Nat) × Nat × List Nat :=
  (c.vdom, c.nets, c.per, c.irqs, c.dbg, c.compat)

/-- The configuration of an image, the default one for no image. -/
def cfgOf (b : Bytes) : BaseCfg := if b.isEmpty then defaultCfg else (parseCfg b).getD defaultCfg

/-- The octets that an endorsement's signatures cover (R372). -/
def endorsed (e : Bytes) : Bytes := ascii "ELVEVA-CONFIG-V1" ++ e.take 0x38

/-- A new endorsement of an image (R372). -/
def State.endorse (s : State) (gen : Nat) (image : Bytes) : Bytes :=
  let h := natLE 4 gen ++ natLE 4 image.length ++ sha384 image
  h ++ s.identitySign (ascii "ELVEVA-CONFIG-V1" ++ h)

/-- The image of a configuration slot, where boot can use it (R372): both signatures are those of the identity keys of this boot, the digest matches, and the image is valid. -/
def State.slotConfig (s : State) (i : Nat) : Option Bytes :=
  let e := slotGet s.flash.ends i
  let image := (slotGet s.flash.cfgs i).take (field e 4 4)
  if e.length == 4827 && image.length == field e 4 4 && sha384 image == slice e 8 48 &&
      slice e 0x38 4723 == s.identitySign (endorsed e) && (parseCfg image).isSome then some image
  else none

end Sys2Proof.Machine
end

