-- ==== Sys2Proof/Machine/Transition.lean ====
section
/-! DEFINITION. The steps of a life-cycle transition (R347, R348, R352) and their interruption (R349, R350). Log entries of this file: DESIGN CHOICE 12, 136, 242. -/

namespace Sys2Proof.Machine

/-- Both bits of a flag are set in one copy of the word (R347). -/
def Otp.setCopy (o : Otp) (k flag : Nat) : Otp :=
  { o with word := o.word.set! k ((o.word.toList.getD k 0) ||| pairMask 32 flag) }

/-- Every bit of the share copies is set (R352). -/
def Otp.burnShare (o : Otp) : Otp := { o with share := Vector.replicate 3 (BitVec.allOnes 512) }

/-- Every bit of the trim block is set (R352). -/
def Otp.burnTrim (o : Otp) : Otp := { o with trim := BitVec.allOnes 2048 }

/-- The detail of the evidence record of a transition (R395). -/
def LcRun.detail (r : LcRun) : Nat := r.from_ + 16 * r.target + 256 * r.ep

/-- Fresh random bits for the share: the RP draws them from DRBG0 after its reseed (R304, R348). -/
def State.shareBits (s : State) : BitVec 256 × State :=
  let (b, s) := s.drawFresh 32
  (BitVec.ofNat 256 (leNat b), s)

/-- ERASED: BBRAM is erased by the KA erase, and the evidence record is written (R347). -/
def State.lcErase (s : State) (r : LcRun) : State := s.kaErase.evidence 0x21 0 r.detail false

/-- SHARED: from FACTORY to PROVISIONED, the share is programmed (R347, R348). -/
def State.lcShare (s : State) (r : LcRun) : State :=
  if r.flag = 1 then
    let (b, s) := s.shareBits
    { s with otp := s.otp.programShare b }
  else s

/-- One step of a journalled transition, and its mark (R347). -/
def State.lcStep (s : State) (r : LcRun) (n step : Nat) : State :=
  let s := if step = stepErased then s.lcErase r
    else if step = stepShared then s.lcShare r
    else if step = stepCopyA then { s with otp := s.otp.setCopy 0 r.flag }
    else if step = stepCopyB then { s with otp := s.otp.setCopy 1 r.flag }
    else if step = stepCopyC then { s with otp := s.otp.setCopy 2 r.flag }
    else s
  { s with otp := s.otp.markStep n step }

/-- One step of a transition to SCRAP (R347): the erase, `scrap` in copies A, B and C, the share copies, the trim block. -/
def State.scrapStep (s : State) (r : LcRun) (k : Nat) : State :=
  match k with
  | 0 => s.lcErase r
  | 1 => { s with otp := s.otp.setCopy 0 11 }
  | 2 => { s with otp := s.otp.setCopy 1 11 }
  | 3 => { s with otp := s.otp.setCopy 2 11 }
  | 4 => { s with otp := s.otp.burnShare }
  | _ => { s with otp := s.otp.burnTrim }

/-- The next step of the transition in progress; after the last one the RP resets the device (R347). The share waits for DRBG0 and a fresh seed (R304). -/
def State.lcNext (s : State) : State :=
  if s.shareNext && !s.freshReady then s
  else
  match s.boot.lcRun with
  | none => s
  | some r =>
    match r.rec_ with
    | some n =>
      match s.otp.stepsLeft n with
      | [] => s
      | k :: rest =>
        let s := s.lcStep r n k
        if rest.isEmpty then { s with boot := { s.boot with lcRun := none }, gnt := { s.gnt with rpDue := true } } else s
    | none =>
      let s := s.scrapStep r r.step
      if 5 ≤ r.step then { s with boot := { s.boot with lcRun := none }, gnt := { s.gnt with rpDue := true } }
      else { s with boot := { s.boot with lcRun := some { r with step := r.step + 1 } } }

/-- A bit of the life-cycle array (R339, R346, R348). -/
inductive OtpBit where
  | word (copy i : Nat)
  | journal (copy n i : Nat)
  | share (copy i : Nat)
  | trim (i : Nat)
deriving DecidableEq, Repr

/-- One bit of a copy is set. -/
def setIn {w : Nat} (v : Vector (BitVec w) 3) (k i : Nat) : Vector (BitVec w) 3 :=
  v.set! k ((v.toList.getD k 0) ||| BitVec.ofNat w (2 ^ i))

/-- One OTP bit is programmed. -/
def Otp.program (o : Otp) : OtpBit → Otp
  | .word k i => { o with word := setIn o.word k i }
  | .share k i => { o with share := setIn o.share k i }
  | .trim i => { o with trim := o.trim ||| BitVec.ofNat 2048 (2 ^ i) }
  | .journal k n i =>
    let c := o.journal.toList.getD k (Vector.replicate 16 0)
    { o with journal := o.journal.set! k (c.set! n (c.toList.getD n 0 ||| BitVec.ofNat 64 (2 ^ i))) }

/-- The bits that are set in a value and not in an older one. -/
def newBits {w : Nat} (old new : BitVec w) : List Nat := (List.range w).filter (fun i => new.getLsbD i && !old.getLsbD i)

/-- The bits that a step programs, in order: its action in copies A, B and C, then its mark in record `n` (R347). -/
def Otp.stepBits (old new : Otp) (n : Nat) : List OtpBit :=
  (List.range 3).flatMap (fun k => (newBits (old.word.toList.getD k 0) (new.word.toList.getD k 0)).map (.word k)) ++
  (List.range 3).flatMap (fun k => (newBits (old.share.toList.getD k 0) (new.share.toList.getD k 0)).map (.share k)) ++
  (newBits old.trim new.trim).map .trim ++
  (List.range 3).flatMap (fun k =>
    (newBits ((old.journal.toList.getD k (Vector.replicate 16 0)).toList.getD n 0)
      ((new.journal.toList.getD k (Vector.replicate 16 0)).toList.getD n 0)).map (.journal k n))

/-- The RP is in the steps of a transition: they may be interrupted (R349). -/
def State.lcRunning (s : State) : Bool :=
  s.boot.lcRun.isSome && decide (s.fget Fld.DEV_BOOT_STATUS_phase 0 ≤ 1) && !s.gnt.rpDue

/-- A loss of power or a reset during the steps of a transition (R349, R350): any number of the next step's OTP bits were programmed, in their order, after its other action. -/
def State.lcCut (s : State) : State :=
  if s.lcRunning then
    let t := s.lcNext
    let n := match s.boot.lcRun with | some r => r.rec_.getD 0 | none => 0
    let bits := s.otp.stepBits t.otp n
    let (c, u) := t.choose (bits.length + 2)
    if c = 0 then { s with free := u.free } else { u with otp := (bits.take (c - 1)).foldl Otp.program s.otp }
  else s

end Sys2Proof.Machine
end

