-- ==== Sys2Proof/Machine/Resets.lean ====
section
/-! DEFINITION. Resets (R356, R357) and the supplies (R381, R392, R486, R487, R503): what each one resets and what it keeps. Log entries of this file: DEDUCED 10, 115, 133, 139, 140, 142, 204; DESIGN CHOICE 12, 24, 137, 138. -/

namespace Sys2Proof.Machine

/-- Registers that show what KA and the recorder region keep over a device reset: the KA power-cycle count, the count of dropped evidence records, KA's readings, and the region's next index. -/
def keptRegs : List RegName := [.GNT_PWRCYC, .GNT_EV_DROPPED, .GNT_TEMP, .GNT_VBAK, .REC_NV_NEXT]

/-- A register of the store survives a device reset. -/
def keptReg (k : Nat) : Bool := keptRegs.any (fun r => regKey r 0 == k)

/-- A sensor's conditions survive a device reset: KA's own sensors, and the reset levels of the rails, which end by a reading (R392, R503). -/
def keptSensor (n : Nat) : Bool := n == 1 || n == 2 || (decide (7 ≤ n) && decide (n ≤ 21))

/-- What the Gauntlet keeps over a device reset: the part in KA, and the evidence log in OTP (R392, R394, R396). -/
def GntUnit.kept (g : GntUnit) : GntUnit :=
  { GntUnit.reset with
    conds := g.conds.filter (fun k _ => keptSensor (k / 256))
    lastEnd := g.lastEnd.filter (fun k _ => keptSensor (k / 256))
    staged := g.staged
    log := g.log
    kaNs := g.kaNs
    clearEnd := g.clearEnd
    main := g.main
    ka := g.ka
    pfw := g.pfw
    eraseAt := g.eraseAt
    kaLfsr := g.kaLfsr }

/-- A staged record was made on backup power (R394). -/
def madeOnBackup (b : Bytes) : Bool := bit (field b 1 1) 2

/-- The fields that follow what was kept: `clear_held`, `backup_events`, and a recorder that stays stopped on a full region (R390, R392, R436). -/
def State.resetViews (s old : State) : State :=
  let s := s.fset Fld.GNT_STATUS_clear_held 0 (b2n old.clearHeld)
  let s := s.fset Fld.GNT_STATUS_backup_events 0 (b2n (s.gnt.staged.any madeOnBackup))
  let s := s.fset Fld.REC_STATUS_stopped 0 (b2n (decide (s.regionCapacity ≤ s.fget Fld.REC_NV_NEXT_next 0)))
  s.gntSync

/-- A device reset (R356): every island except KA. KA, BBRAM, OTP and the flash devices keep their contents; the RP keeps the steps of a transition over its own reset (R345). Device time restarts. -/
def State.deviceReset (s : State) (rp : Bool) : State :=
  { State.reset with
    pending := s.pending
    free := s.free + 1
    out := s.out
    regs := s.regs.filter (fun k _ => keptReg k)
    bb := s.bb
    otp := s.otp
    flash := s.flash
    crd := { CrdUnit.reset with left := s.cardAtReset }
    rcd := { Recorder.reset with region := s.rcd.region }
    gnt := s.gnt.kept
    boot := { BootUnit.reset with lcRun := if rp then s.boot.lcRun else none, resumed := rp && s.boot.resumed } }.resetViews s

/-- A device reset that may fall between the two steps of an export commit (R94, R120), or within the steps of a transition (R349). -/
def State.resetWith (s : State) (rp cut : Bool) : State :=
  let s := if cut then s.exportCut else s
  (if rp then s else s.lcCut).deviceReset rp

/-- POWER_ON_RESET: the main rails enter their range; the power-cycle count advances (R356). -/
def execPowerOnReset (dt : Nat) (cut : Bool) (s : State) : Host.Outcome State Fault Refusal :=
  let s := s.tick dt
  let s := { s with gnt := { s.gnt with
    main := true, ka := true, pfw := none
    conds := s.gnt.conds.filter (fun k _ => 3 ≤ k / 256) } }
  .next ((s.resetWith false cut).bumpSat Fld.GNT_PWRCYC_count 0 1)

/-- COLD_RESET: PORST_N is asserted (R356). -/
def execColdReset (dt : Nat) (cut : Bool) (s : State) : Host.Outcome State Fault Refusal :=
  let s := s.tick dt
  if s.gnt.main then .next (s.resetWith false cut) else .next s

/-- RP_RESET: the RP resets the device when a reset is due (R345, R347, R367), after a class 3 decision once the erase is complete (R390, R391). -/
def execRpReset (dt : Nat) (cut : Bool) (s : State) : Host.Outcome State Fault Refusal :=
  let s := s.tick dt
  if s.gnt.rpDue && s.gnt.main && !s.erasing then .next (s.resetWith true cut) else .next s

/-- Packets of the rings that a reset of the host link or of a function takes: unstarted ones are gone, the host writes of started ones are discarded (R357). -/
def State.cutPackets (s : State) (hit : Nat → Bool) : State :=
  let ps := (s.cmd.packets.filter (fun _ p => !hit p.ring || p.phase.started)).map
    (fun _ p => if hit p.ring then { p with discard := true, caravan := none } else p)
  let gone := s.cmd.packets.filter (fun _ p => hit p.ring)
  { s with
    cmd := { s.cmd with
      packets := ps
      caravans := s.cmd.caravans.filter (fun k _ => !gone.any (fun _ p => p.caravan == some k))
      fetching := s.cmd.fetching.filter (fun i _ => !hit (i / 8))
      irq := s.cmd.irq.filter (fun i _ => !hit (i / 8)) }
    pke := { s.pke with jobs := s.pke.jobs.filter (fun k _ => ps.has k) }
    blk := { s.blk with jobs := s.blk.jobs.filter (fun k _ => k % 2 == 1 || ps.has (k / 2)) } }

/-- The indices of a register group that the store lists. -/
def State.listed (s : State) (r : RegName) (n : Nat) : List Nat :=
  (s.regs.cells.filter (fun e => decide (regKey r 0 ≤ e.1) && decide (e.1 < regKey r n))).map (fun e => e.1 - regKey r 0)

/-- Every affected queue pair reads `running`, `enable` and `stop` 0; its heads, tails and phase stay (R357). -/
def State.cutQueues (s : State) (hit : Nat → Bool) : State :=
  ((s.listed .CMD_QP_STATUS 32776).filter (fun i => hit (i / 8))).foldl (fun s i => s.clearQp (i / 8) (i % 8)) s

/-- Every dirty log is disabled, and the rings of dumps and meter records with it (R356, R446). -/
def State.cutManager (s : State) : State :=
  let s := (s.listed .SLC_DLOG_CTRL 4096).foldl (fun s i => s.fset Fld.SLC_DLOG_CTRL_enable i 0) s
  (s.fset Fld.PMC_METER_CTRL_enable 0 0).fset Fld.PMC_DUMP_CTRL_enable 0 0

/-- The queue pairs and logs of a reset below the device reset: PF0 for the manager ring set and the logs, PF1 for the slice rings (R356, R357). -/
def State.cutHost (s : State) (pf0 pf1 : Bool) : State :=
  let hit := fun (r : Nat) => if r = managerRing then pf0 else pf1
  let s := (s.cutPackets hit).cutQueues hit
  if pf0 then s.cutManager else s

/-- The PCIe link goes down: its state, its IDE keys and the sessions over DOE end (R453, R455). -/
def State.linkDrop (s : State) : State :=
  let s := (s.setReg .HLU_LINK 0 0).setReg .HLU_IDE_STATUS 0 0
  { s with lnk := { s.lnk with
      ide := []
      sessions := s.lnk.sessions.filter (fun x => x.tr != 0)
      chunks := s.lnk.chunks.erase 0
      large := s.lnk.large.erase 0 } }

/-- HOST_LINK_RESET: PERST_N, a hot reset or link down (R356, R357). -/
def execHostLinkReset (dt : Nat) (s : State) : Host.Outcome State Fault Refusal :=
  .next ((s.tick dt).cutHost true true).linkDrop

/-- FUNCTION_LEVEL_RESET: an FLR or a D3hot-to-D0 transition of PF0 or of PF1 (R356, R357). -/
def execFunctionLevelReset (dt : Nat) (pf1 : Bool) (s : State) : Host.Outcome State Fault Refusal :=
  .next ((s.tick dt).cutHost (!pf1) pf1)

/-- HOST_LINK_UP: the link is up at a speed, width and mode (`HLU_LINK`). -/
def execHostLinkUp (dt speed width : Nat) (flit : Bool) (s : State) : Host.Outcome State Fault Refusal :=
  let s := s.tick dt
  if 2 ≤ s.fget Fld.DEV_BOOT_STATUS_phase 0 && s.gnt.main then
    .next ((((s.fset Fld.HLU_LINK_speed 0 speed).fset Fld.HLU_LINK_width 0 width).fset Fld.HLU_LINK_flit 0 (b2n flit)).fset
      Fld.HLU_LINK_up 0 1)
  else .next s

/-- The main rails are lost: the device is off until they return, or is held in reset by what dipped (R382, R503). On backup power KA's decision LFSR is keyed from the backup mask key (R388). -/
def State.railLoss (s : State) (gone cut : Bool) : State :=
  let s := if gone then { s with gnt := { s.gnt with main := false, kaLfsr := field s.bb.maskKey 0 2 } } else s
  s.resetWith false cut

/-- PFW_N has been asserted for 5 ms of power (R382, R494). -/
def State.warned (s : State) : Bool :=
  match s.gnt.pfw with
  | some t => decide (t + 5000000 ≤ s.gnt.kaNs)
  | none => false

/-- The detail of a rail's record (R395). -/
def railDetail (rail mv : Nat) (above : Bool) : Nat := rail * 2 ^ 12 + b2n above * 2 ^ 11 + mv / 2 % 2 ^ 11

/-- UNANNOUNCED_POWER_LOSS: a rail falls below its under-voltage reset level without the warning (R382): the class 2 alarm of sensor 1, then reset. `gone`: every rail falls below 10 %. -/
def execUnannouncedPowerLoss (dt rail mv : Nat) (gone cut : Bool) (s : State) : Host.Outcome State Fault Refusal :=
  let s := s.tick dt
  let (ur, _, _, _, _, _) := railLevels rail
  if rail < 6 && mv < ur && s.gnt.main && !s.warned then
    let s := (s.fset Fld.GNT_RAIL_mv rail mv).condBegin 1 rail maskAll 0x02 (railDetail rail mv false)
    .next (s.railLoss gone cut)
  else .next s

/-- ORDERLY_POWER_LOSS: a rail falls below its under-voltage reset level after 5 ms of PFW_N: no alarm, no record (R382). -/
def execOrderlyPowerLoss (dt rail mv : Nat) (gone cut : Bool) (s : State) : Host.Outcome State Fault Refusal :=
  let s := s.tick dt
  let (ur, _, _, _, _, _) := railLevels rail
  if rail < 6 && mv < ur && s.gnt.main && s.warned then .next (s.railLoss gone cut) else .next s

/-- OVER_VOLTAGE: a rail rises above its over-voltage reset level: the alarm of sensor 2, then cold reset held (R382). -/
def execOverVoltage (dt rail mv : Nat) (cut : Bool) (s : State) : Host.Outcome State Fault Refusal :=
  let s := s.tick dt
  let (_, _, _, or_, _, _) := railLevels rail
  if rail < 6 && or_ < mv && s.gnt.main then
    let s := (s.fset Fld.GNT_RAIL_mv rail mv).condBegin 2 rail maskAll 0x02 (railDetail rail mv true)
    .next (s.resetWith false cut)
  else .next s

/-- KA_SUPPLY_LOST: without main power and without a sufficient VBAK, KA and BBRAM lose their contents (R137, R392, R493). -/
def execKaSupplyLost (dt : Nat) (s : State) : Host.Outcome State Fault Refusal :=
  let s := s.tick dt
  if !s.gnt.main && s.gnt.ka then
    let s := (s.fset Fld.GNT_STATUS_clear_held 0 0).fset Fld.GNT_STATUS_backup_events 0 0
    .next { s with
      bb := Bbram.reset
      gnt := { s.gnt with conds := .empty, lastEnd := .empty, staged := [], kaNs := 0, clearEnd := 0, ka := false, pfw := none, eraseAt := none } }.gntSync
  else .next s

/-- KA_SUPPLY_RESTORED: KA runs again from VBAK (R379, R392). -/
def execKaSupplyRestored (dt : Nat) (s : State) : Host.Outcome State Fault Refusal :=
  let s := s.tick dt
  if !s.gnt.main && !s.gnt.ka then .next { s with gnt := { s.gnt with ka := true } } else .next s

end Sys2Proof.Machine
end

