-- ==== Sys2Proof/Machine/LifeCycle.lean ====
section
/-! DEFINITION. The life cycle (R337 to R355): the decoding of the word, the steps of a transition and of SCRAP, and the manufacturing commands. Log entries of this file: DEDUCED 147, 240. -/

namespace Sys2Proof.Machine

/-- The states that permit secure debug (R337). -/
def debugState (lc : Nat) : Bool := lc == 1 || lc == 4 || lc == 5

/-- How many bits of a value are 1. -/
def popCount (w v : Nat) : Nat := ((List.range w).filter (fun i => v.testBit i)).length

/-- Bits on which three copies differ. -/
def copiesDiffer {w : Nat} (v : Vector (BitVec w) 3) : Nat := popCount w ((v[0] ^^^ v[1]) ||| (v[0] ^^^ v[2])).toNat

/-- Physical bits of the word and journal on which the copies differ (`LC_STATE.disagree`). -/
def Otp.disagree (o : Otp) : Nat :=
  copiesDiffer o.word +
  (List.range 16).foldl (fun a n =>
    a + copiesDiffer #v[(o.journal[0]).getD n 0, (o.journal[1]).getD n 0, (o.journal[2]).getD n 0]) 0

/-- The target flag of the pending record, if there is one (R341, R348). -/
def Otp.pendingTarget (o : Otp) : Option Nat :=
  match o.pending with
  | some n => recordTarget (o.record n)
  | none => none

/-- A record that did not happen: neither pending nor free, and neither DONE nor VOID (R348). -/
def Otp.spoiledRecord (o : Otp) (n : Nat) : Bool :=
  !recordPending (o.record n) && !o.recordFree n && pairAt (o.record n) stepDone != .set &&
    pairAt (o.record n) stepVoid != .set

/-- Every such record is marked VOID (R348). -/
def Otp.voidRecords (o : Otp) : Otp :=
  (List.range 16).foldl (fun o n => if o.spoiledRecord n then o.markStep n stepVoid else o) o

/-- A share is programmed and is not all ones (`KS_STATUS.share_present`). -/
def Otp.sharePresent (o : Otp) : Bool := vote o.share != 0 && vote o.share != BitVec.allOnes 512

/-- Several steps of the transition. -/
def State.lcRuns : Nat → State → State
  | 0, s => s
  | n + 1, s => State.lcRuns n s.lcNext

/-- LC_STEPS_RUN: after its reset the RP runs the next steps of the transition (R345, R347), while it may program OTP and no hold covers RP or KA (R350, R354). -/
def execLcStepsRun (dt steps : Nat) (s : State) : Host.Outcome State Fault Refusal :=
  let s := s.tick dt
  if s.boot.lcRun.isSome && s.fget Fld.DEV_BOOT_STATUS_phase 0 ≤ 1 && !s.gnt.rpDue && s.rpPrograms && !s.islandHeld 0x05 then
    .next (State.lcRuns (min steps 6) s)
  else .next s

/-- The transition that a pending record stands for: its state before is that of the word without the target flag (R341, R348). -/
def Otp.pendingRun (o : Otp) (n flag : Nat) : LcRun :=
  let v := o.voted
  let before := v &&& ~~~(pairMask 32 flag)
  let after := v ||| pairMask 32 flag
  ⟨some n, flag, wordState before, wordState after, wordEpoch before, 0⟩

/-- The resumption of a pending record at boot (R348): its remaining steps run, and the reset follows. -/
def State.lcResume (s : State) (n flag : Nat) : State :=
  let s := { s with boot := { s.boot with lcRun := some (s.otp.pendingRun n flag), resumed := true } }
  State.lcRuns 6 s

/-- The manufacturing commands are accepted (R344): the RP is in the BLANK path. -/
def State.blankPath (s : State) : Bool :=
  s.fget Fld.DEV_BOOT_STATUS_phase 0 == 1 && s.lc == 0 && !s.gnt.rpDue && s.boot.lcRun.isNone && s.rpPrograms

/-- MANUFACTURING_PROGRAM_TRIM: bits of the trim block are set (R344). -/
def execManufacturingProgramTrim (dt : Nat) (data : Bytes) (s : State) : Host.Outcome State Fault Refusal :=
  let s := s.tick dt
  if s.blankPath then .next { s with otp := { s.otp with trim := s.otp.trim ||| BitVec.ofNat 2048 (leNat data) } } else .next s

/-- A journal record begins: its target field, dual-rail, then INTENT (R345, R346). -/
def Otp.intend (o : Otp) (n flag : Nat) : Otp :=
  let m := (List.range 4).foldl (fun a j => a ||| BitVec.ofNat 64 ((if flag.testBit j then 2 else 1) <<< (2 * j))) (0 : BitVec 64)
  (o.markRecord n m).markStep n stepIntent

/-- MANUFACTURING_TRANSITION_FACTORY: the journalled transition from BLANK to FACTORY begins (R342, R344). -/
def execManufacturingTransitionFactory (dt : Nat) (s : State) : Host.Outcome State Fault Refusal :=
  let s := s.tick dt
  match s.otp.freeRecord with
  | some n =>
    if s.blankPath then
      .next { s with otp := s.otp.intend n 0, boot := { s.boot with lcRun := some ⟨some n, 0, 0, 1, 0, 0⟩ } }
    else .next s
  | none => .next s

/-- MANUFACTURING_TRANSITION_SCRAP: the transition from BLANK to SCRAP begins (R342, R344, R347). -/
def execManufacturingTransitionScrap (dt : Nat) (s : State) : Host.Outcome State Fault Refusal :=
  let s := s.tick dt
  if s.blankPath then .next { s with boot := { s.boot with lcRun := some ⟨none, 11, 0, 6, 0, 0⟩ } } else .next s

end Sys2Proof.Machine
end

