-- ==== Sys2Proof/Machine/Boot.lean ====
section
/-! DEFINITION. Boot (R358 to R367): the phases of the RP and of custody firmware, the measurements, the choice of images and configuration, and Recovery. Log entries of this file: DEDUCED 131, 147, 148, 158; DESIGN CHOICE 22, 62, 132, 141, 218. -/

namespace Sys2Proof.Machine

/-- `DEV_BOOT_STATUS.phase`. -/
def State.phase (s : State) : Nat := s.fget Fld.DEV_BOOT_STATUS_phase 0

/-- A phase begins. -/
def State.toPhase (s : State) (n : Nat) : State := s.fset Fld.DEV_BOOT_STATUS_phase 0 n

/-- MRn is extended by a value (R366). -/
def State.extendMr (s : State) (n : Nat) (v : Bytes) : State :=
  { s with boot := { s.boot with mr := s.boot.mr.insert n (sha384 (s.mr n ++ v)) } }

/-- The reset levels of every rail have ended (R382). -/
def State.railsGood (s : State) : Bool := s.gnt.main && !s.sensorPresent 1 && !s.sensorPresent 2

/-- The life-cycle state is decoded (R337, R340, R341): `LC_STATE`, its mirror, and `s_allowed`. -/
def State.decodeLc (s : State) (forced : Bool) : State :=
  let v := s.otp.voted
  let lc := if forced then 6 else wordState v
  let ep := if forced then 0 else wordEpoch v
  let s := ((s.fset Fld.LC_STATE_lc 0 lc).fset Fld.LC_STATE_ep 0 ep).fset Fld.LC_STATE_forced 0 (b2n forced)
  let s := s.fset Fld.LC_STATE_resumed 0 (b2n s.boot.resumed)
  let s := s.fset Fld.LC_STATE_disagree 0 (min s.otp.disagree 0xFFFF)
  s.fset Fld.WLD_DBG_s_allowed 0 (b2n (debugState lc))

/-- The reduced boot of SCRAP (R352): unless it is forced, the bits of `scrap`, share and trim are completed; BBRAM is erased. -/
def State.scrapBoot (s : State) (forced : Bool) : State :=
  let s := if forced || !s.rpPrograms then s else { s with otp := (s.otp.setFlag 11).burnShare.burnTrim }
  s.kaErase.toPhase 0xF

/-- Phase ISLANDS begins: the first islands are released, and the boot event is raised (R358, R429). -/
def State.islandsBegin (s : State) (xsp : Nat) : State :=
  let w := BitVec.ofNat 64 xsp
  let s := s.setReg .XSP_STATUS 0 ([Fld.XSP_STATUS_cs1_log2, Fld.XSP_STATUS_cs0_log2, Fld.XSP_STATUS_cs1_ok, Fld.XSP_STATUS_cs1_8d,
    Fld.XSP_STATUS_cs0_8d].foldl (fun a f => wordSet a f.hi f.lo (wordField w f.hi f.lo)) 0)
  let s := s.toPhase 2
  s.event 0x00 0x01 (s.gnt.kaNs / 1000000000 % 2 ^ 40 * 2 ^ 24 + s.fget Fld.GNT_PWRCYC_count 0)

/-- What follows the decoding: BLANK waits for the manufacturing commands, SCRAP boots reduced, any other state goes on (R337, R344, R352). -/
def State.afterDecode (s : State) (forced : Bool) (xsp : Nat) : State :=
  if s.lc = 0 then s else if s.lc = 6 then s.scrapBoot forced else s.islandsBegin xsp

/-- Phase ROM (R358): the ROM is measured, the journal resolved (R348), the state decoded. -/
def State.romPhase (s : State) (xsp : Nat) : State :=
  let s := (s.toPhase 1).extendMr 0 (sha384 Config.bootRom)
  let forced := !wordValid s.otp.voted s.otp.pendingTarget
  if forced then (s.decodeLc true).afterDecode true xsp
  else
    let s := { s with otp := s.otp.voidRecords }
    match s.otp.pending, s.otp.pendingTarget with
    | some n, some flag => s.lcResume n flag
    | _, _ => (s.decodeLc false).afterDecode false xsp

/-- The journal needs OTP bits before boot can go on: a pending or spoiled record (R348). -/
def State.journalWaits (s : State) : Bool :=
  (s.otp.pending.isSome || (List.range 16).any s.otp.spoiledRecord) && !s.rpPrograms

/-- BOOT_PHASE_ROM: boot leaves RESET (R358); `xsp` is what the RP finds on the xSPI chip selects. -/
def execBootPhaseRom (dt xsp : Nat) (s : State) : Host.Outcome State Fault Refusal :=
  let s := s.tick dt
  if s.phase = 0 && s.railsGood && s.boot.lcRun.isNone && !s.gnt.rpDue && !s.journalWaits then .next (s.romPhase xsp)
  else .next s

/-- The seed check of the stored shares (R96). -/
def State.seedCheck (s : State) : Bytes := kmac s.rootKey [] (ascii "ELVEVA-SEED-CHECK") 16

/-- The seed check passes, or the seed is regenerated from DRBG0 with a fresh pair of shares (R97). -/
def State.checkSeed (s : State) : State :=
  if s.bb.check = s.seedCheck then s.fset Fld.KS_STATUS_seed_valid 0 1
  else
    let (seed, s) := s.drawFresh 64
    let (mask, s) := s.drawNow 0 64
    let s := { s with bb := { s.bb with
      seedA := mask, seedB := xorBytes seed mask, vaults := .empty, journal := Journal.idle, exportRec := none } }
    let s := { s with bb := { s.bb with check := s.seedCheck } }
    let s := (s.fset Fld.KS_STATUS_seed_new 0 1).fset Fld.KS_STATUS_seed_valid 0 1
    s.event 0x20 0x02 0

/-- Phase KEYS (R358): the cache is empty, generations are set (R109), the seed is checked (R97), and the device keys are derived (R115). -/
def State.keysPhase (s : State) : State :=
  let s := { s with ks := { s.ks with genEpoch := s.free }, free := s.free + 1 }
  let s := s.fset Fld.KS_STATUS_share_present 0 (b2n s.otp.sharePresent)
  let s := s.checkSeed
  let (nonce, s) := s.drawNow 0 32
  let s := ({ s with ks := { s.ks with dev := { s.ks.dev with nonce := nonce } } }).deriveKeys
  let pub := devicePublic s.ks.dev.identity.value
  let s := { s with boot := { s.boot with identityPub := pub, deviceId := (sha384 (pub.take 97)).take 16 } }
  (s.passBegin.fset Fld.KS_STATUS_ready 0 1).toPhase 4

/-- A seed that is to be regenerated waits for a fresh seed of DRBG0 (R304, R307). -/
def State.seedWaits (s : State) : Bool := !(s.freshReady || s.bb.check == s.seedCheck)

/-- BOOT_PHASE_KEYS: the RP waits for DRBG0 (R308) and for BBRAM where it is held in clear (R390), then KS makes its keys (R358). -/
def execBootPhaseKeys (dt : Nat) (s : State) : Host.Outcome State Fault Refusal :=
  let s := s.tick dt
  if s.phase = 2 || s.phase = 3 then
    if s.drbgReady 0 && !s.clearHeld && !s.islandHeld 0x01 && !s.islandHeld 0x02 && !s.seedWaits then .next s.keysPhase else .next (s.toPhase 3)
  else .next s

/-- The slot of a kind that boot takes, the active one first; whether the active and the other slot failed (R364). -/
def pickImage (kind active : Nat) (v : Vector Bytes 2) : Option Nat × Bool × Bool :=
  let a := if active = 0 then 0 else 1
  if imageOk kind (slotGet v a) then (some a, false, false)
  else if imageOk kind (slotGet v (1 - a)) then (some (1 - a), true, false)
  else (none, true, true)

/-- MR1 and MR2 take a custody image (R366). -/
def State.measureCustody (s : State) (b : Bytes) : State :=
  (s.extendMr 1 (sha384 (imageKeys b))).extendMr 2 (imageDigest b)

/-- MR3 takes a steward image (R366). -/
def State.measureSteward (s : State) (b : Bytes) : State :=
  (s.extendMr 3 (imageDigest b)).extendMr 3 (sha384 (imageKeys b))

/-- The body of the attestation certificate (R160). -/
def State.certBody (s : State) : Bytes :=
  natLE 4 2 ++ s.deviceId ++ natLE 1 s.lc ++ natLE 1 s.ep ++ zeros 2 ++ s.mr 0 ++ s.mr 1 ++ s.mr 2 ++
  fitLen 2689 s.boot.attestPub ++ zeros 7

/-- The attestation keys are derived for the measurements in force, and the certificate is issued (R115, R160). -/
def State.certify (s : State) : State :=
  let s := s.deriveKeys
  let s := { s with boot := { s.boot with attestPub := devicePublic s.ks.dev.attest.value }, met := { s.met with pub := (devicePublic s.met.key.value).take 97 } }
  { s with boot := { s.boot with certificate := s.certBody ++ s.identitySign s.certBody } }

/-- The MPU entries of a custody image are written (R358). -/
def State.writeMpu (s : State) (b : Bytes) : State :=
  (List.range 64).foldl (fun s n =>
    let (base, ctrl) := Config.imageMpu b n
    (s.setReg .MPU_BASE n (wordWrite .MPU_BASE false 0 (BitVec.ofNat 64 base))).setReg .MPU_CTRL n
      (wordWrite .MPU_CTRL false 0 (BitVec.ofNat 64 ctrl))) s

/-- The words of a register group that hold octets, four each. -/
def State.putWords (s : State) (r : RegName) (n : Nat) (b : Bytes) : State :=
  (List.range n).foldl (fun s k => s.setReg r k (BitVec.ofNat 64 (field b (4 * k) 4))) s

/-- The CFG registers of a configuration and its slot (R373, `CFG_STATUS`). -/
def State.cfgRegs (s : State) (slot : Nat) : State :=
  let image := s.cfg.image
  let s := (s.fset Fld.CFG_STATUS_generation 0 s.cfg.gen).fset Fld.CFG_STATUS_slot 0 slot
  let s := s.fset Fld.CFG_STATUS_default 0 (b2n image.isEmpty)
  s.putWords .CFG_DIGEST 12 (if image.isEmpty then zeros 48 else sha384 image)

/-- The overlay records of a configuration (`CFG_OVLn`). -/
def State.ovlRegs (s : State) (l : List Overlay) : State :=
  (List.range 5).foldl (fun s k =>
    match l[k]? with
    | some o => ((s.fset Fld.CFG_OVL_permitted k (b2n o.permitted)).fset Fld.CFG_OVL_commit k o.commit).fset Fld.CFG_OVL_la_floor k o.floor
    | none => s) s

/-- Entries of an inline map by index. -/
def mapOf (l : List MapEntry) : NMap MapEntry := ((List.range l.length).zip l).foldl (fun m e => m.insert e.1 e.2) .empty

/-- Port pairs by number. -/
def pairsOf (l : List PairCfg) : NMap PairCfg := ((List.range l.length).zip l).foldl (fun m e => m.insert e.1 e.2) .empty

/-- The live sections of a configuration: ports, inline map, overlay records, boot mode (R368). -/
def State.applyLive (s : State) (c : BaseCfg) : State :=
  let s := ({ s with pairs := pairsOf c.pairs, tbl := { s.tbl with map := mapOf c.map } }).fset Fld.TBL_INL_PD_mode 0 c.mode
  (s.ovlRegs c.overlays).fset Fld.DEV_MODE_boot_mode 0 c.bootMode

/-- The assignments of a configuration (R318, R320, R321, R368). -/
def State.applyAssign (s : State) (c : BaseCfg) : State :=
  let s := (List.range 4).foldl (fun s n => s.fset Fld.WLD_ISLAND_world (0x10 + n) (b2n (bit c.nets n))) s
  let s := s.setReg .WLD_PER 0 (wordWrite .WLD_PER false 0 (BitVec.ofNat 64 c.per))
  ((List.range 256).filter irqAssigned).foldl (fun s n =>
    let (w, t) := c.irqs.getD n (0, 0xFF)
    let s := s.fset Fld.WLD_IRQ_targets n t
    if 0xA8 ≤ n then s.fset Fld.WLD_IRQ_world n (b2n (bit (s.fget Fld.WLD_PER_tmr 0) (n - 0xA8)))
    else if irqConfigurable n then s.fset Fld.WLD_IRQ_world n w else s) s

/-- The debug enables of a configuration within the state's permission, and `dbg_lock` (R335, R351). -/
def State.applyDebug (s : State) (c : BaseCfg) : State :=
  let d := if s.flag Fld.WLD_DBG_s_allowed 0 then c.dbg else c.dbg % 4
  let s := (((s.fset Fld.WLD_DBG_o_nin 0 (b2n (bit d 0))).fset Fld.WLD_DBG_o_inv 0 (b2n (bit d 1))).fset Fld.WLD_DBG_s_nin 0
    (b2n (bit d 2))).fset Fld.WLD_DBG_s_inv 0 (b2n (bit d 3))
  s.fset Fld.WLD_LOCK_dbg_lock 0 1

/-- The boot sections of a configuration: domain, assignments, debug, compatibility regions (R368). -/
def State.applyBoot (s : State) (c : BaseCfg) : State :=
  let s := ((s.putWords .CFG_VDOM 4 c.vdom).applyAssign c).applyDebug c
  (List.range 4).foldl (fun s k =>
    s.setReg .KS_COMPAT_CFG k (wordWrite .KS_COMPAT_CFG false 0 (BitVec.ofNat 64 (c.compat.getD k 0)))) s

/-- The configuration slot that boot uses, and its image (R372): the named slot, then the other; none for the default configuration. -/
def State.pickConfig (s : State) : Option (Nat × Bytes) × Bool × Bool :=
  let d := s.flash.dir.cfg
  if 2 ≤ d then (none, false, false)
  else
    match s.slotConfig d with
    | some b => (some (d, b), false, false)
    | none =>
      match s.slotConfig (1 - d) with
      | some b => (some (1 - d, b), true, false)
      | none => (none, true, true)

/-- MR6: states, debug enables and boot status (R366). -/
def State.mr6Value (s : State) : Bytes :=
  natLE 1 s.lc ++ natLE 1 s.ep ++ natLE 1 ((s.reg .WLD_DBG 0).toNat % 32) ++
  natLE 1 (bits (s.reg .DEV_BOOT_STATUS 0).toNat 7 4) ++ zeros 4

/-- The successor measurement is present (R133, R426). -/
def State.setSucc (s : State) (m : Bytes) : State := (s.putWords .KS_SUCC_MEAS 12 m).fset Fld.KS_SUCC_CTRL_valid 0 1

/-- What boot makes of the re-seal journal (R426): cleared where the successor booted; SUSPENDED otherwise, with the successor measurement again where the other custody slot holds that image. -/
def State.journalBoot (s : State) : State :=
  let j := s.bb.journal
  if j.state = 0 then s
  else if j.succ == s.mr 2 then { s with bb := { s.bb with journal := Journal.idle } }
  else
    let s := { s with bb := { s.bb with journal := { j with state := 2 } } }
    let b := slotGet s.flash.cus (if s.flash.dir.cus = 0 then 1 else 0)
    if imageOk 1 b && imageMeasurement b == j.succ then s.setSucc j.succ else s

/-- Phase CONFIG (R358): the configuration is selected, measured and applied, and the re-seal journal is resolved (R426). -/
def State.configPhase (s : State) (custody : Bytes) : State :=
  let (pick, named, other) := s.pickConfig
  let s := (s.fset Fld.DEV_BOOT_ERR_cfg_named 0 (b2n named)).fset Fld.DEV_BOOT_ERR_cfg_other 0 (b2n other)
  let (slot, image) := pick.getD (0, [])
  let s := (s.fset Fld.DEV_BOOT_STATUS_cfg_default 0 (b2n pick.isNone)).fset Fld.DEV_BOOT_STATUS_cfg_fallback 0
    (b2n (pick.isSome && named))
  let s := { s with cfg := ⟨if pick.isNone then 0 else field (slotGet s.flash.ends slot) 0 4, image, image⟩ }
  let c := cfgOf image
  let s := (((s.cfgRegs slot).applyLive c).applyBoot c).writeMpu custody
  let s := s.extendMr 4 (sha384 (if image.isEmpty then zeros 48 else image))
  let s := s.extendMr 5 (sha384 (match c.overlays[c.bootMode - 1]? with | some o => overlayRecord o c.bootMode | none => []))
  let s := s.extendMr 6 s.mr6Value
  s.journalBoot.toPhase 5

/-- Phase IMAGES (R358, R364, R365): the custody and steward images are chosen and measured and the certificate issued; without a custody image the RP enters Recovery. -/
def State.imagesPhase (s : State) : State :=
  let d := s.flash.dir
  let (cus, c0, c1) := pickImage 1 d.cus s.flash.cus
  let (stw, w0, w1) := pickImage 2 d.stw s.flash.stw
  let s := (s.fset Fld.DEV_BOOT_ERR_dir 0 (b2n s.flash.directory.isNone)).fset Fld.DEV_BOOT_ERR_cus_active 0 (b2n c0)
  let s := s.fset Fld.DEV_BOOT_ERR_cus_other 0 (b2n c1)
  match cus with
  | none => s.toPhase 0xE
  | some i =>
    let b := slotGet s.flash.cus i
    let s := (s.fset Fld.DEV_BOOT_ERR_stw_active 0 (b2n w0)).fset Fld.DEV_BOOT_ERR_stw_other 0 (b2n w1)
    let s := (s.fset Fld.DEV_BOOT_STATUS_img_fallback 0 (b2n (c0 || (w0 && !w1)))).fset Fld.DEV_BOOT_STATUS_steward_absent 0 (b2n w1)
    let s := s.measureCustody b
    let s := match stw with | some k => s.measureSteward (slotGet s.flash.stw k) | none => s
    s.certify.configPhase b

/-- BOOT_PHASE_IMAGES: phases IMAGES and CONFIG (R358). -/
def execBootPhaseImages (dt : Nat) (s : State) : Host.Outcome State Fault Refusal :=
  let s := s.tick dt
  if s.phase = 4 && !s.islandHeld 0x01 then .next s.imagesPhase else .next s

/-- RECOVERY_GO: a write of 1 to `DEV_RCV_CTRL.go` (R367); `image` is what the device reads at `DEV_RCV_ADDR`. -/
def State.recoveryGo (s : State) (image : Bytes) (refused : Bool) : State :=
  let b := fitLen (min (s.fget Fld.DEV_RCV_LEN_len 0) (slotSize 1)) image
  if refused || !imageOk 1 b then s.fset Fld.DEV_RCV_CTRL_status 0 2
  else
    let d := s.flash.dir
    let k := if imageOk 1 s.flash.cus[0] then 1 else 0
    let f := ({ s.flash with cus := slotSet s.flash.cus k b }).writeDir { d with cus := k }
    let s := ({ s with flash := f }).fset Fld.DEV_RCV_CTRL_status 0 3
    { s with gnt := { s.gnt with rpDue := true } }

/-- RECOVERY_GO (R367): outside RECOVERY the write is discarded and reported. -/
def execRecoveryGo (dt : Nat) (image : Bytes) (refused : Bool) (s : State) : Host.Outcome State Fault Refusal :=
  let s := s.tick dt
  if s.phase = 0xE then (if s.gnt.rpDue then .next s else .next (s.recoveryGo image refused))
  else .next (s.report ⟨0x00, 3, none⟩ .write 0x10C 0x0A 0xFFFF)

end Sys2Proof.Machine
end

