-- ==== Sys2Proof/Machine/Continuity.lean ====
section
/-! DEFINITION. Continuity (R13, R402 to R419): the roles of the replicated units, fencing and retirement, oasis visits, enduring mirrors, and the error policy. Log entries of this file: DEDUCED 68, 149, 151, 152, 154, 155, 163, 252, 254, 255; DESIGN CHOICE 30, 150, 153, 165, 216, 253. -/

namespace Sys2Proof.Machine

/-- The count of failures of a unit. -/
def failsFld : Nat → Fld
  | 0 => Fld.DEV_UNIT_CC_fails
  | 1 => Fld.DEV_UNIT_TP_fails
  | 2 => Fld.BLK_CLUSTER_MAP_fails
  | _ => Fld.PKE_CORE_MAP_fails

/-- The number that names a unit among those that drain or are tested. -/
def unitKey (kind n : Nat) : Nat :=
  match kind with
  | 0 => 8 + n
  | 1 => 0x18 + n
  | 2 => 0x20 + n
  | _ => 256 + n

/-- The island of a unit (R12). -/
def unitIsland (kind n : Nat) : Nat := if kind < 3 then unitKey kind n else 0x30 + n / 9

/-- The units among which one rests: all of the kind, or the cores of one island (R407). -/
def groupOf (kind n : Nat) : List Nat :=
  if kind < 3 then List.range (unitCount kind) else (List.range 9).map (fun k => 9 * (n / 9) + k)

/-- The rotor of a unit. -/
def rotorOf (kind n : Nat) : Nat := if kind < 3 then kind else 3 + n / 9

/-- A unit takes a role. -/
def State.setRole (s : State) (kind n v : Nat) : State := s.fset (roleFld kind) n v

/-- The resting unit of a unit's group (R13). -/
def State.resting (s : State) (kind n : Nat) : Option Nat := (groupOf kind n).find? (fun k => s.role kind k == 1)

/-- Active units of a unit's group. -/
def State.activeUnits (s : State) (kind n : Nat) : Nat := ((groupOf kind n).filter (fun k => s.role kind k == 0)).length

/-- A unit leaves the lists of those that drain or are tested. -/
def State.settled (s : State) (kind n : Nat) : State :=
  let k := unitKey kind n
  { s with rot := { s.rot with
      draining := s.rot.draining.filter (· != k), testing := s.rot.testing.filter (· != k), heir := s.rot.heir.erase k } }

/-- A unit runs its self-test. -/
def State.toTest (s : State) (kind n : Nat) : State :=
  let s := s.settled kind n
  { s with rot := { s.rot with testing := unitKey kind n :: s.rot.testing } }

/-- The port-directions that a number of pipelines serves (R413): 1 A-rx, 2 B-rx, 3 A-tx, 4 B-tx, 5 both tx. -/
def pdsFor (n : Nat) : List Nat :=
  match n with
  | 0 => []
  | 1 => [1]
  | 2 => [1, 2]
  | 3 => [1, 2, 5]
  | _ => [1, 2, 3, 4]

/-- The pipeline that serves a port-direction. -/
def State.pdUnit (s : State) (pd : Nat) : Option Nat := (List.range 5).find? (fun n => s.fget Fld.DEV_UNIT_TP_pd n == pd)

/-- `TBL_INL_PD` follows the pipelines' port-directions. -/
def State.pdRegs (s : State) : State :=
  let at_ := fun (s : State) (f : Fld) (pd : Nat) =>
    match s.pdUnit pd, s.pdUnit 5 with
    | some n, _ => s.fset f 0 n
    | none, some n => if 3 ≤ pd then s.fset f 0 n else s
    | none, none => s
  at_ (at_ (at_ (at_ s Fld.TBL_INL_PD_a_rx 1) Fld.TBL_INL_PD_b_rx 2) Fld.TBL_INL_PD_a_tx 3) Fld.TBL_INL_PD_b_tx 4

/-- Port-directions are held by the active pipelines that held them, and given to the others in order (R413). -/
def State.assignPds (s : State) : State :=
  let on := (List.range 5).filter (fun n => s.role 1 n == 0)
  let want := pdsFor on.length
  let keeps := fun (n : Nat) => on.contains n && want.contains (s.fget Fld.DEV_UNIT_TP_pd n)
  let missing := want.filter (fun d => !(List.range 5).any (fun n => keeps n && s.fget Fld.DEV_UNIT_TP_pd n == d))
  let free := on.filter (fun n => !keeps n)
  let s := ((List.range 5).filter (fun n => !keeps n)).foldl (fun s n => s.fset Fld.DEV_UNIT_TP_pd n 0) s
  ((free.zip missing).foldl (fun s e => s.fset Fld.DEV_UNIT_TP_pd e.1 e.2) s).pdRegs

/-- The port-direction of one pipeline moves to another (R408). -/
def State.movePd (s : State) (a b : Nat) : State :=
  let d := s.fget Fld.DEV_UNIT_TP_pd a
  ((s.fset Fld.DEV_UNIT_TP_pd a 0).fset Fld.DEV_UNIT_TP_pd b d).assignPds

/-- The bookkeeping of the packets that a command pair has started moves to another pair (R409). -/
def State.movePackets (s : State) (a b : Nat) : State :=
  { s with cmd := { s.cmd with packets := s.cmd.packets.map (fun _ p => if p.pair = a && p.phase != .fetched then { p with pair := b } else p) } }

/-- A unit's own memories are zeroed at the end of its self-test (R408): a core's operand memory, a cluster's register file. A pair's are zeroed as its channels close; a flow cache bank stays with its port-direction. -/
def State.zeroUnit (s : State) (kind n : Nat) : State :=
  match kind with
  | 2 => { s with blk := { s.blk with files := s.blk.files.filter (fun k _ => k / 64 != n) } }
  | 3 => s.zeroCore n
  | _ => s

/-- The resting unit returns to active duty; a visit under way is abandoned, to be started again, and a self-test ends with zeroed memories (R408, R412). -/
def State.bringUp (s : State) (kind r : Nat) : State :=
  let k := unitKey kind r
  let s := if s.rot.testing.contains k then s.zeroUnit kind r else s
  let s := if s.rot.testing.contains k || s.rot.draining.contains k then
    { s with rot := { s.rot with again := rotorOf kind r :: s.rot.again } } else s
  (s.settled kind r).setRole kind r 0

/-- What a fenced command pair had started completes with FAULTED (R411): a job's packet at its release time, any other at once, posted by another pair. -/
def State.pairFault (s : State) (n : Nat) : State :=
  let s := (s.cmd.packets.cells.filter (fun e => e.2.pair == n && (e.2.phase.started || e.2.phase == .waitCore))).foldl (fun s e =>
    let s := { s with tbl := { s.tbl with waits := s.tbl.waits.filter (fun _ w => w.pid != e.1) } }
    match s.pke.jobs.get? e.1 with
    | some j => (s.setPacket e.1 { e.2 with pair := s.pickPair }).jobFaults e.1 j
    | none => if (s.blk.jobs.get? (2 * e.1)).isSome then s.faultSym (2 * e.1) else s.fail e.1 .faulted) s
  s.setPair n PairWorld.reset

/-- The work that a firing check covers ends (R405, R411). -/
def State.coveredFails (s : State) (kind n : Nat) : State :=
  match kind with
  | 0 => s.pairFault n
  | 1 =>
    let s := (s.tbl.frames.cells.filter (fun e => e.2.at_ != .cluster && e.2.pipe == some n)).foldl (fun s e => s.loseFrame e.1 .fault) s
    { s with tbl := { s.tbl with frames := s.tbl.frames.map (fun _ f => if f.pipe == some n then { f with pipe := none } else f) } }
  | 2 => (s.clusterFault n).framesFault n
  | _ => s.abortCore n

/-- The unit's place is taken by the resting unit of its group, if there is one (R412). -/
def State.replaceUnit (s : State) (kind n : Nat) : State :=
  let t := match s.resting kind n with
    | some r => if kind = 1 then (s.bringUp kind r).movePd n r else s.bringUp kind r
    | none => if kind = 1 then s.assignPds else s
  if kind = 2 then t.steerWaiting else t

/-- The detail of the events of a unit (R429). -/
def State.unitDetail (s : State) (kind n : Nat) : Nat := kind + 256 * n + 65536 * s.fget (failsFld kind) n

/-- A unit retires (R411); without five usable pipelines their rotation stops (R413). -/
def State.retireUnit (s : State) (kind n : Nat) : State :=
  let s := ((s.settled kind n).setRole kind n 3).event 0x31 (unitIsland kind n) (s.unitDetail kind n)
  if kind = 1 then s.event 0x33 (unitIsland kind n) (kind + 256) else s

/-- A unit is fenced (R411): it fails once more, the covered work ends, the resting unit replaces it where it was active, and it is tested, or retired at its third failure. -/
def State.fence (s : State) (kind n : Nat) : State :=
  if s.role kind n = 3 then s
  else
    let was := s.role kind n
    let s := s.fset (failsFld kind) n (min 3 (s.fget (failsFld kind) n + 1))
    let s := s.setRole kind n 2
    let s := s.event 0x30 (unitIsland kind n) (s.unitDetail kind n)
    let s := s.coveredFails kind n
    let s := if was = 0 then s.replaceUnit kind n else s
    if 3 ≤ s.fget (failsFld kind) n then s.retireUnit kind n else s.toTest kind n

/-- A failed verification counts as one failure of the signing core, which retires at its third (R405). -/
def State.verifyFailed (s : State) (n : Nat) : State :=
  let s := s.fset Fld.PKE_CORE_MAP_fails n (min 3 (s.fget Fld.PKE_CORE_MAP_fails n + 1))
  if 3 ≤ s.fget Fld.PKE_CORE_MAP_fails n && s.role 3 n != 3 then
    let was := s.role 3 n
    let s := (s.setRole 3 n 2).coveredFails 3 n
    (if was = 0 then s.replaceUnit 3 n else s).retireUnit 3 n
  else s

/-- A check on an island fires: its replicated units are fenced (R406, R411); any other island is left to the error policy of R419. -/
def State.islandFault (s : State) (i : Nat) : State :=
  if 8 ≤ i && i ≤ 0x0F then s.fence 0 (i - 8)
  else if 0x18 ≤ i && i ≤ 0x1C then s.fence 1 (i - 0x18)
  else if 0x20 ≤ i && i ≤ 0x2F then s.fence 2 (i - 0x20)
  else if 0x30 ≤ i && i ≤ 0x37 then (List.range 9).foldl (fun s k => s.fence 3 (9 * (i - 0x30) + k)) s
  else s

/-- An island holds replicated units. -/
def replicated (i : Nat) : Bool := (8 ≤ i && i ≤ 0x0F) || (0x18 ≤ i && i ≤ 0x1C) || (0x20 ≤ i && i ≤ 0x37)

/-- An island fails its boot self-test (R358). -/
def State.islandFails (s : State) (i : Nat) : State :=
  if replicated i then s.islandFault i else { s with boot := { s.boot with failed := i :: s.boot.failed } }

/-- The islands that test themselves at boot (R358): every one that phase ISLANDS does not release. -/
def testedIslands : List Nat := (List.range 64).filter (fun n => islandAssigned n && 8 ≤ n)

/-- ISLAND_SELFTEST_DONE: an island finishes its boot self-test and memory clearing; a failure fences it (R358). -/
def execIslandSelftestDone (dt island : Nat) (pass : Bool) (s : State) : Host.Outcome State Fault Refusal :=
  let s := s.tick dt
  if 2 ≤ s.phase && s.phase ≤ 5 && testedIslands.contains island && !s.boot.tested.contains island then
    let s := { s with boot := { s.boot with tested := island :: s.boot.tested } }
    if pass then .next s else .next (s.islandFails island)
  else .next s

/-- The highest-numbered unit of each group rests at the end of boot, unless a unit of the group is fenced (R13, R412). -/
def State.restUnits (s : State) : State :=
  let rest := fun (s : State) (kind n : Nat) =>
    if (groupOf kind n).all (fun k => s.role kind k == 0) then s.setRole kind ((groupOf kind n).getLastD 0) 1 else s
  let s := rest (rest (rest s 0 0) 1 0) 2 0
  ((List.range 8).foldl (fun s i => rest s 3 (9 * i)) s).assignPds

/-- The overlay record of a mode takes effect: the lookaside floor and the mode (R236, R375). -/
def State.applyMode (s : State) (code : Nat) : State :=
  (s.fset Fld.BLK_ARB_la_floor 0 (s.fget Fld.CFG_OVL_la_floor (code - 1))).fset Fld.DEV_MODE_mode 0 code

/-- A mode holds the ports down (R249). -/
def modeDown (code : Nat) : Bool := code == 3 || code == 5

/-- The islands of a port are on and not held, and the mode keeps its link up. -/
def State.portMayTrain (s : State) (port : Nat) : Bool :=
  let mode := s.fget Fld.DEV_MODE_mode 0
  decide (port < s.ports) && mode != 0 && !modeDown mode &&
    (List.range 4).all (fun k => !s.portUses port k || (s.fget Fld.WLD_ISLAND_pwr (0x10 + k) == 0 && !s.islandHeld (0x10 + k)))

/-- The links that are down and may come up train: after a mode, a port change or power brings their ports back (R375 step 1, R374 step 3, R358). -/
def State.trainLinks (s : State) : State :=
  (List.range 16).foldl (fun s p =>
    if s.portMayTrain p && !s.flag Fld.NET_PORT_STATUS_up p then s.fset Fld.NET_PORT_STATUS_training p 1 else s) s

/-- `rel` of NET0 to NET3, which follows the mode (R324). -/
def State.netRelease (s : State) (on : Bool) : State :=
  (List.range 4).foldl (fun s k => (s.fset Fld.WLD_ISLAND_rel (0x10 + k) (b2n on)).islandUpdate (0x10 + k)) s

/-- The seeds of the tables and banks (R276): five of 64 bits, then four way seeds and an LFSR state for each bank. -/
def State.drawSeeds (s : State) : State :=
  let (r, s) := s.drawNow 3 40
  let s := { s with tbl := { s.tbl with seeds := #v[field r 0 8, field r 8 8, field r 16 8, field r 24 8, field r 32 8] } }
  (List.range 4).foldl (fun s b =>
    let (r, s) := s.drawNow 3 34
    s.bankSeed b r) s

/-- The body of the meter key statement (R445). -/
def State.meterStatementBody (s : State) : Bytes :=
  natLE 4 1 ++ s.deviceId ++ natLE 1 s.lc ++ natLE 1 s.ep ++ zeros 2 ++ s.mr 2 ++ fitLen 97 s.met.pub ++ zeros 7

/-- The meter key statement is made (R445). -/
def State.makeStatement (s : State) : State :=
  let m := s.meterStatementBody ++ s.boot.certificate
  { s with met := { s.met with statement := m ++ s.attestSign m } }

/-- Phase FIRMWARE (R358): seeds, boot identifier, compatibility lock, assignments locked, boot overlay, resting units, meter statement. -/
def State.firmwarePhase (s : State) : State :=
  let s := s.drawSeeds
  let (b, s) := s.drawNow 2 16
  let s := { s with met := { s.met with bootId := b } }
  let s := (s.compatLock.fset Fld.WLD_LOCK_assign_lock 0 1).restUnits
  let code := s.fget Fld.DEV_MODE_boot_mode 0
  let s := s.applyMode code
  let s := if modeDown code then s.netRelease true else s.trainLinks
  s.makeStatement.toPhase 6

/-- BOOT_PHASE_FIRMWARE: every island has finished its self-test, and the command pairs start custody firmware (R358). -/
def execBootPhaseFirmware (dt : Nat) (s : State) : Host.Outcome State Fault Refusal :=
  let s := s.tick dt
  if s.phase = 5 && testedIslands.all s.boot.tested.contains && s.drbgReady 2 && s.drbgReady 3 && !s.clearHeld then
    .next s.firmwarePhase
  else .next s

/-- Boot reaches READY (R358): the time, the event and the causes of the device interrupt. -/
def State.readyPhase (s : State) : State :=
  let s := (s.toPhase 7).fset Fld.DEV_BOOT_TIME_ms 0 (s.now / 1000000 % 2 ^ 32)
  let s := s.event 0x01 0x01 (s.reg .DEV_BOOT_STATUS 0).toNat
  let s := s.deviceCause 0
  if s.flag Fld.DEV_BOOT_STATUS_img_fallback 0 || s.flag Fld.DEV_BOOT_STATUS_cfg_fallback 0 ||
      s.flag Fld.DEV_BOOT_STATUS_cfg_default 0 then s.deviceCause 1 else s

/-- BOOT_READY: boot completes once the assignments and the Gauntlet's classes are locked (R322, R358, R386). -/
def execBootReady (dt : Nat) (s : State) : Host.Outcome State Fault Refusal :=
  let s := s.tick dt
  if s.phase = 6 && s.flag Fld.WLD_LOCK_assign_lock 0 && s.flag Fld.GNT_LOCK_lock 0 then .next s.readyPhase else .next s

/-- Nanoseconds between visit starts of a kind, and the longest cycle (R407). -/
def rotTimes : Nat → Nat × Nat
  | 0 => (2000000000, 16000000000)
  | 1 => (3200000000, 16000000000)
  | 2 => (1000000000, 16000000000)
  | _ => (1750000000, 15750000000)

/-- The unit that the last visit of a rotor began with, or the resting unit before the first visit. -/
def State.lastVisited (s : State) (kind base : Nat) : Nat :=
  match s.rot.visit.get? (rotorOf kind base) with
  | some (_, u) => u
  | none => (s.resting kind base).getD ((groupOf kind base).getLastD 0)

/-- The visit of this unit was abandoned and is started again (R412). -/
def State.repeats (s : State) (kind u : Nat) : Bool :=
  s.rot.again.contains (rotorOf kind u) && s.role kind u == 0 && s.lastVisited kind u == u

/-- The next unit in the order of visits, wrapping, that is active (R407); first the one whose visit was abandoned (R412). -/
def State.nextUnit (s : State) (kind base : Nat) : Option Nat :=
  let l := s.lastVisited kind base
  let g := groupOf kind base
  if s.repeats kind l then some l
  else (g.filter (fun k => decide (l < k)) ++ g.filter (fun k => decide (k ≤ l))).find? (fun k => s.role kind k == 0)

/-- A cycle ends where the order wraps (R407): its length is shown, and a late one is recorded. -/
def State.noteCycle (s : State) (kind u : Nat) : State :=
  let r := rotorOf kind u
  let wraps := match s.rot.visit.get? r with | some (_, l) => decide (u ≤ l) | none => true
  if !wraps || s.repeats kind u then s
  else
    let s' := { s with rot := { s.rot with cycle := s.rot.cycle.insert r s.now } }
    match s.rot.cycle.get? r with
    | none => s'
    | some t =>
      let len := s.now - t
      let s := { s' with rot := { s'.rot with lengths := s'.rot.lengths.insert r len } }
      let most := (s.rot.lengths.filter (fun k _ => min k 3 == kind)).cells.foldl (fun a e => max a e.2) 0
      let s := s.fset Fld.DEV_ROT_cycle kind (min (most / 10000000) 0xFFFF)
      if (rotTimes kind).2 < len then (s.fset Fld.DEV_ROT_late kind 1).event 0x33 (unitIsland kind u) kind else s

/-- Queued packets of a withdrawn cluster with no chunk processed are steered again (R409). -/
def State.requeue (s : State) (n : Nat) : State :=
  ((s.lookasideOf n).foldl (fun s e => if e.2.done = 0 then s.unsteer e.1 e.2 else s) s).steerWaiting

/-- The hand-off of a visit (R408, R409): the port-direction of a pipeline, the packets of a pair, the queue of a cluster. -/
def State.handOff (s : State) (kind u : Nat) (r : Option Nat) : State :=
  match kind, r with
  | 0, some r => s.movePackets u r
  | 0, none => s.movePackets u s.pickPair
  | 1, some r => s.movePd u r
  | 2, _ => s.requeue u
  | _, _ => s

/-- A visit to a unit begins (R408): the resting unit returns, the visited one takes no more work and drains. -/
def State.visitBegin (s : State) (kind u : Nat) : State :=
  let s := s.noteCycle kind u
  let r := s.resting kind u
  let s := match r with | some r => s.bringUp kind r | none => s
  let s := s.setRole kind u 1
  let s := { s with rot := { s.rot with
    draining := unitKey kind u :: s.rot.draining
    visit := s.rot.visit.insert (rotorOf kind u) (s.now, u)
    again := s.rot.again.filter (· != rotorOf kind u)
    heir := match r with | some r => s.rot.heir.insert (unitKey kind u) r | none => s.rot.heir } }
  (s.fset Fld.DEV_ROT_unit kind u).handOff kind u r

/-- A unit of the group drains or is tested. -/
def State.visitRuns (s : State) (kind base : Nat) : Bool :=
  (groupOf kind base).any (fun k => s.rot.draining.contains (unitKey kind k) || s.rot.testing.contains (unitKey kind k))

/-- The visit interval of a rotor has passed (R407). -/
def State.visitDue (s : State) (kind base : Nat) : Bool :=
  match s.rot.visit.get? (rotorOf kind base) with
  | some (t, _) => decide (t + (rotTimes kind).1 ≤ s.now)
  | none => true

/-- OASIS_VISIT_START: the next visit of a kind begins; for public-key cores, in an island (R407, R408, R410). -/
def execOasisVisitStart (dt kind island : Nat) (s : State) : Host.Outcome State Fault Refusal :=
  let s := s.tick dt
  let base := if kind = 3 then 9 * island else 0
  if kind < 4 && island < 8 && !s.rotPaused kind && !s.visitRuns kind base && s.visitDue kind base && !s.erasing then
    match s.nextUnit kind base with
    | some u => if s.islandHeld (unitIsland kind u) then .next s else .next (s.visitBegin kind u)
    | none => .next s
  else .next s

/-- The drain of a unit has ended: nothing that it must finish is left on it (R408, R409). -/
def State.drained (s : State) (kind n : Nat) : Bool :=
  match kind with
  | 0 => !(s.pairOf n).world
  | 1 => !s.tbl.frames.any (fun _ f => f.pipe == some n)
  | 2 => (s.clusterJobs n).isEmpty
  | _ => !s.coreBusy n

/-- Octets of local memory that the open world may read, write or execute (R328, R409). -/
def State.openOctets (s : State) (m : NMap Byte) : NMap Byte :=
  m.filter (fun a _ => (s.mpuEntry true a 1).isSome)

/-- A pair's world-related state with the open world of another in it: what a secure world has there stays (R409). -/
def State.takeOpen (s : State) (into from_ : PairWorld) : PairWorld :=
  { from_ with wvec := into.wvec, mem := (s.openOctets from_.mem).cells.foldl (fun m e => m.setD 0 e.1 e.2) into.mem }

/-- What the closure of a unit's channels does (R409): a pair's open world moves to the returning pair, or is kept for the pair itself where none returns; a cluster's register file is erased. -/
def State.closeUnit (s : State) (kind n : Nat) : State :=
  match kind with
  | 0 =>
    let w := s.pairOf n
    match s.rot.heir.get? (unitKey 0 n) with
    | some r => (s.setPair r (s.takeOpen (s.pairOf r) w)).setPair n PairWorld.reset
    | none => s.setPair n (s.takeOpen PairWorld.reset w)
  | 2 => { s with blk := { s.blk with files := s.blk.files.filter (fun k _ => k / 64 != n) } }
  | _ => s

/-- OASIS_DRAIN_DONE: a withdrawn unit's drain ends, its channels close and its self-test runs (R408, R409). -/
def execOasisDrainDone (dt kind unit : Nat) (s : State) : Host.Outcome State Fault Refusal :=
  let s := s.tick dt
  if kind < 4 && unit < unitCount kind && s.rot.draining.contains (unitKey kind unit) && s.drained kind unit &&
      !s.islandHeld (unitIsland kind unit) then
    .next ((s.closeUnit kind unit).toTest kind unit)
  else .next s

/-- A fenced unit that passed its self-test returns (R411): active where the group lacks one, resting otherwise. -/
def State.unitReturns (s : State) (kind n : Nat) : State :=
  let full := (groupOf kind n).length - 1
  let s := (s.zeroUnit kind n).settled kind n
  let s := s.setRole kind n (if s.activeUnits kind n < full then 0 else 1)
  let s := s.event 0x32 (unitIsland kind n) (s.unitDetail kind n)
  let s := if kind = 1 then s.assignPds else s
  if kind = 2 then s.steerWaiting else s

/-- A visited unit that passed its self-test rests until the next visit (R408); in a kind that retirement has left without a spare unit it is active again (R413). -/
def State.visitEnds (s : State) (kind n : Nat) : State :=
  let s := (s.zeroUnit kind n).settled kind n
  if (groupOf kind n).any (fun k => s.role kind k == 3) then
    let s := s.setRole kind n 0
    let s := if kind = 1 then s.assignPds else s
    if kind = 2 then s.steerWaiting else s
  else s

/-- UNIT_SELFTEST_DONE: the self-test of a withdrawn or fenced unit ends (R408, R411). -/
def execUnitSelftestDone (dt kind unit : Nat) (pass : Bool) (s : State) : Host.Outcome State Fault Refusal :=
  let s := s.tick dt
  if kind < 4 && unit < unitCount kind && s.rot.testing.contains (unitKey kind unit) && !s.islandHeld (unitIsland kind unit) &&
      !s.erasing then
    if !pass then .next (s.fence kind unit)
    else if s.role kind unit = 2 then .next (s.unitReturns kind unit)
    else .next (s.visitEnds kind unit)
  else .next s

/-- KNOWN_ANSWER_CHECK: the periodic vector of an active cluster or core (R404); a failure fences it. -/
def execKnownAnswerCheck (dt kind unit : Nat) (pass : Bool) (s : State) : Host.Outcome State Fault Refusal :=
  let s := s.tick dt
  if (kind = 2 || kind = 3) && unit < unitCount kind && s.role kind unit = 0 && !pass then .next (s.fence kind unit) else .next s

/-- The flag that a check shows (`BLK_FAULT` by R241, `PKE_CORE_FAULT` by R201), by its bit; a command pair's check 1 is a key path that KS refused to it, for a destination island (R113, R406). -/
def State.noteCheck (s : State) (kind n cause info : Nat) : State :=
  match kind, cause with
  | 0, 1 => s.ksRefuse (8 + n) info
  | 2, 0 => s.fset Fld.BLK_FAULT_keycrc 0 1
  | 2, 1 => s.fset Fld.BLK_FAULT_keymatch 0 1
  | 2, 2 => s.fset Fld.BLK_FAULT_parity 0 1
  | 2, 3 => s.fset Fld.BLK_FAULT_tagdec 0 1
  | 3, 0 => s.fset Fld.PKE_CORE_FAULT_residue n 1
  | 3, 1 => s.fset Fld.PKE_CORE_FAULT_ecc n 1
  | 3, 2 => s.fset Fld.PKE_CORE_FAULT_seq n 1
  | 3, 3 => s.fset Fld.PKE_CORE_FAULT_recompute n 1
  | 3, 4 => s.fset Fld.PKE_CORE_FAULT_range n 1
  | _, _ => s

/-- A core is given a descriptor, as a number of its 64 octets (R167): one that it refuses ends its packet with FAULTED and shows in the core's refusal flag (R169). -/
def State.giveDescriptor (s : State) (n info : Nat) : State :=
  let d := CoreDesc.decode (natLE 64 info)
  if s.coreRefuses n d then
    let s := s.fset Fld.PKE_CORE_FAULT_refused n 1
    match s.pke.jobs.get? d.job with
    | some j => s.jobFaults d.job j
    | none => s
  else s

/-- The check bits of a data handshake from a source island to a destination (R19): a correctable error is corrected and counted (check 0); a request that reached a closed channel is reissued to another unit and recorded as a fabric fault (check 1). -/
def State.fabricCheck (s : State) (src cause dst : Nat) : State :=
  match cause with
  | 0 => { s with fab := { s.fab with corrected := s.fab.corrected + 1 } }
  | 1 => s.event 0x39 src (src + 256 * dst)
  | _ => s

/-- FAULT_CHECK_FIRED: a check of a replicated unit fires and the unit is fenced (R404, R405). Two checks of a core fence nothing: a refused descriptor (5, R169) and a correctable operand memory error, which is counted (6, R201); kind 4 is a data handshake (R19). -/
def execFaultCheckFired (dt kind unit cause info : Nat) (s : State) : Host.Outcome State Fault Refusal :=
  let s := s.tick dt
  if kind = 4 then
    if islandAssigned unit && islandAssigned info then .next (s.fabricCheck unit cause info) else .next s
  else if kind < 4 && unit < unitCount kind && s.role kind unit ≤ 1 then
    if kind = 3 && cause = 5 then .next (s.giveDescriptor unit info)
    else if kind = 3 && cause = 6 then .next (s.bumpSat Fld.PKE_CORE_ECC_count unit 1)
    else .next ((s.noteCheck kind unit cause info).fence kind unit)
  else .next s

/-- LOCKSTEP_MISMATCH: the cores of a pair disagree (R21, R404). -/
def execLockstepMismatch (dt pair : Nat) (s : State) : Host.Outcome State Fault Refusal :=
  let s := s.tick dt
  if pair < 8 && s.role 0 pair ≤ 1 then .next (s.fence 0 pair) else .next s

/-- MEMORY_SCRUB_PASS: a background pass over TM, SB or BBRAM corrects what it can, which no read shows (R407). -/
def execMemoryScrubPass (dt _which : Nat) (s : State) : Host.Outcome State Fault Refusal := .next (s.tick dt)

/-- An access supervisor record counts as evidence of a fault in its master island: its source is 5, or its reason 0x0B (R406). -/
def State.judgeRecord (s : State) (m : Master) (reason : Nat) : State :=
  if m.source = 5 || reason = 0x0B then s.islandFault m.island else s

/-- ACCESS_VIOLATION: a violating access completes harmlessly, a read with zeros, and is reported (R5, R330, R331, R406). -/
def execAccessViolation (dt : Nat) (m : Master) (kind : AccKind) (space : AddrSpace) (addr len : Nat) (s : State) :
    Host.Outcome State Fault Refusal :=
  let s := s.tick dt
  match s.accessCheck m kind space addr len with
  | some (reason, page) =>
    let s := (s.report m kind addr reason page).judgeRecord m reason
    if kind = .write then .next s else .next (s.emit (.readData addr 0))
  | none => .next s

end Sys2Proof.Machine
end

