-- ==== Sys2Proof/Machine/Activate.lean ====
section
/-! DEFINITION. Firmware images in service (R133 to R136, R155, R420 to R424): staging, forward sealing, the switch of the command pairs, the activation point. Log entries of this file: DEDUCED 143, 156; DESIGN CHOICE 12, 145, 253. -/

namespace Sys2Proof.Machine

/-- A configuration load is under way (`CFG_STATUS.busy`). -/
def State.configLoading (s : State) : Bool :=
  s.cmd.deferred.any (fun a => match a with | .configLoad _ _ _ _ => true | _ => false)

/-- The slot of an image kind that the directory does not name active (R420). -/
def State.spareSlot (s : State) (kind : Nat) : Nat :=
  let a := if kind = 1 then s.flash.dir.cus else s.flash.dir.stw
  if a = 0 then 1 else 0

/-- The image in a slot of a kind. -/
def State.imageIn (s : State) (kind i : Nat) : Bytes := slotGet (if kind = 1 then s.flash.cus else s.flash.stw) i

/-- An image is written to the spare slot of its kind. -/
def State.writeImage (s : State) (kind : Nat) (b : Bytes) : State :=
  let b := b.take (slotSize kind)
  let i := s.spareSlot kind
  { s with flash := if kind = 1 then { s.flash with cus := slotSet s.flash.cus i b } else { s.flash with stw := slotSet s.flash.stw i b } }

/-- What staging an image leaves (R420): a verified image staged, or none. -/
def State.noteStage (s : State) (kind : Nat) (ok : Bool) (b : Bytes) : State :=
  if kind = 1 then (if ok then s.setSucc (imageMeasurement b) else s.fset Fld.KS_SUCC_CTRL_valid 0 0)
  else s.fset Fld.DEV_FW_STATUS_stw_staged 0 (b2n ok)

/-- FW_STAGE (R420). -/
def opFwStage : Op := fun s pid p => do
  let _ ← s.handles pid p
  let kind := p.par 0 0
  require s.fw.act.isNone .busyRetry
  require (p.areasOk ioIn && p.inlineFrom 1 && (kind == 1 || kind == 2)) .rejected
  let b := p.input
  let s := s.writeImage kind b
  let ok := imageOk kind b
  let s := s.noteStage kind ok b
  requireIn s ok .rejected
  .ok ⟨s, [], 0, 0⟩

/-- FW_STAGE: writes an image to the spare slot of its kind and verifies it (R420). -/
def execFwStage (dt pid : Nat) (d : PktData) (s : State) : Host.Outcome State Fault Refusal :=
  .next ((s.tick dt).runOp 0x0F05 pid d opFwStage)

/-- Slices with a loaded vault root, in ascending order. -/
def State.loadedVaults (s : State) : List Nat :=
  (s.ks.recs.cells.foldl (fun (m : NMap Nat) e => if e.2.typ = 0x70 then m.insert e.2.slice e.1 else m) .empty).keys

/-- The policy of a loaded vault requires approval of a re-seal (R133). -/
def State.resealAsks (s : State) (sl : Nat) : Bool :=
  match s.vaultOf sl with
  | some (_, _, block) => bit (field block 4 2) qReseal
  | none => false

/-- The done bits that a forward sealing starting now keeps (R133 step 3). -/
def State.keptDone (s : State) : List Nat :=
  if s.bb.journal.state = 2 && s.bb.journal.succ == s.succMeas then s.bb.journal.done else []

/-- Slices that step 4 of R133 seals. -/
def State.fsealSlices (s : State) : List Nat := s.loadedVaults.filter (fun sl => !s.keptDone.contains sl && !s.resealAsks sl)

/-- The forward seal of a slice's loaded vault for a counter and a policy block, in the entry form of R134. -/
def State.fsealEntry (s : State) (sl counter : Nat) (root block : Bytes) : Bytes :=
  let b := s.deviceSeal sl counter (s.vaultId sl) s.succMeas root block
  natLE 2 sl ++ zeros 2 ++ natLE 4 b.length ++ b ++ zeros ((8 - b.length % 8) % 8)

/-- The forward-seal table (R134). -/
def State.fsealTable (s : State) : Bytes :=
  let l := s.fsealSlices
  natLE 4 1 ++ natLE 4 l.length ++ zeros 8 ++
  l.flatMap (fun sl => match s.vaultOf sl with
    | some (_, root, block) => s.fsealEntry sl (s.vaultCounter sl) root block
    | none => []) ++ natLE 2 0xFFFF ++ zeros 6

/-- `KS_FSEAL_BYTES` (R134). -/
def State.fsealBytes (s : State) : Nat :=
  s.fsealSlices.foldl (fun a sl => a + (match s.vaultOf sl with
    | some (_, _, block) => 8 + (144 + block.length) + (8 - (144 + block.length) % 8) % 8
    | none => 0)) 24

/-- The journal is replaced. -/
def State.setJournal (s : State) (j : Journal) : State := { s with bb := { s.bb with journal := j } }

/-- The activation is replaced. -/
def State.setAct (s : State) (a : Option Act) : State := { s with fw := ⟨a⟩ }

/-- The pair switches begin (R133 steps 6 and 7, R422): vaults not done are withheld, and the journal is COMPLETE. -/
def State.beginSwitch (s : State) (a : Act) : State :=
  let w := s.loadedVaults.filter (fun sl => !s.bb.journal.done.contains sl)
  let s := w.foldl State.freeSlice s
  (s.setJournal { s.bb.journal with state := 3 }).setAct (some { a with phase := 2, withheld := w.length })

/-- Every loaded vault is done: the switches begin. -/
def State.sealingEnds (s : State) : State :=
  match s.fw.act with
  | some a =>
    if a.kind = 1 && a.phase = 1 && s.loadedVaults.all s.bb.journal.done.contains then s.beginSwitch a else s
  | none => s

/-- BOUND slices. -/
def State.boundSlices (s : State) : Nat := ((s.listed .SLC_STATE 4096).filter (fun sl => s.sliceState sl == 1)).length

/-- The entries of the meter ring that a custody activation reserves, one for each BOUND slice (R443). -/
def State.reserveClose (s : State) (kind : Nat) : Option (Nat × State) :=
  if kind = 2 then some (0, s)
  else if s.boundSlices = 0 then some (0, s)
  else (s.meterReserve s.boundSlices).map (fun t => (s.boundSlices, t))

/-- The measurement that approvals of FW_ACTIVATE bind (R421). -/
def State.stagedMeas (s : State) (kind : Nat) : Bytes := if kind = 1 then s.succMeas else imageMeasurement (s.imageIn 2 (s.spareSlot 2))

/-- A verified image of the kind is staged (R421). -/
def State.staged (s : State) (kind : Nat) : Bool :=
  if kind = 1 then s.flag Fld.KS_SUCC_CTRL_valid 0 else s.flag Fld.DEV_FW_STATUS_stw_staged 0

/-- The checks of FW_ACTIVATE (R421, R443): the state after the quorum check and the reservation, its kind, its deadline in seconds, the entries reserved, and the charge of its approvals (R148). While another command of the device quorum executes, the quorum check is not made (R147). -/
def State.askActivate (s : State) (pid : Nat) (p : Packet) : Except Stop (State × Nat × Nat × Nat × Nat) := do
  let _ ← s.handles pid p
  let b := p.input
  let kind := field b 0 1
  let secs := field b 4 4
  require (p.pind && p.readOk true && b.length == 8 && (kind == 1 || kind == 2) && allZero (slice b 1 3)) .rejected
  require (if kind = 1 then decide (secs ≤ 3600) else secs == 0) .rejected
  require (s.staged kind) .rejected
  require (s.fw.act.isNone && !s.configLoading) .busyRetry
  let (u, mu) ← getOr (s.deviceQuorum qFw (sha384 (s.stagedMeas kind ++ natLE 4 secs)) p.block p.data.approvals) .denied
  let (n, w) ← getIn u (u.reserveClose kind) .busyRetry
  requireIn u (kind == 2 || u.seedValid) .faulted
  requireIn u (p.areasOk (if kind = 1 then ioBoth else ioIn) && (kind == 2 || p.fits s.fsealBytes)) .rejected
  .ok (w, kind, secs, n, mu)

/-- Forward sealing, steps 3 and 4 of R133: the journal, and the seals that need no approval. -/
def State.forwardSeal (s : State) (p : Packet) (a : Act) : State :=
  let t := s.fsealTable
  let s := s.openStops
  let done := s.keptDone ++ s.fsealSlices
  let s := s.setJournal ⟨1, s.succMeas, s.loadedVaults.length, done⟩
  ((s.writeOut p t).setAct (some { a with table := t.length })).sealingEnds

/-- An accepted FW_ACTIVATE (R422, R423). -/
def State.activate (s : State) (pid : Nat) (p : Packet) : State :=
  match s.askActivate pid p with
  | .error e => s.conclude pid (.error e)
  | .ok (t, kind, secs, n, mu) =>
    let t := (t.countPid pid false).setPacket pid { p with start := t.now, phase := .waiting }
    let a : Act := ⟨pid, kind, t.now + 1000000000 * secs, 0, n, 0, [], none, 0, if kind = 1 then 1 else 2, mu⟩
    if kind = 1 then t.forwardSeal p a else t.setAct (some a)

/-- FW_ACTIVATE (R421). It waits while an accepted LC_TRANSITION executes (R147). -/
def execFwActivate (dt pid : Nat) (d : PktData) (s : State) : Host.Outcome State Fault Refusal :=
  let s := s.tick dt
  if s.lcExecutes then .next s else .next (s.runPacket 0x0F06 pid d State.activate)

/-- RESEAL_APPROVE (R155). -/
def opResealApprove : Op := fun s pid p => do
  let _ ← s.handles pid p
  let b := p.input
  let sl := p.ring
  require (p.readOk true && (b.isEmpty || policyOk b false)) .rejected
  let (line, root, block) ← s.vaultNow sl
  require (s.flag Fld.KS_SUCC_CTRL_valid 0) .rejected
  let (u, mu, _) ← getOr (s.vaultQuorum sl qReseal (!b.isEmpty) block (sha384 (s.succMeas ++ b)) p.block p.data.approvals) .denied
  requireIn u (u.bb.journal.state == 1) .busyRetry
  if u.bb.journal.done.contains sl then .ok ⟨u, [], mu, 0⟩
  else
    let (w, cur) ← if b.isEmpty then .ok (u, []) else getIn u (u.reissue line sl root b) .noResource
    requireIn u u.seedValid .faulted
    requireIn u (p.areasOk ioBoth && (b.isEmpty || policyContinues block b)) .rejected
    let out := cur ++ w.fsealEntry sl (w.vaultCounter sl) root (if b.isEmpty then block else b)
    requireIn u (p.fits out.length) .rejected
    let w := w.setJournal { w.bb.journal with done := w.bb.journal.done ++ [sl] }
    .ok ⟨w.sealingEnds, out, mu, 0⟩

/-- RESEAL_APPROVE: makes the forward seal of a vault under its quorum (R155). -/
def execResealApprove (dt pid : Nat) (d : PktData) (s : State) : Host.Outcome State Fault Refusal :=
  .next ((s.tick dt).runOp 0x0506 pid d opResealApprove)

/-- RESEAL_DEADLINE: the approval deadline passes (R133 step 6). -/
def execResealDeadline (dt : Nat) (s : State) : Host.Outcome State Fault Refusal :=
  let s := s.tick dt
  match s.fw.act with
  | some a => if a.kind = 1 && a.phase = 1 && a.deadline ≤ s.now then .next (s.beginSwitch a) else .next s
  | none => .next s

/-- A pair that takes part in the switches: active or resting. -/
def State.pairSwitches (s : State) (n : Nat) : Bool := s.role 0 n ≤ 1

/-- The next active pair to switch after a pair, in wrapping order. -/
def State.nextPair (s : State) (a : Act) (n : Nat) : Option Nat :=
  ((List.range 8).map (fun k => (n + 1 + k) % 8)).find? (fun k => s.role 0 k == 0 && !a.switched.contains k)

/-- The pair that loads the successor now (R422, R423): the one withdrawn, or first the resting pair once its visit has ended; for a steward image, the next pair in order. -/
def State.loads (s : State) (a : Act) : Option Nat :=
  if a.kind = 2 then (List.range 8).find? (fun k => s.pairSwitches k && !a.switched.contains k)
  else
    match a.loading with
    | some n => some n
    | none =>
      if s.visitRuns 0 0 then none
      else
        match s.resting 0 0 with
        | some r => some r
        | none => s.nextPair a 7

/-- An active pair is withdrawn to load the successor, its packets to the returning pair, or to another active one where none returns (R409, R422); its open world goes to the returning pair. -/
def State.withdrawPair (s : State) (n : Nat) (returning : Option Nat) : State :=
  let s := s.setRole 0 n 1
  let s := s.movePackets n (returning.getD s.pickPair)
  { s with rot := { s.rot with
    draining := unitKey 0 n :: s.rot.draining
    heir := match returning with | some r => s.rot.heir.insert (unitKey 0 n) r | none => s.rot.heir } }

/-- The meter intervals of every slice close under the old meter key (R422, R443). -/
def State.closeAll (s : State) : State :=
  (s.met.accs.cells.foldl (fun (r : Nat × State) e =>
    let (left, s) := r
    let (b, s) := s.closeInterval e.1 0x04 e.2
    let s := if left = 0 then s.fset Fld.PMC_METER_STATUS_reserved_e 0 (s.meterReserved + 1) else s
    (left - 1, s.meterPlace (s.signRecord b))) ((match s.fw.act with | some a => a.reserved | none => 0), s)).2

/-- The directory is written with the other slot of a kind active (R362, R422). -/
def State.swapSlot (s : State) (kind : Nat) : State :=
  let d := s.flash.dir
  let i := s.spareSlot kind
  { s with flash := s.flash.writeDir (if kind = 1 then { d with cus := i } else { d with stw := i }) }

/-- The measurements of a custody activation (R366): MR1 and MR2 replaced, MR7 extended by both. -/
def State.replaceMrs (s : State) : State :=
  let b := s.imageIn 1 (s.spareSlot 1)
  let old := s.mr 2
  let new := s.succMeas
  let mr := (s.boot.mr.insert 1 (sha384 (zeros 48 ++ sha384 (imageKeys b)))).insert 2 new
  ({ s with boot := { s.boot with mr := mr } }).extendMr 7 (old ++ new)

/-- The activation point of a custody image (R422). -/
def State.activationPoint (s : State) (a : Act) : State :=
  let s := (s.closeAll.replaceMrs).certify.makeStatement
  let s := ((s.swapSlot 1).setJournal Journal.idle).fset Fld.KS_SUCC_CTRL_valid 0 0
  let s := (s.setAct none).event 0x5A 0x01 (1 + a.withheld * 65536)
  s.complete a.pid (Compl.done s.now a.table a.mu a.withheld)

/-- The end of a steward activation (R423): MR3 replaced, the directory written. -/
def State.stewardPoint (s : State) (a : Act) : State :=
  let b := s.imageIn 2 (s.spareSlot 2)
  let s := ({ s with boot := { s.boot with mr := s.boot.mr.erase 3 } }).measureSteward b
  let s := ((s.swapSlot 2).fset Fld.DEV_FW_STATUS_stw_staged 0 0).setAct none
  (s.event 0x5A 0x01 2).complete a.pid (Compl.done s.now 0 a.mu 0)

/-- The activation is abandoned (R136, R424): the journal and the successor are cleared, the output zeroed, and FW_ACTIVATE completes with FAULTED. -/
def State.abandonAct (s : State) (a : Act) : State :=
  let n := s.meterReserved - a.reserved
  let s := ((s.setJournal Journal.idle).fset Fld.KS_SUCC_CTRL_valid 0 0).fset Fld.PMC_METER_STATUS_reserved_e 0 n
  let s := s.setAct none
  let s := match s.cmd.packets.get? a.pid with | some p => s.writeOut p (zeros a.table) | none => s
  s.fail a.pid .faulted

/-- A pair has loaded the successor: the next one is withdrawn, or the activation point is reached (R422, R423). -/
def State.pairLoaded (s : State) (a : Act) (n : Nat) : State :=
  let a := { a with switched := a.switched ++ [n], loading := none }
  if a.kind = 2 then
    let s := s.setAct (some a)
    if (s.loads a).isNone then s.stewardPoint a else s
  else
    let s := (s.closeUnit 0 n).settled 0 n
    match s.nextPair a n with
    | some m =>
      let s := (s.setRole 0 n 0).withdrawPair m (some n)
      s.setAct (some { a with loading := some m })
    | none => (s.setAct (some a)).activationPoint a

/-- A pair has returned to the outgoing image (R424). -/
def State.pairReverted (s : State) (a : Act) (n : Nat) : State :=
  let a := { a with switched := a.switched.filter (· != n) }
  if a.switched.isEmpty then s.abandonAct a else s.setAct (some a)

/-- PAIR_SWITCH_DONE: a pair has loaded the successor and passed its self-test (R422, R423), or has returned to the outgoing image (R424). -/
def execPairSwitchDone (dt pair : Nat) (s : State) : Host.Outcome State Fault Refusal :=
  let s := s.tick dt
  match s.fw.act with
  | some a =>
    if s.islandHeld (8 + pair) || pair ≥ 8 then .next s
    else if a.phase = 2 && s.loads a = some pair && (a.kind = 2 || !(s.pairOf pair).world) then .next (s.pairLoaded a pair)
    else if a.phase = 3 && a.switched.contains pair then .next (s.pairReverted a pair)
    else .next s
  | none => .next s

/-- A second failure abandons the activation: the switched pairs return to the outgoing image (R424). -/
def State.beginAbandon (s : State) (a : Act) : State :=
  let s := match a.loading with | some n => (s.settled 0 n) | none => s
  if a.switched.isEmpty then s.abandonAct a else s.setAct (some { a with phase := 3, loading := none })

/-- ACTIVATION_PAIR_FAILURE: the pair that loads the successor fails or is not ready within 100 ms (R424). -/
def execActivationPairFailure (dt pair : Nat) (s : State) : Host.Outcome State Fault Refusal :=
  let s := s.tick dt
  match s.fw.act with
  | some a =>
    if a.phase = 2 && s.loads a = some pair && pair < 8 then
      let s := s.fence 0 pair
      let a := { a with fails := a.fails + 1, loading := none }
      if 2 ≤ a.fails then .next (s.beginAbandon a)
      else
        match s.nextPair a pair with
        | some m =>
          if a.kind = 2 then .next (s.setAct (some a))
          else .next ((s.withdrawPair m none).setAct (some { a with loading := some m }))
        | none => .next (if a.kind = 2 then s.stewardPoint a else (s.setAct (some a)).activationPoint a)
    else .next s
  | none => .next s

/-- The effect of a write to `KS_SUCC_CTRL.abandon` (R136): the journal is cleared and `valid` returns to 0; an activation under way is abandoned. -/
def State.succAbandon (s : State) : State :=
  match s.fw.act with
  | some a => if a.kind = 1 then s.beginAbandon a else (s.setJournal Journal.idle).fset Fld.KS_SUCC_CTRL_valid 0 0
  | none => (s.setJournal Journal.idle).fset Fld.KS_SUCC_CTRL_valid 0 0

/-- KS_SUCC_ABANDON: a write of 1 to `KS_SUCC_CTRL.abandon` (R136). -/
def execKsSuccAbandon (dt : Nat) (s : State) : Host.Outcome State Fault Refusal := .next (s.tick dt).succAbandon

end Sys2Proof.Machine
end

