-- ==== Sys2Proof/Machine/ConfigCmds.lean ====
section
/-! DEFINITION. Mode switches, configuration loads and the device interrupt (R374 to R378), and the life-cycle command with its stop sequences (R343, R345). Log entries of this file: DEDUCED 135, 144, 146, 252; DESIGN CHOICE 12, 145, 160. -/

namespace Sys2Proof.Machine

/-- A MODE_SWITCH is under way. -/
def State.modeSwitching (s : State) : Bool :=
  s.cmd.deferred.any (fun a => match a with | .modeSwitch _ _ => true | _ => false)

/-- A hold covers an island of the inline path: a switch point waits (R377). -/
def State.switchHeld (s : State) : Bool :=
  ([0x10, 0x11, 0x12, 0x13, 0x18, 0x19, 0x1A, 0x1B, 0x1C, 0x1D]).any s.islandHeld

/-- NET0 to NET3 are powered, as far as the secure world decides it: an island of world O follows its own requests (R323). -/
def State.netsOn (s : State) : Bool :=
  (List.range 4).all (fun k => s.fget Fld.WLD_ISLAND_pwr (0x10 + k) == 0 || s.fget Fld.WLD_ISLAND_world (0x10 + k) == 1)

/-- Every link goes down. -/
def State.linksDown (s : State) : State := (List.range 16).foldl State.portLost s

/-- A deferred action is done with. -/
def State.dropDeferred (s : State) (pid : Nat) : State :=
  { s with cmd := { s.cmd with deferred := s.cmd.deferred.filter (fun a =>
      match a with
      | .unload i _ => i != pid
      | .unbind i _ => i != pid
      | .sliceExport i _ _ _ => i != pid
      | .lifeCycle i _ _ _ => i != pid
      | .modeSwitch i _ => i != pid
      | .configLoad i _ _ _ => i != pid) } }

/-- A packet starts and its action is deferred. -/
def State.defer (s : State) (pid : Nat) (p : Packet) (a : Deferred) : State :=
  let s := (s.countPid pid false).setPacket pid { p with start := s.now, phase := .waiting }
  { s with cmd := { s.cmd with deferred := s.cmd.deferred ++ [a] } }

/-- The overlay record of a mode is permitted (R375). -/
def State.modePermitted (s : State) (code : Nat) : Bool :=
  decide (1 ≤ code) && decide (code ≤ 5) && s.flag Fld.CFG_OVL_permitted (code - 1)

/-- The checks of MODE_SWITCH (R375): the mode code. -/
def State.askMode (s : State) (pid : Nat) (p : Packet) : Except Stop Nat := do
  let _ ← s.handles pid p
  let code := p.par 0 0
  require (!s.modeSwitching && !s.configLoading) .busyRetry
  require (p.areasOk ioNone && p.inlineFrom 1 && s.modePermitted code) .rejected
  .ok code

/-- The overlay record of a mode as it is measured, in the configuration in force (R366). -/
def State.overlayMeasure (s : State) (code : Nat) : Bytes :=
  match (cfgOf s.cfg.image).overlays[code - 1]? with
  | some o => overlayRecord o code
  | none => []

/-- The switch point of MODE_SWITCH and what follows it (R375, R366). -/
def State.modeEnd (s : State) (pid code : Nat) : State :=
  let old := s.fget Fld.DEV_MODE_mode 0
  let s := (s.dropDeferred pid).applyMode code
  let s := if modeDown code then s.linksDown.netRelease true else s.trainLinks
  let s := (s.extendMr 5 (sha384 (s.overlayMeasure code))).fset Fld.DEV_MODE_switching 0 0
  ((s.event 0x59 0x01 (old + 256 * code)).deviceCause 2).finish pid [] 0 0

/-- The mode switch goes on once no hold stops its switch point, the NET islands are up where the ports come back, and no frame is left where they go (R375, R377). -/
def State.modeNow (s : State) (pid code : Nat) : State :=
  if s.switchHeld then s
  else if modeDown code then (if s.tbl.frames.cells.isEmpty then s.modeEnd pid code else s)
  else if !modeDown (s.fget Fld.DEV_MODE_mode 0) || s.netsOn then s.modeEnd pid code
  else s

/-- MODE_SWITCH (R375): done at once where the mode is in force, else its first step and the wait for the switch point. -/
def State.modeSwitch (s : State) (pid : Nat) (p : Packet) : State :=
  match s.askMode pid p with
  | .error e => s.conclude pid (.error e)
  | .ok code =>
    let old := s.fget Fld.DEV_MODE_mode 0
    if code = old then s.conclude pid (.ok ⟨s, [], 0, 0⟩)
    else
      let s := (s.defer pid p (.modeSwitch pid code)).fset Fld.DEV_MODE_switching 0 1
      let s := if modeDown old && !modeDown code then s.netRelease false else s
      s.modeNow pid code

/-- MODE_SWITCH: applies a permitted mode overlay (R375). -/
def execModeSwitch (dt pid : Nat) (d : PktData) (s : State) : Host.Outcome State Fault Refusal :=
  .next ((s.tick dt).runPacket 0x0F04 pid d State.modeSwitch)

/-- The map entry of a configuration for a policy's pair and VLAN, owned by its slice. -/
def newIndex (c : BaseCfg) (m : MapEntry) (sl : Nat) : Option Nat :=
  ((mapOf c.map).find? (fun _ n => n.pair == m.pair && n.vlan == m.vlan && n.owner == some sl)).map (·.1)

/-- A policy keeps its place in a new configuration: its pair exists and is an ESP pair, and its slice owns the entry (R374, R283). -/
def State.policyKept (s : State) (c : BaseCfg) (p : Policy) : Bool :=
  match s.tbl.map.get? p.index with
  | some m => (newIndex c m p.slice).isSome && (match c.pairs[m.pair]? with | some x => x.esp | none => false)
  | none => false

/-- Every SA keeps its pair and its ownership in a new configuration (R374, R265). -/
def State.saKept (s : State) (c : BaseCfg) : Bool :=
  let t := { s with tbl := { s.tbl with map := mapOf c.map } }
  s.tbl.sas.cells.all (fun e => decide (e.2.pair < c.pairs.length) && t.saOwned e.2.slice e.2.kind e.2.pair e.2.vlan)

/-- The checks of CONFIG_LOAD (R374), with the state after its quorum check and the charge of its approvals (R148). While another command of the device quorum executes, the check is not made (R147). -/
def State.askConfig (s : State) (pid : Nat) (p : Packet) : Except Stop (State × Nat) := do
  let _ ← s.handles pid p
  require (p.pind && p.areasOk ioIn) .rejected
  let c ← getOr (parseCfg p.input) .rejected
  require (s.fw.act.isNone && !s.configLoading) .busyRetry
  let (u, mu) ← getOr (s.deviceQuorum qConfig (sha384 p.input) p.block p.data.approvals) .denied
  requireIn u (!u.modeSwitching && !u.configLoading && !u.sealing) .busyRetry
  let mode := u.fget Fld.DEV_MODE_mode 0
  requireIn u (u.saKept c && u.tbl.pols.cells.all (fun e => u.policyKept c e.2) &&
    (match c.overlays[mode - 1]? with | some o => o.permitted | none => false)) .rejected
  .ok (u, mu)

/-- The configuration slot that a load writes: the one that the directory does not name (R374). -/
def State.spareCfg (s : State) : Nat := if s.flash.dir.cfg = 0 then 1 else 0

/-- Steps 1 and 2 of R374: the image with a new endorsement, then the directory. -/
def State.storeConfig (s : State) (image : Bytes) : State :=
  let i := s.spareCfg
  let f := { s.flash with ends := slotSet s.flash.ends i (s.endorse (s.cfg.gen + 1) image), cfgs := slotSet s.flash.cfgs i image }
  { s with flash := f.writeDir { f.dir with cfg := i } }

/-- The port mode or a pair record changes (R374). -/
def State.portsChange (s : State) (c : BaseCfg) : Bool :=
  s.fget Fld.TBL_INL_PD_mode 0 != c.mode || pairsOf c.pairs != s.pairs

/-- A damaged entry stays damaged in the new map, with the identifiers it lost (R419). -/
def MapEntry.carry (old : NMap MapEntry) (m : MapEntry) : MapEntry :=
  match old.find? (fun _ o => o.pair == m.pair && o.vlan == m.vlan && o.owner == m.owner) with
  | some (_, o) => { m with damaged := o.damaged, lost := o.lost }
  | none => m

/-- The policies are placed again under the indices of a new map (R374). -/
def State.replacePolicies (s : State) (c : BaseCfg) : State :=
  let old := s.tbl.map
  let t := { s with tbl := { s.tbl with map := (mapOf c.map).map (fun _ m => m.carry old), pols := .empty } }
  s.tbl.pols.cells.foldl (fun t e =>
    match old.get? e.2.index with
    | some m => t.placePolicy e.1 { e.2 with index := (newIndex c m e.2.slice).getD e.2.index, place := 0 }
    | none => t) t

/-- Every bank is flushed with new seeds (R295). -/
def State.reseedBanks (s : State) (seeds : Bytes) : State :=
  (List.range 4).foldl (fun s b => (s.bankClear b).bankSeed b (slice seeds (34 * b) 34)) s

/-- The switch point of CONFIG_LOAD (R374 step 3): the map and the policies, the banks, the ports, the overlay records with the current mode's. -/
def State.switchConfig (s : State) (c : BaseCfg) (seeds : Bytes) : State :=
  let s := if s.portsChange c then s.linksDown else s
  let s := (s.replacePolicies c).reseedBanks seeds
  let s := { s with pairs := pairsOf c.pairs }.fset Fld.TBL_INL_PD_mode 0 c.mode
  let s := (s.ovlRegs c.overlays).fset Fld.DEV_MODE_boot_mode 0 c.bootMode
  (s.applyMode (s.fget Fld.DEV_MODE_mode 0)).trainLinks

/-- Steps 3 to 5 of R374. -/
def State.configEnd (s : State) (pid : Nat) (image seeds : Bytes) (mu : Nat) : State :=
  let c := cfgOf image
  let s := (s.dropDeferred pid).switchConfig c seeds
  let s := { s with cfg := ⟨s.cfg.gen + 1, image, s.cfg.booted⟩ }
  let s := (s.extendMr 4 (sha384 image)).cfgRegs s.flash.dir.cfg
  let s := s.fset Fld.CFG_STATUS_pending_boot 0 (b2n (c.bootPart != (cfgOf s.cfg.booted).bootPart))
  let s := (s.event 0x58 0x01 (s.cfg.gen % 2 ^ 32)).fset Fld.CFG_STATUS_busy 0 0
  (s.finish pid [] mu 0).deviceCause 3

/-- The load goes on once no hold stops its switch point, and, where the ports change, no frame of the old settings is left (R374, R377). -/
def State.configNow (s : State) (pid : Nat) (image seeds : Bytes) (mu : Nat) : State :=
  if s.switchHeld || (s.portsChange (cfgOf image) && !s.tbl.frames.cells.isEmpty) then s else s.configEnd pid image seeds mu

/-- CONFIG_LOAD (R374). -/
def State.configLoad (s : State) (pid : Nat) (p : Packet) : State :=
  match s.askConfig pid p with
  | .error e => s.conclude pid (.error e)
  | .ok (t, mu) =>
    let seeds := (List.range 4).flatMap (fun b => p.random b 34)
    let t := ((t.defer pid p (.configLoad pid p.input seeds mu)).storeConfig p.input).fset Fld.CFG_STATUS_busy 0 1
    t.configNow pid p.input seeds mu

/-- CONFIG_LOAD: stores and applies a configuration image under the device quorum (R374). It waits while an accepted LC_TRANSITION executes (R147). -/
def execConfigLoad (dt pid : Nat) (d : PktData) (s : State) : Host.Outcome State Fault Refusal :=
  let s := s.tick dt
  if s.lcExecutes then .next s else .next (s.runPacket 0x0F0A pid d State.configLoad)

/-- The effect of a write to `DEV_IRQ_MASK`: a message is sent when a mask bit is set while its cause bit is 1 (R378). -/
def State.maskWrite (s : State) (new : Nat) : State :=
  let old := s.fget Fld.DEV_IRQ_MASK_mask 0
  let cause := (s.reg .DEV_IRQ_CAUSE 0).toNat
  let s := s.fset Fld.DEV_IRQ_MASK_mask 0 new
  if (List.range 6).any (fun n => new.testBit n && !old.testBit n && cause.testBit n) then
    s.sendMsix 0 (s.fget Fld.DEV_IRQ_VEC_vec 0)
  else s

/-- DEV_IRQ_MASK_WRITE: a write to `DEV_IRQ_MASK` (R378). -/
def execDevIrqMaskWrite (dt value : Nat) (s : State) : Host.Outcome State Fault Refusal :=
  .next ((s.tick dt).maskWrite (value % 64))

/-- The target flag of a permitted transition by command (R342): none where R342 does not permit it. -/
def targetFlag (from_ target ep : Nat) : Option Nat :=
  match from_, target with
  | 0, _ => none
  | 6, _ => none
  | _, 6 => some 11
  | 1, 2 => some 1
  | 2, 3 => some 2
  | 3, 4 => some (3 + 2 * ep)
  | 4, 3 => if ep ≤ 2 then some (4 + 2 * ep) else none
  | 2, 5 => some 10
  | 3, 5 => some 10
  | 4, 5 => some 10
  | _, _ => none

/-- The transition needs the consent of the vaults (R159, R342): to FIELD_DEBUG, or to RETURNED from PROVISIONED or FIELD. -/
def needsConsent (from_ target : Nat) : Bool := target == 4 || (target == 5 && from_ != 4)

/-- A consent entry of the block of R343. -/
def consentEntry (b : Bytes) (j : Nat) : Bytes := slice b (16 + 16 * j) 16

/-- The block of R343 is well formed, with the consent tokens that were read for its entries. -/
def lcForm (b : Bytes) (consents : List (Bytes × List (Bytes × Bytes))) : Bool :=
  let c := field b 8 4
  let e := consentEntry b
  field b 0 4 == 1 && field b 7 1 == 0 && decide (c ≤ 4096) && field b 0x0C 4 == 0 && b.length == 16 + 16 * c &&
    consents.length == c &&
    (List.range c).all (fun j => field (e j) 2 2 == 0 && (consents.getD j ([], [])).1.length == field (e j) 4 4 &&
      (j == 0 || decide (field (e (j - 1)) 0 2 < field (e j) 0 2)))

/-- The consent token of a slice. -/
def consentOf (b : Bytes) (consents : List (Bytes × List (Bytes × Bytes))) (sl : Nat) : Option (Bytes × List (Bytes × Bytes)) :=
  ((List.range (field b 8 4)).find? (fun j => field (consentEntry b j) 0 2 == sl)).bind (fun j => consents[j]?)

/-- Slices that are bound to a tenant: BOUND, UNBINDING or EXPORTING. -/
def State.tenantSlices (s : State) : List Nat :=
  (s.listed .SLC_STATE 4096).filter (fun sl => decide (1 ≤ s.sliceState sl) && decide (s.sliceState sl ≤ 3))

/-- The consent of one slice's vault (R159): its root is loaded, and its mask asks for nothing or its token passes. The state after the check, and its charge (R148). -/
def State.consents (s : State) (b : Bytes) (l : List (Bytes × List (Bytes × Bytes))) (sl : Nat) : Option (State × Nat) :=
  if !s.vaultExists sl then some (s, 0)
  else
    match s.vaultOf sl with
    | none => none
    | some (_, _, block) =>
      if !bit (field block 4 2) qDebug then some (s, 0)
      else
        match consentOf b l sl with
        | none => none
        | some (t, aps) => (s.vaultQuorum sl qDebug true block (sha384 (s.deviceId ++ natLE 1 s.ep)) t aps).map (fun r => (r.1, r.2.1))

/-- The consent of every bound slice's vault, with the charge of the approvals, or none. -/
def State.allConsent (s : State) (b : Bytes) (l : List (Bytes × List (Bytes × Bytes))) : Option (State × Nat) :=
  s.tenantSlices.foldl (fun o sl => o.bind (fun r => (r.1.consents b l sl).map (fun t => (t.1, r.2 + t.2)))) (some (s, 0))

/-- The checks of LC_TRANSITION (R343): the state after the quorum and consent checks, and the transition. -/
def State.askLc (s : State) (pid : Nat) (p : Packet) (l : List (Bytes × List (Bytes × Bytes))) : Except Stop (State × Nat × LcRun) := do
  let _ ← s.handles pid p
  let b := p.input
  let target := field b 4 1
  require (p.pind && p.areasOk ioIn && lcForm b l && field b 5 1 == s.lc && field b 6 1 == s.ep) .rejected
  let flag ← getOr (targetFlag s.lc target s.ep) .rejected
  require (target == 6 || s.otp.freeRecord.isSome) .rejected
  let (u, mu) ← getOr (s.deviceQuorum qLc (sha384 (s.deviceId ++ natLE 1 s.lc ++ natLE 1 target ++ natLE 1 s.ep)) p.block p.data.approvals) .denied
  let (w, more) ← if needsConsent s.lc target then getIn u (u.allConsent b l) .denied else .ok (u, 0)
  .ok (w, mu + more, ⟨if target = 6 then none else s.otp.freeRecord, flag, s.lc, target, s.ep, 0⟩)

/-- Queue pairs that run, but for one. -/
def State.stopOthers (s : State) (own : Nat) : State :=
  ((List.range 8).map (fun q => (managerRing, q)) ++
    (s.listed .SLC_STATE 4096).flatMap (fun sl => (List.range 8).map (fun q => (sl, q)))).foldl
    (fun s r => if qpi r.1 r.2 = own then s else s.stopQp r.1 r.2) s

/-- Every queue pair but the packet's own has posted its completions (R345 step 1). -/
def State.othersStopped (s : State) (p : Packet) : Bool :=
  !s.cmd.packets.any (fun _ e => !(e.ring == p.ring && e.qp == p.qp))

/-- Steps 2 to 4 of R345: the journal record, the completion, and the reset that the RP then makes. Packets still incomplete get no completion. -/
def State.lcEnd (s : State) (pid : Nat) (p : Packet) (r : LcRun) (mu : Nat) : State :=
  let s := { s with cmd := { s.cmd with packets := s.cmd.packets.filter (fun i e => i == pid || (e.ring == p.ring && e.qp == p.qp)) } }
  let s := match r.rec_ with | some n => { s with otp := s.otp.intend n r.flag } | none => s
  let s := ((s.dropDeferred pid).finish pid [] mu (r.rec_.getD 0xFF))
  { s with boot := { s.boot with lcRun := some r }, gnt := { s.gnt with rpDue := true } }

/-- The transition goes on at the end of its stop sequences or at their deadline, while the RP may program OTP (R345, R350, R354). -/
def State.lcNow (s : State) (pid : Nat) (r : LcRun) (deadline mu : Nat) : State :=
  match s.cmd.packets.get? pid with
  | none => s
  | some p =>
    if s.boot.lcRun.isNone && s.rpPrograms && (s.othersStopped p || decide (deadline ≤ s.now)) then s.lcEnd pid p r mu else s

/-- LC_TRANSITION (R343, R345). -/
def State.lcTransition (s : State) (pid : Nat) (p : Packet) (l : List (Bytes × List (Bytes × Bytes))) : State :=
  match s.askLc pid p l with
  | .error e => s.conclude pid (.error e)
  | .ok (t, mu, r) =>
    let deadline := t.now + 100000000
    ((t.defer pid p (.lifeCycle pid r deadline mu)).stopOthers (qpi p.ring p.qp)).lcNow pid r deadline mu

/-- LC_TRANSITION: a life-cycle transition under the device quorum and the owners' consent (R343); `consents` are the tokens that its entries point to, each with its officers' keys and signatures. It waits while another command of the device quorum executes (R147). -/
def execLcTransition (dt pid : Nat) (d : PktData) (consents : List (Bytes × List (Bytes × Bytes))) (s : State) :
    Host.Outcome State Fault Refusal :=
  let s := s.tick dt
  if s.dqExecutes then .next s else .next (s.runPacket 0x0F07 pid d (fun s pid p => s.lcTransition pid p consents))

end Sys2Proof.Machine
end

