-- ==== Sys2Proof/Machine/Cards.lean ====
section
/-! DEFINITION. The custody card host (R470 to R484): insertion, identification and removal, the three card commands, card errors. Log entries of this file: DEDUCED 182; DESIGN CHOICE 179, 180. -/

namespace Sys2Proof.Machine

/-- The modes of `CRD_STATUS.mode` by descending speed: SD, then MMC. -/
def cardModes (sd : Bool) : List Nat := if sd then [3, 4, 2, 1] else [7, 6, 5]

/-- The mode class of `CRD_CFG.max` that a mode needs: default speed and backward compatible, high speed, UHS-I and DDR. -/
def modeClass (m : Nat) : Nat := if m = 1 || m = 5 then 0 else if m = 2 || m = 6 then 1 else 2

/-- The card runs at 1.8 V: the board supports it and the card takes it (R471). -/
def State.cardV18 (s : State) (c : Card) : Bool := s.flag Fld.CRD_CFG_v18_en 0 && c.v18

/-- The fastest mode that the card advertises and the configuration permits (R470). -/
def State.cardMode (s : State) (c : Card) : Option Nat :=
  (cardModes c.sd).find? (fun m => c.modes.contains m && decide (modeClass m ≤ s.fget Fld.CRD_CFG_max 0) && (!(m == 3 || m == 4) || s.cardV18 c))

/-- The state of the card's RPMB key as `CRD_STATUS.key` shows it. -/
def State.cardKeyState (s : State) (c : Card) : Nat :=
  if !c.rpmb || !s.seedValid then 0 else if c.key.isNone then 1 else if s.rpmbOk c then 2 else 3

/-- `CRD_GEN` and `CRD_BACKUP` from the card's counter and commit frame (R482). -/
def State.cardResolve (s : State) (c : Card) : State :=
  let ok := s.seedValid && s.frameOk c && frameGen c.block0 == c.counter
  let s := (s.fset Fld.CRD_GEN_gen 0 (if ok then frameGen c.block0 else 0)).fset Fld.CRD_BACKUP_valid 0 (b2n ok)
  (s.fset Fld.CRD_BACKUP_area 0 (if ok then frameArea c.block0 % 2 else 0)).fset Fld.CRD_BACKUP_unknown 0 0

/-- Identification ends without a ready card (R471). -/
def State.cardGivenUp (s : State) : State :=
  ({ s with crd := { s.crd with query := none, fails := 0 } }).fset Fld.CRD_STATUS_ident 0 0

/-- The signalling voltage of a card (R471 step 5): an SD card switches at its commands, an MMC card that runs at 1.8 V is powered off and on again. -/
def State.cardVoltage (s : State) (c : Card) (m : Nat) : State :=
  if c.sd then s.emit (.pin "CRD_VSEL" (m == 3 || m == 4))
  else if s.cardV18 c then ((s.emit (.pin "CRD_PWR_EN" false)).emit (.pin "CRD_VSEL" true)).emit (.pin "CRD_PWR_EN" true)
  else s.emit (.pin "CRD_VSEL" false)

/-- Identification ends (R471 steps 5 to 8): the card is ready in its mode, its key and label are checked and an interrupted commit is resolved; a card that offers no mode is left unidentified. -/
def State.cardReady (s : State) (c : Card) : State :=
  match s.cardMode c with
  | none => s.cardGivenUp
  | some m =>
    let s := s.cardVoltage c m
    let s := (s.fset Fld.CRD_STATUS_mode 0 m).fset Fld.CRD_STATUS_type 0 (if c.sd then 1 else 2)
    let s := (s.fset Fld.CRD_STATUS_rpmb 0 (b2n c.rpmb)).fset Fld.CRD_STATUS_key 0 (s.cardKeyState c)
    let s := s.fset Fld.CRD_STATUS_label 0 (b2n (c.rpmb && s.labelOk c))
    let s := (List.range 4).foldl (fun s n => s.fset Fld.CRD_CID_word n (field (fitLen 16 c.cid) (4 * n) 4)) s
    (s.cardResolve c).cardGivenUp.fset Fld.CRD_STATUS_ready 0 1

/-- Boot has released PER, and the device is not in SCRAP. -/
def State.perRuns (s : State) : Bool :=
  let ph := s.fget Fld.DEV_BOOT_STATUS_phase 0
  s.gnt.main && decide (2 ≤ ph) && ph != 0xF

/-- CARD_INSERTED: CRD_CD_N has been low for 10 ms; card power is switched off and on at 3.3 V signalling, and identification begins (R471). -/
def execCardInserted (dt : Nat) (card : Card) (s : State) : Host.Outcome State Fault Refusal :=
  let s := s.tick dt
  if s.crd.card.isNone && s.perRuns then
    let s := ((s.emit (.pin "CRD_PWR_EN" false)).emit (.pin "CRD_VSEL" false)).emit (.pin "CRD_PWR_EN" true)
    let s := (s.fset Fld.CRD_STATUS_present 0 1).fset Fld.CRD_STATUS_ident 0 1
    .next { s with crd := { s.crd with card := some card, query := some s.now, fails := 0 } }
  else .next s

/-- CARD_OPERATING_CONDITION_POLL: the card reports ready, or is asked again after 10 ms; not ready 1 s after the first query it is abandoned (R471). -/
def execCardOperatingConditionPoll (dt : Nat) (ready : Bool) (s : State) : Host.Outcome State Fault Refusal :=
  let s := s.tick dt
  match s.crd.card, s.crd.query with
  | some c, some t =>
    if s.islandHeld 0x07 then .next s
    else if ready then .next (s.cardReady c)
    else if t + 1000000000 ≤ s.now then .next (s.cardGivenUp.bumpSat Fld.CRD_ERR_timeout 0 1)
    else .next s
  | _, _ => .next s

/-- The seal table of a backup: the current device seal of every loaded vault, in the form of R134 (R477). -/
def State.sealTable (s : State) : Bytes :=
  let l := s.loadedVaults
  natLE 4 1 ++ natLE 4 l.length ++ zeros 8 ++
  l.flatMap (fun sl => match s.vaultOf sl with
    | some (_, root, block) =>
      let b := s.deviceSeal sl (s.vaultCounter sl) (s.vaultId sl) (s.mr 2) root block
      natLE 2 sl ++ zeros 2 ++ natLE 4 b.length ++ b ++ zeros ((8 - b.length % 8) % 8)
    | none => []) ++ natLE 2 0xFFFF ++ zeros 6

/-- A backup: its header, then the seal table (R477). -/
def State.backupBytes (s : State) (g : Nat) : Bytes :=
  let t := s.sealTable
  natLE 4 1 ++ s.deviceId ++ natLE 4 g ++ natLE 4 s.loadedVaults.length ++ natLE 4 t.length ++ natLE 1 s.lc ++ natLE 1 s.ep ++ zeros 30 ++ t

/-- The evidence export (R480). -/
def State.evidenceBytes (s : State) : Bytes :=
  let n := s.evNext
  let b := natLE 4 1 ++ s.deviceId ++ natLE 4 n ++ natLE 8 s.now ++ zeros 32 ++
    (List.range n).flatMap (fun i => fitLen 32 (s.gnt.log.getD i [])) ++ s.boot.certificate
  b ++ s.attestSign b

/-- A ready card, large enough for its layout (R476). -/
def State.cardUsable (s : State) : Option Card :=
  match s.crd.card with
  | some c => if s.flag Fld.CRD_STATUS_ready 0 && decide (cardSectors ≤ c.sectors) then some c else none
  | none => none

/-- The backup that a card's commit frame names, as VAULT_RESTORE checks it (R479). -/
def State.restorable (s : State) (c : Card) : Option Bytes :=
  let f := c.block0
  let b := (areaOf c (frameArea f)).take (frameLen f)
  if s.frameOk c && decide (frameArea f ≤ 1) && frameGen f == c.counter && field b 0x14 4 == c.counter && b.length == frameLen f &&
      sha384 b == frameDigest f && field b 0x20 1 == s.lc && field b 0x21 1 == s.ep && s.labelOk c then some b else none

/-- The checks of a card command on its card (R475, R476, R478 to R480): the octets that it writes or returns, with its result. -/
def State.askCard (s : State) (job : CardJob) (p : Packet) : Except Status (Bytes × Nat) :=
  match s.cardUsable with
  | none => .error .rejected
  | some c =>
    if job != .evidence && !c.rpmb then .error .rejected
    else if job != .evidence && !s.seedValid then .error .faulted
    else
      match job with
      | .init => if c.key.isNone || s.rpmbOk c then .ok ([], c.counter) else .error .rejected
      | .backup =>
        let b := s.backupBytes (c.counter + 1)
        if s.rpmbOk c && s.labelOk c && b.length ≤ 131072 * 512 && c.counter + 1 < 2 ^ 32 then .ok (b, c.counter + 1) else .error .rejected
      | .restore =>
        match s.restorable c with
        | some b => if p.fits (b.length - 0x40) then .ok (b.drop 0x40, c.counter) else .error .rejected
        | none => .error .rejected
      | .evidence => .ok (s.evidenceBytes, s.evNext)

/-- The running card command is replaced, with `CRD_STATUS.busy`. -/
def State.setRun (s : State) (r : Option CardRun) : State :=
  ({ s with crd := { s.crd with run := r } }).fset Fld.CRD_STATUS_busy 0 (b2n r.isSome)

/-- A card command ends in its phase with a status (R473, R481, R483). -/
def State.cardStops (s : State) (r : CardRun) (st : Status) : State := ((s.cutRun r).setRun none).fail r.pid st

/-- What the registers show of a card command's work. -/
def State.cardShows (s : State) (r : CardRun) (g : Nat) (c : Card) : State :=
  match r.job with
  | .init => (s.fset Fld.CRD_STATUS_key 0 2).fset Fld.CRD_STATUS_label 0 1
  | .backup => ((s.fset Fld.CRD_GEN_gen 0 g).fset Fld.CRD_BACKUP_valid 0 1).fset Fld.CRD_BACKUP_area 0 (1 - s.currentArea c)
  | _ => s

/-- A card command runs to its end (R475, R478 to R480). -/
def State.cardEnds (s : State) (r : CardRun) (c : Card) (g : Nat) : State :=
  let t := (s.cardShows r g c).emit (.card r.data)
  let t := ({ t with crd := { t.crd with card := some (s.cardDone c r) } }).setRun none
  t.finish r.pid (if r.job == .restore then r.data else []) 0 g

/-- A command passes through a phase: the phases of its kind; a card key is sent only to a card without one. -/
def phaseIn (job : CardJob) (c : Card) (p : CardPhase) : Bool :=
  match job with
  | .init => p == .label || (p == .keySent && c.key.isNone)
  | .backup => p == .area || p == .commitData || p == .commitBusy || p == .commitResult
  | .restore => p == .restore
  | .evidence => p == .export_

/-- The result of a card command past its checks. -/
def CardRun.result (r : CardRun) (c : Card) : Nat :=
  match r.job with
  | .init => c.counter
  | .backup => c.counter + 1
  | .restore => c.counter
  | .evidence => field r.data 0x14 4

/-- A card command goes on to a phase in which an event meets it, or to its end. Under the power-fail warning no write is started (R483). -/
def State.cardOn (s : State) (r : CardRun) (stall : Option CardPhase) : State :=
  match s.cmd.packets.get? r.pid, s.crd.card with
  | some p, some c =>
    if r.phase == .checks then
      match s.askCard r.job p with
      | .error st => (s.setRun none).fail r.pid st
      | .ok (b, g) =>
        if s.gnt.pfw.isSome && r.job != .restore then s.cardStops r .cardRemoved
        else
          match stall with
          | some ph => if phaseIn r.job c ph then s.setRun (some { r with phase := ph, data := b, fails := 0 }) else s.cardEnds { r with data := b } c g
          | none => s.cardEnds { r with data := b } c g
    else
      match stall with
      | some ph =>
        if phaseIn r.job c ph then s.setRun (some { r with phase := ph, fails := if ph == r.phase then r.fails else 0 })
        else s.cardEnds r c (r.result c)
      | none => s.cardEnds r c (r.result c)
  | some _, none => (s.setRun none).fail r.pid .rejected
  | none, _ => s.setRun none

/-- A hold on PER or KS makes a card command wait (R483). -/
def State.cardHeld (s : State) : Bool := s.islandHeld 0x07 || s.islandHeld 0x02

/-- The form of a card command (R475, R478 to R480): its parameters. -/
def cardForm (job : CardJob) (p : Packet) : Bool :=
  match job with
  | .init => p.areasOk ioNone && p.par 0 0 == 1 && p.inlineFrom 1
  | .backup => p.areasOk ioNone && p.inlineFrom 0
  | .restore => p.areasOk ioOut && p.inlineFrom 0
  | .evidence => p.areasOk ioNone && p.inlineFrom 0

/-- A card command after the checks that every packet takes: BUSY_RETRY beside another command or identification (R483). -/
def State.cardCommand (job : CardJob) (stall : Option CardPhase) (s : State) (pid : Nat) (p : Packet) : State :=
  match s.handles pid p with
  | .error e => s.conclude pid (.error e)
  | .ok _ =>
    if s.crd.run.isSome || s.crd.query.isSome then s.conclude pid (.error ⟨.busyRetry, none⟩)
    else if !cardForm job p then s.conclude pid (.error ⟨.rejected, none⟩)
    else
      let s := (s.countPid pid false).setPacket pid { p with start := s.now, phase := .waiting }
      let r : CardRun := ⟨pid, job, .checks, 0, [], none⟩
      let s := s.setRun (some r)
      if s.cardUsable.isNone then (s.setRun none).fail pid .rejected
      else if s.cardHeld || stall == some .checks then s
      else s.cardOn r stall

/-- The packet's mode of VAULT_BACKUP is initialisation (R475). -/
def cardMode1 (d : PktData) (p : Packet) : Bool := d.pind.isEmpty && p.par 0 0 == 1

/-- VAULT_BACKUP_INIT: VAULT_BACKUP with p[0] = 0x01 (R475); `stall` is the phase in which the next event meets the command. -/
def execVaultBackupInit (dt pid : Nat) (d : PktData) (stall : Option CardPhase) (s : State) : Host.Outcome State Fault Refusal :=
  let s := s.tick dt
  match s.cmd.packets.get? pid with
  | some p => if cardMode1 d p then .next (s.runPacket 0x0F0B pid d (State.cardCommand .init stall)) else .next s
  | none => .next s

/-- VAULT_BACKUP with any other p[0] (R478). -/
def execVaultBackup (dt pid : Nat) (d : PktData) (stall : Option CardPhase) (s : State) : Host.Outcome State Fault Refusal :=
  let s := s.tick dt
  match s.cmd.packets.get? pid with
  | some p => if cardMode1 d p then .next s else .next (s.runPacket 0x0F0B pid d (State.cardCommand .backup stall))
  | none => .next s

/-- VAULT_RESTORE (R479). -/
def execVaultRestore (dt pid : Nat) (d : PktData) (stall : Option CardPhase) (s : State) : Host.Outcome State Fault Refusal :=
  .next ((s.tick dt).runPacket 0x0F0C pid d (State.cardCommand .restore stall))

/-- EVIDENCE_EXPORT (R480). -/
def execEvidenceExport (dt pid : Nat) (d : PktData) (stall : Option CardPhase) (s : State) : Host.Outcome State Fault Refusal :=
  .next ((s.tick dt).runPacket 0x0F0D pid d (State.cardCommand .evidence stall))

/-- A card command that waited or was interrupted goes on: it ends with the status of what met it, or runs on once no hold covers it (R483). -/
def State.settleCard (s : State) : State :=
  match s.crd.run with
  | none => s
  | some r =>
    match r.ends with
    | some st => s.cardStops r st
    | none => if s.cardHeld then s else s.cardOn r none

/-- The card leaves the slot (R481). -/
def State.cardGone (s : State) : State :=
  let s := (s.setReg .CRD_STATUS 0 0).setReg .CRD_GEN 0 0
  let s := (s.fset Fld.CRD_BACKUP_valid 0 0).fset Fld.CRD_BACKUP_area 0 0
  let s := (List.range 4).foldl (fun s n => s.setReg .CRD_CID n 0) s
  ({ s with crd := { CrdUnit.reset with left := s.crd.card } }).emit (.pin "CRD_PWR_EN" false)

/-- CARD_REMOVED: CRD_CD_N has been high for 1 ms; the running card command completes with CARD_REMOVED (R471, R481). -/
def execCardRemoved (dt : Nat) (s : State) : Host.Outcome State Fault Refusal :=
  let s := s.tick dt
  if s.crd.card.isNone then .next s
  else
    match s.crd.run with
    | some r => .next ((s.cardStops r (r.ends.getD .cardRemoved)).bumpSat Fld.CRD_ERR_removed 0 1).cardGone
    | none => .next s.cardGone

/-- The field of `CRD_ERR` that an error advances. -/
def cardErrFld : CardErr → Fld
  | .response => Fld.CRD_ERR_timeout
  | .responseCrc => Fld.CRD_ERR_cmd_crc
  | .readTimeout => Fld.CRD_ERR_timeout
  | .readCrc => Fld.CRD_ERR_data_crc
  | .writeToken => Fld.CRD_ERR_data_crc

/-- A card error of a command: the operation is repeated, or the packet completes with REJECTED after its third failure (R473). -/
def State.cardError (s : State) (stall : Option CardPhase) : State :=
  match s.crd.run with
  | some r =>
    let r := { r with fails := r.fails + 1 }
    if r.ends.isSome || s.cardHeld then s
    else if 3 ≤ r.fails then s.cardStops r .rejected
    else if r.phase == .checks && stall == some .checks then s.setRun (some r)
    else s.cardOn r stall
  | none =>
    if s.crd.query.isSome then
      if 3 ≤ s.crd.fails + 1 then s.cardGivenUp else { s with crd := { s.crd with fails := s.crd.fails + 1 } }
    else s

/-- CARD_RESPONSE_TIMEOUT: a response, a read block or a write token fails (R473); `stall` is the phase in which the next event meets the repeated operation. -/
def execCardResponseTimeout (dt : Nat) (err : CardErr) (stall : Option CardPhase) (s : State) : Host.Outcome State Fault Refusal :=
  let s := s.tick dt
  if s.crd.run.isSome || s.crd.query.isSome then .next ((s.bumpSat (cardErrFld err) 0 1).cardError stall) else .next s

/-- The card is busy in the phase after a write. -/
def writePhase (p : CardPhase) : Bool := p == .keySent || p == .label || p == .area || p == .commitData || p == .commitBusy || p == .export_

/-- CARD_BUSY_TIMEOUT: the card stays busy beyond the limit of R484; the packet completes with REJECTED at once (R473). -/
def execCardBusyTimeout (dt : Nat) (s : State) : Host.Outcome State Fault Refusal :=
  let s := s.tick dt
  match s.crd.run with
  | some r => if writePhase r.phase then .next ((s.bumpSat Fld.CRD_ERR_timeout 0 1).cardStops r (r.ends.getD .rejected)) else .next s
  | none => .next s

end Sys2Proof.Machine
end

