-- ==== Sys2Proof/Machine/Errors.lean ====
section
/-! DEFINITION. The error policy (R417 to R419): what an uncorrectable error of each memory does, and the rebuilding of lost enduring copies. Log entries of this file: DEDUCED 161, 162; DESIGN CHOICE 99, 256. -/

namespace Sys2Proof.Machine

/-- An uncorrectable error is recorded: the island, and the row of R419. -/
def State.eccEvent (s : State) (island row : Nat) : State := s.event 0x38 island (island + 256 * row)

/-- A packet in progress completes with FAULTED: a public-key job at its release time, a cluster's packet with its output zeroed, any other at once. -/
def State.packetFaults (s : State) (pid : Nat) : State :=
  match s.pke.jobs.get? pid with
  | some j => s.jobFaults pid j
  | none =>
    if s.blk.jobs.has (2 * pid) then (s.faultSym (2 * pid)).steerWaiting
    else ({ s with tbl := { s.tbl with waits := s.tbl.waits.filter (fun _ w => w.pid != pid) } }).fail pid .faulted

/-- A mirror of the slice is lost: `mirrored` reads 0, and a copy that no bank has room for is recorded (R417, R418). -/
def State.mirrorLost (s : State) (sl : Nat) (room : Bool) : State :=
  let s := s.fset Fld.SLC_STATE_mirrored sl 0
  if room then s else s.event 0x34 0x02 sl

/-- An error in a line of a record (R417, R419): the surviving copy serves and becomes the primary; a record with one copy is freed. -/
def State.lineError (s : State) (head line : Nat) (r : KeyRec) : State :=
  match r.mirror with
  | none => s.freeRecord head
  | some m =>
    let r' := { r with copy := if r.copy.lines.contains line then m else r.copy, mirror := none }
    let s := { s with ks := { s.ks with recs := s.ks.recs.insert head r' } }
    s.mirrorLost r.slice (s.allocLines r'.copy.lines.length r'.copy.lines).isSome

/-- An error in a key-cache line (R419): a record, or a compatibility slot, which is marked bad (R131). -/
def State.keyLineError (s : State) (line : Nat) : State :=
  match s.ks.recs.find? (fun _ r => r.allLines.contains line) with
  | some (h, r) => s.lineError h line r
  | none =>
    match s.ks.slots.find? (fun k _ => decide (k ≤ line) && decide (line < k + 4)) with
    | some (k, c) => if c.bad then s else s.slotBad k c
    | none => s

/-- Frames looked up under an SA are dropped as `fault`. -/
def State.saFramesFault (s : State) (head : Nat) : State :=
  (s.tbl.frames.cells.filter (fun e => e.2.at_ != .bypass && e.2.head == head && e.2.gen == s.saGen head)).foldl
    (fun s e => s.loseFrame e.1 .fault) s

/-- An error in an SA context (R273, R417): the mirror serves, or the SA's frames are dropped and the device frees it. -/
def State.contextError (s : State) (ctx : Nat) : State :=
  match s.tbl.sas.find? (fun h a => a.covers h ctx) with
  | none => s
  | some (h, a) =>
    match a.mirror with
    | some _ => (s.setSa h { a with mirror := none }).mirrorLost a.slice (s.ctxAlloc a.size (ctxBanks h a.size)).isSome
    | none => (s.saFramesFault h).saFreedByDevice h

/-- An error in a policy slot (R419): the slot is freed, and its map entry is damaged. -/
def State.policyError (s : State) (slot : Nat) : State :=
  match s.tbl.pols.get? slot with
  | none => s
  | some p =>
    let id := s.polId p.slice slot
    let s := s.policyRemove slot
    match s.tbl.map.get? p.index with
    | some m => { s with tbl := { s.tbl with map := s.tbl.map.insert p.index { m with damaged := true, lost := id :: m.lost } } }
    | none => s

/-- An error in a bank entry (R295): it is invalidated and counted. -/
def State.bankError (s : State) (bank pos : Nat) (stash : Bool) : State :=
  let p := if stash then BankPos.stash (64 * bank + pos) else BankPos.way (524288 * bank + pos)
  (s.dropEntry p).bumpSat Fld.TBL_FC_ECC_count bank 1

/-- An error in a workspace slot (R419): the slot is invalid, and the packet that met it FAULTED. -/
def State.slotError (s : State) (ws slot pid : Nat) : State :=
  let s := match s.pke.spaces.get? ws with
    | some x => (match x.slots.get? slot with
      | some c => s.setSpace ws { x with slots := x.slots.insert slot { c with valid := false } }
      | none => s)
    | none => s
  s.packetFaults pid

/-- The accumulated fields of a meter record (R442), by offset and length: MU, blocks, inline blocks, energy, the four counts of completions, frames. -/
def meterFields : List (Nat × Nat) := [(0x50, 8), (0x58, 8), (0x60, 8), (0x68, 8), (0x70, 4), (0x74, 4), (0x78, 4), (0x7C, 4), (0x80, 8)]

/-- The fields that an error touched read as all ones (R419). -/
def touchFields (fields : Nat) (b : Bytes) : Bytes :=
  ((List.range meterFields.length).filter (fun i => bit fields i)).foldl (fun b i =>
    let (o, n) := meterFields.getD i (0, 0)
    b.take o ++ List.replicate n 0xFF ++ b.drop (o + n)) b

/-- A reservation is made without the checks of R443, for a record that closes at once. -/
def State.meterForce (s : State) : State := s.fset Fld.PMC_METER_STATUS_reserved_e 0 (s.meterReserved + 1)

/-- An error in a slice's accumulators (R419): the interval closes as a periodic record with the touched fields all ones, and a new one begins. -/
def State.meterError (s : State) (sl fields : Nat) : State :=
  match s.met.accs.get? sl with
  | none => s
  | some a =>
    let (b, t) := s.closeInterval sl 0x01 a
    t.meterForce.meterPlace (s.signRecord (touchFields fields b))

/-- An error in a held record (R419): it is written with the touched fields all ones. -/
def State.heldError (s : State) (i fields : Nat) : State :=
  { s with met := { s.met with held := s.met.held.modify i (touchFields fields) } }

/-- A data handshake with an uncorrectable error is dropped and counted, and recorded as a fabric fault (R19). -/
def State.handshakeLost (s : State) (src dst : Nat) : State :=
  { s with fab := { s.fab with dropped := s.fab.dropped + 1 } }.event 0x39 src (src + 256 * dst)

/-- What an uncorrectable error does (R419), its event apart: a handshake between islands that are not assigned does not exist. -/
def State.memError (s : State) (e : MemErr) : State :=
  match e with
  | .keyLine line => s.keyLineError line
  | .deviceArea pid => (if s.seedValid then s.deriveKeys else s).packetFaults pid
  | .hwuShare pid => s.packetFaults pid
  | .saContext ctx _ => s.contextError ctx
  | .saIndex _ fid => s.loseFrame fid .fault
  | .lengthBit => s
  | .mapEntry _ fid => s.loseFrame fid .fault
  | .policySlot slot => s.policyError slot
  | .flowEntry bank pos stash => s.bankError bank pos stash
  | .sbFrame fid => s.loseFrame fid .fault
  | .sbLookaside pid => s.packetFaults pid
  | .sbWorkspace ws slot pid => s.slotError ws slot pid
  | .sbMeter sl fields => s.meterError sl fields
  | .sbHeld i fields => s.heldError i fields
  | .operand core => if core < 72 then (s.fset Fld.PKE_CORE_FAULT_ecc core 1).fence 3 core else s
  | .pairMemory pair => if pair < 8 then s.fence 0 pair else s
  | .handshakePacket src dst pid => (s.handshakeLost src dst).packetFaults pid
  | .handshakeFrame src dst fid => (s.handshakeLost src dst).loseFrame fid .fault
  | .handshakeRead src dst addr => (s.handshakeLost src dst).emit (.readData addr 0)
  | .handshakeWrite src dst => s.handshakeLost src dst
  | .keyChannel pid => s.packetFaults pid
  | .seedShare =>
    { s with bb := { s.bb with seedA := fitLen 64 (Config.random s.free) }, free := s.free + 1 }.fset Fld.KS_STATUS_seed_valid 0 0
  | .vaultEntry sl => { s with bb := { s.bb with vaults := s.bb.vaults.insert sl (s.bb.vaults.getD sl 0 % 2 ^ 24 + 2 ^ 24) } }
  | .recorder i => { s with rcd := { s.rcd with entries := s.rcd.entries.erase (i % 4096), errors := s.rcd.errors + 1 } }
  | .counter _ => { s with rcd := { s.rcd with errors := s.rcd.errors + 1 } }
  | .otp => s

/-- The island of a memory and its row in R419. -/
def memRow : MemErr → Nat × Nat
  | .keyLine _ => (0x02, 1) | .deviceArea _ => (0x02, 1) | .hwuShare _ => (0x02, 2)
  | .saContext _ _ => (0x1D, 3) | .saIndex _ _ => (0x1D, 4) | .lengthBit => (0x1D, 5) | .mapEntry _ _ => (0x1D, 6)
  | .policySlot _ => (0x1D, 7) | .flowEntry _ _ _ => (0x1D, 8)
  | .sbFrame _ => (0x1E, 9) | .sbLookaside _ => (0x1E, 9) | .sbWorkspace _ _ _ => (0x1E, 9)
  | .sbMeter _ _ => (0x1E, 10) | .sbHeld _ _ => (0x1E, 10)
  | .operand core => (0x30 + core / 9, 11) | .pairMemory pair => (8 + pair, 12)
  | .handshakePacket src _ _ => (src, 13) | .handshakeFrame src _ _ => (src, 13)
  | .handshakeRead src _ _ => (src, 13) | .handshakeWrite src _ => (src, 13)
  | .keyChannel _ => (0x02, 14) | .seedShare => (0x05, 15) | .vaultEntry _ => (0x05, 16)
  | .recorder _ => (0x06, 17) | .counter _ => (0x06, 17) | .otp => (0x01, 18)

/-- The islands of a handshake are assigned (R12). -/
def errAssigned : MemErr → Bool
  | .handshakePacket src dst _ => islandAssigned src && islandAssigned dst
  | .handshakeFrame src dst _ => islandAssigned src && islandAssigned dst
  | .handshakeRead src dst _ => islandAssigned src && islandAssigned dst
  | .handshakeWrite src dst => islandAssigned src && islandAssigned dst
  | _ => true

/-- UNCORRECTABLE_ERROR: an uncorrectable error is recorded, and handled by the policy of its memory (R419). -/
def execUncorrectableError (dt : Nat) (err : MemErr) (s : State) : Host.Outcome State Fault Refusal :=
  let s := s.tick dt
  let (island, row) := memRow err
  if errAssigned err then .next ((s.eccEvent island row).memError err) else .next s

/-- A lost copy of a record is rebuilt in banks that hold no line of the other one; its lines take the place of the lost ones in the quota (R417). -/
def State.rebuildRecord (s : State) (head : Nat) (r : KeyRec) : Option State :=
  (s.allocLines r.copy.lines.length r.copy.lines).map (fun l =>
    let c := mkCopy l r.copy.secret (Config.random s.free)
    { s with ks := { s.ks with recs := s.ks.recs.insert head { r with mirror := some c } }, free := s.free + 1 })

/-- A lost copy of an SA is rebuilt (R417). -/
def State.rebuildSa (s : State) (head : Nat) (a : SaCtx) : Option State :=
  (s.ctxAlloc a.size (ctxBanks head a.size)).map (fun m => ({ s with free := s.free + 2 }).setSa head { a with mirror := some m })

/-- Every record and SA of an enduring slice has its mirror. -/
def State.allMirrored (s : State) (sl : Nat) : Bool :=
  !s.ks.recs.any (fun _ r => r.slice == sl && r.mirror.isNone) && !s.tbl.sas.any (fun _ a => a.slice == sl && a.mirror.isNone)

/-- A rebuild ends: `mirrored` reads 1 again once nothing of the slice is single (R417). -/
def State.rebuilt (s : State) (sl : Nat) : State := if s.allMirrored sl then s.fset Fld.SLC_STATE_mirrored sl 1 else s

/-- MIRROR_REBUILD_DONE: the lost copy of an enduring slice's key or SA is written again (R417, R418). -/
def execMirrorRebuildDone (dt : Nat) (key : Bool) (head : Nat) (s : State) : Host.Outcome State Fault Refusal :=
  let s := s.tick dt
  if key then
    match s.ks.recs.get? head with
    | some r => if s.enduring r.slice && r.mirror.isNone then .next (((s.rebuildRecord head r).getD s).rebuilt r.slice) else .next s
    | none => .next s
  else
    match s.tbl.sas.get? head with
    | some a => if s.enduring a.slice && a.mirror.isNone then .next (((s.rebuildSa head a).getD s).rebuilt a.slice) else .next s
    | none => .next s

end Sys2Proof.Machine
end

