-- ==== Sys2Proof/Machine/Recorder.lean ====
section
/-! DEFINITION. The commands of the event recorder and of the counter dumps (R429 to R439). Log entries of this file: DEDUCED 200. -/

namespace Sys2Proof.Machine

/-- The effect of a write to `REC_CTRL.soft`: a nonzero value raises code 0xF0 (R429). -/
def State.softEvent (s : State) (v : Nat) : State := if v = 0 then s else s.event 0xF0 0xFF v

/-- SOFTWARE_EVENT: a nonzero write to `REC_CTRL.soft` (R429). -/
def execSoftwareEvent (dt value : Nat) (s : State) : Host.Outcome State Fault Refusal :=
  .next ((s.tick dt).softEvent (value % 2 ^ 16))

/-- RECORDER_FLUSH: a flush runs, or its region write fails and the entries stay for the next flush (R435, `REC_STATUS.nv_err`). -/
def execRecorderFlush (dt : Nat) (ok : Bool) (s : State) : Host.Outcome State Fault Refusal :=
  let s := s.tick dt
  if !s.flag Fld.XSP_STATUS_cs1_ok 0 then .next ((s.fset Fld.REC_STATUS_nv_err 0 1).fset Fld.REC_CTRL_flush 0 0)
  else if ok then .next s.flush
  else .next (((s.fset Fld.REC_STATUS_nv_err 0 1).fset Fld.REC_CTRL_flush 0 0).bumpSat Fld.XSP_ERR_cs1 0 1)

/-- The effect of a write of 1 to `REC_NV_CFG.reset`: the region is empty, and `stopped` is clear (R436). -/
def State.regionReset (s : State) : State :=
  let s := (s.fset Fld.REC_NV_NEXT_next 0 0).fset Fld.REC_STATUS_stopped 0 0
  { s with rcd := { s.rcd with region := .empty } }

/-- RECORDER_REGION_RESET: a write of 1 to `REC_NV_CFG.reset` (R436). -/
def execRecorderRegionReset (dt : Nat) (s : State) : Host.Outcome State Fault Refusal :=
  .next (s.tick dt).regionReset

/-- The dump interval in ms: a value outside 1 to 60,000 acts as the nearer bound (`PMC_DUMP_CTRL.ms`). -/
def State.dumpMs (s : State) : Nat := max 1 (min (s.fget Fld.PMC_DUMP_CTRL_ms 0) 60000)

/-- The base of the dump ring is valid (`PMC_DUMP_BASE`). -/
def State.dumpBaseOk (s : State) : Bool :=
  let l := s.fget Fld.PMC_DUMP_BASE_log2 0
  s.fget Fld.PMC_DUMP_BASE_base 0 != 0 && decide (1 ≤ l) && decide (l ≤ 12)

/-- The octets of a dump (R439). -/
def State.dumpBytes (s : State) : Bytes :=
  natLE 4 1 ++ natLE 4 s.met.dumpSeq ++ natLE 8 s.now ++
  (List.range 8).flatMap (fun k => natLE 4 (s.fget Fld.PMC_OVF_ovf k)) ++ zeros 16 ++
  (List.range 256).flatMap (fun n => natLE 8 (s.fget Fld.PMC_CNT_value n))

/-- The dump ring is full: the tail's next slot is the head (`PMC_DUMP_PTR`). -/
def State.dumpFull (s : State) : Bool :=
  let size := 2 ^ s.fget Fld.PMC_DUMP_BASE_log2 0
  (s.fget Fld.PMC_DUMP_PTR_tail 0 + 1) % size == s.fget Fld.PMC_DUMP_PTR_head 0 % size

/-- A dump tick: the dump is written and the tail advances, or the tick is skipped on a full ring (R439). -/
def State.dump (s : State) : State :=
  let s := { s with met := { s.met with dumpSeq := s.met.dumpSeq + 1 } }
  if s.dumpFull then s.bumpSat Fld.PMC_DUMP_SKIP_count 0 1
  else
    let size := 2 ^ s.fget Fld.PMC_DUMP_BASE_log2 0
    let t := s.fget Fld.PMC_DUMP_PTR_tail 0
    let a := s.fget Fld.PMC_DUMP_BASE_base 0 * 4096 + 4096 * t
    let s := (s.hostWrite managerRing a s.dumpBytes).fset Fld.PMC_DUMP_PTR_tail 0 ((t + 1) % size)
    if s.flag Fld.PMC_DUMP_CTRL_ien 0 then s.sendMsix 0 (s.fget Fld.PMC_DUMP_CTRL_vec 0) else s

/-- DUMP_TICK: device time is a multiple of `ms` milliseconds while dumps run (R439). -/
def execDumpTick (dt : Nat) (s : State) : Host.Outcome State Fault Refusal :=
  let s := s.tick dt
  if s.flag Fld.PMC_DUMP_CTRL_enable 0 && s.now % (s.dumpMs * 1000000) == 0 then .next s.dump else .next s

/-- The effect of a write of 1 to `PMC_DUMP_CTRL.enable` (R439). -/
def State.enableDump (s : State) : State :=
  if s.flag Fld.PMC_DUMP_CTRL_enable 0 then s
  else if s.dumpBaseOk then
    let s := (s.fset Fld.PMC_DUMP_CTRL_enable 0 1).fset Fld.PMC_DUMP_PTR_tail 0 0
    { s with met := { s.met with dumpSeq := 0 } }
  else s.fset Fld.PMC_DUMP_CTRL_err 0 1

/-- DUMP_ENABLE: a write of 1 to `PMC_DUMP_CTRL.enable` (R439). -/
def execDumpEnable (dt : Nat) (s : State) : Host.Outcome State Fault Refusal := .next (s.tick dt).enableDump

end Sys2Proof.Machine
end

