-- ==== Sys2Proof/Machine/Spdm.lean ====
section
/-! DEFINITION. The management responders: SPDM (R455, R456), IDE_KM (R453, R454) and MCTP control (R462), with the holds that delay their replies (R463, R469). Binding 0 is the DOE mailbox, 1 MCTP on SMBus, 2 MCTP on I3C. Log entries of this file: DEDUCED 175, 177, 178; DESIGN CHOICE 170, 172, 173; PRESUMED 171, 174, 176. -/

namespace Sys2Proof.Machine

/-- An answer on a binding. -/
def State.reply (s : State) (tr : Nat) (b : Bytes) : State := s.emit (.reply tr b)

/-- A message of SPDM or IDE_KM, whose encoding the DMTF and PCI-SIG documents give. -/
def spdmMsg (name : String) (fields : List Bytes) : Bytes := Config.prim .spdm (ascii name :: fields)

/-- An ERROR message: SPDM version, code 0x7F, error code, error data. -/
def spdmError (code data : Nat) : Bytes := natLE 1 0x13 ++ natLE 1 0x7F ++ natLE 1 code ++ natLE 1 data

/-- The error codes of DSP0274 that the responder answers with. -/
def errInvalidRequest : Nat := 0x01
def errInvalidSession : Nat := 0x02
def errBusy : Nat := 0x03
def errUnexpected : Nat := 0x04
def errDecrypt : Nat := 0x06
def errUnsupported : Nat := 0x07
def errSessionLimit : Nat := 0x0A
def errLarge : Nat := 0x0F

/-- The data transfer size and the largest message (R455). -/
def spdmUnit : Nat := 4096
def spdmLargest : Nat := 65536

/-- The transport of a binding, to which sessions belong (R455): 0 DOE, 1 MCTP. -/
def transportOf (tr : Nat) : Nat := if tr = 0 then 0 else 1

/-- A response is sent, or kept for CHUNK_GET where it exceeds the data transfer size (R455). -/
def State.respondSpdm (s : State) (tr : Nat) (b : Bytes) : State :=
  if b.length ≤ spdmUnit then s.reply tr b
  else
    let handle := s.free % 256
    ({ s with free := s.free + 1, lnk := { s.lnk with large := s.lnk.large.insert tr (natLE 1 handle ++ b) } }).reply tr
      (spdmError errLarge 0 ++ natLE 1 handle)

/-- A session's response, under its keys. -/
def State.respondSecured (s : State) (tr : Nat) (x : Session) (b : Bytes) : State :=
  s.reply tr (spdmMsg "SECURED" [natLE 4 x.ident, x.secret, b])

/-- 60 s heartbeat: a session with no message for twice the period has ended (R455). -/
def sessionNs : Nat := 120000000000

/-- The sessions that live, of every transport. -/
def State.liveSessions (s : State) : List Session := s.lnk.sessions.filter (fun x => decide (s.now ≤ x.last + sessionNs))

/-- The sessions replaced. -/
def State.setSessions (s : State) (l : List Session) : State := { s with lnk := { s.lnk with sessions := l } }

/-- A live session of a binding's transport. -/
def State.sessionOf (s : State) (tr ident : Nat) : Option Session :=
  s.liveSessions.find? (fun x => x.tr == transportOf tr && x.ident == ident)

/-- A session's record is replaced. -/
def State.putSession (s : State) (x : Session) : State :=
  s.setSessions (s.liveSessions.map (fun y => if y.tr == x.tr && y.ident == x.ident then x else y))

/-- A session ends. -/
def State.dropSession (s : State) (x : Session) : State :=
  s.setSessions (s.liveSessions.filter (fun y => !(y.tr == x.tr && y.ident == x.ident)))

/-- The device identifier in upper-case hexadecimal digits (R456). -/
def hexDigits (b : Bytes) : Bytes :=
  b.flatMap (fun x => ([x.toNat / 16, x.toNat % 16]).map (fun d => BitVec.ofNat 8 (if d < 10 then 0x30 + d else 0x37 + d)))

/-- A serial number: the first 8 octets of a value with bit 63 cleared (R456). -/
def certSerial (b : Bytes) : Bytes := natBE 8 (beNat (b.take 8) % 2 ^ 63)

/-- The public half of the attestation key over P-384 (R115). -/
def State.attestPoint (s : State) : Bytes := s.boot.attestPub.take 97

/-- The root certificate of slot 0 (R456). -/
def State.spdmRoot (s : State) : Bytes :=
  let cn := ascii "ELVEVA EVX-9640 " ++ hexDigits s.deviceId
  let body := [ascii "ROOT", cn, cn, s.boot.identityPub.take 97, certSerial s.deviceId,
    ascii "19700101000000Z", ascii "99991231235959Z", ascii "CA pathLen 0", ascii "keyCertSign"]
  Config.prim .certificate (body ++ [seedSign s.ks.dev.identity.value body.flatten])

/-- The leaf certificate of slot 0 (R456). -/
def State.spdmLeaf (s : State) : Bytes :=
  let hex := hexDigits s.deviceId
  let body := [ascii "LEAF", ascii "ELVEVA EVX-9640 " ++ hex, ascii "ELVEVA ATTEST " ++ hex, s.attestPoint, certSerial (s.mr 2),
    ascii "19700101000000Z", ascii "99991231235959Z", ascii "not CA", ascii "digitalSignature"]
  Config.prim .certificate (body ++ [seedSign s.ks.dev.identity.value body.flatten])

/-- The certificate chain of slot 0 (R456). -/
def State.spdmChain (s : State) : Bytes := s.spdmRoot ++ s.spdmLeaf

/-- A signature of the responder: ECDSA P-384 of the attestation key (R456). -/
def State.spdmSign (s : State) (b : Bytes) : Bytes := seedSign s.ks.dev.attest.value b

/-- The value type of a measurement block (R456). -/
def measureType (n : Nat) : Nat := if n = 1 then 0 else if n = 5 || n = 6 then 3 else if n = 7 then 2 else 1

/-- Measurement block n: the 48 octets of MR(n - 1) under the DMTF measurement specification (R456). -/
def State.measureBlock (s : State) (n : Nat) : Bytes :=
  natLE 1 n ++ natLE 1 1 ++ natLE 2 51 ++ natLE 1 (measureType n) ++ natLE 2 48 ++ s.mr (n - 1)

/-- The measurement blocks that an index asks for, none where the responder has no such index (R455). -/
def State.measureBlocks (s : State) (index : Nat) : Option Bytes :=
  if index = 0xFF then some ((List.range 8).flatMap (fun n => s.measureBlock (n + 1)))
  else if 1 ≤ index && index ≤ 8 then some (s.measureBlock index)
  else none

/-- The responder has negotiated as far as a request needs. -/
def State.negotiated (s : State) (n : Nat) : Bool := s.lnk.conn == n

/-- The negotiation advances. -/
def State.setConn (s : State) (n : Nat) : State := { s with lnk := { s.lnk with conn := n } }

/-- GET_VERSION (R455): version 1.3 only; it begins the negotiation again and ends the transport's sessions. -/
def State.spdmVersion (s : State) (tr : Nat) : State :=
  let s := (s.setConn 1).setSessions (s.liveSessions.filter (fun x => x.tr != transportOf tr))
  s.respondSpdm tr (spdmMsg "VERSION" [natLE 1 0x13])

/-- GET_CAPABILITIES (R455). -/
def State.spdmCaps (s : State) (tr : Nat) : State :=
  if s.negotiated 1 then
    (s.setConn 2).respondSpdm tr (spdmMsg "CAPABILITIES" [ascii "CERT CHAL MEAS_SIG ENCRYPT MAC KEY_EX HBEAT KEY_UPD CHUNK",
      natLE 4 spdmUnit, natLE 4 spdmLargest])
  else s.respondSpdm tr (spdmError errUnexpected 0)

/-- NEGOTIATE_ALGORITHMS (R455): an offer that lacks one of the algorithms receives ERROR. -/
def State.spdmAlgorithms (s : State) (tr : Nat) (offered : Bool) : State :=
  if !s.negotiated 2 then s.respondSpdm tr (spdmError errUnexpected 0)
  else if offered then
    (s.setConn 3).respondSpdm tr (spdmMsg "ALGORITHMS"
      [ascii "ECDSA P-384", ascii "SHA-384", ascii "secp384r1", ascii "AES-256-GCM", ascii "SHA-384"])
  else s.respondSpdm tr (spdmError errInvalidRequest 0)

/-- GET_DIGESTS (R455): slot 0 only. -/
def State.spdmDigests (s : State) (tr : Nat) : State :=
  s.respondSpdm tr (spdmMsg "DIGESTS" [natLE 1 1, sha384 s.spdmChain])

/-- GET_CERTIFICATE (R455): a portion of the chain of slot 0. -/
def State.spdmCertificate (s : State) (tr slot offset len : Nat) : State :=
  let c := s.spdmChain
  if slot = 0 && offset < c.length then
    let b := slice c offset len
    s.respondSpdm tr (spdmMsg "CERTIFICATE" [natLE 1 0, b, natLE 2 (c.length - offset - b.length)])
  else s.respondSpdm tr (spdmError errInvalidRequest 0)

/-- CHALLENGE (R455): slot 0, with the measurement summary hash of all indices. -/
def State.spdmChallenge (s : State) (tr slot : Nat) (nonce : Bytes) : State :=
  if slot = 0 then
    let (r, s) := s.drawNow 0 32
    let body := [natLE 1 0, sha384 s.spdmChain, r, sha384 ((s.measureBlocks 0xFF).getD []), fitLen 32 nonce]
    s.respondSpdm tr (spdmMsg "CHALLENGE_AUTH" (body ++ [s.spdmSign body.flatten]))
  else s.respondSpdm tr (spdmError errInvalidRequest 0)

/-- GET_MEASUREMENTS (R455, R456). -/
def State.spdmMeasurements (s : State) (tr index : Nat) (sign : Bool) (nonce : Bytes) : State :=
  match s.measureBlocks index with
  | none => s.respondSpdm tr (spdmError errInvalidRequest 0)
  | some m =>
    let (r, s) := s.drawNow 0 32
    let body := [natLE 1 index, m, r, fitLen 32 nonce]
    s.respondSpdm tr (spdmMsg "MEASUREMENTS" (body ++ if sign then [s.spdmSign body.flatten] else []))

/-- An identifier for a new session: the requester's half and a half that no live session has. -/
def State.newSessionId (s : State) (reqId : Nat) : Nat :=
  let used := fun (k : Nat) => s.liveSessions.any (fun x => x.ident / 65536 == k)
  let c := Config.choice s.free % 65536
  reqId % 65536 + 65536 * (if used c then (firstFrom (fun k => !used k) 65536 0).getD 0 else c)

/-- KEY_EXCHANGE (R455): at most 4 sessions on a transport; responder authentication only. -/
def State.spdmKeyExchange (s : State) (tr reqId : Nat) (pub : Bytes) : State :=
  if 4 ≤ (s.liveSessions.filter (fun x => x.tr == transportOf tr)).length then s.respondSpdm tr (spdmError errSessionLimit 0)
  else if !Config.accepts .ecdhP384 [pub] then s.respondSpdm tr (spdmError errInvalidRequest 0)
  else
    let ident := s.newSessionId reqId
    let (seed, s) := s.drawNow 0 48
    let priv := Config.prim .keyPrivate [ascii "P-384", seed]
    let own := fitLen 97 (Config.prim .keyPublic [ascii "P-384", seed])
    let body := [natLE 4 ident, own, pub, sha384 ((s.measureBlocks 0xFF).getD [])]
    let x : Session := ⟨transportOf tr, ident, false, s.now,
      Config.prim .spdm (ascii "SESSION" :: fitLen 48 (Config.prim .ecdhP384 [priv, pub]) :: body)⟩
    (s.setSessions (s.liveSessions ++ [x])).respondSpdm tr (spdmMsg "KEY_EXCHANGE_RSP" (body ++ [s.spdmSign body.flatten,
      fitLen 48 (Config.prim .hmacSha384 [x.secret, body.flatten])]))

/-- FINISH (R455): the handshake of a session ends, and the session ends where the requester's check fails. -/
def State.spdmFinish (s : State) (tr session : Nat) (mac : Bytes) : State :=
  match s.sessionOf tr session with
  | some x =>
    if x.established then s.respondSecured tr x (spdmError errUnexpected 0)
    else if Config.accepts .hmacSha384 [x.secret, mac] then
      let x := { x with established := true, last := s.now }
      (s.putSession x).respondSecured tr x (spdmMsg "FINISH_RSP" [])
    else (s.dropSession x).respondSpdm tr (spdmError errDecrypt 0)
  | none => s.respondSpdm tr (spdmError errInvalidSession 0)

/-- A request inside a session: it counts as use of the session; a request for no established one receives ERROR. -/
def State.inSession (s : State) (tr session : Nat) (k : State → Session → State) : State :=
  match s.sessionOf tr session with
  | some x =>
    if x.established then
      let x := { x with last := s.now }
      k (s.putSession x) x
    else s.respondSpdm tr (spdmError errUnexpected 0)
  | none => s.respondSpdm tr (spdmError errInvalidSession 0)

/-- END_SESSION (R455). -/
def State.spdmEnd (s : State) (tr session : Nat) : State :=
  s.inSession tr session (fun s x => (s.dropSession x).respondSecured tr x (spdmMsg "END_SESSION_ACK" []))

/-- HEARTBEAT (R455). -/
def State.spdmHeartbeat (s : State) (tr session : Nat) : State :=
  s.inSession tr session (fun s x => s.respondSecured tr x (spdmMsg "HEARTBEAT_ACK" []))

/-- KEY_UPDATE (R455): 1 updates the requester's key, 2 both keys, 3 verifies the new one. -/
def State.spdmKeyUpdate (s : State) (tr session op : Nat) : State :=
  s.inSession tr session (fun s x =>
    if op = 1 || op = 2 then
      let y := { x with secret := Config.prim .spdm [ascii "KEY_UPDATE", natLE 1 op, x.secret] }
      (s.putSession y).respondSecured tr y (spdmMsg "KEY_UPDATE_ACK" [natLE 1 op])
    else if op = 3 then s.respondSecured tr x (spdmMsg "KEY_UPDATE_ACK" [natLE 1 op])
    else s.respondSecured tr x (spdmError errInvalidRequest 0))

/-- A large message in parts: its handle, the next part's number, the octets so far. -/
def chunkState (handle next : Nat) (data : Bytes) : Bytes := natLE 1 handle ++ natLE 2 next ++ data

/-- The octets collected where a part continues a large message, or begins one. -/
def State.chunksSoFar (s : State) (tr handle seq : Nat) : Option Bytes :=
  if seq = 0 then some []
  else
    match s.lnk.chunks.get? tr with
    | some b => if field b 0 1 == handle % 256 && field b 1 2 == seq then some (b.drop 3) else none
    | none => none

/-- CHUNK_SEND (R455): messages above 4,096 octets, up to 65,536. -/
def State.spdmChunkSend (s : State) (tr handle seq : Nat) (last : Bool) (data : Bytes) : State :=
  let fail := fun (s : State) => ({ s with lnk := { s.lnk with chunks := s.lnk.chunks.erase tr } }).respondSpdm tr
    (spdmMsg "CHUNK_SEND_ACK" [natLE 1 handle, natLE 2 seq, spdmError errInvalidRequest 0])
  match s.chunksSoFar tr handle seq with
  | none => fail s
  | some b =>
    let b := b ++ data
    if spdmUnit < data.length || spdmLargest < b.length then fail s
    else if last then
      if b.length ≤ spdmUnit then fail s
      else
        ({ s with lnk := { s.lnk with chunks := s.lnk.chunks.erase tr } }).respondSpdm tr
          (spdmMsg "CHUNK_SEND_ACK" [natLE 1 handle, natLE 2 seq, spdmMsg "LARGE_REQUEST" [b]])
    else
      ({ s with lnk := { s.lnk with chunks := s.lnk.chunks.insert tr (chunkState handle (seq + 1) b) } }).respondSpdm tr
        (spdmMsg "CHUNK_SEND_ACK" [natLE 1 handle, natLE 2 seq])

/-- The octets of a large response that part `seq` holds: 16 octets of header in the first part, 12 in the others, within the data transfer size. -/
def chunkPart (b : Bytes) (seq : Nat) : Bytes :=
  if seq = 0 then b.take (spdmUnit - 16) else slice b (spdmUnit - 16 + (seq - 1) * (spdmUnit - 12)) (spdmUnit - 12)

/-- CHUNK_GET (R455): a part of the response that waits. -/
def State.spdmChunkGet (s : State) (tr handle seq : Nat) : State :=
  match s.lnk.large.get? tr with
  | some m =>
    let b := m.drop 1
    let part := chunkPart b seq
    if field m 0 1 == handle % 256 && !part.isEmpty then
      let last := (chunkPart b (seq + 1)).isEmpty
      let s := if last then { s with lnk := { s.lnk with large := s.lnk.large.erase tr } } else s
      s.reply tr (spdmMsg "CHUNK_RESPONSE" [natLE 1 handle, natLE 2 seq, natLE 1 (b2n last), natLE 4 b.length, part])
    else s.respondSpdm tr (spdmError errInvalidRequest 0)
  | none => s.respondSpdm tr (spdmError errUnexpected 0)

/-- IDE_KM runs over a secured session on the DOE mailbox and nowhere else (R453, R455). -/
def State.ideKm (s : State) (tr session : Nat) (k : State → Session → State) : State :=
  if tr = 0 then s.inSession tr session k else s.respondSpdm tr (spdmError errUnsupported 0xFE)

/-- A stream, sub-stream, direction and key set that the device has (R453). -/
def ideSetOk (stream sub dir set : Nat) : Bool := decide (stream ≤ 4) && decide (sub ≤ 2) && decide (dir ≤ 1) && decide (set ≤ 1)

/-- An entry is the named key set. -/
def IdeSet.is (e : IdeSet) (stream sub dir set : Nat) : Bool := e.stream == stream && e.sub == sub && e.dir == dir && e.set == set

/-- A stream is Secure: every sub-stream has an active key set in both directions. -/
def ideSecure (l : List IdeSet) (stream : Nat) : Bool :=
  (List.range 3).all (fun sub => (List.range 2).all (fun dir =>
    l.any (fun e => e.stream == stream && e.sub == sub && e.dir == dir && e.active)))

/-- The key sets replaced, with `HLU_IDE_STATUS` after them. -/
def State.setIde (s : State) (l : List IdeSet) : State :=
  let s := { s with lnk := { s.lnk with ide := l } }
  let s := s.fset Fld.HLU_IDE_STATUS_link 0 (b2n (ideSecure l 0))
  s.fset Fld.HLU_IDE_STATUS_sel 0 ((List.range 4).foldl (fun a n => a + b2n (ideSecure l (n + 1)) <<< n) 0)

/-- KEY_PROG: a key of 32 octets enters a key set, not yet in use (R453, R454). -/
def State.keyProg (s : State) (tr session stream sub dir set : Nat) (key : Bytes) : State :=
  s.ideKm tr session (fun s x =>
    if ideSetOk stream sub dir set && key.length == 32 then
      (s.setIde (s.lnk.ide.filter (fun e => !e.is stream sub dir set) ++ [⟨stream, sub, dir, set, key, false⟩])).respondSecured
        tr x (spdmMsg "KP_ACK" [natLE 1 stream, natLE 1 sub, natLE 1 dir, natLE 1 set, natLE 1 0])
    else s.respondSecured tr x (spdmMsg "KP_ACK" [natLE 1 stream, natLE 1 sub, natLE 1 dir, natLE 1 set,
      natLE 1 (if key.length = 32 then 3 else 1)]))

/-- K_SET_GO: the sub-stream uses the key set, in place of the other one (R453). -/
def State.kSetGo (s : State) (tr session stream sub dir set : Nat) : State :=
  s.ideKm tr session (fun s x =>
    let l := if s.lnk.ide.any (fun e => e.is stream sub dir set) then
        s.lnk.ide.map (fun e => if e.stream == stream && e.sub == sub && e.dir == dir then { e with active := e.set == set } else e)
      else s.lnk.ide
    (s.setIde l).respondSecured tr x (spdmMsg "K_GOSTOP_ACK" [natLE 1 stream, natLE 1 sub, natLE 1 dir, natLE 1 set]))

/-- K_SET_STOP: the keys of the key set are destroyed (R454). -/
def State.kSetStop (s : State) (tr session stream sub dir set : Nat) : State :=
  s.ideKm tr session (fun s x =>
    (s.setIde (s.lnk.ide.filter (fun e => !e.is stream sub dir set))).respondSecured tr x
      (spdmMsg "K_GOSTOP_ACK" [natLE 1 stream, natLE 1 sub, natLE 1 dir, natLE 1 set]))

/-- QUERY: the state of a stream; no key is read (R453, R454). -/
def State.ideQuery (s : State) (tr session stream : Nat) : State :=
  s.ideKm tr session (fun s x =>
    s.respondSecured tr x (spdmMsg "QUERY_RESP" [natLE 1 stream, natLE 1 (b2n (decide (stream ≤ 4))),
      natLE 1 (b2n (ideSecure s.lnk.ide stream))]))

/-- A request that needs the algorithms negotiated. -/
def State.afterAlgorithms (s : State) (tr : Nat) (k : State → State) : State :=
  if s.negotiated 3 then k s else s.respondSpdm tr (spdmError errUnexpected 0)

/-- An MCTP control response: command, completion code, data. -/
def mctpReply (command code : Nat) (data : Bytes) : Bytes := natLE 1 0 ++ natLE 1 command ++ natLE 1 code ++ data

/-- Set Endpoint ID (R462): each binding has its own; 0x00 and 0xFF are no endpoint IDs. -/
def State.setEid (s : State) (tr eid : Nat) : State :=
  if eid = 0 || 255 ≤ eid then s.reply tr (mctpReply 0x01 0x02 [])
  else ({ s with lnk := { s.lnk with eid := s.lnk.eid.setIfInBounds (tr - 1) eid } }).reply tr (mctpReply 0x01 0 (natLE 1 0 ++ natLE 1 eid ++ natLE 1 0))

/-- MCTP message types that the target supports (R462). -/
def mctpTypes : List Nat := [0x00, 0x05, 0x06]

/-- What a request does once the responder takes it up. The control messages of MCTP need no SPDM responder. -/
def State.serveMgmt (s : State) (tr : Nat) (r : MgmtReq) : State :=
  match r with
  | .getVersion => s.spdmVersion tr
  | .getCapabilities => s.spdmCaps tr
  | .negotiate o => s.spdmAlgorithms tr o
  | .getDigests => s.afterAlgorithms tr (fun s => s.spdmDigests tr)
  | .getCertificate slot off len => s.afterAlgorithms tr (fun s => s.spdmCertificate tr slot off len)
  | .challenge slot nonce => s.afterAlgorithms tr (fun s => s.spdmChallenge tr slot nonce)
  | .getMeasurements i sign nonce => s.afterAlgorithms tr (fun s => s.spdmMeasurements tr i sign nonce)
  | .keyExchange i pub => s.afterAlgorithms tr (fun s => s.spdmKeyExchange tr i pub)
  | .finish i mac => s.spdmFinish tr i mac
  | .endSession i => s.spdmEnd tr i
  | .heartbeat i => s.spdmHeartbeat tr i
  | .keyUpdate i op => s.spdmKeyUpdate tr i op
  | .chunkSend h n last b => s.spdmChunkSend tr h n last b
  | .chunkGet h n => s.spdmChunkGet tr h n
  | .keyProg i st sub dir set key => s.keyProg tr i st sub dir set key
  | .kSetGo i st sub dir set => s.kSetGo tr i st sub dir set
  | .kSetStop i st sub dir set => s.kSetStop tr i st sub dir set
  | .query i st => s.ideQuery tr i st
  | .spdmOther code => s.respondSpdm tr (spdmError errUnsupported code)
  | .setEid eid => s.setEid tr eid
  | .getEid => s.reply tr (mctpReply 0x02 0 (natLE 1 (s.lnk.eid.getD (tr - 1) 0) ++ natLE 1 0 ++ natLE 1 0))
  | .getMctpVersion typ =>
    if mctpTypes.contains typ || typ == 0xFF then s.reply tr (mctpReply 0x04 0 (Config.prim .spdm [ascii "MCTP-VERSION", natLE 1 typ, ascii "1.3"]))
    else s.reply tr (mctpReply 0x04 0x80 [])
  | .getTypes => s.reply tr (mctpReply 0x05 0 (natLE 1 mctpTypes.length ++ mctpTypes.flatMap (natLE 1)))
  | .mctpOther typ command =>
    if typ = 0 && !([0x01, 0x02, 0x04, 0x05].contains command) then s.reply tr (mctpReply command 0x05 []) else s

/-- A request to the SPDM responder, in contrast to MCTP control. -/
def isSpdm : MgmtReq → Bool
  | .setEid _ => false
  | .getEid => false
  | .getMctpVersion _ => false
  | .getTypes => false
  | .mctpOther _ _ => false
  | _ => true

/-- The SPDM responder answers Busy: until boot reaches READY, and while KS erases and derives the device keys again (R455, R469). -/
def State.spdmBusy (s : State) : Bool := !s.booted || s.erasing || s.wiping

/-- A request is answered. -/
def State.answerMgmt (s : State) (tr : Nat) (r : MgmtReq) : State :=
  if isSpdm r && s.spdmBusy then s.reply tr (spdmError errBusy 0) else s.serveMgmt tr r

/-- A hold delays the replies of a binding: on HLU those of the DOE mailbox, on PER those of the management target (R463, R469). A request that meets an erase is answered Busy. -/
def State.mgmtHeld (s : State) (tr : Nat) (r : MgmtReq) : Bool :=
  s.islandHeld (if tr = 0 then 0x00 else 0x07) && !(isSpdm r && s.erasing)

/-- A binding reaches its target: the DOE mailbox over the host link, MCTP from phase ISLANDS on; I3C with a dynamic address (R463, R462). -/
def State.mgmtReachable (s : State) (tr : Nat) : Bool :=
  let ph := s.fget Fld.DEV_BOOT_STATUS_phase 0
  s.gnt.main && decide (2 ≤ ph) && ph != 0xF &&
    (if tr = 0 then s.flag Fld.HLU_LINK_up 0 else tr == 1 || (tr == 2 && s.lnk.i3c.isSome))

/-- The requests that a binding's target can hold: one in the mailbox, 8 in the target's receive buffer (R463). -/
def State.mgmtRoom (s : State) (tr : Nat) : Bool :=
  if tr = 0 then !s.lnk.held.any (fun e => e.1 == 0) else decide ((s.lnk.held.filter (fun e => e.1 != 0)).length < 8)

/-- A request arrives: it is answered, held while a hold delays replies, or refused by a full buffer (NAK on SMBus, NACK on I3C). -/
def State.mgmt (s : State) (tr : Nat) (r : MgmtReq) : State :=
  if !s.mgmtReachable tr then s
  else if s.mgmtHeld tr r then
    if s.mgmtRoom tr then { s with lnk := { s.lnk with held := s.lnk.held ++ [(tr, r)] } }
    else if tr = 0 then s
    else s.emit (.pin (if tr = 1 then "NAK" else "NACK") true)
  else s.answerMgmt tr r

/-- The held requests whose hold has lifted are answered, in order (R463, R469). -/
def State.settleMgmt (s : State) : State :=
  let l := s.lnk.held
  l.foldl (fun s e => if s.mgmtHeld e.1 e.2 then s else s.answerMgmt e.1 e.2)
    { s with lnk := { s.lnk with held := l.filter (fun e => s.mgmtHeld e.1 e.2) } }

/-- The binding number of an MCTP binding. -/
def mctpBinding (i3c : Bool) : Nat := if i3c then 2 else 1

/-- GET_VERSION. -/
def execGetVersion (dt tr : Nat) (s : State) : Host.Outcome State Fault Refusal := .next ((s.tick dt).mgmt tr .getVersion)

/-- GET_CAPABILITIES. -/
def execGetCapabilities (dt tr : Nat) (s : State) : Host.Outcome State Fault Refusal := .next ((s.tick dt).mgmt tr .getCapabilities)

/-- NEGOTIATE_ALGORITHMS; `offered`: the request offers every algorithm of R455. -/
def execNegotiateAlgorithms (dt tr : Nat) (offered : Bool) (s : State) : Host.Outcome State Fault Refusal :=
  .next ((s.tick dt).mgmt tr (.negotiate offered))

/-- GET_DIGESTS. -/
def execGetDigests (dt tr : Nat) (s : State) : Host.Outcome State Fault Refusal := .next ((s.tick dt).mgmt tr .getDigests)

/-- GET_CERTIFICATE. -/
def execGetCertificate (dt tr slot offset len : Nat) (s : State) : Host.Outcome State Fault Refusal :=
  .next ((s.tick dt).mgmt tr (.getCertificate slot offset len))

/-- CHALLENGE. -/
def execChallenge (dt tr slot : Nat) (nonce : Bytes) (s : State) : Host.Outcome State Fault Refusal :=
  .next ((s.tick dt).mgmt tr (.challenge slot nonce))

/-- GET_MEASUREMENTS. -/
def execGetMeasurements (dt tr index : Nat) (sign : Bool) (nonce : Bytes) (s : State) : Host.Outcome State Fault Refusal :=
  .next ((s.tick dt).mgmt tr (.getMeasurements index sign nonce))

/-- KEY_EXCHANGE. -/
def execKeyExchange (dt tr reqId : Nat) (pub : Bytes) (s : State) : Host.Outcome State Fault Refusal :=
  .next ((s.tick dt).mgmt tr (.keyExchange reqId pub))

/-- FINISH. -/
def execFinish (dt tr session : Nat) (mac : Bytes) (s : State) : Host.Outcome State Fault Refusal :=
  .next ((s.tick dt).mgmt tr (.finish session mac))

/-- END_SESSION. -/
def execEndSession (dt tr session : Nat) (s : State) : Host.Outcome State Fault Refusal := .next ((s.tick dt).mgmt tr (.endSession session))

/-- HEARTBEAT. -/
def execHeartbeat (dt tr session : Nat) (s : State) : Host.Outcome State Fault Refusal := .next ((s.tick dt).mgmt tr (.heartbeat session))

/-- KEY_UPDATE. -/
def execKeyUpdate (dt tr session op : Nat) (s : State) : Host.Outcome State Fault Refusal := .next ((s.tick dt).mgmt tr (.keyUpdate session op))

/-- CHUNK_SEND. -/
def execChunkSend (dt tr handle seq : Nat) (last : Bool) (data : Bytes) (s : State) : Host.Outcome State Fault Refusal :=
  .next ((s.tick dt).mgmt tr (.chunkSend handle seq last data))

/-- CHUNK_GET. -/
def execChunkGet (dt tr handle seq : Nat) (s : State) : Host.Outcome State Fault Refusal := .next ((s.tick dt).mgmt tr (.chunkGet handle seq))

/-- KEY_PROG. -/
def execKeyProg (dt tr session stream sub dir set : Nat) (key : Bytes) (s : State) : Host.Outcome State Fault Refusal :=
  .next ((s.tick dt).mgmt tr (.keyProg session stream sub dir set key))

/-- K_SET_GO. -/
def execKSetGo (dt tr session stream sub dir set : Nat) (s : State) : Host.Outcome State Fault Refusal :=
  .next ((s.tick dt).mgmt tr (.kSetGo session stream sub dir set))

/-- K_SET_STOP. -/
def execKSetStop (dt tr session stream sub dir set : Nat) (s : State) : Host.Outcome State Fault Refusal :=
  .next ((s.tick dt).mgmt tr (.kSetStop session stream sub dir set))

/-- QUERY. -/
def execQuery (dt tr session stream : Nat) (s : State) : Host.Outcome State Fault Refusal := .next ((s.tick dt).mgmt tr (.query session stream))

/-- SPDM_UNSUPPORTED_REQUEST: any other request receives ERROR UnsupportedRequest (R455). -/
def execSpdmUnsupportedRequest (dt tr code : Nat) (s : State) : Host.Outcome State Fault Refusal := .next ((s.tick dt).mgmt tr (.spdmOther code))

/-- SET_ENDPOINT_ID. -/
def execSetEndpointId (dt : Nat) (i3c : Bool) (eid : Nat) (s : State) : Host.Outcome State Fault Refusal :=
  .next ((s.tick dt).mgmt (mctpBinding i3c) (.setEid eid))

/-- GET_ENDPOINT_ID. -/
def execGetEndpointId (dt : Nat) (i3c : Bool) (s : State) : Host.Outcome State Fault Refusal := .next ((s.tick dt).mgmt (mctpBinding i3c) .getEid)

/-- GET_MCTP_VERSION_SUPPORT. -/
def execGetMctpVersionSupport (dt : Nat) (i3c : Bool) (typ : Nat) (s : State) : Host.Outcome State Fault Refusal :=
  .next ((s.tick dt).mgmt (mctpBinding i3c) (.getMctpVersion typ))

/-- GET_MESSAGE_TYPE_SUPPORT. -/
def execGetMessageTypeSupport (dt : Nat) (i3c : Bool) (s : State) : Host.Outcome State Fault Refusal :=
  .next ((s.tick dt).mgmt (mctpBinding i3c) .getTypes)

/-- MCTP_UNSUPPORTED_MESSAGE: another message type is discarded, another control command receives the completion code for an unsupported command (R462). -/
def execMctpUnsupportedMessage (dt : Nat) (i3c : Bool) (typ command : Nat) (s : State) : Host.Outcome State Fault Refusal :=
  .next ((s.tick dt).mgmt (mctpBinding i3c) (.mctpOther typ command))

/-- The provisioned ID of the I3C target (R462): bit 32 set, its other 47 bits bits 46 to 0 of the device identifier's first 6 octets. -/
def State.provisionedId (s : State) : Nat :=
  let d := beNat (s.deviceId.take 6) % 2 ^ 47
  d % 2 ^ 32 + 2 ^ 32 + d / 2 ^ 32 * 2 ^ 33

/-- ENTDAA: the target without a dynamic address answers with its provisioned ID and takes the address (R462). -/
def execEntdaa (dt addr : Nat) (s : State) : Host.Outcome State Fault Refusal :=
  let s := s.tick dt
  let ph := s.fget Fld.DEV_BOOT_STATUS_phase 0
  if s.gnt.main && 2 ≤ ph && ph != 0xF && s.lnk.i3c.isNone && addr < 128 then
    .next ({ s with lnk := { s.lnk with i3c := some addr } }.reply 2 (natBE 6 s.provisionedId))
  else .next s

end Sys2Proof.Machine
end

