-- ==== Sys2Proof/Machine/Settle.lean ====
section
/-! DEFINITION. The ends of work in progress: public-key jobs and the release gate (R173 to R188), stop sequences (R41), the key-cache wipe (R137, R138), and what waits for them. Log entries of this file: DEDUCED 66, 77, 146, 212; DESIGN CHOICE 1, 14, 52, 209, 214, 234. -/

namespace Sys2Proof.Machine

/-- The packet of a deferred action. -/
def Deferred.pid : Deferred → Nat
  | .unload pid _ => pid
  | .unbind pid _ => pid
  | .sliceExport pid _ _ _ => pid
  | .lifeCycle pid _ _ _ => pid
  | .modeSwitch pid _ => pid
  | .configLoad pid _ _ _ => pid

/-- A class 1 hold covers the path of a deferred action's completion (R389). -/
def State.actionHeld (s : State) (a : Deferred) : Bool :=
  match s.cmd.packets.get? a.pid with
  | some p => s.gateHeld p
  | none => false

/-- A workspace job's packet is on a held path (R389). -/
def State.slotsHeld (s : State) (pid : Nat) : Bool :=
  match s.cmd.packets.get? pid with
  | some p => s.gateHeld p
  | none => false

/-- A deferred action goes on where what it waits for has come (R58, R71, R92, R345, R374, R375). -/
def State.settleOne (s : State) (a : Deferred) : State :=
  if s.actionHeld a then s
  else
  match a with
  | .unload pid h => if s.references pid h then s else (s.dropDeferred pid).unloadNow pid h
  | .unbind pid sl => s.unbindNow pid sl
  | .sliceExport pid sl ran mu =>
    if s.cmd.packets.has pid then s.exportNow pid sl ran mu else s.exportFails pid sl ran .faulted
  | .lifeCycle pid r deadline mu => if s.cmd.packets.has pid then s.lcNow pid r deadline mu else s.dropDeferred pid
  | .modeSwitch pid code => s.modeNow pid code
  | .configLoad pid image seeds mu => s.configNow pid image seeds mu

/-- Workspace packets whose turn has come execute (R191). -/
def State.settleSlots (s : State) : State :=
  s.pke.jobs.cells.foldl (fun s e =>
    match s.pke.jobs.get? e.1 with
    | some j => if j.kind == .slots && j.at_ == .pending && s.wsTurn j && !s.slotsHeld e.1 then s.runSlots e.1 j else s
    | none => s) s

/-- Rounds of settling. -/
def State.settleRounds : Nat → State → State
  | 0, s => s
  | n + 1, s => State.settleRounds n (s.cmd.deferred.foldl State.settleOne s.settleSlots)

/-- Everything that waited and may now go on does: deferred actions, management requests, meter records and staged frames behind a hold. -/
def State.settle (s : State) : State := (State.settleRounds (s.cmd.deferred.length + 1) s).settleMgmt.settleCard.settleMeter.takeStaged

/-- What the block does while no command comes: work that waited goes on, work without a cluster is steered, and every cluster takes its next chunk (R236, R237; DESIGN CHOICE, log entries 1 and 234). -/
def State.idle (s : State) : State := s.settle.fillPool.steerWaiting.clustersWork

/-- QP_STOP_COMPLETE: every fetched packet of a stopping queue pair has its completion, and it no longer runs (R41). -/
def execQpStopComplete (dt ring q : Nat) (s : State) : Host.Outcome State Fault Refusal :=
  let s := s.tick dt
  if s.stopEnded ring q then .next (s.clearQp ring q).settle else .next s

/-- A verification has ended; a result that fails counts against the signing core (R29, R405). -/
def State.verifyEnds (s : State) (pid : Nat) (j : Job) (from_ : Nat) : State :=
  let s := s.endVerify pid j from_ j.verifyEnd
  if j.res.verdict == some true then s else s.verifyFailed from_

/-- The job in the main context of a core, or in its verify context, ends where its schedule has. -/
def State.coreJobEnds (s : State) (core : Nat) (verify : Bool) : State :=
  if verify then
    match s.verifyingOn core with
    | some (pid, j) =>
      (match j.at_ with
      | .verifying f _ => if s.verifyDone j then s.verifyEnds pid j f else s
      | _ => s)
    | none => s
  else
    match s.mainOf core with
    | some (pid, j) => if s.mainDone j then s.endMain pid j core (s.mainEnd j) else s
    | none => s

/-- PKE_JOB_END: the job in a context of a core reaches the end of its schedule (R188, R198, R29). -/
def execPkeJobEnd (dt core : Nat) (verify : Bool) (s : State) : Host.Outcome State Fault Refusal :=
  .next ((s.tick dt).coreJobEnds core verify).settle

/-- A job at the release gate is released where its time has come and no hold covers its path (R178, R179, R188). -/
def State.releaseGate (s : State) (pid : Nat) : State :=
  match s.pke.jobs.get? pid, s.cmd.packets.get? pid with
  | some j, some p =>
    match j.at_ with
    | .gate core since =>
      if s.resultHeld p j core then s
      else
      let lifted := s.liftedAt p j core
      if j.kind == .c then s.releaseC pid j core (max since lifted)
      else
        let (t, count) := j.due (max since lifted)
        if t ≤ s.now then (s.noteLate core count).releaseJob pid j t else s
    | _ => s
  | _, _ => s

/-- RELEASE_GATE: the gate releases a class M result and its completion at start + B, or at the next start + j × B (R178, R179). -/
def execReleaseGate (dt pid : Nat) (s : State) : Host.Outcome State Fault Refusal :=
  .next ((s.tick dt).releaseGate pid).settle

/-- LC_STOP_DEADLINE: 100 ms after its acceptance a transition goes on without the packets that are still incomplete (R345). -/
def execLcStopDeadline (dt : Nat) (s : State) : Host.Outcome State Fault Refusal := .next (s.tick dt).settle

/-- The effect of a write to `KS_WIPE` (R137, R138): commands that use a key of the cache complete with FAULTED. -/
def State.askWipe (s : State) (code : Nat) : State :=
  if code == 0xC1EA then s.wipeUses.wipeCache.fset Fld.KS_STATUS_wipe_busy 0 1 else s

/-- KS_WIPE: a write of 0xC1EA wipes the whole key cache (R137); any other value is discarded. -/
def execKsWipe (dt value : Nat) (s : State) : Host.Outcome State Fault Refusal :=
  .next ((s.tick dt).askWipe (value % 2 ^ 16))

/-- WIPE_DONE: a wipe by `KS_WIPE` completes, and KS derives the device keys again (R138, R115). -/
def execWipeDone (dt : Nat) (s : State) : Host.Outcome State Fault Refusal :=
  let s := s.tick dt
  if s.wiping && !s.erasing then
    let s := s.fset Fld.KS_STATUS_wipe_busy 0 0
    .next (if s.seedValid && s.flag Fld.KS_STATUS_ready 0 then s.deriveKeys else s)
  else .next s

/-- LOOKASIDE_RESULT: a cluster that holds the packet's key finishes it; the tag decision, any zero-fill and the completion follow (R232, R240). -/
def execLookasideResult (dt pid : Nat) (s : State) : Host.Outcome State Fault Refusal :=
  .next (((s.tick dt).lookasideEnds pid).settle)

/-- SA_DRAIN_DONE: the last frame of a draining SA has left (R266, R267). -/
def execSaDrainDone (dt head : Nat) (s : State) : Host.Outcome State Fault Refusal :=
  .next (((s.tick dt).saDrained head).settle)

/-- TX_PIPELINE_FINISH: the egress pipeline commits, checks, finishes and transmits a frame, or drops it; `room` says that the egress queue takes it (R254 to R257, R272, R460). -/
def execTxPipelineFinish (dt fid : Nat) (room : Bool) (s : State) : Host.Outcome State Fault Refusal :=
  .next (((s.tick dt).txEnds fid room).settle)

/-- HOLD_LIFT: 100 µs after its condition ended, a class 1 hold lifts (R389). -/
def execHoldLift (dt sensor sub : Nat) (s : State) : Host.Outcome State Fault Refusal :=
  .next (((s.tick dt).holdLifts sensor sub).settle)

/-- CLASS2_ERASE_DONE: a working-key erase completes; KS derives the device keys again, and the islands resume (R389). -/
def execClass2EraseDone (dt : Nat) (s : State) : Host.Outcome State Fault Refusal :=
  .next (((s.tick dt).eraseEnds).settle)

/-- PFW_N_DEASSERTED: the warning ends with power present, and stopped work resumes (R350). -/
def execPfwNDeasserted (dt : Nat) (s : State) : Host.Outcome State Fault Refusal :=
  .next (((s.tick dt).pfwEnds).settle)

/-- ISLAND_POWERED_UP: an island is on again, its memories cleared and its channels open; a request that stands is deferred or taken up again (R325). -/
def execIslandPoweredUp (dt n : Nat) (s : State) : Host.Outcome State Fault Refusal :=
  .next (((s.tick dt).poweredUp n).trainLinks.settle)

end Sys2Proof.Machine
end

