-- ==== Sys2Proof/Machine/RegWrite.lean ====
section
/-! DEFINITION. A write to a register: the access checks, the access codes of R3, and the registers whose writes do more than set their fields. Log entries of this file: DEDUCED 191, 196, 197, 198, 199, 200; DESIGN CHOICE 165, 203, 235; PRESUMED 190. -/

namespace Sys2Proof.Machine

/-- The octets that a write brings to a register: the value with zeros where it brings none, and ones over the octets brought. -/
structure Written where
  value : Word
  mask : Word
deriving DecidableEq, Repr

/-- A field with every octet of it that the write brings taken from the write. -/
def Written.over (w : Written) (old : Word) : Word := (old &&& ~~~w.mask) ||| w.value

/-- The write brings an octet of a field. -/
def Written.hits (w : Written) (f : Fld) : Bool := wordField w.mask f.hi f.lo != 0

/-- The value that a write brings to a field, zero where it does not. -/
def Written.bitsOf (w : Written) (f : Fld) : Nat := wordField w.value f.hi f.lo

/-- The write brings a 1 to a one-bit field. -/
def Written.sets (w : Written) (f : Fld) : Bool := w.bitsOf f == 1

/-- The effect of a write on one field (R3): ones clear or set, other fields take the octets brought. -/
def Written.field (w : Written) (locked : Bool) (old : Word) (f : Fld) : Word :=
  match f.acc with
  | .w1c => fieldWrite locked w.value old f
  | .w1s => fieldWrite locked w.value old f
  | _ => fieldWrite locked (w.over old) old f

/-- A write to the fields of a register that pass a test, by their access codes (R3). -/
def State.writeFields (s : State) (r : RegRef) (w : Written) (locked : Bool) (p : Fld → Bool) : State :=
  s.setReg r.name r.index ((r.name.fields.filter p).foldl (w.field locked) (s.reg r.name r.index))

/-- A write to a register without behaviour of its own (R3). -/
def State.writePlain (s : State) (r : RegRef) (w : Written) : State := s.writeFields r w false (fun _ => true)

/-- A write to a configuration register of a queue pair: while the queue pair runs it is discarded and sets `cfgerr`. -/
def State.writeQpConfig (s : State) (r : RegRef) (w : Written) : State :=
  if s.flag Fld.CMD_QP_STATUS_running r.index then s.fset Fld.CMD_QP_STATUS_cfgerr r.index 1 else s.writePlain r w

/-- A write to `CMD_QP_CTRL` (R40, R41, R505): with both bits set, a queue pair that does not run is enabled, and one that runs is stopped. -/
def State.writeQpCtrl (s : State) (i : Nat) (w : Written) : State :=
  if w.sets Fld.CMD_QP_CTRL_enable && !s.flag Fld.CMD_QP_STATUS_running i then s.enableQp (i / 8) (i % 8)
  else if w.sets Fld.CMD_QP_CTRL_stop then s.stopQp (i / 8) (i % 8) else s

/-- A write to `SLC_DLOG_CTRL`: its clearing bits, then `enable`, then `flip` of a log that was enabled before (R88, R89). -/
def State.writeDlogCtrl (s : State) (r : RegRef) (w : Written) : State :=
  let sl := r.index
  let was := s.flag Fld.SLC_DLOG_CTRL_enable sl
  let s := s.writeFields r w false (fun f => f.acc == .w1c)
  let s := if w.hits Fld.SLC_DLOG_CTRL_enable then (if w.sets Fld.SLC_DLOG_CTRL_enable then s.dlogEnable sl else s.dlogDisable sl) else s
  if was && w.sets Fld.SLC_DLOG_CTRL_flip then s.dlogFlip sl else s

/-- A write to a buffer or window register of a dirty log (R89). -/
def State.writeDlogBuf (s : State) (r : RegRef) (w : Written) : State :=
  if s.flag Fld.SLC_DLOG_CTRL_enable r.index then s.fset Fld.SLC_DLOG_CTRL_err r.index 1 else s.writePlain r w

/-- A write that a lock discards, reported with reason 0x0A. -/
def State.writeLocked (s : State) (m : Master) (addr : Nat) (locked : Bool) (t : State) : State :=
  if locked then s.report m .write addr 0x0A 0xFFFF else t

/-- A write to `RNG_TEST`: `enable`, then `pattern` (R310, R311). -/
def State.writeRngTest (s : State) (m : Master) (w : Written) : State :=
  let s :=
    if !w.hits Fld.RNG_TEST_enable then s
    else if w.sets Fld.RNG_TEST_enable then s.askTest m
    else if s.flag Fld.RNG_STATUS_test 0 then s.leaveTest else s
  if w.sets Fld.RNG_TEST_pattern then s.askPattern m
  else if w.hits Fld.RNG_TEST_pattern && s.flag Fld.RNG_STATUS_test 0 then
    (s.fset Fld.RNG_TEST_pattern 0 0).fset Fld.RNG_STATUS_pattern 0 0
  else s

/-- A write to `RNG_PATTERN_SEED`, discarded outside FACTORY; a value of 0 acts as 1. -/
def State.writePatternSeed (s : State) (r : RegRef) (w : Written) : State :=
  if s.lc != 1 then s
  else
    let t := s.writePlain r w
    if t.fget Fld.RNG_PATTERN_SEED_seed 0 == 0 then t.fset Fld.RNG_PATTERN_SEED_seed 0 1 else t

/-- A write to `TBL_FC_CTRL`: the sweeper pass in effect is 10 to 60,000 ms. -/
def State.writeFcCtrl (s : State) (r : RegRef) (w : Written) : State :=
  let t := s.writePlain r w
  t.fset Fld.TBL_FC_CTRL_pass_ms 0 (max 10 (min 60000 (t.fget Fld.TBL_FC_CTRL_pass_ms 0)))

/-- A write to a rule register (R333, R334), with `WLD_ISLANDn.rel` before the rest of its register. -/
def State.writeRule (s : State) (m : Master) (r : RegRef) (addr : Nat) (w : Written) : State :=
  let s := if r.name == .WLD_ISLAND && w.hits Fld.WLD_ISLAND_rel then s.releaseWrite r.index (w.sets Fld.WLD_ISLAND_rel) else s
  match s.ruleWrite r (w.over (s.reg r.name r.index)) with
  | some t => t.emit (.ack addr)
  | none => s.report m .write addr 0x0A 0xFFFF

/-- A write to a recovery register: discarded and reported outside RECOVERY (R367). `DEV_RCV_CTRL.go` acts through RECOVERY_GO. -/
def State.writeRecovery (s : State) (m : Master) (r : RegRef) (addr : Nat) (w : Written) : State :=
  s.writeLocked m addr (s.phase != 0xE) (if r.name == .DEV_RCV_CTRL then s else s.writePlain r w)

/-- A write to `REC_CTRL` (R429, R435). -/
def State.writeRecCtrl (s : State) (r : RegRef) (w : Written) : State :=
  (s.writeFields r w false (fun f => f.acc == .w1s)).softEvent (w.bitsOf Fld.REC_CTRL_soft)

/-- A write to `REC_NV_CFG`: `size` is discarded while a flush runs (R436). -/
def State.writeNvCfg (s : State) (r : RegRef) (w : Written) : State :=
  let s := if s.flag Fld.REC_CTRL_flush 0 then s else s.writeFields r w false (fun f => f.acc == .rw)
  if w.sets Fld.REC_NV_CFG_reset then s.regionReset else s

/-- A write to `PMC_DUMP_CTRL`: while dumps run only `enable` and `err` take it (R439). -/
def State.writeDumpCtrl (s : State) (r : RegRef) (w : Written) : State :=
  let on := s.flag Fld.PMC_DUMP_CTRL_enable 0
  let s := s.writeFields r w false (fun f => f != Fld.PMC_DUMP_CTRL_enable && (f.acc == .w1c || !on))
  if !w.hits Fld.PMC_DUMP_CTRL_enable then s
  else if w.sets Fld.PMC_DUMP_CTRL_enable then s.enableDump else s.fset Fld.PMC_DUMP_CTRL_enable 0 0

/-- A write to `PMC_METER_CTRL`: while meter ticks run only `enable`, `err` and `interval` take it, and a write of 0 is refused while a reservation is held (R441, R443). -/
def State.writeMeterCtrl (s : State) (r : RegRef) (w : Written) : State :=
  let on := s.flag Fld.PMC_METER_CTRL_enable 0
  let s := s.writeFields r w false (fun f => f != Fld.PMC_METER_CTRL_enable && (f.acc == .w1c || f == Fld.PMC_METER_CTRL_interval || !on))
  if !w.hits Fld.PMC_METER_CTRL_enable then s
  else if w.sets Fld.PMC_METER_CTRL_enable then s.enableMeter
  else if on && 0 < s.meterReserved then s.fset Fld.PMC_METER_CTRL_err 0 1
  else s.fset Fld.PMC_METER_CTRL_enable 0 0

/-- A port's link goes down; frames already staged for it are dropped as `overflow` (R327, R460). -/
def State.portFalls (s : State) (port : Nat) : State :=
  let hit := s.tbl.frames.cells.filter (fun e => s.partner e.2.port == port && e.2.at_ != .cluster)
  (hit.foldl (fun s e => s.loseFrame e.1 .overflow) s).portLost port

/-- A port's link goes down and trains again (R460, R461). A C2M type trains nothing (R458), and a mode that keeps the links down trains none. -/
def State.retrain (s : State) (port : Nat) : State :=
  let c2m := s.fget Fld.NET_PORT_STATUS_c2m port
  let s := (s.portFalls port).fset Fld.NET_PORT_STATUS_c2m port c2m
  if c2m = 1 || modeDown (s.fget Fld.DEV_MODE_mode 0) then s else s.fset Fld.NET_PORT_STATUS_training port 1

/-- A write to `NET_LANE_CFGn`: the lane's port retrains. -/
def State.writeLane (s : State) (r : RegRef) (w : Written) : State :=
  (s.writePlain r w).retrain (r.index / (16 / s.ports))

/-- A write that reaches a register through the PF1 page, the PF0 window or the internal address space, past the checks of R5 and R33. -/
def State.writeReg (s : State) (m : Master) (addr : Nat) (r : RegRef) (w : Written) : State :=
  let i := r.index
  match r.name with
  | .CMD_QP_CTRL => s.writeQpCtrl i w
  | .CMD_QP_SIZE => s.writeQpConfig r w
  | .CMD_QP_IRQ => s.writeQpConfig r w
  | .CMD_SQ_BASE => s.writeQpConfig r w
  | .CMD_CQ_BASE => s.writeQpConfig r w
  | .CMD_SQ_TAIL => if w.hits Fld.CMD_SQ_TAIL_tail then s.sqDoorbell i (wordField (w.over (s.reg .CMD_SQ_TAIL i)) 15 0) else s
  | .CMD_CQ_HEAD => if w.hits Fld.CMD_CQ_HEAD_head then s.cqDoorbell i (wordField (w.over (s.reg .CMD_CQ_HEAD i)) 15 0) else s
  | .SLC_DLOG_CTRL => s.writeDlogCtrl r w
  | .SLC_DLOG_BUF0 => s.writeDlogBuf r w
  | .SLC_DLOG_BUF1 => s.writeDlogBuf r w
  | .SLC_DLOG_WIN => s.writeDlogBuf r w
  | .KS_COMPAT_CFG => s.writeLocked m addr (s.flag Fld.KS_COMPAT_LOCK_lock 0) (s.writePlain r w)
  | .KS_COMPAT_LOCK => if w.sets Fld.KS_COMPAT_LOCK_lock then s.compatLock else s
  | .KS_SUCC_CTRL => if w.sets Fld.KS_SUCC_CTRL_abandon then s.succAbandon else s
  | .KS_WIPE => s.askWipe (w.bitsOf Fld.KS_WIPE_code)
  | .PKE_CORE_FAULT => if s.windowOpen i then s.writePlain r w else s
  | .PKE_CORE_ZERO => if s.windowOpen i && w.bitsOf Fld.PKE_CORE_ZERO_code == 0x2E40 then s.zeroCore i else s
  | .TBL_FC_CTRL => s.writeFcCtrl r w
  | .RNG_CTRL => if w.sets Fld.RNG_CTRL_restart then s.askRestart else s
  | .RNG_TEST => s.writeRngTest m w
  | .RNG_PATTERN_SEED => s.writePatternSeed r w
  | .MPU_BASE => s.writeRule m r addr w
  | .MPU_CTRL => s.writeRule m r addr w
  | .WLD_PER => s.writeRule m r addr w
  | .WLD_IRQ => s.writeRule m r addr w
  | .WLD_ISLAND => s.writeRule m r addr w
  | .WLD_DBG => s.writeRule m r addr w
  | .DEV_PWR_REQ => if w.hits Fld.DEV_PWR_REQ_req then s.powerRequest m i (w.bitsOf Fld.DEV_PWR_REQ_req) else s
  | .DEV_IRQ_MASK => if w.hits Fld.DEV_IRQ_MASK_mask then s.maskWrite (w.bitsOf Fld.DEV_IRQ_MASK_mask) else s
  | .DEV_RCV_ADDR => s.writeRecovery m r addr w
  | .DEV_RCV_LEN => s.writeRecovery m r addr w
  | .DEV_RCV_CTRL => s.writeRecovery m r addr w
  | .GNT_SWITCH_CFG => s.writeLocked m addr (s.flag Fld.GNT_LOCK_lock 0) (s.writeFields r w false (fun _ => true))
  | .GNT_SENSOR =>
    s.writeLocked m addr (s.flag Fld.GNT_LOCK_lock 0)
      (if w.hits Fld.GNT_SENSOR_class then s.writeSensor i (w.bitsOf Fld.GNT_SENSOR_class) else s)
  | .REC_CTRL => s.writeRecCtrl r w
  | .REC_NV_CFG => s.writeNvCfg r w
  | .PMC_DUMP_CTRL => s.writeDumpCtrl r w
  | .PMC_DUMP_BASE => if s.flag Fld.PMC_DUMP_CTRL_enable 0 then s else s.writePlain r w
  | .PMC_METER_CTRL => s.writeMeterCtrl r w
  | .PMC_METER_BASE => if s.flag Fld.PMC_METER_CTRL_enable 0 then s else s.writePlain r w
  | .PMC_METER_PTR =>
    if w.hits Fld.PMC_METER_PTR_head then s.meterHead (wordField (w.over (s.reg .PMC_METER_PTR 0)) 15 0) else s
  | .HLU_CTO => if 64 < wordField (w.over (s.reg .HLU_CTO 0)) 6 0 then s else s.writePlain r w
  | .NET_LANE_CFG => s.writeLane r w
  | _ => s.writePlain r w

/-- The register at an address of an address map. -/
def regAt (sp : AddrSpace) (a : Nat) : Option RegRef :=
  match sp with
  | .pf0 => pf0Reg a
  | .pf1 => pf1Reg a
  | .internal => internalReg a

/-- The octets of a write that fall on the 32 bits at an aligned address: those of `len` octets from `addr` on. -/
def pieceMask (addr len a : Nat) : Nat :=
  (List.range 4).foldl (fun x k => if addr ≤ a + k && a + k < addr + len then x + 0xFF <<< (8 * k) else x) 0

/-- 32 bits of a write at an aligned address, placed in their register. -/
def Written.piece (r : RegRef) (a value mask : Nat) : Written :=
  let sh := 8 * (a % r.name.loc.bytes / 4 * 4)
  let v := BitVec.ofNat 64 ((value &&& mask) <<< sh)
  ⟨v, BitVec.ofNat 64 (mask <<< sh)⟩

/-- The octets that a write brings to 32 bits at an aligned address. -/
def pieceValue (addr a value : Nat) : Nat :=
  if addr ≤ a then value >>> (8 * (a - addr)) % 2 ^ 32 else (value <<< (8 * (addr - a))) % 2 ^ 32

/-- Operand memory of a public-key core: word `j` at window offset 8 × j, from word 512 on (R36, R164); the system area below it has no place in the window. -/
def opWord (a : Nat) : Option (Nat × Nat) :=
  if 0x50000000 ≤ a && a ≤ 0x5047FFFF && 0x1000 ≤ a % 0x10000 then some ((a - 0x50000000) / 0x10000, a % 0x10000 / 8) else none

/-- 32 bits written to operand memory through an open window (R36). -/
def State.writeOperand (s : State) (n j a value mask : Nat) : State :=
  if !s.windowOpen n then s
  else
    let k := 8192 * n + j
    let sh := 8 * (a % 8)
    let old := BitVec.ofNat 64 (s.pke.opmem.getD k 0)
    let w : Written := ⟨BitVec.ofNat 64 ((value &&& mask) <<< sh), BitVec.ofNat 64 (mask <<< sh)⟩
    { s with pke := { s.pke with opmem := s.pke.opmem.setD 0 k (w.over old).toNat } }

/-- 32 bits of a write, at an aligned address. -/
def State.writePiece (s : State) (m : Master) (sp : AddrSpace) (addr len value a : Nat) : State :=
  let mask := pieceMask addr len a
  let v := pieceValue addr a value
  match sp, opWord a with
  | .internal, some (n, j) => s.writeOperand n j a v mask
  | _, _ =>
    match regAt sp a with
    | some r => if s.worldAllows m .write r then s.writeReg m a r (Written.piece r a v mask) else s
    | none => s

/-- The pair whose local memory an access names: its master, or the halted pair for the debug port (R35, R336). -/
def State.memoryPair (s : State) (m : Master) : Option Nat :=
  if m.source == 2 then s.haltedPair else if 8 ≤ m.island && m.island < 16 then some (m.island - 8) else none

/-- Octets of the RP's own local memory, at the addresses of a pair's (R25, R35): 256 KiB; what lies above is not there (DESIGN CHOICE, log entry 235). -/
def State.rpStore (s : State) (addr : Nat) (b : Bytes) : State :=
  let m := (b.zipIdx.filter (fun e => decide (addr + e.2 < 0x10040000))).foldl (fun m e => m.setD 0 (addr + e.2) e.1) s.wld.rp
  { s with wld := { s.wld with rp := m } }

/-- A permitted write to memory (R35, R328): the RP sees the same map, with its own memory in place of a pair's. -/
def State.memoryWrite (s : State) (m : Master) (addr : Nat) (b : Bytes) : State :=
  if 0x100000000 ≤ addr then s.emit (.hostWrite m.pasid addr b)
  else if m.source != 2 && m.island == 0x01 then s.rpStore addr b
  else
    match s.memoryPair m with
    | some p => s.memoryStore p m.pasid addr b
    | none => s

/-- A write of `len` octets: discarded and reported where it violates, discarded in a window that is closed, and otherwise made to the memory or the registers that it covers. -/
def State.registerWrite (s : State) (m : Master) (sp : AddrSpace) (addr len value : Nat) : State :=
  match s.accessCheck m .write sp addr len with
  | some (reason, page) => (s.report m .write addr reason page).judgeRecord m reason
  | none =>
    if sp == .pf0 && s.windowClosed m addr then s
    else if sp == .internal && mpuGoverned addr then s.memoryWrite m addr (natLE len value)
    else (List.range ((addr % 4 + len + 3) / 4)).foldl (fun s k => s.writePiece m sp addr len value (addr / 4 * 4 + 4 * k)) s

/-- REGISTER_WRITE: a write of `len` octets by a master in an address space (R3, R5, R33 to R36, R359). -/
def execRegisterWrite (dt : Nat) (m : Master) (space : AddrSpace) (addr len value : Nat) (s : State) :
    Host.Outcome State Fault Refusal :=
  .next ((s.tick dt).registerWrite m space addr len value)

/-- NET_LANE_CFG_WRITE: a write to `NET_LANE_CFGn` retrains the lane's port (R461). -/
def execNetLaneCfgWrite (dt : Nat) (m : Master) (lane value : Nat) (s : State) : Host.Outcome State Fault Refusal :=
  let s := s.tick dt
  if lane < 16 then .next (s.registerWrite m .pf0 (0x200100 + 4 * lane) 4 (value % 2 ^ 32)) else .next s

end Sys2Proof.Machine
end

