-- ==== Sys2Proof/Machine/Links.lean ====
section
/-! DEFINITION. The links' own events: ports (R460), refused DMA requests (R42, R49, R452), IDE failures (R454), and the test access port with its debug protocol (R467, R468). Log entries of this file: DEDUCED 194, 195, 204, 237; DESIGN CHOICE 13, 25, 183, 184, 193, 203, 206. -/

namespace Sys2Proof.Machine

/-- PORT_LINK_UP: a port's link comes up, with its interrupt (R460). The FEC is always in use (R458). -/
def execPortLinkUp (dt port : Nat) (c2m : Bool) (s : State) : Host.Outcome State Fault Refusal :=
  let s := s.tick dt
  if s.portMayTrain port && !s.linkUp port then
    let s := (s.setReg .NET_PORT_STATUS port 0).fset Fld.NET_PORT_STATUS_up port 1
    .next (((s.fset Fld.NET_PORT_STATUS_fec_lock port 1).fset Fld.NET_PORT_STATUS_c2m port (b2n c2m)).raiseIrq (0x80 + port))
  else .next s

/-- PORT_LINK_DOWN: a port's link goes down, with its interrupt; frames already staged for it are dropped as `overflow` (R460), and it trains again. -/
def execPortLinkDown (dt port : Nat) (s : State) : Host.Outcome State Fault Refusal :=
  let s := s.tick dt
  if s.linkUp port then .next (s.retrain port) else .next s

/-- The ports that use lanes of a NET island (R457). -/
def State.netPorts (s : State) (n : Nat) : List Nat := (List.range 16).filter (fun p => s.portUses p (n - 0x10))

/-- The registers of a NET island's lanes and ports take their reset values: a gated island keeps no state (R325). -/
def State.netForgets (s : State) (n : Nat) : State :=
  let s := (s.netPorts n).foldl (fun s p => [RegName.NET_FEC_CORR, .NET_FEC_UNCORR, .NET_FCS_ERR, .NET_SIZE_ERR, .NET_MACCTL].foldl
    (fun s r => s.setReg r p 0) s) s
  (List.range 4).foldl (fun s k => s.setReg .NET_LANE_CFG (4 * (n - 0x10) + k) 0) s

/-- A NET island is clock-stopped or gated as its request says: the links of its ports go down with the frames staged to leave on them (R327), and a gated island keeps no state (R325). -/
def State.netOff (s : State) (n req : Nat) : State :=
  let s := (s.netPorts n).foldl State.portFalls (s.fset Fld.WLD_ISLAND_pwr n req)
  if req == 2 then s.netForgets n else s

/-- ISLAND_GATED: a draining island is clock-stopped or gated as its request says, or powers up where the request no longer stands (R323, R327). -/
def execIslandGated (dt n : Nat) (s : State) : Host.Outcome State Fault Refusal :=
  let s := s.tick dt
  if s.fget Fld.WLD_ISLAND_pwr n == 3 && !s.islandHeld n then
    let req := s.fget Fld.WLD_ISLAND_req n
    if req == 0 || !s.islandFree n then .next (s.fset Fld.WLD_ISLAND_pwr n 4)
    else if islandConfigurable n then .next (s.netOff n req)
    else .next (s.fset Fld.WLD_ISLAND_pwr n req)
  else .next s

/-- A DMA request of a packet is refused: the packet completes with REJECTED, and a job of it makes no result (R49). -/
def State.packetRefused (s : State) (pid : Nat) : State :=
  match s.cmd.packets.get? pid with
  | none => s
  | some p =>
    let s := s.setPacket pid { p with data := { p.data with refused := true } }
    match s.pke.jobs.get? pid with
    | none => s
    | some j =>
      match j.at_ with
      | .hashing => (s.setJob pid { j with at_ := .pending, reject := true }).dropBlk (2 * pid)
      | .pending => s.setJob pid { j with reject := true }
      | .assigned _ => s.setJob pid { j with reject := true }
      | .gate _ _ => (s.unmakeKey j.res.result).setJob pid { j with res := JobRes.of .rejected }
      | _ => s.setJob pid { j with res := { JobRes.of .rejected with verdict := j.res.verdict } }

/-- A refused DMA request, by what it was made for (R42, R49, R452). -/
def State.dmaFails (s : State) (u : DmaUse) : State :=
  let s := s.bumpSat Fld.HLU_DMA_ERR_count 0 1
  match u with
  | .fetch ring q => if s.canFetch ring q then (s.fset Fld.CMD_QP_STATUS_fetcherr (qpi ring q) 1).stopQp ring q else s
  | .completion ring q =>
    if s.flag Fld.CMD_QP_STATUS_running (qpi ring q) then (s.fset Fld.CMD_QP_STATUS_cqerr (qpi ring q) 1).stopQp ring q else s
  | .packet pid => s.packetRefused pid
  | .dlog _ => s
  | .other => s

/-- DMA_REFUSED: a completion carries Unsupported Request, Completer Abort or poison (R452). -/
def execDmaRefused (dt : Nat) (dma : DmaUse) (s : State) : Host.Outcome State Fault Refusal :=
  .next ((s.tick dt).dmaFails dma).settle

/-- DMA_COMPLETION_TIMEOUT: no completion arrived within `HLU_CTO.ms` (R452). -/
def execDmaCompletionTimeout (dt : Nat) (dma : DmaUse) (s : State) : Host.Outcome State Fault Refusal :=
  .next ((s.tick dt).dmaFails dma).settle

/-- LATE_COMPLETION: a completion after its timeout is discarded and counted (R452). -/
def execLateCompletion (dt : Nat) (s : State) : Host.Outcome State Fault Refusal :=
  .next ((s.tick dt).bumpSat Fld.HLU_DMA_ERR_count 0 1)

/-- IDE_INTEGRITY_FAILURE: the stream enters Insecure, its TLP is discarded, and a DMA request whose completion is lost so is refused (R454). -/
def execIdeIntegrityFailure (dt stream : Nat) (dma : Option DmaUse) (s : State) : Host.Outcome State Fault Refusal :=
  let s := s.tick dt
  if ideSecure s.lnk.ide stream then
    let s := s.bumpSat Fld.HLU_IDE_FAIL_count 0 1
    let s := s.setIde (s.lnk.ide.map (fun e => if e.stream == stream then { e with active := false } else e))
    .next (match dma with | some u => (s.dmaFails u).settle | none => s)
  else .next s

/-- The test access port holds an instruction. -/
def State.setTap (s : State) (code : Nat) : State := { s with lnk := { s.lnk with tap := code } }

/-- EXTEST, CLAMP and HIGHZ execute: PORST_N is asserted, or the device is in BLANK or SCRAP (R467). -/
def State.scanDrives (s : State) : Bool := s.phase == 0 || s.lc == 0 || s.lc == 6

/-- The pins whose boundary-scan cells sample and never drive (R468). -/
def sampleOnly : List String := ["ZEROIZE_N", "PFW_N", "TSW0", "TSW1", "TSW2", "TSW3", "LOOP0D", "LOOP1D", "LOOP0S", "LOOP1S"]

/-- EXTEST: boundary scan drives the pins, or the instruction acts as BYPASS (R467, R468). -/
def execExtest (dt : Nat) (drive : List (String × Bool)) (s : State) : Host.Outcome State Fault Refusal :=
  let s := s.tick dt
  if s.scanDrives then
    .next ((drive.filter (fun e => !sampleOnly.contains e.1)).foldl (fun s e => s.emit (.pin e.1 e.2)) (s.setTap 0))
  else .next (s.setTap 31)

/-- SAMPLE_PRELOAD: always available (R467). -/
def execSamplePreload (dt : Nat) (s : State) : Host.Outcome State Fault Refusal := .next ((s.tick dt).setTap 1)

/-- IDCODE: the bypass register is selected, since the device has no identification register (R467). -/
def execIdcode (dt : Nat) (s : State) : Host.Outcome State Fault Refusal := .next ((s.tick dt).setTap 2)

/-- CLAMP: as EXTEST in when it executes (R467). -/
def execClamp (dt : Nat) (s : State) : Host.Outcome State Fault Refusal :=
  let s := s.tick dt
  .next (s.setTap (if s.scanDrives then 4 else 31))

/-- HIGHZ: as EXTEST in when it executes (R467). -/
def execHighz (dt : Nat) (s : State) : Host.Outcome State Fault Refusal :=
  let s := s.tick dt
  .next (s.setTap (if s.scanDrives then 5 else 31))

/-- BYPASS, and every unassigned code (R467). -/
def execBypass (dt : Nat) (s : State) : Host.Outcome State Fault Refusal := .next ((s.tick dt).setTap 31)

/-- What a read of a register of the secure space returns: the stored content, with the fields that KS, LC and the cores derive. -/
def State.readSecure (s : State) (r : RegName) (i : Nat) : Word :=
  let w := s.readReg r i
  match r with
  | .KS_STATUS => put Fld.KS_STATUS_reseal s.bb.journal.state w
  | .KS_FREE_LINES => put Fld.KS_FREE_LINES_free s.freeLines w
  | .KS_RESEAL_COUNT =>
    put Fld.KS_RESEAL_COUNT_total s.bb.journal.total (put Fld.KS_RESEAL_COUNT_done s.bb.journal.done.length w)
  | .KS_FSEAL_BYTES => put Fld.KS_FSEAL_BYTES_bytes s.fsealBytes w
  | .KS_EXPORT_PEND =>
    match s.bb.exportRec with
    | some (sl, _) => put Fld.KS_EXPORT_PEND_pending 1 (put Fld.KS_EXPORT_PEND_slice sl w)
    | none => w
  | .LC_FLAGS => BitVec.ofNat 64 s.otp.voted.toNat
  | .LC_COPY => BitVec.ofNat 64 (s.otp.word.toList.getD i 0).toNat
  | .LC_JOURNAL => s.otp.record i
  | .LC_DQ =>
    let n := (List.range 16).filter s.otp.dqWritten
    let sp := (List.range 16).filter (fun k => !s.otp.dqWritten k && !s.otp.dqFree k)
    let w := put Fld.LC_DQ_spoiled sp.length (put Fld.LC_DQ_written n.length w)
    match s.otp.dqCurrent with
    | some k => put Fld.LC_DQ_valid 1 (put Fld.LC_DQ_current k w)
    | none => w
  | .LC_DQ_DIGEST =>
    match s.otp.dqCurrent with
    | some k => BitVec.ofNat 64 (field (s.otp.dqDigest k) (4 * i) 4)
    | none => 0
  | .PKE_CORE_ID => put Fld.PKE_CORE_ID_island (i / 9) (put Fld.PKE_CORE_ID_core (i % 9) w)
  | _ => w

/-- A read of 32 bits of operand memory: zero while the core's window is closed (R36). -/
def State.readOperand (s : State) (n j a : Nat) : Nat :=
  if s.windowOpen n then s.pke.opmem.getD (8192 * n + j) 0 >>> (8 * (a % 8 / 4 * 4)) % 2 ^ 32 else 0

/-- 32 bits of a register or a window at an internal address (R35, R36, R399, R434, R466), as the debug port reads them. -/
def State.readInternal (s : State) (a : Nat) : Nat :=
  match s.windowWord (s.debugEnabled false .read) a with
  | some v => v
  | none =>
  if 0x44010000 ≤ a && a < 0x44030000 then s.evidenceWord (a - 0x44010000)
  else
    match opWord a with
    | some (n, j) => s.readOperand n j a
    | none =>
      match internalReg a with
      | some r =>
        if 0x50000000 ≤ a && !s.windowOpen r.index then 0
        else (s.readSecure r.name r.index).toNat >>> (8 * (a % r.name.loc.bytes / 4 * 4)) % 2 ^ 32
      | none => 0

/-- The debug port as a master (R331). -/
def debugMaster : Master := ⟨0xFF, 2, none⟩

/-- A debug read of memory for the halted pair; what no pair or the host would supply is free. -/
def State.readMemory (s : State) (a : Nat) : Nat × State :=
  match s.haltedPair, decide (a < 0x100000000) with
  | some p, true =>
    ((List.range 4).foldl (fun n k => n + ((s.pairOf p).mem.getD (a + k) 0).toNat <<< (8 * k)) 0, s)
  | _, _ => s.choose (2 ^ 32)

/-- The addresses that the debug port never reaches: KS and RNG (R468). -/
def debugBarred (a : Nat) : Bool := (0x40000000 ≤ a && a ≤ 0x40FFFFFF) || (0x42000000 ≤ a && a ≤ 0x42FFFFFF)

/-- The port carries debug accesses: the device is out of reset and in a state other than BLANK and SCRAP (R468). -/
def State.debugCarries (s : State) : Bool := 2 ≤ s.phase && s.lc != 0 && s.lc != 6

/-- A debug read that the rules permit; a read of `WLD_ASV_REC7` takes the record (R331). -/
def State.debugRead (s : State) (a : Nat) : State :=
  if mpuGoverned a then
    let (v, s) := s.readMemory a
    s.emit (.readData a v)
  else
    let s := s.emit (.readData a (s.readInternal a))
    if a / 4 * 4 == 0x4500082C then { s with wld := { s.wld with asv := s.wld.asv.drop 1 } } else s

/-- A debug access of 32 bits (R335, R336, R468): refused accesses read zero and write nothing. -/
def State.debugAccess (s : State) (kind : AccKind) (a value : Nat) : State :=
  if !s.debugCarries || debugBarred a then if kind == .write then s else s.emit (.readData a 0)
  else if kind == .write then s.registerWrite debugMaster .internal a 4 (value % 2 ^ 32)
  else
    match s.accessCheck debugMaster .read .internal a 4 with
    | some (reason, page) => (s.report debugMaster .read a reason page).emit (.readData a 0)
    | none => s.debugRead a

/-- PDP: the debug protocol register is selected, and an access is made (R467, R468). -/
def execPdp (dt : Nat) (kind : AccKind) (addr value : Nat) (s : State) : Host.Outcome State Fault Refusal :=
  .next (((s.tick dt).setTap 16).debugAccess kind addr value)

/-- READY is high (R486). -/
def State.pinReady (s : State) : Bool := s.booted

/-- HOLD_N is low (R486); on backup power it is undriven (R497). -/
def State.pinHold (s : State) : Bool := s.gnt.main && s.flag Fld.GNT_STATUS_hold_any 0

/-- ERASE_N is low: for 10 ms from the first decision of the response, over a reset too, and while the erase runs (R486); on backup power it is undriven (R497). -/
def State.pinErase (s : State) : Bool :=
  s.gnt.main && (s.erasing || match s.gnt.eraseAt with | some t => decide (s.gnt.kaNs < t + 10000000) | none => false)

/-- KA_ALM_N is low (R486). -/
def State.pinAlarm (s : State) : Bool := s.clearHeld

end Sys2Proof.Machine
end

