-- ==== Sys2Proof/Machine/SignCmds.lean ====
section
/-! DEFINITION. SIGN and VERIFY: the hashing of a public message in a bulk cluster before the job (R205, R206), then the job. -/

namespace Sys2Proof.Machine

/-- The octets of the message of a SIGN or VERIFY packet (R204, R205). -/
def messageLen (p : Packet) (t : Nat) : Nat :=
  if p.opcode == 0x0302 then p.inTotal - (if p.par 1 1 == 1 then pubLen t else 0) - sigLen t else p.inTotal

/-- The message of an accepted job goes to a bulk cluster, as keyless work (R206, R237); a job that is to be rejected runs on substituted operands and hashes none. -/
def State.hashMessage (s : State) (pid : Nat) : State :=
  match s.pke.jobs.get? pid, s.cmd.packets.get? pid with
  | some j, some p =>
    if !j.reject && hashesMessage j.typ (p.par 0 0) && j.at_ == .pending then
      let n := messageLen p j.typ
      ((s.setJob pid { j with at_ := .hashing }).addBlk (2 * pid) (mkBlk none n 0 s.blk.stamp (max 1 (ceilDiv n 4096)))).steerWaiting
    else s
  | _, _ => s

/-- The run of SIGN or VERIFY: its acceptance, then the hashing of its message. -/
def State.runSigned (s : State) (opc pid : Nat) (d : PktData) : State :=
  s.runPacket opc pid d (fun s pid p => (s.accepted pid (s.askAsym opc pid p)).hashMessage pid)

/-- SIGN (R205, R206, R211, R219). -/
def execSign (dt pid : Nat) (d : PktData) (s : State) : Host.Outcome State Fault Refusal := .next ((s.tick dt).runSigned 0x0301 pid d)

/-- VERIFY (R205, R206, R220). -/
def execVerify (dt pid : Nat) (d : PktData) (s : State) : Host.Outcome State Fault Refusal := .next ((s.tick dt).runSigned 0x0302 pid d)

end Sys2Proof.Machine
end

