-- ==== Sys2Proof/Machine/Dispatch.lean ====
section
/-! DEFINITION. The dispatch of commands to their meanings, one arm per constructor. -/

namespace Sys2Proof.Machine

/-- The effect of a command on everything but the queue. -/
def exec (i : Instr) (s : State) : Host.Outcome State Fault Refusal :=
  match i with
  | .powerOnReset dt cut => Sys2Proof.Machine.execPowerOnReset dt cut s
  | .coldReset dt cut => Sys2Proof.Machine.execColdReset dt cut s
  | .rpReset dt cut => Sys2Proof.Machine.execRpReset dt cut s
  | .hostLinkReset dt => Sys2Proof.Machine.execHostLinkReset dt s
  | .functionLevelReset dt pf1 => Sys2Proof.Machine.execFunctionLevelReset dt pf1 s
  | .bootPhaseRom dt xsp => Sys2Proof.Machine.execBootPhaseRom dt xsp s
  | .bootPhaseKeys dt => Sys2Proof.Machine.execBootPhaseKeys dt s
  | .bootPhaseImages dt => Sys2Proof.Machine.execBootPhaseImages dt s
  | .islandSelftestDone dt island pass => Sys2Proof.Machine.execIslandSelftestDone dt island pass s
  | .bootPhaseFirmware dt => Sys2Proof.Machine.execBootPhaseFirmware dt s
  | .bootReady dt => Sys2Proof.Machine.execBootReady dt s
  | .recoveryGo dt image refused => Sys2Proof.Machine.execRecoveryGo dt image refused s
  | .qpEnable dt pasid ring q => Sys2Proof.Machine.execQpEnable dt pasid ring q s
  | .qpStop dt pasid ring q => Sys2Proof.Machine.execQpStop dt pasid ring q s
  | .qpStopComplete dt ring q => Sys2Proof.Machine.execQpStopComplete dt ring q s
  | .sqTailDoorbell dt pasid ring q value => Sys2Proof.Machine.execSqTailDoorbell dt pasid ring q value s
  | .cqHeadDoorbell dt pasid ring q value => Sys2Proof.Machine.execCqHeadDoorbell dt pasid ring q value s
  | .sqEntryFetch dt ring q entry ahead => Sys2Proof.Machine.execSqEntryFetch dt ring q entry ahead s
  | .randomnessReady dt pid => Sys2Proof.Machine.execRandomnessReady dt pid s
  | .randomnessHoldExpiry dt pid => Sys2Proof.Machine.execRandomnessHoldExpiry dt pid s
  | .tokenBucketStart dt pid => Sys2Proof.Machine.execTokenBucketStart dt pid s
  | .completionIrqDelayExpiry dt ring q => Sys2Proof.Machine.execCompletionIrqDelayExpiry dt ring q s
  | .keyGenerate dt pid d => Sys2Proof.Machine.execKeyGenerate dt pid d s
  | .keyLoad dt pid d => Sys2Proof.Machine.execKeyLoad dt pid d s
  | .keyUnload dt pid d => Sys2Proof.Machine.execKeyUnload dt pid d s
  | .keyPublic dt pid d => Sys2Proof.Machine.execKeyPublic dt pid d s
  | .keyDerive dt pid d => Sys2Proof.Machine.execKeyDerive dt pid d s
  | .keyExport dt pid d => Sys2Proof.Machine.execKeyExport dt pid d s
  | .keyImport dt pid d => Sys2Proof.Machine.execKeyImport dt pid d s
  | .keyDelete dt pid d => Sys2Proof.Machine.execKeyDelete dt pid d s
  | .keyAttr dt pid d => Sys2Proof.Machine.execKeyAttr dt pid d s
  | .aeadSeal dt pid d => Sys2Proof.Machine.execAeadSeal dt pid d s
  | .aeadOpen dt pid d => Sys2Proof.Machine.execAeadOpen dt pid d s
  | .xtsEncrypt dt pid d => Sys2Proof.Machine.execXtsEncrypt dt pid d s
  | .xtsDecrypt dt pid d => Sys2Proof.Machine.execXtsDecrypt dt pid d s
  | .cmacGenerate dt pid d => Sys2Proof.Machine.execCmacGenerate dt pid d s
  | .cmacVerify dt pid d => Sys2Proof.Machine.execCmacVerify dt pid d s
  | .hash dt pid d => Sys2Proof.Machine.execHash dt pid d s
  | .hmacGenerate dt pid d => Sys2Proof.Machine.execHmacGenerate dt pid d s
  | .hmacVerify dt pid d => Sys2Proof.Machine.execHmacVerify dt pid d s
  | .hkdf dt pid d => Sys2Proof.Machine.execHkdf dt pid d s
  | .tlsProtect dt pid d => Sys2Proof.Machine.execTlsProtect dt pid d s
  | .tlsUnprotect dt pid d => Sys2Proof.Machine.execTlsUnprotect dt pid d s
  | .keyFileKeyDelivered dt cluster line => Sys2Proof.Machine.execKeyFileKeyDelivered dt cluster line s
  | .lookasideResult dt pid => Sys2Proof.Machine.execLookasideResult dt pid s
  | .sign dt pid d => Sys2Proof.Machine.execSign dt pid d s
  | .verify dt pid d => Sys2Proof.Machine.execVerify dt pid d s
  | .keyAgree dt pid d => Sys2Proof.Machine.execKeyAgree dt pid d s
  | .kemEncaps dt pid d => Sys2Proof.Machine.execKemEncaps dt pid d s
  | .kemDecaps dt pid d => Sys2Proof.Machine.execKemDecaps dt pid d s
  | .rsaEncrypt dt pid d => Sys2Proof.Machine.execRsaEncrypt dt pid d s
  | .rsaDecrypt dt pid d => Sys2Proof.Machine.execRsaDecrypt dt pid d s
  | .wsOpen dt pid d => Sys2Proof.Machine.execWsOpen dt pid d s
  | .wsClose dt pid d => Sys2Proof.Machine.execWsClose dt pid d s
  | .wsWrite dt pid d => Sys2Proof.Machine.execWsWrite dt pid d s
  | .wsRead dt pid d => Sys2Proof.Machine.execWsRead dt pid d s
  | .wsExec dt pid d => Sys2Proof.Machine.execWsExec dt pid d s
  | .pkeDispatch dt onto => Sys2Proof.Machine.execPkeDispatch dt onto s
  | .verifyJobPlacement dt pid => Sys2Proof.Machine.execVerifyJobPlacement dt pid s
  | .yieldPoint dt core cycle => Sys2Proof.Machine.execYieldPoint dt core cycle s
  | .latticeQuantumBoundary dt pid => Sys2Proof.Machine.execLatticeQuantumBoundary dt pid s
  | .pkeJobEnd dt core verify => Sys2Proof.Machine.execPkeJobEnd dt core verify s
  | .releaseGate dt pid => Sys2Proof.Machine.execReleaseGate dt pid s
  | .faultCheckFired dt kind unit cause info => Sys2Proof.Machine.execFaultCheckFired dt kind unit cause info s
  | .lockstepMismatch dt pair => Sys2Proof.Machine.execLockstepMismatch dt pair s
  | .vaultCreate dt pid d => Sys2Proof.Machine.execVaultCreate dt pid d s
  | .vaultLoad dt pid d => Sys2Proof.Machine.execVaultLoad dt pid d s
  | .vaultPolicySet dt pid d => Sys2Proof.Machine.execVaultPolicySet dt pid d s
  | .vaultDelete dt pid d => Sys2Proof.Machine.execVaultDelete dt pid d s
  | .quorumChallenge dt pid d => Sys2Proof.Machine.execQuorumChallenge dt pid d s
  | .challengeExpiry dt ident => Sys2Proof.Machine.execChallengeExpiry dt ident s
  | .resealApprove dt pid d => Sys2Proof.Machine.execResealApprove dt pid d s
  | .dqChallenge dt pid d => Sys2Proof.Machine.execDqChallenge dt pid d s
  | .dqPolicySet dt pid d => Sys2Proof.Machine.execDqPolicySet dt pid d s
  | .saInstall dt pid d => Sys2Proof.Machine.execSaInstall dt pid d s
  | .saRekey dt pid d => Sys2Proof.Machine.execSaRekey dt pid d s
  | .saRetire dt pid d => Sys2Proof.Machine.execSaRetire dt pid d s
  | .saDrainDone dt head => Sys2Proof.Machine.execSaDrainDone dt head s
  | .saQueryState dt pid d => Sys2Proof.Machine.execSaQueryState dt pid d s
  | .saQueryWait dt pid d => Sys2Proof.Machine.execSaQueryWait dt pid d s
  | .saQueryTimeout dt slice => Sys2Proof.Machine.execSaQueryTimeout dt slice s
  | .policyAdd dt pid d => Sys2Proof.Machine.execPolicyAdd dt pid d s
  | .policyDelete dt pid d => Sys2Proof.Machine.execPolicyDelete dt pid d s
  | .directedFlush dt index => Sys2Proof.Machine.execDirectedFlush dt index s
  | .tblRehash dt pid d => Sys2Proof.Machine.execTblRehash dt pid d s
  | .tblFlush dt pid d => Sys2Proof.Machine.execTblFlush dt pid d s
  | .attest dt pid d => Sys2Proof.Machine.execAttest dt pid d s
  | .meterReadInterim dt pid d => Sys2Proof.Machine.execMeterReadInterim dt pid d s
  | .meterReadStatement dt pid d => Sys2Proof.Machine.execMeterReadStatement dt pid d s
  | .measureRead dt pid d => Sys2Proof.Machine.execMeasureRead dt pid d s
  | .sliceBind dt pid d => Sys2Proof.Machine.execSliceBind dt pid d s
  | .sliceUnbind dt pid d => Sys2Proof.Machine.execSliceUnbind dt pid d s
  | .shareSet dt pid d => Sys2Proof.Machine.execShareSet dt pid d s
  | .mirrorBuildDone dt slice => Sys2Proof.Machine.execMirrorBuildDone dt slice s
  | .mirrorRebuildDone dt key head => Sys2Proof.Machine.execMirrorRebuildDone dt key head s
  | .modeSwitch dt pid d => Sys2Proof.Machine.execModeSwitch dt pid d s
  | .fwStage dt pid d => Sys2Proof.Machine.execFwStage dt pid d s
  | .fwActivate dt pid d => Sys2Proof.Machine.execFwActivate dt pid d s
  | .resealDeadline dt => Sys2Proof.Machine.execResealDeadline dt s
  | .pairSwitchDone dt pair => Sys2Proof.Machine.execPairSwitchDone dt pair s
  | .activationPairFailure dt pair => Sys2Proof.Machine.execActivationPairFailure dt pair s
  | .lcTransition dt pid d consents => Sys2Proof.Machine.execLcTransition dt pid d consents s
  | .lcStepsRun dt steps => Sys2Proof.Machine.execLcStepsRun dt steps s
  | .sliceExport dt pid d => Sys2Proof.Machine.execSliceExport dt pid d s
  | .sliceExportSizeQuery dt pid d => Sys2Proof.Machine.execSliceExportSizeQuery dt pid d s
  | .sliceExportSignPending dt pid d => Sys2Proof.Machine.execSliceExportSignPending dt pid d s
  | .sliceExportDiscardPending dt pid d => Sys2Proof.Machine.execSliceExportDiscardPending dt pid d s
  | .sliceImportOffer dt pid d => Sys2Proof.Machine.execSliceImportOffer dt pid d s
  | .sliceImport dt pid d => Sys2Proof.Machine.execSliceImport dt pid d s
  | .offerExpiry dt slice => Sys2Proof.Machine.execOfferExpiry dt slice s
  | .configLoad dt pid d => Sys2Proof.Machine.execConfigLoad dt pid d s
  | .vaultBackupInit dt pid d stall => Sys2Proof.Machine.execVaultBackupInit dt pid d stall s
  | .vaultBackup dt pid d stall => Sys2Proof.Machine.execVaultBackup dt pid d stall s
  | .vaultRestore dt pid d stall => Sys2Proof.Machine.execVaultRestore dt pid d stall s
  | .evidenceExport dt pid d stall => Sys2Proof.Machine.execEvidenceExport dt pid d stall s
  | .cardInserted dt card => Sys2Proof.Machine.execCardInserted dt card s
  | .cardOperatingConditionPoll dt ready => Sys2Proof.Machine.execCardOperatingConditionPoll dt ready s
  | .cardRemoved dt => Sys2Proof.Machine.execCardRemoved dt s
  | .entropyBlock dt samples sampling sampled kat => Sys2Proof.Machine.execEntropyBlock dt samples sampling sampled kat s
  | .siroccoRestartDone dt => Sys2Proof.Machine.execSiroccoRestartDone dt s
  | .rngRestart dt => Sys2Proof.Machine.execRngRestart dt s
  | .drbgKatRepeat dt n pass => Sys2Proof.Machine.execDrbgKatRepeat dt n pass s
  | .entropyTestModeEnter dt m => Sys2Proof.Machine.execEntropyTestModeEnter dt m s
  | .entropyTestModeExit dt => Sys2Proof.Machine.execEntropyTestModeExit dt s
  | .rngTestPattern dt m => Sys2Proof.Machine.execRngTestPattern dt m s
  | .rngRawRead dt => Sys2Proof.Machine.execRngRawRead dt s
  | .remaskLine dt seed line word => Sys2Proof.Machine.execRemaskLine dt seed line word s
  | .remaskPassEnd dt => Sys2Proof.Machine.execRemaskPassEnd dt s
  | .remaskLate dt => Sys2Proof.Machine.execRemaskLate dt s
  | .ksWipe dt value => Sys2Proof.Machine.execKsWipe dt value s
  | .wipeDone dt => Sys2Proof.Machine.execWipeDone dt s
  | .ksCompatLock dt => Sys2Proof.Machine.execKsCompatLock dt s
  | .ksSuccAbandon dt => Sys2Proof.Machine.execKsSuccAbandon dt s
  | .pkeCoreZero dt core value => Sys2Proof.Machine.execPkeCoreZero dt core value s
  | .dlogEnable dt slice => Sys2Proof.Machine.execDlogEnable dt slice s
  | .dlogDisable dt slice => Sys2Proof.Machine.execDlogDisable dt slice s
  | .dlogFlip dt slice => Sys2Proof.Machine.execDlogFlip dt slice s
  | .dlogFlipDone dt slice => Sys2Proof.Machine.execDlogFlipDone dt slice s
  | .macsecOutboundFrame dt port data fcs room => Sys2Proof.Machine.execMacsecOutboundFrame dt port data fcs room s
  | .macsecInboundFrame dt port data fcs room => Sys2Proof.Machine.execMacsecInboundFrame dt port data fcs room s
  | .espOutboundFrame dt port data fcs room => Sys2Proof.Machine.execEspOutboundFrame dt port data fcs room s
  | .espInboundFrame dt port data fcs room => Sys2Proof.Machine.execEspInboundFrame dt port data fcs room s
  | .inlineClusterDone dt fid => Sys2Proof.Machine.execInlineClusterDone dt fid s
  | .txPipelineFinish dt fid room => Sys2Proof.Machine.execTxPipelineFinish dt fid room s
  | .learnInsert dt bank => Sys2Proof.Machine.execLearnInsert dt bank s
  | .stashReinsert dt bank => Sys2Proof.Machine.execStashReinsert dt bank s
  | .sweeperVisit dt bank => Sys2Proof.Machine.execSweeperVisit dt bank s
  | .portLinkUp dt port c2m => Sys2Proof.Machine.execPortLinkUp dt port c2m s
  | .portLinkDown dt port => Sys2Proof.Machine.execPortLinkDown dt port s
  | .dmaRefused dt dma => Sys2Proof.Machine.execDmaRefused dt dma s
  | .dmaCompletionTimeout dt dma => Sys2Proof.Machine.execDmaCompletionTimeout dt dma s
  | .lateCompletion dt => Sys2Proof.Machine.execLateCompletion dt s
  | .ideIntegrityFailure dt stream dma => Sys2Proof.Machine.execIdeIntegrityFailure dt stream dma s
  | .getVersion dt tr => Sys2Proof.Machine.execGetVersion dt tr s
  | .getCapabilities dt tr => Sys2Proof.Machine.execGetCapabilities dt tr s
  | .negotiateAlgorithms dt tr offered => Sys2Proof.Machine.execNegotiateAlgorithms dt tr offered s
  | .getDigests dt tr => Sys2Proof.Machine.execGetDigests dt tr s
  | .getCertificate dt tr slot offset len => Sys2Proof.Machine.execGetCertificate dt tr slot offset len s
  | .challenge dt tr slot nonce => Sys2Proof.Machine.execChallenge dt tr slot nonce s
  | .getMeasurements dt tr index sign nonce => Sys2Proof.Machine.execGetMeasurements dt tr index sign nonce s
  | .keyExchange dt tr reqId pub => Sys2Proof.Machine.execKeyExchange dt tr reqId pub s
  | .finish dt tr session mac => Sys2Proof.Machine.execFinish dt tr session mac s
  | .endSession dt tr session => Sys2Proof.Machine.execEndSession dt tr session s
  | .heartbeat dt tr session => Sys2Proof.Machine.execHeartbeat dt tr session s
  | .keyUpdate dt tr session op => Sys2Proof.Machine.execKeyUpdate dt tr session op s
  | .chunkSend dt tr handle seq last data => Sys2Proof.Machine.execChunkSend dt tr handle seq last data s
  | .chunkGet dt tr handle seq => Sys2Proof.Machine.execChunkGet dt tr handle seq s
  | .keyProg dt tr session stream sub dir set key => Sys2Proof.Machine.execKeyProg dt tr session stream sub dir set key s
  | .kSetGo dt tr session stream sub dir set => Sys2Proof.Machine.execKSetGo dt tr session stream sub dir set s
  | .kSetStop dt tr session stream sub dir set => Sys2Proof.Machine.execKSetStop dt tr session stream sub dir set s
  | .query dt tr session stream => Sys2Proof.Machine.execQuery dt tr session stream s
  | .spdmUnsupportedRequest dt tr code => Sys2Proof.Machine.execSpdmUnsupportedRequest dt tr code s
  | .setEndpointId dt i3c eid => Sys2Proof.Machine.execSetEndpointId dt i3c eid s
  | .getEndpointId dt i3c => Sys2Proof.Machine.execGetEndpointId dt i3c s
  | .getMctpVersionSupport dt i3c typ => Sys2Proof.Machine.execGetMctpVersionSupport dt i3c typ s
  | .getMessageTypeSupport dt i3c => Sys2Proof.Machine.execGetMessageTypeSupport dt i3c s
  | .entdaa dt addr => Sys2Proof.Machine.execEntdaa dt addr s
  | .wcallFromOpen dt pair imm nextPc g => Sys2Proof.Machine.execWcallFromOpen dt pair imm nextPc g s
  | .wcallFromSecure dt pair g => Sys2Proof.Machine.execWcallFromSecure dt pair g s
  | .yield dt pair msgs => Sys2Proof.Machine.execYield dt pair msgs s
  | .msgSend dt pair data => Sys2Proof.Machine.execMsgSend dt pair data s
  | .msgRecv dt pair => Sys2Proof.Machine.execMsgRecv dt pair s
  | .info dt pair => Sys2Proof.Machine.execInfo dt pair s
  | .secureInterrupt dt pair source pc => Sys2Proof.Machine.execSecureInterrupt dt pair source pc s
  | .ruleWrite dt m addr value => Sys2Proof.Machine.execRuleWrite dt m addr value s
  | .assignLock dt => Sys2Proof.Machine.execAssignLock dt s
  | .dbgLock dt => Sys2Proof.Machine.execDbgLock dt s
  | .devPwrReq dt m n value => Sys2Proof.Machine.execDevPwrReq dt m n value s
  | .islandReleaseWrite dt n value => Sys2Proof.Machine.execIslandReleaseWrite dt n value s
  | .islandGated dt n => Sys2Proof.Machine.execIslandGated dt n s
  | .islandPoweredUp dt n => Sys2Proof.Machine.execIslandPoweredUp dt n s
  | .accessViolation dt m kind space addr len => Sys2Proof.Machine.execAccessViolation dt m kind space addr len s
  | .asvRecordPop dt => Sys2Proof.Machine.execAsvRecordPop dt s
  | .debugHaltRequest dt pair => Sys2Proof.Machine.execDebugHaltRequest dt pair s
  | .extest dt drive => Sys2Proof.Machine.execExtest dt drive s
  | .samplePreload dt => Sys2Proof.Machine.execSamplePreload dt s
  | .idcode dt => Sys2Proof.Machine.execIdcode dt s
  | .clamp dt => Sys2Proof.Machine.execClamp dt s
  | .highz dt => Sys2Proof.Machine.execHighz dt s
  | .pdp dt kind addr value => Sys2Proof.Machine.execPdp dt kind addr value s
  | .bypass dt => Sys2Proof.Machine.execBypass dt s
  | .manufacturingProgramTrim dt data => Sys2Proof.Machine.execManufacturingProgramTrim dt data s
  | .manufacturingTransitionFactory dt => Sys2Proof.Machine.execManufacturingTransitionFactory dt s
  | .manufacturingTransitionScrap dt => Sys2Proof.Machine.execManufacturingTransitionScrap dt s
  | .oasisVisitStart dt kind island => Sys2Proof.Machine.execOasisVisitStart dt kind island s
  | .oasisDrainDone dt kind unit => Sys2Proof.Machine.execOasisDrainDone dt kind unit s
  | .unitSelftestDone dt kind unit pass => Sys2Proof.Machine.execUnitSelftestDone dt kind unit pass s
  | .knownAnswerCheck dt kind unit pass => Sys2Proof.Machine.execKnownAnswerCheck dt kind unit pass s
  | .memoryScrubPass dt which => Sys2Proof.Machine.execMemoryScrubPass dt which s
  | .uncorrectableError dt err => Sys2Proof.Machine.execUncorrectableError dt err s
  | .railWarningExcursion dt rail above mv => Sys2Proof.Machine.execRailWarningExcursion dt rail above mv s
  | .unannouncedPowerLoss dt rail mv gone cut => Sys2Proof.Machine.execUnannouncedPowerLoss dt rail mv gone cut s
  | .orderlyPowerLoss dt rail mv gone cut => Sys2Proof.Machine.execOrderlyPowerLoss dt rail mv gone cut s
  | .overVoltage dt rail mv cut => Sys2Proof.Machine.execOverVoltage dt rail mv cut s
  | .glitch dt rail positive peak => Sys2Proof.Machine.execGlitch dt rail positive peak s
  | .clockFrequency dt island => Sys2Proof.Machine.execClockFrequency dt island s
  | .shortCycle dt island => Sys2Proof.Machine.execShortCycle dt island s
  | .referenceLost dt clock => Sys2Proof.Machine.execReferenceLost dt clock s
  | .meshCheck dt which fault line => Sys2Proof.Machine.execMeshCheck dt which fault line s
  | .tamperSwitch dt n open_ => Sys2Proof.Machine.execTamperSwitch dt n open_ s
  | .zeroize dt => Sys2Proof.Machine.execZeroize dt s
  | .temperature dt value => Sys2Proof.Machine.execTemperature dt value s
  | .vbakLow dt mv => Sys2Proof.Machine.execVbakLow dt mv s
  | .vbakOver dt mv => Sys2Proof.Machine.execVbakOver dt mv s
  | .secondDecision dt sensor sub cls => Sys2Proof.Machine.execSecondDecision dt sensor sub cls s
  | .conditionEnd dt sensor sub value => Sys2Proof.Machine.execConditionEnd dt sensor sub value s
  | .holdLift dt sensor sub => Sys2Proof.Machine.execHoldLift dt sensor sub s
  | .class2EraseDone dt => Sys2Proof.Machine.execClass2EraseDone dt s
  | .clearHoldRelease dt => Sys2Proof.Machine.execClearHoldRelease dt s
  | .evidenceCommit dt => Sys2Proof.Machine.execEvidenceCommit dt s
  | .gntLock dt => Sys2Proof.Machine.execGntLock dt s
  | .pfwNAsserted dt => Sys2Proof.Machine.execPfwNAsserted dt s
  | .pfwNDeasserted dt => Sys2Proof.Machine.execPfwNDeasserted dt s
  | .devIrqMaskWrite dt value => Sys2Proof.Machine.execDevIrqMaskWrite dt value s
  | .meterTick dt => Sys2Proof.Machine.execMeterTick dt s
  | .meterEnable dt => Sys2Proof.Machine.execMeterEnable dt s
  | .dumpTick dt => Sys2Proof.Machine.execDumpTick dt s
  | .dumpEnable dt => Sys2Proof.Machine.execDumpEnable dt s
  | .softwareEvent dt value => Sys2Proof.Machine.execSoftwareEvent dt value s
  | .recorderFlush dt ok => Sys2Proof.Machine.execRecorderFlush dt ok s
  | .recorderRegionReset dt => Sys2Proof.Machine.execRecorderRegionReset dt s
  | .registerWrite dt m space addr len value => Sys2Proof.Machine.execRegisterWrite dt m space addr len value s
  | .unknownOpcodeRelease dt pid => Sys2Proof.Machine.execUnknownOpcodeRelease dt pid s
  | .lcStopDeadline dt => Sys2Proof.Machine.execLcStopDeadline dt s
  | .randomDrawTimeout dt pid => Sys2Proof.Machine.execRandomDrawTimeout dt pid s
  | .hostLinkUp dt speed width flit => Sys2Proof.Machine.execHostLinkUp dt speed width flit s
  | .kaSupplyLost dt => Sys2Proof.Machine.execKaSupplyLost dt s
  | .kaSupplyRestored dt => Sys2Proof.Machine.execKaSupplyRestored dt s
  | .meterHeadWrite dt value => Sys2Proof.Machine.execMeterHeadWrite dt value s
  | .netLaneCfgWrite dt m lane value => Sys2Proof.Machine.execNetLaneCfgWrite dt m lane value s
  | .cardResponseTimeout dt err stall => Sys2Proof.Machine.execCardResponseTimeout dt err stall s
  | .cardBusyTimeout dt => Sys2Proof.Machine.execCardBusyTimeout dt s
  | .mctpUnsupportedMessage dt i3c typ command => Sys2Proof.Machine.execMctpUnsupportedMessage dt i3c typ command s
  | .deviceTimerExpiry dt n => Sys2Proof.Machine.execDeviceTimerExpiry dt n s

end Sys2Proof.Machine
end

