-- ==== Sys2Proof/Machine/Step.lean ====
section
/-! DEFINITION. One step of the block: the command at the front of the queue takes effect. Log entries of this file: DESIGN CHOICE 7. -/

namespace Sys2Proof.Machine

/-- One step: the command at the front runs on the state with the queue's rest. On an empty queue no command comes and no time passes; work whose wait has ended goes on, and every bulk cluster takes its next chunk (DESIGN CHOICE, log entries 1 and 234). -/
def step (s : State) : Host.Outcome State Fault Refusal :=
  match s.pending with
  | [] => .next s.idle
  | c :: rest => exec c { s with pending := rest }

/-- The state with the command that a word spells at the front of its queue; unchanged where it spells none. -/
def State.withFetchWord (s : State) (nbits w : Nat) : State :=
  match decodeTableWord nbits w with
  | some c => { s with pending := c :: s.pending }
  | none => s

end Sys2Proof.Machine
end

