-- ==== Sys2Proof/Safety.lean ====
section
/-! DEFINITION. The terms of the statements: what a safe run keeps, the start and the answer of a packet, and frames. -/

namespace Sys2Proof.Machine

/-- Every bit of `a` that is 1 is 1 in `b`: fuses are programmed and never cleared. -/
def bitsKept {w : Nat} (a b : BitVec w) : Prop := ∀ i : Nat, a.getLsbD i = true → b.getLsbD i = true

/-- The OTP array keeps every bit that is 1 (R338, R342). -/
structure Otp.Keeps (a b : Otp) : Prop where
  word : ∀ c : Fin 3, bitsKept a.word[c] b.word[c]
  journal : ∀ (c : Fin 3) (n : Fin 16), bitsKept a.journal[c][n] b.journal[c][n]
  share : ∀ c : Fin 3, bitsKept a.share[c] b.share[c]
  dq : ∀ (c : Fin 3) (n : Fin 16), bitsKept a.dq[c][n] b.dq[c][n]
  trim : bitsKept a.trim b.trim

/-- Every record of the evidence log stays as it was committed (R396). -/
def State.LogKept (s t : State) : Prop :=
  ∀ (n : Nat) (r : Bytes), s.gnt.log.get? n = some r → t.gnt.log.get? n = some r

/-- The evidence log has no gap: its records lie at the indices 0, 1, 2 and so on (R396). -/
def State.LogDense (s : State) : Prop := s.gnt.log.keys = List.range s.gnt.log.cells.length

/-- What no step of the machine undoes: programmed OTP bits and committed evidence records. -/
structure State.Permanent (s t : State) : Prop where
  otp : s.otp.Keeps t.otp
  log : s.LogKept t

/-- A packet starts (R8, R54, R60, R64, R65): it is its opcode's turn, boot is complete, and its randomness is reserved; `t` is the state in which a command pair has taken it up, `p` the packet there. -/
def State.Starts (s : State) (opc pid : Nat) (d : PktData) (t : State) (p : Packet) : Prop :=
  ∃ (q r : Packet) (u : State), s.startable opc pid d = some q ∧ s.prepare pid q = (u, some r) ∧
    t = u.take pid r ∧ p = (t.cmd.packets.get? pid).getD r

/-- A packet starts (State.Starts), and the host refuses none of its output writes (R49). -/
def State.Serves (s : State) (opc pid : Nat) (d : PktData) (t : State) (p : Packet) : Prop :=
  s.Starts opc pid d t p ∧ d.outFail = none

/-- A packet completes with DONE (R52, R54): its start is counted, its output written and its completion posted. -/
def State.answers (s : State) (pid : Nat) (out : Bytes) (mu result : Nat) : State :=
  (s.countPid pid false).finish pid out mu result

/-- The asymmetric opcodes that work on a key, with their commands (R67). -/
def asymTable : List (Nat × (Nat → Nat → PktData → Instr)) :=
  [(0x0301, .sign), (0x0302, .verify), (0x0303, .keyAgree), (0x0304, .kemEncaps), (0x0305, .kemDecaps), (0x0306, .rsaEncrypt),
   (0x0307, .rsaDecrypt)]

/-- The symmetric opcodes, with their commands (R67). -/
def symTable : List (Nat × (Nat → Nat → PktData → Instr)) :=
  [(0x0201, .aeadSeal), (0x0202, .aeadOpen), (0x0203, .xtsEncrypt), (0x0204, .xtsDecrypt), (0x0205, .cmacGenerate),
   (0x0206, .cmacVerify), (0x0207, .hash), (0x0208, .hmacGenerate), (0x0209, .hmacVerify), (0x020A, .hkdf), (0x020B, .tlsProtect),
   (0x020C, .tlsUnprotect)]

/-- The chain value before a record's own (R396): that of the record before it, the anchor for record 0. -/
def State.chainBefore (s : State) : Nat → Bytes
  | 0 => chainAnchor
  | i + 1 => slice (s.gnt.log.getD i []) 0x14 12

/-- Every record of the log is 32 octets that end in their chain value (R396). -/
def State.LogChained (s : State) : Prop :=
  ∀ (i : Nat) (r : Bytes), s.gnt.log.get? i = some r →
    r.length = 32 ∧ slice r 0x14 12 = (sha384 (s.chainBefore i ++ r.take 20)).take 12

/-- The SPDM requests with their commands (R455). -/
def mgmtTable (dt tr a b c : Nat) (x y : Bytes) (f : Bool) : List (Instr × MgmtReq) :=
  [(.getVersion dt tr, .getVersion), (.getCapabilities dt tr, .getCapabilities), (.negotiateAlgorithms dt tr f, .negotiate f),
   (.getDigests dt tr, .getDigests), (.getCertificate dt tr a b c, .getCertificate a b c), (.challenge dt tr a x, .challenge a x),
   (.getMeasurements dt tr a f x, .getMeasurements a f x), (.keyExchange dt tr a x, .keyExchange a x), (.finish dt tr a y, .finish a y),
   (.endSession dt tr a, .endSession a), (.heartbeat dt tr a, .heartbeat a), (.keyUpdate dt tr a b, .keyUpdate a b),
   (.chunkSend dt tr a b f x, .chunkSend a b f x), (.chunkGet dt tr a b, .chunkGet a b), (.spdmUnsupportedRequest dt tr a, .spdmOther a)]

/-- The IDE_KM requests with their commands (R453). -/
def ideTable (dt tr a b c e n : Nat) (x : Bytes) : List (Instr × MgmtReq) :=
  [(.keyProg dt tr a b c e n x, .keyProg a b c e n x), (.kSetGo dt tr a b c e n, .kSetGo a b c e n),
   (.kSetStop dt tr a b c e n, .kSetStop a b c e n), (.query dt tr a b, .query a b)]

/-- The supported MCTP control messages with their commands (R462). -/
def mctpTable (dt : Nat) (i3c : Bool) (a : Nat) : List (Instr × MgmtReq) :=
  [(.setEndpointId dt i3c a, .setEid a), (.getEndpointId dt i3c, .getEid), (.getMctpVersionSupport dt i3c a, .getMctpVersion a),
   (.getMessageTypeSupport dt i3c, .getTypes)]

end Sys2Proof.Machine
end

