-- ==== Sys2Proof/Certificates/Slice0/Obligations.lean ====
section
/-! DEFINITION. The statements about the machine, for the provers. -/

open Sys2Proof Sys2Proof.Machine

/-- A step runs the command at the front of the queue. For every command c, every rest of the queue and every state s, the step of s with c in front of the queue is exec of c on s with the queue's rest. The queue of commands and its order are the model's own frame (a block takes commands; no rule of the spec states a queue). -/
def Obligations.StepRunsFrontCommand : Prop :=
  ∀ (c : Instr) (rest : List Instr) (s : State),
    step { s with pending := c :: rest } = exec c { s with pending := rest }

/-- A step on an empty queue lets deferred work and the chunks of the bulk clusters go on (the model's choice). With no command waiting, a step answers a next state: the state after the bulk clusters worked on one chunk each and the deferred work whose wait has ended went on (State.idle). That idling is so is the model's design choice (log entry 1); no rule of the spec states it. -/
def Obligations.IdleStepEndsDeferredWork : Prop :=
  ∀ s : State, s.pending = [] → step s = .next s.idle

/-- No command stops the machine. For every command and every state, exec answers a next state: the block has no fault and no refusal. Refused accesses and packets are answered by the device itself (an access report, a completion status), and a command whose preconditions the state does not meet only lets its time pass (the model's choice, log entry 2). -/
def Obligations.NoCommandStops : Prop :=
  ∀ (c : Instr) (s : State), ∃ t : State, exec c s = .next t

/-- Every step keeps every programmed OTP bit and every committed evidence record, and takes one command off the queue. For every state s whose evidence log has no gap, if a step of s answers next t, then the log of t has no gap, every bit of the OTP array (life-cycle word, journal, custody share, device quorum block, trim block) that is 1 in s is 1 in t, every record of the evidence log in s is the same record in t, and the queue of t is the rest of the queue of s. Hence no sequence of commands, resets and power losses rewinds the life cycle's fuses or rewrites evidence. -/
def Obligations.StepKeepsPermanentRecord : Prop :=
  ∀ s t : State, s.LogDense → step s = .next t → s.Permanent t ∧ t.LogDense ∧ t.pending = s.pending.tail

/-- The evidence log of the state after reset has no gap. State.reset meets the invariant that every step keeps (StepKeepsPermanentRecord): its evidence log, which is empty (log entry 21), has its records at the indices 0, 1, 2 and so on. -/
def Obligations.ResetLogDense : Prop :=
  State.reset.LogDense

/-- The state right after reset holds the reset values of the spec. State.reset has an empty queue, phase RESET, every register at its reset value (the field tables' values; the interrupt, island, trigger and sensor tables' values where those tables leave the field to a rule), no packet, no bound slice, no key, no SA, no running job, no frame; and, as the model's choice for contents the spec gives no value (log entries 20 to 23), OTP, BBRAM and flash erased and an empty evidence log. -/
def Obligations.ResetStateValues : Prop :=
  State.reset.pending = [] ∧ State.reset.now = 0 ∧ State.reset.phase = 0 ∧
  (∀ (r : RegName) (i : Nat), State.reset.reg r i = regReset r i) ∧
  State.reset.cmd.packets = .empty ∧ State.reset.slc = SliceUnit.reset ∧ State.reset.ks.recs = .empty ∧
  State.reset.tbl.sas = .empty ∧ State.reset.pke.jobs = .empty ∧ State.reset.tbl.frames = .empty ∧
  State.reset.otp = Otp.blank ∧ State.reset.bb = Bbram.reset ∧ State.reset.flash = Flash.reset ∧
  State.reset.gnt.log = .empty

/-- Power-on, cold and RP reset complete, and keep BBRAM, OTP, flash, evidence log and staged records. POWER_ON_RESET always, COLD_RESET with the main supply present, and RP_RESET with the main supply present, a reset due and no erase running, answer the state that the device reset makes. When the reset falls neither into an export commit nor, being no RP reset, into the steps of a transition, BBRAM, OTP, the flash devices, the evidence log and the staged records are kept; the key, slice, command, table, public-key, bulk, world, meter, random and link units are at their reset values; device time restarts at 0 (the model's choice, log entry 10). A power-on reset advances the KA power-cycle count, which saturates at its field's width (the model's reading). -/
def Obligations.DeviceResetsComplete : Prop :=
  (∀ (dt : Nat) (cut : Bool) (s : State), ∃ u : State,
    u = { s.tick dt with gnt := { (s.tick dt).gnt with
      main := true, ka := true, pfw := none
      conds := (s.tick dt).gnt.conds.filter (fun k _ => 3 ≤ k / 256) } } ∧
    exec (.powerOnReset dt cut) s = .next ((u.resetWith false cut).bumpSat Fld.GNT_PWRCYC_count 0 1)) ∧
  (∀ (dt : Nat) (cut : Bool) (s : State), (s.tick dt).gnt.main →
    exec (.coldReset dt cut) s = .next ((s.tick dt).resetWith false cut)) ∧
  (∀ (dt : Nat) (cut : Bool) (s : State), (s.tick dt).gnt.main → (s.tick dt).gnt.rpDue → (s.tick dt).erasing = false →
    exec (.rpReset dt cut) s = .next ((s.tick dt).resetWith true cut)) ∧
  (∀ (rp : Bool) (s t : State), (rp ∨ s.lcRunning = false) → t = s.resetWith rp false →
    t.pending = s.pending ∧ t.bb = s.bb ∧ t.otp = s.otp ∧ t.flash = s.flash ∧ t.gnt.log = s.gnt.log ∧
    t.gnt.staged = s.gnt.staged ∧ t.ks = KsUnit.reset ∧ t.slc = SliceUnit.reset ∧ t.cmd = CmdUnit.reset ∧
    t.tbl = TblUnit.reset ∧ t.pke = State.reset.pke ∧ t.blk = State.reset.blk ∧ t.wld = WldUnit.reset ∧
    t.met = Meters.reset ∧ t.rng = RngUnit.reset ∧ t.lnk = LinkUnit.reset ∧ t.now = 0)

/-- A host link reset and a function level reset stop their functions' queue pairs and keep keys, SAs, slices and evidence. For every state, HOST_LINK_RESET answers the state in which the packets and queue pairs of both functions are cut and the link drops, and FUNCTION_LEVEL_RESET the one in which those of its function are cut (PF0: the manager ring set; PF1: the slice rings). After the cut, every queue pair of the function reads running 0 (where the register store is in canonical form, which every register operation keeps); a packet of it that has not started is gone, a started one stays with its writes discarded. After the link drop the link is down, no IDE stream is programmed and no session over DOE is open. Both leave keys, tables, BBRAM, OTP, Gauntlet, worlds, slices, vaults and port pairs as they were. -/
def Obligations.HostResetsStopQueuePairs : Prop :=
  (∀ (dt : Nat) (s : State), exec (.hostLinkReset dt) s = .next ((s.tick dt).cutHost true true).linkDrop) ∧
  (∀ (dt : Nat) (pf1 : Bool) (s : State),
    exec (.functionLevelReset dt pf1) s = .next ((s.tick dt).cutHost (!pf1) pf1)) ∧
  (∀ (a b : Bool) (s : State), (s.cutHost a b).ks = s.ks ∧ (s.cutHost a b).tbl = s.tbl ∧ (s.cutHost a b).bb = s.bb ∧
    (s.cutHost a b).otp = s.otp ∧ (s.cutHost a b).gnt = s.gnt ∧ (s.cutHost a b).wld = s.wld ∧
    (s.cutHost a b).slc = s.slc ∧ (s.cutHost a b).vlt = s.vlt ∧ (s.cutHost a b).pairs = s.pairs) ∧
  (∀ s : State, s.linkDrop.ks = s.ks ∧ s.linkDrop.tbl = s.tbl ∧ s.linkDrop.bb = s.bb ∧ s.linkDrop.otp = s.otp ∧
    s.linkDrop.gnt = s.gnt ∧ s.linkDrop.wld = s.wld ∧ s.linkDrop.slc = s.slc ∧ s.linkDrop.vlt = s.vlt ∧
    s.linkDrop.pairs = s.pairs ∧ s.linkDrop.flag Fld.HLU_LINK_up 0 = false ∧ s.linkDrop.lnk.ide = [] ∧
    ∀ x ∈ s.linkDrop.lnk.sessions, x.tr ≠ 0) ∧
  (∀ (a b : Bool) (s : State) (ring q : Nat), s.regs.wf → ring ≤ managerRing → q < 8 → (if ring = managerRing then a else b) = true →
    (s.cutHost a b).flag Fld.CMD_QP_STATUS_running (qpi ring q) = false) ∧
  (∀ (a b : Bool) (s : State) (pid : Nat) (p : Packet), (s.cutHost a b).cmd.packets.get? pid = some p →
    (if p.ring = managerRing then a else b) → p.phase.started ∧ p.discard)

/-- The supply events complete with the resets and losses of the rules. A rail below its under-voltage reset level raises the alarm of sensor 1 and resets the device unless PFW_N gave 5 ms of warning, when it resets without alarm; a rail above its over-voltage reset level raises the alarm of sensor 2 and resets; each with the main supply present before. Without main power, KA losing its supply loses BBRAM and its staged records and stops, and keeps OTP and the evidence log; it runs again when the supply returns. -/
def Obligations.SupplyEventsComplete : Prop :=
  (∀ (dt rail mv : Nat) (gone cut : Bool) (s : State), rail < 6 → mv < (railLevels rail).1 → (s.tick dt).gnt.main →
    !(s.tick dt).warned →
    exec (.unannouncedPowerLoss dt rail mv gone cut) s = .next
      ((((s.tick dt).fset Fld.GNT_RAIL_mv rail mv).condBegin 1 rail maskAll 0x02 (railDetail rail mv false)).railLoss gone cut)) ∧
  (∀ (dt rail mv : Nat) (gone cut : Bool) (s : State), rail < 6 → mv < (railLevels rail).1 → (s.tick dt).gnt.main →
    (s.tick dt).warned →
    exec (.orderlyPowerLoss dt rail mv gone cut) s = .next ((s.tick dt).railLoss gone cut)) ∧
  (∀ (dt rail mv : Nat) (cut : Bool) (s : State), rail < 6 → (railLevels rail).2.2.2.1 < mv → (s.tick dt).gnt.main →
    exec (.overVoltage dt rail mv cut) s = .next
      ((((s.tick dt).fset Fld.GNT_RAIL_mv rail mv).condBegin 2 rail maskAll 0x02 (railDetail rail mv true)).resetWith false cut)) ∧
  (∀ (dt : Nat) (s : State), !(s.tick dt).gnt.main → (s.tick dt).gnt.ka → ∃ t : State,
    exec (.kaSupplyLost dt) s = .next t ∧ t.bb = Bbram.reset ∧ t.gnt.staged = [] ∧ !t.gnt.ka ∧
    t.otp = s.otp ∧ t.gnt.log = s.gnt.log) ∧
  (∀ (dt : Nat) (s : State), !(s.tick dt).gnt.main → !(s.tick dt).gnt.ka →
    exec (.kaSupplyRestored dt) s = .next { s.tick dt with gnt := { (s.tick dt).gnt with ka := true } })

/-- The boot phases ROM, KEYS and IMAGES complete, and the key phase waits in KEYS while it may not run. Out of RESET with the rails good, no transition running, no reset due and no journal work that must wait, BOOT_PHASE_ROM runs the ROM phase (State.romPhase). In ISLANDS or KEYS, BOOT_PHASE_KEYS runs the key phase (State.keysPhase) where DRBG0 is ready, BBRAM is not held in clear, neither the RP nor KS is held and a seed that must be regenerated has fresh bits; otherwise the phase is KEYS. In IMAGES, with the RP not held, BOOT_PHASE_IMAGES runs the image and configuration phases (State.imagesPhase). The key phase ends in IMAGES with KS ready. -/
def Obligations.BootPhasesComplete : Prop :=
  (∀ (dt xsp : Nat) (s : State), (s.tick dt).phase = 0 → (s.tick dt).railsGood → (s.tick dt).boot.lcRun = none →
    !(s.tick dt).gnt.rpDue → !(s.tick dt).journalWaits → exec (.bootPhaseRom dt xsp) s = .next ((s.tick dt).romPhase xsp)) ∧
  (∀ (dt : Nat) (s u : State), u = s.tick dt → (u.phase = 2 ∨ u.phase = 3) →
    exec (.bootPhaseKeys dt) s = .next
      (if u.drbgReady 0 ∧ u.clearHeld = false ∧ u.islandHeld 0x01 = false ∧ u.islandHeld 0x02 = false ∧ u.seedWaits = false
        then u.keysPhase else u.toPhase 3)) ∧
  (∀ (dt : Nat) (s : State), (s.tick dt).phase = 4 → !(s.tick dt).islandHeld 0x01 →
    exec (.bootPhaseImages dt) s = .next (s.tick dt).imagesPhase) ∧
  (∀ s : State, s.keysPhase.phase = 4 ∧ s.keysPhase.fget Fld.KS_STATUS_ready 0 = 1)

/-- Enabling a queue pair starts it when its configuration is valid and sets cfgerr otherwise. On a ring whose page accepts the access, on a queue pair that neither runs nor stops, QP_ENABLE checks the slice's state, both bases, both sizes and the interrupt vector (qpConfigOk, spelled out here; the bases' alignment is their field's). If all pass, heads and tails become 0, phase 1, running and enable 1; if one fails, cfgerr becomes 1 and enable stays as it was. The frame: beyond these six registers of the queue pair and its interrupt count, nothing but time changes. -/
def Obligations.QueuePairEnableChecksConfiguration : Prop :=
  (∀ (dt : Nat) (pasid : Option Nat) (ring q : Nat) (s : State), (s.tick dt).ringOpen ring q pasid →
    (s.tick dt).flag Fld.CMD_QP_STATUS_running (qpi ring q) = false → (s.tick dt).flag Fld.CMD_QP_CTRL_stop (qpi ring q) = false →
    (s.tick dt).qpConfigOk ring q → exec (.qpEnable dt pasid ring q) s = .next ((s.tick dt).startQp (qpi ring q))) ∧
  (∀ (i : Nat) (s t : State), i < 131072 → t = s.startQp i →
    t.fget Fld.CMD_SQ_TAIL_tail i = 0 ∧ t.fget Fld.CMD_SQ_HEAD_head i = 0 ∧ t.fget Fld.CMD_CQ_HEAD_head i = 0 ∧
    t.fget Fld.CMD_CQ_TAIL_tail i = 0 ∧ t.fget Fld.CMD_CQ_TAIL_phase i = 1 ∧ t.flag Fld.CMD_QP_STATUS_running i ∧
    t.flag Fld.CMD_QP_CTRL_enable i ∧ { t with regs := s.regs, cmd := { t.cmd with irq := s.cmd.irq } } = s ∧
    (∀ (r : RegName) (j : Nat), j < 131072 → ¬ (j = i ∧ r ∈ [RegName.CMD_SQ_TAIL, RegName.CMD_SQ_HEAD, RegName.CMD_CQ_HEAD,
      RegName.CMD_CQ_TAIL, RegName.CMD_QP_STATUS, RegName.CMD_QP_CTRL]) → t.reg r j = s.reg r j)) ∧
  (∀ (dt : Nat) (pasid : Option Nat) (ring q : Nat) (s : State), (s.tick dt).ringOpen ring q pasid →
    (s.tick dt).flag Fld.CMD_QP_STATUS_running (qpi ring q) = false → (s.tick dt).flag Fld.CMD_QP_CTRL_stop (qpi ring q) = false →
    (s.tick dt).qpConfigOk ring q = false →
    exec (.qpEnable dt pasid ring q) s = .next ((s.tick dt).fset Fld.CMD_QP_STATUS_cfgerr (qpi ring q) 1)) ∧
  (∀ (ring q : Nat) (s : State), s.qpConfigOk ring q ↔
    (ring = managerRing ∨ s.sliceState ring = 1) ∧
    s.fget Fld.CMD_SQ_BASE_base (qpi ring q) ≠ 0 ∧ s.fget Fld.CMD_CQ_BASE_base (qpi ring q) ≠ 0 ∧
    s.depthOk ring (s.fget Fld.CMD_QP_SIZE_sq_log2 (qpi ring q)) Fld.SLC_RING_LIMIT_sq_log2_max ∧
    s.depthOk ring (s.fget Fld.CMD_QP_SIZE_cq_log2 (qpi ring q)) Fld.SLC_RING_LIMIT_cq_log2_max ∧
    (ring = managerRing ∨ q < s.fget Fld.SLC_RING_LIMIT_qp_max ring) ∧
    (s.flag Fld.CMD_QP_IRQ_ien (qpi ring q) = false ∨ ring = managerRing ∨
      vecIn (s.fget Fld.CMD_QP_IRQ_vec (qpi ring q)) (s.fget Fld.SLC_MSIX_vec_base ring) (s.fget Fld.SLC_MSIX_vec_count ring)))

/-- Enable on a running or stopping queue pair and stop on an idle one have no effect. Where the page accepts the access, a write of 1 to enable while the queue pair runs or its stop sequence runs changes nothing but time, and so does a write of 1 to stop while the queue pair does not run or is stopping already. -/
def Obligations.QueuePairControlsWithoutEffect : Prop :=
  (∀ (dt : Nat) (pasid : Option Nat) (ring q : Nat) (s : State), (s.tick dt).ringOpen ring q pasid →
    ((s.tick dt).flag Fld.CMD_QP_STATUS_running (qpi ring q) ∨ (s.tick dt).flag Fld.CMD_QP_CTRL_stop (qpi ring q)) →
    exec (.qpEnable dt pasid ring q) s = .next (s.tick dt)) ∧
  (∀ (dt : Nat) (pasid : Option Nat) (ring q : Nat) (s : State), (s.tick dt).ringOpen ring q pasid →
    ((s.tick dt).flag Fld.CMD_QP_STATUS_running (qpi ring q) = false ∨ (s.tick dt).flag Fld.CMD_QP_CTRL_stop (qpi ring q)) →
    exec (.qpStop dt pasid ring q) s = .next (s.tick dt))

/-- A stop begins by aborting what has not started, and ends when every fetched packet is complete. On a running queue pair, QP_STOP sets stop, marks its caravans, completes with ABORTED every fetched packet that has not started and whose caravan has no packet executing, and answers a waiting SA query. QP_STOP_COMPLETE, once every fetched packet has its completion, makes running, enable and stop read 0. -/
def Obligations.QueuePairStopSequence : Prop :=
  (∀ (dt : Nat) (pasid : Option Nat) (ring q : Nat) (s : State), (s.tick dt).ringOpen ring q pasid →
    (s.tick dt).flag Fld.CMD_QP_STATUS_running (qpi ring q) → (s.tick dt).flag Fld.CMD_QP_CTRL_stop (qpi ring q) = false →
    ∃ u : State, u = ((s.tick dt).fset Fld.CMD_QP_CTRL_stop (qpi ring q) 1).stopCaravans ring q ∧
      exec (.qpStop dt pasid ring q) s = .next
        ((u.abortAll u.now ((u.qpPackets ring q).filter (fun e => u.stopAborts e.2))).stopQuery ring q)) ∧
  (∀ (dt ring q : Nat) (s : State), (s.tick dt).stopEnded ring q →
    exec (.qpStopComplete dt ring q) s = .next ((s.tick dt).clearQp ring q).settle) ∧
  (∀ (ring q : Nat) (s : State), (s.clearQp ring q).flag Fld.CMD_QP_STATUS_running (qpi ring q) = false ∧
    (s.clearQp ring q).flag Fld.CMD_QP_CTRL_enable (qpi ring q) = false ∧
    (s.clearQp ring q).flag Fld.CMD_QP_CTRL_stop (qpi ring q) = false)

/-- A doorbell moves its index, or sets dberr and leaves the index. On a ring whose page accepts the access, with the index in bits 15:0 of the value written: an SQ index below the depth becomes the SQ tail, any other is discarded with dberr; a CQ head index is taken where it is below the depth and (h' - h) mod depth is at most (t - h) mod depth, and otherwise discarded with dberr. That the write is a single 32-bit write is the command's form. -/
def Obligations.DoorbellsMoveIndexesOrSetDberr : Prop :=
  (∀ (dt : Nat) (pasid : Option Nat) (ring q v : Nat) (s : State), (s.tick dt).ringOpen ring q pasid →
    v % 2 ^ 16 < 2 ^ (s.tick dt).fget Fld.CMD_QP_SIZE_sq_log2 (qpi ring q) →
    exec (.sqTailDoorbell dt pasid ring q v) s = .next ((s.tick dt).fset Fld.CMD_SQ_TAIL_tail (qpi ring q) (v % 2 ^ 16))) ∧
  (∀ (dt : Nat) (pasid : Option Nat) (ring q v : Nat) (s : State), (s.tick dt).ringOpen ring q pasid →
    2 ^ (s.tick dt).fget Fld.CMD_QP_SIZE_sq_log2 (qpi ring q) ≤ v % 2 ^ 16 →
    exec (.sqTailDoorbell dt pasid ring q v) s = .next ((s.tick dt).fset Fld.CMD_QP_STATUS_dberr (qpi ring q) 1)) ∧
  (∀ (dt : Nat) (pasid : Option Nat) (ring q v n depth h tl : Nat) (s : State), (s.tick dt).ringOpen ring q pasid → n = v % 2 ^ 16 →
    depth = 2 ^ (s.tick dt).fget Fld.CMD_QP_SIZE_cq_log2 (qpi ring q) →
    h = (s.tick dt).fget Fld.CMD_CQ_HEAD_head (qpi ring q) → tl = (s.tick dt).fget Fld.CMD_CQ_TAIL_tail (qpi ring q) →
    exec (.cqHeadDoorbell dt pasid ring q v) s = .next
      (if n < depth ∧ ((n : Int) - h) % depth ≤ ((tl : Int) - h) % depth then
        (s.tick dt).fset Fld.CMD_CQ_HEAD_head (qpi ring q) n
      else (s.tick dt).fset Fld.CMD_QP_STATUS_dberr (qpi ring q) 1))

/-- A slice page refuses a queue pair access under any other PASID, with a report. Where the page of a slice does not accept the access's PASID, QP_ENABLE, QP_STOP and both doorbells change nothing but the access report, which names reason 0x05 for a control register and 0x06 for a doorbell, the offset and the slice page. A page accepts only the PASID that its valid SLC_PASID entry names. -/
def Obligations.SlicePageAdmitsOnlyItsPasid : Prop :=
  (∀ (dt : Nat) (pasid : Option Nat) (ring q v : Nat) (s : State), ring < managerRing → q < 8 →
    (s.tick dt).pageOpen ring pasid = false →
    exec (.qpEnable dt pasid ring q) s = .next ((s.tick dt).report ⟨0x00, 4, pasid⟩ .write (ring * 0x4000 + 0x100 * q) 0x05 ring) ∧
    exec (.qpStop dt pasid ring q) s = .next ((s.tick dt).report ⟨0x00, 4, pasid⟩ .write (ring * 0x4000 + 0x100 * q) 0x05 ring) ∧
    exec (.sqTailDoorbell dt pasid ring q v) s =
      .next ((s.tick dt).report ⟨0x00, 4, pasid⟩ .write (ring * 0x4000 + 0x100 * q + 0x20) 0x06 ring) ∧
    exec (.cqHeadDoorbell dt pasid ring q v) s =
      .next ((s.tick dt).report ⟨0x00, 4, pasid⟩ .write (ring * 0x4000 + 0x100 * q + 0x28) 0x06 ring)) ∧
  (∀ (slice : Nat) (pasid : Option Nat) (s : State), s.pageOpen slice pasid →
    ∃ p : Nat, pasid = some p ∧ s.flag Fld.SLC_PASID_valid slice ∧ s.fget Fld.SLC_PASID_pasid slice = p)

/-- An entry is fetched only with a completion entry reserved, and becomes a packet. With the queue pair running and not stopping, the host link up and not held, an SQ entry pending, and fetched packets plus unconsumed CQ entries below the CQ depth - 1, SQ_ENTRY_FETCH answers the state after the fetch (State.fetchEntry). After boot, outside a caravan and with an entry that passes decode, that state has the packet under the next packet number with the entry's 64 octets and the fetch time, and an SQ head one further modulo the depth. Where the CQ has no room, nothing is fetched. -/
def Obligations.FetchNeedsReservedCompletion : Prop :=
  (∀ (dt ring q : Nat) (entry : Bytes) (ahead : Nat) (s : State), q < 8 → ring ≤ managerRing →
    (s.tick dt).flag Fld.CMD_QP_STATUS_running (qpi ring q) → (s.tick dt).flag Fld.HLU_LINK_up 0 → (s.tick dt).islandHeld 0 = false →
    (s.tick dt).flag Fld.CMD_QP_CTRL_stop (qpi ring q) = false →
    (s.tick dt).fget Fld.CMD_SQ_HEAD_head (qpi ring q) ≠ (s.tick dt).fget Fld.CMD_SQ_TAIL_tail (qpi ring q) →
    ((s.tick dt).qpPackets ring q).length + (s.tick dt).cqUsed (qpi ring q) + 1 <
      2 ^ (s.tick dt).fget Fld.CMD_QP_SIZE_cq_log2 (qpi ring q) →
    exec (.sqEntryFetch dt ring q entry ahead) s = .next ((s.tick dt).fetchEntry ring q entry ahead)) ∧
  (∀ (ring q head : Nat) (entry : Bytes) (ahead : Nat) (s t : State) (p : Packet), q < 8 → ring ≤ managerRing → s.booted →
    s.cmd.fetching.get? (qpi ring q) = none → bit (field (fitLen 64 entry) 2 2) 0 = false →
    head = s.fget Fld.CMD_SQ_HEAD_head (qpi ring q) → p = mkPacket ring q head s.now entry none → p.decodes →
    t = s.fetchEntry ring q entry ahead →
    t.cmd.packets.get? s.cmd.nextPid = some p ∧ t.cmd.nextPid = s.cmd.nextPid + 1 ∧
    t.fget Fld.CMD_SQ_HEAD_head (qpi ring q) = (head + 1) % 2 ^ s.fget Fld.CMD_QP_SIZE_sq_log2 (qpi ring q) % 2 ^ 16) ∧
  (∀ (dt ring q : Nat) (entry : Bytes) (ahead : Nat) (s : State),
    2 ^ (s.tick dt).fget Fld.CMD_QP_SIZE_cq_log2 (qpi ring q) ≤
      ((s.tick dt).qpPackets ring q).length + (s.tick dt).cqUsed (qpi ring q) + 1 →
    exec (.sqEntryFetch dt ring q entry ahead) s = .next (s.tick dt))

/-- Holds and timers of waiting packets run out as the rules say. A packet held for randomness for less than 250 ms takes its reservation when its random output is ready, and completes with NOT_READY after 250 ms; a packet that failed decode completes with UNKNOWN_OPCODE 2,000 ns after its fetch, with that release time, in its caravan's turn; the delay of a queue pair's unsignalled completions ends in its interrupt message. -/
def Obligations.PacketTimersComplete : Prop :=
  (∀ (dt pid since : Nat) (p : Packet) (s : State), (s.tick dt).cmd.packets.get? pid = some p → p.phase = .held since →
    (s.tick dt).now < since + 250000000 → (s.tick dt).randomReady p → exec (.randomnessReady dt pid) s = .next ((s.tick dt).reserve pid p)) ∧
  (∀ (dt pid since : Nat) (p : Packet) (s : State), (s.tick dt).cmd.packets.get? pid = some p → p.phase = .held since →
    since + 250000000 ≤ (s.tick dt).now → exec (.randomnessHoldExpiry dt pid) s = .next ((s.tick dt).fail pid .notReady)) ∧
  (∀ (dt pid : Nat) (p : Packet) (s : State), (s.tick dt).cmd.packets.get? pid = some p → p.phase = .unknownOp →
    p.fetched + 2000 ≤ (s.tick dt).now → (s.tick dt).caravanTurn pid p →
    exec (.unknownOpcodeRelease dt pid) s = .next ((s.tick dt).complete pid (Compl.plain .unknownOpcode (p.fetched + 2000)))) ∧
  (∀ (dt ring q : Nat) (w : IrqWait) (s : State), (s.tick dt).cmd.irq.get? (qpi ring q) = some w →
    (s.tick dt).flag Fld.CMD_QP_IRQ_ien (qpi ring q) → (s.tick dt).fget Fld.CMD_QP_IRQ_delay (qpi ring q) ≠ 0 →
    w.since + 1000 * (s.tick dt).fget Fld.CMD_QP_IRQ_delay (qpi ring q) ≤ (s.tick dt).now →
    exec (.completionIrqDelayExpiry dt ring q) s = .next ((s.tick dt).sendQpIrq ring q))

/-- A packet that starts is taken up by its opcode's work; before READY it completes with NOT_READY. A fetched packet whose opcode is the command's, which decodes and whose turn has come, starts: where boot is not complete it completes with NOT_READY; where the packet needs no random words, or has them reserved and no packet before it is still held for its own, it is taken up by a command pair and its opcode's work runs on it, which the other statements call Starts (and Serves, where the host refuses none of its output writes). An opcode of time class none then concludes with its failing status, with DONE (State.answers) where the host takes the output, or, where the host refuses a write of the output, with the write's failure and nothing else changed (the model's choice, log entry 219). A command for a packet that is not there changes nothing but time (the model's choice, log entry 2). -/
def Obligations.PacketStartConditions : Prop :=
  (∀ (opc pid : Nat) (d : PktData) (s : State) (q : Packet) (op : Op), s.startable opc pid d = some q → s.booted = false →
    s.runOp opc pid d op = s.fail pid .notReady) ∧
  (∀ (opc pid : Nat) (d : PktData) (s : State) (q : Packet), s.startable opc pid d = some q → s.booted →
    (needsRandom q q.data = false ∨ q.rnd.isSome ∧ s.turn pid q false) →
    s.Starts opc pid d (s.take pid q) (((s.take pid q).cmd.packets.get? pid).getD q)) ∧
  (∀ (opc pid : Nat) (d : PktData) (s t : State) (p : Packet) (op : Op), s.Starts opc pid d t p →
    s.runOp opc pid d op = t.conclude pid (op t pid p)) ∧
  (∀ (opc pid : Nat) (d : PktData) (s t : State) (p : Packet) (e : Stop), s.Starts opc pid d t p →
    t.conclude pid (.error e) = ((e.s.getD t).countPid pid e.st.unstarted).fail pid e.st) ∧
  (∀ (opc pid : Nat) (d : PktData) (s t : State) (p : Packet) (r : Did), s.Serves opc pid d t p →
    t.conclude pid (.ok r) = r.s.answers pid r.out r.mu r.result) ∧
  (∀ (opc pid n : Nat) (d : PktData) (s t : State) (p : Packet) (r : Did), s.Starts opc pid d t p → p.refusesOut r.out = some n →
    t.conclude pid (.ok r) = t.answers pid r.out r.mu r.result) ∧
  (∀ (opc pid : Nat) (d : PktData) (s : State) (op : Op), s.cmd.packets.get? pid = none → s.runOp opc pid d op = s)

/-- KEY_ATTR and KEY_PUBLIC output the attribute header and the public key. Where the host takes the output: a started KEY_ATTR whose handle resolves, whose parameters are zero and whose output holds 64 octets, completes with DONE and the 64-octet attribute header of the key. A started KEY_PUBLIC on a key with a public part completes with DONE, the public key in its boundary form, and a charge of 1 MU. No record and no slot of the cache changes by the answer. -/
def Obligations.KeyReadoutsComplete : Prop :=
  (∀ (dt pid : Nat) (d : PktData) (s t : State) (p : Packet) (k : Key), (s.tick dt).Serves 0x0109 pid d t p →
    t.keyOf pid p = .ok k → p.areasOk ioOut → p.inlineFrom 0 → p.fits 64 →
    exec (.keyAttr dt pid d) s = .next (State.answers { t with free := t.free + 1 } pid (t.headerOf k) 0 0)) ∧
  (∀ (dt pid : Nat) (d : PktData) (s t : State) (p : Packet) (k : Key), (s.tick dt).Serves 0x0104 pid d t p →
    t.keyOf pid p = .ok k → p.areasOk ioOut → p.inlineFrom 0 → k.pub ≠ [] → p.fits (pubForm k.typ k.pub k.exponent).length →
    exec (.keyPublic dt pid d) s = .next (t.answers pid (pubForm k.typ k.pub k.exponent) 1 0)) ∧
  (∀ (pid mu result : Nat) (out : Bytes) (s : State), (s.answers pid out mu result).ks.recs = s.ks.recs ∧
    (s.answers pid out mu result).ks.slots = s.ks.slots)

/-- KEY_GENERATE of a traffic key, KEY_DERIVE and both forms of KEY_LOAD make their key. With the handle, class, type, usage and quota checks met, a vault root loaded, room in an output that the host takes and a free record in the cache: KEY_GENERATE of class TRAFFIC enters a key of random material and outputs its mitten for 4 MU; KEY_DERIVE enters the key that the named KDF derives and outputs its mitten for 4 MU; KEY_LOAD of a mitten that opens under the vault root enters its key for 2 MU; KEY_LOAD of an EVX-7200 record whose tag and wrapping hold under the compatibility root fills a free compatibility slot for 2 MU. Each returns the new handle. -/
def Obligations.KeyCreationCompletes : Prop :=
  (∀ (dt pid h c line : Nat) (d : PktData) (s t w : State) (p : Packet) (kt : KeyType) (k : NewKey) (o : Option Key) (root block : Bytes),
    (s.tick dt).Serves 0x0101 pid d t p → p.par 0 0 = clsTraffic → t.handles pid p = .ok o → t.wiping = false →
    t.quotaOk p.ring (p.par 1 1) → p.areasOk ioOut → p.inlineFrom 4 → keyType (p.par 1 1) = some kt →
    kt.classes.contains clsTraffic → usageOk (p.par 1 1) clsTraffic (p.par 2 3) → t.vaultOf p.ring = some (line, root, block) →
    k = ⟨clsTraffic, p.par 1 1, 1, p.par 2 3, leNat (p.random 0 8), 0, 0, p.random 2 kt.s, []⟩ → p.fits (96 + k.secret.length + k.pub.length) →
    (t.hwuLoad root).enterKey p.ring (t.vaultId p.ring) k = some (h, w) → c = 4 →
    exec (.keyGenerate dt pid d) s = .next
      (w.answers pid (mkMitten root (k.header (t.vaultId p.ring)) (p.random 1 12) k.secret k.pub) c h)) ∧
  (∀ (dt pid h line : Nat) (d : PktData) (s t w : State) (p : Packet) (kt : KeyType) (b : Key) (k : NewKey) (secret root block : Bytes),
    (s.tick dt).Serves 0x0105 pid d t p → t.keyOf pid p = .ok b → b.compat = false → bit b.usage useDerive →
    (p.par 1 1 = clsTraffic ∨ (p.par 1 1 = clsCustody ∧ b.cls = clsCustody)) → t.wiping = false → t.quotaOk p.ring (p.par 4 4) →
    p.areasOk ioBoth → p.inlineFrom 5 → p.inTotal ≤ 65535 → keyType (p.par 4 4) = some kt → kt.classes.contains (p.par 1 1) →
    kt.pub = 0 → usageOk (p.par 4 4) (p.par 1 1) (p.par 2 3) → t.oneRoot p.ring (p.par 4 4) →
    derive (p.par 0 0) b.secret p.input kt.s = some secret → t.vaultOf p.ring = some (line, root, block) →
    k = ⟨p.par 1 1, p.par 4 4, 2, p.par 2 3, leNat (p.random 0 8), b.ident, 0, secret, []⟩ → p.fits (96 + k.secret.length + k.pub.length) →
    (t.hwuLoad root).enterKey p.ring (t.vaultId p.ring) k = some (h, w) →
    exec (.keyDerive dt pid d) s = .next
      (w.answers pid (mkMitten root (k.header (t.vaultId p.ring)) (p.random 1 12) k.secret k.pub) 4 h)) ∧
  (∀ (dt pid line l : Nat) (d : PktData) (s t w : State) (p : Packet) (o : Option Key) (secret pub root block : Bytes),
    (s.tick dt).Starts 0x0102 pid d t p → t.handles pid p = .ok o → p.areasOk ioIn → field p.input 0 1 = 1 → t.wiping = false →
    t.quotaOk p.ring (field p.input 2 1) → p.inlineFrom 0 → t.vaultOf p.ring = some (line, root, block) →
    openMitten root block (t.vaultId p.ring) p.input = some (secret, pub) → t.oneRoot p.ring (field p.input 2 1) →
    (t.hwuLoad root).addRecord (recOfHeader p.ring (p.input.take 64) pub) secret = some (l, w) →
    exec (.keyLoad dt pid d) s = .next (w.answers pid [] 2 (w.handleOf p.ring (field p.input 1 1) l))) ∧
  (∀ (dt pid line : Nat) (d : PktData) (s t u : State) (p : Packet) (o : Option Key) (root : KeyRec) (kek kf mask : Bytes) (c e : CompatSlot),
    (s.tick dt).Starts 0x0102 pid d t p → t.handles pid p = .ok o → p.areasOk ioIn → field p.input 0 1 = 3 → t.wiping = false →
    t.mirrors p.ring = false → t.freeSlotLine = some line → t.kcFits p.ring 4 → p.inlineFrom 0 → p.input.length = 176 →
    t.compatRoot p.ring = some root → kek = root.copy.secret.take 32 →
    kf = fitLen 48 (Config.prim .evxUnwrap [kek, slice p.input 0x10 56]) →
    fitLen 8 (Config.prim .hmacSha256 [kek, p.input.take 0xA8]) = slice p.input 0xA8 8 →
    Config.accepts .evxUnwrap [kek, slice p.input 0x10 56] → evxOk p.input kf → mask = fitLen 48 (Config.random t.free) →
    c = ⟨t.regionOf line, p.ring, field p.input 5 1, false, p.input.take 16, mask, xorBytes kf mask, slice p.input 0x48 96, []⟩ →
    e = { c with check := t.slotCheck line c.head kf c.pub } →
    u = ({ t with ks := { t.ks with slots := t.ks.slots.insert line e }, free := t.free + 1 }).kcAdd p.ring 4 →
    exec (.keyLoad dt pid d) s = .next (u.answers pid [] 2 (u.handleOf p.ring (field p.input 5 1) line)))

/-- KEY_UNLOAD frees its key at once, or waits for the packets that use it. A started KEY_UNLOAD whose handle resolves and whose parameters are zero frees the key and completes with DONE where no other started packet references the handle; otherwise it waits as deferred work, and its packet stays. -/
def Obligations.KeyUnloadFreesOrWaits : Prop :=
  (∀ (dt pid h : Nat) (d : PktData) (s t : State) (p : Packet) (k : Key), (s.tick dt).Starts 0x0103 pid d t p →
    t.keyOf pid p = .ok k → t.firstHandle pid p = some h → p.inlineFrom 0 → t.references pid h = false →
    t.resolve h = some k → exec (.keyUnload dt pid d) s = .next ((t.freeKey k.line).finish pid [] 0 0)) ∧
  (∀ (dt pid h : Nat) (d : PktData) (s t u : State) (p : Packet) (k : Key), (s.tick dt).Starts 0x0103 pid d t p →
    t.keyOf pid p = .ok k → t.firstHandle pid p = some h → p.inlineFrom 0 → t.references pid h →
    u = t.setPacket pid { p with phase := .waiting } →
    exec (.keyUnload dt pid d) s = .next { u with cmd := { u.cmd with deferred := u.cmd.deferred ++ [.unload pid h] } })

/-- KEY_EXPORT, KEY_IMPORT and KEY_DELETE complete under their quorum token. With the handle and form checks met, the vault loaded, the quorum check passed and an output that the host takes: KEY_EXPORT outputs the key sealed to the recipient and signed by the attestation keys, for 4 MU and the approvals; KEY_IMPORT opens the transfer form with the challenge's key, enters the key and outputs its mitten, for the same; KEY_DELETE appends the identifier to the deleted list, issues the new seal as output and destroys every key of that identifier, for 1 MU and the approvals. The state that each goes on from is the one that the quorum check leaves (its own statement says that the challenge is used up). -/
def Obligations.KeyQuorumCommandsComplete : Prop :=
  (∀ (dt pid mu line : Nat) (d : PktData) (s t u : State) (p : Packet) (k : Key) (ch : Option Challenge) (root block form : Bytes),
    (s.tick dt).Serves 0x0106 pid d t p → t.keyOf pid p = .ok k → p.areasOk ioBoth → p.inTotal = 1665 →
    t.vaultOf p.ring = some (line, root, block) → k.compat = false → bit k.usage useExport →
    t.vaultQuorum p.ring qExport false block (sha384 (identBE k.ident ++ p.input)) p.block p.data.approvals = some (u, mu, ch) →
    recipientOk p.input → p.fits (6539 + (k.secret.length + k.pub.length)) →
    form = mkTransfer (transferHead (t.headerOf k) p.input) p.input (p.random 0 32) keyTransferLabel (k.secret ++ k.pub) →
    exec (.keyExport dt pid d) s = .next ((u.hwuLoad k.secret).answers pid (form ++ t.attestSign form) (4 + mu) 0)) ∧
  (∀ (dt pid mu line h n : Nat) (d : PktData) (s t u w : State) (p : Packet) (o : Option Key) (c : Challenge) (k : NewKey)
    (root block pt x : Bytes),
    (s.tick dt).Serves 0x0107 pid d t p → t.handles pid p = .ok o → p.areasOk ioBoth → transferOk p.input →
    t.vaultOf p.ring = some (line, root, block) → field p.input 1 1 ≠ clsTraffic →
    t.vaultQuorum p.ring qImport false block (sha384 p.input) p.block p.data.approvals = some (u, mu, some c) →
    t.wiping = false → u.quotaOk p.ring (field p.input 2 1) →
    slice p.input 0x40 48 = sha384 (slice c.body 0xA0 1665) → headerOk (p.input.take 64) (t.vaultId p.ring) →
    (field p.input 1 1 = clsCustody ∨ field p.input 1 1 = clsAsym) → (deletedList block).contains (field p.input 8 8) = false →
    u.oneRoot p.ring (field p.input 2 1) → n = field p.input 0x28 2 →
    openTransfer c.keys.value p.input keyTransferLabel (n + field p.input 0x2A 2) = some (pt, x) →
    k = ⟨field p.input 1 1, field p.input 2 1, 3, field p.input 4 2, field p.input 8 8, 0, field p.input 0x2C 4, pt.take n, pt.drop n⟩ →
    p.fits (96 + pt.length) → u.enterKey p.ring (t.vaultId p.ring) k = some (h, w) →
    exec (.keyImport dt pid d) s = .next
      (w.answers pid (mkMitten root (k.header (t.vaultId p.ring)) (p.random 1 12) k.secret k.pub) (4 + mu) h)) ∧
  (∀ (dt pid mu line : Nat) (d : PktData) (s t u w : State) (p : Packet) (k : Key) (ch : Option Challenge) (root block new : Bytes),
    (s.tick dt).Serves 0x0108 pid d t p → t.keyOf pid p = .ok k → t.vaultOf p.ring = some (line, root, block) →
    t.vaultQuorum p.ring qDelete false block (sha384 (identBE k.ident)) p.block p.data.approvals = some (u, mu, ch) →
    u.sealing = false → field block 6 2 < maxDeleted block → u.seedValid →
    u.reissue line p.ring root (addDeleted block k.ident) = some (w, new) → p.areasOk ioOut → p.fits new.length →
    exec (.keyDelete dt pid d) s = .next
      (((t.keysNamed p.ring k.ident).foldl State.freeKey w).answers pid new (1 + mu) 0))

/-- VAULT_CREATE, VAULT_LOAD, VAULT_POLICY_SET and VAULT_DELETE complete. Where the host takes the output: VAULT_CREATE on a slice without a vault makes a root and outputs its first seal for 4 MU, with the counter as result; VAULT_LOAD opens a seal into a root record for 2 MU; VAULT_POLICY_SET under its quorum replaces the policy block by one that continues it and outputs the new seal; VAULT_DELETE under its quorum advances the vault counter and frees every key of the slice. Each under the checks of its rule, spelled out here. -/
def Obligations.VaultCommandsComplete : Prop :=
  (∀ (dt pid l : Nat) (d : PktData) (s t u w : State) (p : Packet) (o : Option Key) (block new : Bytes),
    (s.tick dt).Serves 0x0501 pid d t p → t.handles pid p = .ok o → p.areasOk ioBoth → p.inlineFrom 0 → policyOk p.input false →
    allZero (slice p.input 0x10 16) → field p.input 6 2 = 0 → t.vaultExists p.ring = false → t.rootOf p.ring = none →
    t.sealing = false → t.wiping = false → t.rootFits p.ring p.input.length → t.seedValid → block = setVault p.input (p.random 0 16) →
    t.issueSeal p.ring (p.random 0 16) (p.random 1 32) block = some (u, new) → p.fits new.length →
    u.addRecord (rootRecord p.ring (p.random 0 16) block) (p.random 1 32) = some (l, w) →
    exec (.vaultCreate dt pid d) s = .next (w.answers pid new 4 (t.vaultCounter p.ring + 1))) ∧
  (∀ (dt pid l : Nat) (d : PktData) (s t w : State) (p : Packet) (o : Option Key) (root block : Bytes),
    (s.tick dt).Serves 0x0502 pid d t p → t.handles pid p = .ok o → p.areasOk ioIn → p.inlineFrom 0 →
    p.input.length = 144 + field p.input 2 2 → field p.input 0x0C 4 = p.input.length → t.rootOf p.ring = none →
    t.sealing = false → t.wiping = false → t.rootFits p.ring (field p.input 2 2) → t.seedValid →
    t.openSeal p.ring p.input = some (root, block) →
    (t.hwuLoad (t.vaultKey p.ring (field p.input 8 4) (slice p.input 0x10 16) (t.mr 2))).addRecord
      (rootRecord p.ring (slice p.input 0x10 16) block) root = some (l, w) →
    exec (.vaultLoad dt pid d) s = .next (w.answers pid [] 2 0)) ∧
  (∀ (dt pid line mu : Nat) (d : PktData) (s t u w : State) (p : Packet) (o : Option Key) (ch : Option Challenge) (root block new : Bytes),
    (s.tick dt).Serves 0x0503 pid d t p → t.handles pid p = .ok o → p.areasOk ioBoth → policyOk p.input false → t.wiping = false →
    t.vaultOf p.ring = some (line, root, block) →
    t.vaultQuorum p.ring qPolicy true block (sha384 p.input) p.block p.data.approvals = some (u, mu, ch) → u.sealing = false →
    u.seedValid → u.reissue line p.ring root p.input = some (w, new) → policyContinues block p.input → p.fits new.length →
    exec (.vaultPolicySet dt pid d) s = .next (w.answers pid new mu 0)) ∧
  (∀ (dt pid line mu : Nat) (d : PktData) (s t u w : State) (p : Packet) (o : Option Key) (ch : Option Challenge) (root block : Bytes),
    (s.tick dt).Serves 0x0504 pid d t p → t.handles pid p = .ok o → p.areasOk ioNone → t.wiping = false → t.vaultOf p.ring = some (line, root, block) →
    t.vaultQuorum p.ring qDelete false block (sha384 (t.vaultId p.ring)) p.block p.data.approvals = some (u, mu, ch) →
    u.sealing = false → u.vaultAdvance p.ring false false = some w →
    exec (.vaultDelete dt pid d) s = .next ((w.freeSlice p.ring).answers pid [] mu 0))

/-- Challenges are issued and end, the device policy is programmed, and the measurements are read. Where the host takes the output: QUORUM_CHALLENGE and DQ_CHALLENGE issue a challenge (its body the output, its identifier the result) under their checks; CHALLENGE_EXPIRY ends the challenge of an identifier whose expiry time has come, and no challenge of another; DQ_POLICY_SET, where no other command of the device quorum executes and the RP may program OTP, programs the digest of its policy block to the next free record under its approval, whose charge it takes; MEASURE_READ outputs the measurement registers, the identity keys and the certificate. -/
def Obligations.ChallengesAndDeviceQuorumComplete : Prop :=
  (∀ (dt pid line : Nat) (d : PktData) (s t u : State) (p : Packet) (o : Option Key) (c : Challenge) (root block : Bytes),
    (s.tick dt).Serves 0x0505 pid d t p → t.handles pid p = .ok o → ¬ (p.par 0 0 = qImport ∧ t.importsFull p.ring) →
    p.areasOk ioBoth → p.inlineFrom 1 → p.par 0 0 ≤ 6 → p.inTotal = 48 → t.wiping = false → t.vaultOf p.ring = some (line, root, block) →
    p.fits (if p.par 0 0 = qImport then 1832 else 160) →
    t.issueChallenge p p.ring (p.par 0 0) (t.vaultCounter p.ring) (field block 8 4) (t.vaultId p.ring) p.input [] = (u, c) →
    exec (.quorumChallenge dt pid d) s = .next (u.answers pid c.body 0 c.ident)) ∧
  (∀ (dt pid r : Nat) (d : PktData) (s t u : State) (p : Packet) (o : Option Key) (c : Challenge) (block : Bytes),
    (s.tick dt).Serves 0x0580 pid d t p → t.handles pid p = .ok o → p.areasOk ioBoth → p.inlineFrom 1 →
    0x10 ≤ p.par 0 0 → p.par 0 0 ≤ 0x13 → 48 < p.inTotal → block = p.input.take (p.inTotal - 48) → t.otp.dqCurrent = some r →
    sha384 block = t.otp.dqDigest r → p.fits 160 →
    t.issueChallenge p dqSlice (p.par 0 0) r (field block 8 4) (zeros 16) (p.input.drop (p.inTotal - 48)) block = (u, c) →
    exec (.dqChallenge dt pid d) s = .next (u.answers pid c.body 0 c.ident)) ∧
  (∀ (dt ident : Nat) (c : Challenge) (s : State), c ∈ s.vlt.challenges → c.ident = ident → c.expiry ≤ s.now + dt → ∃ t : State,
    exec (.challengeExpiry dt ident) s = .next t ∧ t.vlt.challenges = s.vlt.challenges.filter (fun x => x.ident != ident)) ∧
  (∀ (dt pid n mu : Nat) (d : PktData) (s t u : State) (p : Packet) (o : Option Key),
    (s.tick dt).dqExecutes = false → (s.tick dt).rpPrograms → (s.tick dt).Serves 0x0581 pid d t p → t.handles pid p = .ok o → p.areasOk ioIn → policyOk p.input true → t.lc ≠ 0 →
    t.dqPolicyQuorum p = some (u, mu) → t.dqNext = some n →
    exec (.dqPolicySet dt pid d) s = .next (State.answers { u with otp := u.otp.programDq n (sha384 p.input) } pid [] mu 0)) ∧
  (∀ (dt pid : Nat) (d : PktData) (s t : State) (p : Packet) (o : Option Key),
    (s.tick dt).Serves 0x0803 pid d t p → t.handles pid p = .ok o → p.areasOk ioOut → p.inlineFrom 0 → p.fits 10660 →
    exec (.measureRead dt pid d) s = .next (t.answers pid t.measures 0 0))

/-- The public-key opcodes accept their packet as a waiting job. A started SIGN, VERIFY, KEY_AGREE, KEM_ENCAPS, KEM_DECAPS, RSA_ENCRYPT or RSA_DECRYPT of a slice with a PKE weight, whose key's usage and class permit it, whose quota holds a key it makes, and whose key type and parameters name an algorithm of the opcode, is accepted as a job with that operation's figures, class C for a CUSTODY key and class M otherwise (SIGN and VERIFY then hash a public message in a cluster first: State.hashMessage); KEY_GENERATE of an ASYM or CUSTODY key, ATTEST, METER_READ of an interim record and WS_EXEC likewise with theirs. METER_READ of the key statement answers it at once. An accepted packet waits for a core. -/
def Obligations.PublicKeyPacketsAreAccepted : Prop :=
  (∀ (opc dt pid : Nat) (c : Nat → Nat → PktData → Instr) (d : PktData) (s t u : State) (p : Packet) (h : Nat) (k : Option Key) (f : Fig) (typ : Nat),
    (opc, c) ∈ asymTable → (s.tick dt).Starts opc pid d t p → t.firstHandle pid p = some h →
    t.checkHandles p (if supplied opc p then KeyUse.unused else match opInfo opc with | some o => o.key | none => .unused) h = .ok k →
    t.weight p.ring ≠ 0 → keyPolicy opc p (k.map (fun k => (h, k))) → (toNewKey opc p → t.wiping = false ∧ t.quotaOk p.ring (p.par 4 4)) →
    typ = (if supplied opc p then p.par 3 3 else match k with | some k => k.typ | none => 0) → opFig opc typ (fun i => p.par i i) = some f →
    u = t.accept pid p false
      (if (match k with | some k => k.cls == clsCustody | none => false) then .c else .m)
      (if toNewKey opc p then f.toKey else f) false (match k with | some _ => h | none => 0) 0 false typ
      (if toNewKey opc p then t.quotaLines p.ring (typeLines (p.par 4 4)) else 0) →
    exec (c dt pid d) s = .next (if opc = 0x0301 ∨ opc = 0x0302 then u.hashMessage pid else u)) ∧
  (∀ (dt pid h : Nat) (d : PktData) (s t : State) (p : Packet) (o : Option Key) (kt : KeyType) (f : Fig),
    (s.tick dt).Starts 0x0101 pid d t p → (p.par 0 0 = clsCustody ∨ p.par 0 0 = clsAsym) → t.firstHandle pid p = some h →
    t.checkHandles p .unused h = .ok o → t.weight p.ring ≠ 0 → t.wiping = false → t.quotaOk p.ring (p.par 1 1) →
    keyType (p.par 1 1) = some kt → kt.classes.contains (p.par 0 0) → genFig (p.par 1 1) = some f →
    exec (.keyGenerate dt pid d) s = .next (t.accept pid p false (if p.par 0 0 == clsCustody then .c else .m) f false 0 0 false
      (p.par 1 1) (t.quotaLines p.ring (typeLines (p.par 1 1))))) ∧
  (∀ (dt pid h : Nat) (d : PktData) (s t : State) (p : Packet) (o : Option Key),
    (s.tick dt).Starts 0x0801 pid d t p → p.opcode = 0x0801 → t.firstHandle pid p = some h → t.checkHandles p .unused h = .ok o →
    (p.manager ∨ t.weight p.ring ≠ 0) → t.switching = false → t.wiping = false →
    exec (.attest dt pid d) s = .next (t.accept pid p p.manager .c attestFig false 0 0 false 0x3A 0)) ∧
  (∀ (dt pid h : Nat) (d : PktData) (s t : State) (p q : Packet) (o : Option Key),
    (s.tick dt).cmd.packets.get? pid = some q → q.par 0 0 = 0 → (s.tick dt).Starts 0x0802 pid d t p → p.opcode = 0x0802 →
    p.par 0 0 = 0 → t.firstHandle pid p = some h → t.checkHandles p .unused h = .ok o →
    (p.manager ∨ t.weight p.ring ≠ 0) → t.switching = false → t.wiping = false →
    exec (.meterReadInterim dt pid d) s = .next (t.accept pid p p.manager .c (mkFig 70 104 8 184 82500 1) false 0 0 false 0x11 0)) ∧
  (∀ (dt pid : Nat) (d : PktData) (s t : State) (p q : Packet) (o : Option Key),
    (s.tick dt).cmd.packets.get? pid = some q → q.par 0 0 ≠ 0 → (s.tick dt).Serves 0x0802 pid d t p → t.handles pid p = .ok o →
    t.switching = false → p.par 0 0 = 1 → t.meterParams p → p.fits 12486 →
    exec (.meterReadStatement dt pid d) s = .next (t.answers pid (fitLen 12486 t.met.statement) 0 0)) ∧
  (∀ (dt pid h : Nat) (d : PktData) (s t : State) (p : Packet) (o : Option Key) (x : Workspace),
    (s.tick dt).Starts 0x0405 pid d t p → t.firstHandle pid p = some h → t.checkHandles p .unused h = .ok o → t.weight p.ring ≠ 0 →
    t.spaceOf p (wsNamed p) = .ok x → wsCounted p.block → p.areasOk ioNone →
    exec (.wsExec dt pid d) s = .next
      (t.accept pid p false .ws (wsFig (wsCycles (wsInstrs p.block) x.w)) (t.wsClosing p.ring (wsNamed p)) 0 (wsNamed p) false 0 0))

/-- WS_OPEN, WS_WRITE, WS_READ and WS_CLOSE execute when their turn comes. A started workspace command of a slice with a PKE weight whose workspace no earlier packet names executes at once: WS_OPEN makes a workspace of c slots of w words under a fresh identifier, WS_WRITE fills a slot from big-endian input, WS_READ outputs a valid slot big-endian in 8w octets; each then waits at the release gate with its result. WS_CLOSE zeroizes and frees the workspace and is released at once. -/
def Obligations.WorkspaceCommandsComplete : Prop :=
  (∀ (dt pid : Nat) (d : PktData) (s t u : State) (p r : Packet) (o : Option Key) (j : Job),
    (s.tick dt).Starts 0x0401 pid d t p → t.weight p.ring ≠ 0 → wsNamed p = 0 →
    u = t.accept pid p false .slots (slotsFig p.opcode) false 0 0 (p.opcode == 0x0402) 0 0 →
    u.pke.jobs.get? pid = some j → j.closes = false → j.reject = false → u.wsTurn j → u.cmd.packets.get? pid = some r → r.opcode = 0x0401 →
    u.handles pid r = .ok o → r.inlineFrom 4 → 1 ≤ r.par 0 1 → 4 ≤ r.par 2 3 → r.par 2 3 ≤ 256 → r.par 0 1 * r.par 2 3 ≤ 7680 →
    u.wsCount r.ring < 4 → u.wsWords + r.par 0 1 * r.par 2 3 ≤ 524288 →
    exec (.wsOpen dt pid d) s = .next
      (((State.setSpace { u with free := u.free + 1 } (u.wsIdent r.ring) ⟨r.ring, r.par 2 3, r.par 0 1, .empty⟩).setPacket pid
        { r with phase := .running }).setJob pid
        { j with start := u.now, at_ := .gate 0 u.now, res := { JobRes.plain [] with result := u.wsIdent r.ring } })) ∧
  (∀ (dt pid : Nat) (d : PktData) (s t u : State) (p r : Packet) (o : Option Key) (j : Job) (x : Workspace),
    (s.tick dt).Starts 0x0403 pid d t p → t.weight p.ring ≠ 0 →
    u = t.accept pid p false .slots (slotsFig p.opcode) (wsNamed p != 0 && t.wsClosing p.ring (wsNamed p)) 0 (wsNamed p)
      (p.opcode == 0x0402) 0 0 →
    u.pke.jobs.get? pid = some j → j.closes = false → j.reject = false → u.wsTurn j → u.cmd.packets.get? pid = some r → r.opcode = 0x0403 →
    u.handles pid r = .ok o → u.spaceOf r (r.par 0 7) = .ok x → r.areasOk ioIn → r.inlineFrom 10 → r.par 8 9 < x.c →
    1 ≤ r.inTotal → r.inTotal ≤ 8 * x.w →
    exec (.wsWrite dt pid d) s = .next
      (((u.setSpace (r.par 0 7) { x with slots := x.slots.insert (r.par 8 9) ⟨beNat r.input, true⟩ }).setPacket pid
        { r with phase := .running }).setJob pid
        { j with start := u.now, at_ := .gate 0 u.now, res := { JobRes.plain [] with result := 0 } })) ∧
  (∀ (dt pid : Nat) (d : PktData) (s t u : State) (p r : Packet) (o : Option Key) (j : Job) (x : Workspace) (v : WsSlot),
    (s.tick dt).Starts 0x0404 pid d t p → t.weight p.ring ≠ 0 →
    u = t.accept pid p false .slots (slotsFig p.opcode) (wsNamed p != 0 && t.wsClosing p.ring (wsNamed p)) 0 (wsNamed p)
      (p.opcode == 0x0402) 0 0 →
    u.pke.jobs.get? pid = some j → j.closes = false → j.reject = false → u.wsTurn j → u.cmd.packets.get? pid = some r → r.opcode = 0x0404 →
    u.handles pid r = .ok o → u.spaceOf r (r.par 0 7) = .ok x → r.areasOk ioOut → r.inlineFrom 10 → r.par 8 9 < x.c →
    x.slots.get? (r.par 8 9) = some v → v.valid → r.fits (8 * x.w) →
    exec (.wsRead dt pid d) s = .next ((u.setPacket pid { r with phase := .running }).setJob pid
      { j with start := u.now, at_ := .gate 0 u.now, res := { JobRes.plain (natBE (8 * x.w) v.value) with result := 0 } })) ∧
  (∀ (dt pid : Nat) (d : PktData) (s t u : State) (p r : Packet) (o : Option Key) (j : Job) (x : Workspace),
    (s.tick dt).Starts 0x0402 pid d t p → t.weight p.ring ≠ 0 →
    u = t.accept pid p false .slots (slotsFig p.opcode) (wsNamed p != 0 && t.wsClosing p.ring (wsNamed p)) 0 (wsNamed p)
      (p.opcode == 0x0402) 0 0 →
    u.pke.jobs.get? pid = some j → j.closes → j.reject = false → u.wsTurn j → u.cmd.packets.get? pid = some r → r.opcode = 0x0402 →
    u.handles pid r = .ok o → u.spaceOf r (r.par 0 7) = .ok x → r.inlineFrom 8 →
    exec (.wsClose dt pid d) s = .next
      ((State.setPacket { u with pke := { u.pke with spaces := u.pke.spaces.erase (r.par 0 7) } } pid { r with phase := .running }).releaseJob pid
        { j with start := u.now, at_ := .gate 0 u.now, res := { JobRes.plain [] with result := 0 } } u.now))

/-- The events of the public-key engine advance its jobs. PKE_DISPATCH first places the waiting verifications, then starts the job that scheduling chooses on the idle core that it chooses, or makes a short job the waiting descriptor of a busy core; VERIFY_JOB_PLACEMENT places a waiting verification on the core that R173 names (here one without another job); YIELD_POINT suspends a main job at a yield point for the core's waiting short job and counts it; PKE_JOB_END ends the job of a context whose schedule has run and then lets deferred work go on; LATTICE_QUANTUM_BOUNDARY begins the next quantum of a job whose quantum had no success, or after 64 sends it to the gate with BUSY_RETRY; RANDOM_DRAW_TIMEOUT stops with NOT_READY the job whose draw waited 250 ms; PKE_CORE_ZERO with 0x2E40 zeroizes the operand memory of a core without a job, and any other value changes nothing but time. -/
def Obligations.PublicKeyEngineEventsComplete : Prop :=
  (∀ (dt pid n : Nat) (onto : Option Nat) (j : Job) (s u : State), u = (s.tick dt).serveVerify → u.nextJob = some (pid, j) →
    u.pickCore j.avoid = some n → exec (.pkeDispatch dt onto) s = .next (u.startJob pid j n u.now)) ∧
  (∀ (dt pid n : Nat) (j : Job) (s u : State), u = (s.tick dt).serveVerify → u.nextJob = some (pid, j) → u.pickCore j.avoid = none →
    u.coreTakes n → (u.mainOf n).isSome → u.assignedOf n = none → u.suspendedOf n = none → j.short → j.avoid ≠ some n →
    exec (.pkeDispatch dt (some n)) s = .next ((u.chargeDispatch j).setJob pid { j with at_ := .assigned n, charged := true })) ∧
  (∀ (dt pid f n : Nat) (j : Job) (s u : State), u = s.tick dt → u.pke.jobs.get? pid = some j → j.at_ = .verifyQueue f →
    u.verifyCore f pid j = some n → u.mainOf n = none → u.suspendedOf n = none →
    exec (.verifyJobPlacement dt pid) s = .next (u.setJob pid { j with
      at_ := .verifying f n, since := u.now
      area := (u.placeArea n pid (slotShape 0x0302 j.typ)).getD ⟨512, (slotShape 0x0302 j.typ).1, (slotShape 0x0302 j.typ).2⟩ })) ∧
  (∀ (dt core cycle xp yp : Nat) (x y : Job) (p : Packet) (s u : State), u = s.tick dt → u.mainOf core = some (xp, x) →
    u.assignedOf core = some (yp, y) → u.cmd.packets.get? xp = some p → u.coreTakes core → u.mayStart y → u.atYield p x cycle →
    u.yields x yp y core →
    exec (.yieldPoint dt core cycle) s = .next
      (((u.setJob xp { u.spend x (y.fig.e + cyc 512) with at_ := .suspended core, ran := u.executed x, since := u.now }).bumpSat
        Fld.PKE_PREEMPT_count 0 1).startJob yp y core (u.now + 214))) ∧
  (∀ (dt core pid : Nat) (j : Job) (s u : State), u = s.tick dt → u.mainOf core = some (pid, j) → u.mainDone j →
    exec (.pkeJobEnd dt core false) s = .next (u.endMain pid j core (u.mainEnd j)).settle) ∧
  (∀ (dt core pid f n : Nat) (j : Job) (s : State), (s.tick dt).verifyingOn core = some (pid, j) → j.at_ = .verifying f n →
    (s.tick dt).verifyDone j →
    exec (.pkeJobEnd dt core true) s = .next ((s.tick dt).verifyEnds pid j f).settle) ∧
  (∀ (dt pid n : Nat) (j : Job) (p : Packet) (s u : State), u = s.tick dt → u.pke.jobs.get? pid = some j →
    u.cmd.packets.get? pid = some p → j.at_ = .main n → j.fig.quant → j.accepted = false → (j.kind = .c ∨ j.boundary ≤ u.now) →
    j.quanta < 64 → (drawsPerQuantum p = false ∨ u.drbgReady 1) →
    exec (.latticeQuantumBoundary dt pid) s = .next (u.nextQuantum pid j p n)) ∧
  (∀ (dt pid n : Nat) (j : Job) (p : Packet) (s u v : State), u = s.tick dt → u.pke.jobs.get? pid = some j →
    u.cmd.packets.get? pid = some p → j.at_ = .main n → j.fig.quant → j.accepted = false → (j.kind = .c ∨ j.boundary ≤ u.now) →
    64 ≤ j.quanta → v = (if p.opcode = 0x0301 ∧ j.kind = .m then u.bumpSat Fld.PKE_CAPPED_count 0 1 else u) →
    exec (.latticeQuantumBoundary dt pid) s = .next
      (((v.clearArea n j.area).passGate pid { j with res := JobRes.of .busyRetry, lines := 0 } n
        (if j.kind = .c then u.now else j.boundary)).coreNext n u.now)) ∧
  (∀ (dt pid n since : Nat) (j : Job) (s : State), (s.tick dt).pke.jobs.get? pid = some j → j.draw = some since →
    (s.tick dt).drbgReady 1 = false → since + 250000000 ≤ (s.tick dt).now → j.at_ = .main n →
    exec (.randomDrawTimeout dt pid) s = .next ((s.tick dt).jobStops pid j .notReady)) ∧
  (∀ (dt core v : Nat) (s : State), (s.tick dt).windowOpen core → v % 2 ^ 16 = 0x2E40 →
    exec (.pkeCoreZero dt core v) s = .next ((s.tick dt).zeroCore core)) ∧
  (∀ (core k : Nat) (s : State), k < 8192 → (s.zeroCore core).pke.opmem.get? (8192 * core + k) = none) ∧
  (∀ (dt core v : Nat) (s : State), v % 2 ^ 16 ≠ 0x2E40 → exec (.pkeCoreZero dt core v) s = .next (s.tick dt))

/-- A class M result of fixed schedule leaves the gate at start plus a whole multiple of its budget, never earlier. For a class M or workspace job at the release gate whose result's path (its packet's command pair, HLU, and the core's island) no class 1 hold covers: if its release time has come, RELEASE_GATE releases its completion with exactly that time; before that time, or under a hold, the job stays at the gate. For a schedule that is not quantised the release time is start + k B, with B the budget and k the least number of at least 1 for which it is not before the result reached the gate or the last hold of its path was lifted. -/
def Obligations.ReleaseGateKeepsConstantTime : Prop :=
  (∀ (dt pid core since : Nat) (j : Job) (p : Packet) (s t : State), t = s.tick dt → t.pke.jobs.get? pid = some j →
    t.cmd.packets.get? pid = some p → j.at_ = .gate core since → t.resultHeld p j core = false → j.kind ≠ .c →
    (j.due (max since (t.liftedAt p j core))).1 ≤ t.now →
    exec (.releaseGate dt pid) s = .next ((t.noteLate core (j.due (max since (t.liftedAt p j core))).2).releaseJob pid j
      (j.due (max since (t.liftedAt p j core))).1).settle) ∧
  (∀ (dt pid core since : Nat) (j : Job) (p : Packet) (s t : State), t = s.tick dt → t.pke.jobs.get? pid = some j →
    t.cmd.packets.get? pid = some p → j.at_ = .gate core since → j.kind ≠ .c →
    (t.resultHeld p j core ∨ t.now < (j.due (max since (t.liftedAt p j core))).1) →
    exec (.releaseGate dt pid) s = .next t.settle) ∧
  (∀ (j : Job) (since : Nat), j.fig.quant = false → 0 < j.fig.b → ∃ k : Nat, 1 ≤ k ∧ (j.due since).1 = j.start + k * (1000 * j.fig.b) ∧
    (j.start ≤ since → since ≤ (j.due since).1) ∧ ∀ m : Nat, 1 ≤ m → since ≤ j.start + m * (1000 * j.fig.b) → k ≤ m)

/-- The symmetric opcodes wait for their slice's tokens, then enter a cluster. A started packet of any of the twelve symmetric opcodes, of a slice with a bulk rate, whose handle resolves, whose key has the usage bit, and whose areas, parameters and lengths are within R229 and R230, waits for tokens with its handle. TOKEN_BUCKET_START, where the packet has waited longest and the slice's level is zero or more, starts it (State.startSym): where its key is still to be had, the level, in eightieths of a byte, falls by 64 bytes for each charged block, and the packet is at the clusters. Below level zero nothing but time changes. -/
def Obligations.SymmetricPacketsWaitForTokens : Prop :=
  (∀ (opc dt pid : Nat) (c : Nat → Nat → PktData → Instr) (d : PktData) (s t : State) (p : Packet) (k : Option Key),
    (opc, c) ∈ symTable → (s.tick dt).Starts opc pid d t p → t.handles pid p = .ok k → t.fget Fld.SLC_BULK_SHARE_rate p.ring ≠ 0 →
    (∀ x : Key, k = some x → bit x.usage (symUse opc)) → p.areasOk (symUses opc) → symOk opc p k →
    exec (c dt pid d) s = .next (t.setPacket pid { p with
      phase := .tokens t.now
      keys := if (match k with | some _ => (t.firstHandle pid p).getD 0 | none => 0) = 0 then []
        else [match k with | some _ => (t.firstHandle pid p).getD 0 | none => 0] })) ∧
  (∀ (dt pid since : Nat) (p : Packet) (s : State), (s.tick dt).cmd.packets.get? pid = some p → p.phase = .tokens since →
    (s.tick dt).tokensFirst pid p.ring since → 0 ≤ (s.tick dt).bucketLevel p.ring →
    exec (.tokenBucketStart dt pid) s = .next ((s.tick dt).startSym pid p)) ∧
  (∀ (dt pid since : Nat) (p : Packet) (s : State), (s.tick dt).cmd.packets.get? pid = some p → p.phase = .tokens since →
    (s.tick dt).bucketLevel p.ring < 0 → exec (.tokenBucketStart dt pid) s = .next (s.tick dt)) ∧
  (∀ (pid : Nat) (p : Packet) (s : State),
    (p.symHandle = 0 ∨ (s.wiping = false ∧ (s.resolve p.symHandle).isSome ∧ s.unloading p.symHandle = false)) →
    (s.startSym pid p).slc.buckets.get? p.ring = some ⟨s.bucketLevel p.ring - (p.blocks * 64 * 80 : Nat), s.now⟩ ∧
    (s.startSym pid p).cmd.packets.get? pid = some { p with phase := .cluster, start := s.now })

/-- A cluster takes its keys, works through chunks and finishes its packets. LOOKASIDE_RESULT of a packet in a cluster, where no class 1 hold covers the cluster or the packet's path, lets the cluster work in its sequencer's order until the packet's last chunk (State.workOn). With every chunk processed, it then decides the packet's result as the host takes its output, removes its work and lets deferred work go on; where the host refused an input or output access it completes with REJECTED, what was written overwritten with zeros. KEY_FILE_KEY_DELIVERED, with KS not held, loads the key asked for into the entry that the miss took, where the record is there and passes its slot check; where the record is gone the packets that wait complete with REJECTED and the frames are lost; during a wipe the packets complete with BUSY_RETRY. -/
def Obligations.ClusterWorkCompletes : Prop :=
  (∀ (dt pid n typ : Nat) (j v : BlkJob) (p : Packet) (key : Bytes) (r : SymRes) (s t u : State), t = s.tick dt →
    t.blk.jobs.get? (2 * pid) = some j → t.cmd.packets.get? pid = some p → j.cluster = some n → t.clusterRuns n → t.gateHeld p = false →
    u = t.workOn n (2 * pid) → u.pke.jobs.get? pid = none → u.blk.jobs.get? (2 * pid) = some v → v.chunks ≤ v.done →
    p.data.refused = false → p.outStopped v = false → u.blkKey n v = some (key, typ) → symWork p key = some r →
    exec (.lookasideResult dt pid) s = .next
      (((u.pmc (0x030 + n) p.blocks).decideSym pid p typ v.written r).dropBlk (2 * pid)).settle) ∧
  (∀ (dt pid n : Nat) (j v : BlkJob) (p : Packet) (s t u : State), t = s.tick dt →
    t.blk.jobs.get? (2 * pid) = some j → t.cmd.packets.get? pid = some p → j.cluster = some n → t.clusterRuns n → t.gateHeld p = false →
    u = t.workOn n (2 * pid) → u.pke.jobs.get? pid = none → u.blk.jobs.get? (2 * pid) = some v → (p.data.refused ∨ p.outStopped v) →
    exec (.lookasideResult dt pid) s = .next
      ((State.complete (u.zeroFill p v.written) pid (Compl.plain .rejected u.now)).dropBlk (2 * pid)).settle) ∧
  (∀ (dt n line : Nat) (tag : KeyTag) (k : Key) (s t : State), t = s.tick dt → t.missOn n line = some tag → t.islandHeld 0x02 = false →
    t.wiping = false → t.resolve (mkHandle tag.slice tag.gen clsTraffic line) = some k → t.slotFails line = none →
    exec (.keyFileKeyDelivered dt n line) s = .next ((t.loadEntry n tag k.typ k.secret).pmc 0x0D0 1)) ∧
  (∀ (n i typ : Nat) (tag : KeyTag) (e : BlkEntry) (key : Bytes) (s : State), s.slotOf n tag = some (i, e) →
    ∃ x : BlkEntry, (s.loadEntry n tag typ key).blk.files.get? i = some x ∧ x.tag = e.tag ∧ x.key = key ∧ x.typ = typ ∧ x.loaded) ∧
  (∀ (dt n line : Nat) (tag : KeyTag) (s t : State), t = s.tick dt → t.missOn n line = some tag → t.islandHeld 0x02 = false →
    t.wiping = false → t.resolve (mkHandle tag.slice tag.gen clsTraffic line) = none →
    exec (.keyFileKeyDelivered dt n line) s = .next ((t.failWaiting n line .rejected).loseWaiting n line)) ∧
  (∀ (dt n line : Nat) (tag : KeyTag) (s t : State), t = s.tick dt → t.missOn n line = some tag → t.islandHeld 0x02 = false → t.wiping →
    exec (.keyFileKeyDelivered dt n line) s = .next (t.failWaiting n line .busyRetry))

/-- AEAD_OPEN of what AEAD_SEAL made recovers the text, and a wrong tag yields no text outside the zeroed octets. For every AEAD mode, key, nonce and associated data: if a packet seals a text and another, with the same mode, nonce, tag length and associated data, has that output as its input after the associated data, opening it under the same key is DONE with the sealed text as output. Where the tag differs, opening ends with AUTH_FAILED, with C octets to be zeroed, which no chunk of the packet has written past. -/
def Obligations.AeadOpenRecoversSealedText : Prop :=
  (∀ (p q : Packet) (key : Bytes) (r : SymRes), workSeal p key = some r → q.par 0 0 = p.par 0 0 → q.par 1 1 = p.par 1 1 → p.par 1 1 ≤ 16 →
    slice q.params 4 12 = slice p.params 4 12 → q.aad = p.aad → p.aad ≤ p.input.length → p.input.length = p.inTotal →
    q.inTotal = q.input.length → q.input = p.input.take p.aad ++ r.out →
    ∃ z : SymRes, workOpen q key = some z ∧ z.status = .done ∧ z.out = p.input.drop p.aad ∧ z.zero = 0) ∧
  (∀ (q : Packet) (key : Bytes) (z : SymRes), workOpen q key = some z → z.status ≠ .done →
    z.status = .authFailed ∧ z.zero = q.inTotal - q.aad - q.par 1 1 ∧ z.result = 0 ∧
    (q.opcode = 0x0202 → ∀ k : Nat, q.producedAt k ≤ z.zero))

/-- The SA commands install, rekey, retire and query security associations. SA_INSTALL and SA_REKEY with valid blocks, keys, ownership, mode, quota and identifiers (and, outbound MACsec, a binding without another active SA) make an SA for 1 MU and return its identifier, a rekey renaming the policies of the old SA and draining it; SA_RETIRE drains an SA with its packet waiting; SA_QUERY in mode 0x00 outputs the 64 octets of its state; in mode 0x01 it answers pending events or waits; SA_DRAIN_DONE frees a draining SA whose frames have left; SA_QUERY_TIMEOUT answers a query whose deadline has come. -/
def Obligations.SaCommandsComplete : Prop :=
  (∀ (dt pid h : Nat) (d : PktData) (s t u : State) (p : Packet) (k : Key) (a : SaCtx), (s.tick dt).Starts 0x0601 pid d t p →
    t.keyOf pid p = .ok k → p.areasOk ioNone → p.pind → saForm p.block → k.typ = suiteKey (field p.block 4 1) →
    t.pairOk (field p.block 8 4 % 8) → a = saOfBlock t.now p.ring k.line (t.lineGen k.line) p.block → bit k.usage useInline →
    t.saOwned a.slice a.kind a.pair a.vlan → t.saAccepts → t.saFits a.slice (t.saNeed a.slice a.size) →
    t.saTaken (isMac a.kind) a.ident a.an = false →
    (a.kind = macOut → t.tbl.sas.any (fun _ b => b.kind == macOut && b.slice == a.slice && b.pair == a.pair && b.vlan == a.vlan &&
      b.state == .active) = false) → t.saAdd a = some (h, u) →
    exec (.saInstall dt pid d) s = .next (u.answers pid [] 1 (u.saIdOf h))) ∧
  (∀ (dt pid h oh : Nat) (d : PktData) (s t u w : State) (p : Packet) (k : Key) (o a : SaCtx), (s.tick dt).Starts 0x0602 pid d t p →
    t.keyOf pid p = .ok k → p.areasOk ioNone → p.pind → t.saOfId p.ring (field p.block 0 8) = some (oh, o) → rekeyForm p.block o →
    k.typ = suiteKey o.suite → a = rekeyOf t.now k.line (t.lineGen k.line) p.block o → bit k.usage useInline →
    t.saOwned a.slice a.kind a.pair a.vlan → t.saAccepts → t.saFits a.slice (t.saNeed a.slice a.size) →
    t.saTaken (isMac a.kind) a.ident a.an = false →
    (a.kind = macOut → t.tbl.sas.any (fun i b => i != oh && b.kind == macOut && b.slice == a.slice && b.pair == a.pair &&
      b.vlan == a.vlan && b.state == .active) = false) → t.saAdd a = some (h, u) →
    w = (u.policiesRename (t.saIdOf oh) (u.saIdOf h)).saDrain oh none →
    exec (.saRekey dt pid d) s = .next (w.answers pid [] 1 (w.saIdOf h))) ∧
  (∀ (dt pid h : Nat) (d : PktData) (s t : State) (p : Packet) (o : Option Key) (a : SaCtx), (s.tick dt).Starts 0x0603 pid d t p →
    t.handles pid p = .ok o → p.inlineFrom 8 → t.saOfId p.ring (p.par 0 7) = some (h, a) → a.state ≠ .draining →
    exec (.saRetire dt pid d) s = .next ((t.setPacket pid { p with phase := .waiting }).saDrain h (some pid))) ∧
  (∀ (dt pid h : Nat) (d : PktData) (s t : State) (p : Packet) (o : Option Key) (a : SaCtx), (s.tick dt).queryMode pid ≠ 1 →
    (s.tick dt).Serves 0x0604 pid d t p → t.handles pid p = .ok o → p.areasOk ioOut → p.pind = false → p.par 0 7 = 0 → p.fits 64 →
    t.saOfId p.ring (p.par 8 15) = some (h, a) →
    exec (.saQueryState dt pid d) s = .next (t.answers pid (t.saStatus h a) 0 0)) ∧
  (∀ (dt pid : Nat) (d : PktData) (s t u : State) (p : Packet) (o : Option Key), (s.tick dt).queryMode pid = 1 →
    (s.tick dt).Starts 0x0604 pid d t p → t.handles pid p = .ok o → p.areasOk ioOut → p.pind = false → p.par 1 3 = 0 →
    p.par 8 15 = 0 → 1 ≤ p.par 4 7 → p.par 4 7 ≤ 60000 → t.tbl.waits.has p.ring = false →
    u = t.setPacket pid { p with phase := .waiting } →
    exec (.saQueryWait dt pid d) s = .next
      (if (u.saEvents p.ring).lost ∨ (u.saEvents p.ring).list ≠ [] then u.saReport pid p.ring
       else { u with tbl := { u.tbl with waits := u.tbl.waits.insert p.ring ⟨pid, u.now + 1000000 * p.par 4 7⟩ } })) ∧
  (∀ (dt head : Nat) (a : SaCtx) (s t : State), t = s.tick dt → t.tbl.sas.get? head = some a → a.state = .draining →
    t.saFrames head = false → exec (.saDrainDone dt head) s = .next (t.saFree head).settle) ∧
  (∀ (dt slice : Nat) (w : SaWait) (s t : State), t = s.tick dt → t.tbl.waits.get? slice = some w → w.deadline ≤ t.now →
    exec (.saQueryTimeout dt slice) s = .next (t.saAnswer slice))

/-- Policies are added and deleted, and banks rehashed, flushed and swept clean of a map entry. POLICY_ADD of a valid entry on a map entry that the slice owns, within the limits, enters the policy, advances the map entry's epoch and returns its identifier for 1 MU; POLICY_DELETE removes the policy it names, or the lost policy; TBL_REHASH empties and reseeds the named banks and counts each rehash; TBL_FLUSH empties them; DIRECTED_FLUSH of a map entry whose epoch is 1,023 removes its kind P entries from every bank. -/
def Obligations.PolicyAndTableCommandsComplete : Prop :=
  (∀ (dt pid i : Nat) (d : PktData) (s t : State) (p : Packet) (o : Option Key), (s.tick dt).Starts 0x0701 pid d t p →
    t.handles pid p = .ok o → p.areasOk ioIn → p.inlineFrom 0 → t.policyEntryOk p.ring p.input → allZero (slice p.input 0x20 8) →
    t.policyMap p.ring p.input = some i → t.policyRoom i p.input →
    exec (.policyAdd dt pid d) s = .next ((t.policyInsert p.ring i p.input).2.answers pid [] 1
      ((t.policyInsert p.ring i p.input).2.polId p.ring (t.policyInsert p.ring i p.input).1))) ∧
  (∀ (dt pid k : Nat) (d : PktData) (s t : State) (p : Packet) (o : Option Key) (q : Policy), (s.tick dt).Starts 0x0702 pid d t p →
    t.handles pid p = .ok o → p.inlineFrom 8 → t.policyOfId p.ring (p.par 0 7) = some k → t.tbl.pols.get? k = some q →
    exec (.policyDelete dt pid d) s = .next (((t.policyRemove k).mend q.index).answers pid [] 0 0)) ∧
  (∀ (dt pid i : Nat) (d : PktData) (s t : State) (p : Packet) (o : Option Key), (s.tick dt).Starts 0x0702 pid d t p →
    t.handles pid p = .ok o → p.inlineFrom 8 → t.policyOfId p.ring (p.par 0 7) = none → t.lostPolicy p.ring (p.par 0 7) = some i →
    exec (.policyDelete dt pid d) s = .next (((t.dropLost i (p.par 0 7)).mend i).answers pid [] 0 0)) ∧
  (∀ (dt pid : Nat) (d : PktData) (s t : State) (p : Packet) (o : Option Key), (s.tick dt).Starts 0x0710 pid d t p →
    t.handles pid p = .ok o → p.inlineFrom 1 → p.par 0 0 ≠ 0 → p.par 0 0 < 16 →
    exec (.tblRehash dt pid d) s = .next (((maskBanks p).foldl (fun s b =>
      ((s.bankFlush b).bankSeed b (p.random b 34)).bumpSat Fld.TBL_FC_STATUS_rehashes b 1) t).answers pid [] 0 0)) ∧
  (∀ (dt pid : Nat) (d : PktData) (s t : State) (p : Packet) (o : Option Key), (s.tick dt).Starts 0x0711 pid d t p →
    t.handles pid p = .ok o → p.inlineFrom 1 → p.par 0 0 ≠ 0 → p.par 0 0 < 16 →
    exec (.tblFlush dt pid d) s = .next (((maskBanks p).foldl State.bankFlush t).answers pid [] 0 0)) ∧
  (∀ (dt i : Nat) (m : MapEntry) (s : State), (s.tick dt).tbl.map.get? i = some m → m.epoch = 1023 →
    exec (.directedFlush dt i) s = .next ((s.tick dt).directedFlush i)) ∧
  (∀ (i k : Nat) (e : FlowEntry) (s : State), (s.directedFlush i).tbl.bank.get? k = some e →
    (k, e) ∈ s.tbl.bank.cells ∧ ¬ (e.kind = 1 ∧ e.mapIndex = i))

/-- Frames arrive, pass their cluster operation and leave. A frame of a kind on a port of that kind arrives (State.arrive): one with a bad FCS or size only counts at its port; one that is no MAC control frame, with its leaving port's link up and room, is staged while a hold keeps its way and the staging holds it, and else takes the steps of its pair's protocol and its port's side. INLINE_CLUSTER_DONE, in a cluster that holds the frame's key, is not held and has worked to the frame's last chunk, makes the frame's operation; TX_PIPELINE_FINISH, in the frame's turn, finishes an operated frame, and transmits a bypassed one with room. -/
def Obligations.InlineFramesComplete : Prop :=
  (∀ (dt port : Nat) (b : Bytes) (fcs room : Bool) (s : State), (s.tick dt).frameKind port false true →
    exec (.macsecOutboundFrame dt port b fcs room) s = .next ((s.tick dt).arrive port b fcs room)) ∧
  (∀ (dt port : Nat) (b : Bytes) (fcs room : Bool) (s : State), (s.tick dt).frameKind port false false →
    exec (.macsecInboundFrame dt port b fcs room) s = .next ((s.tick dt).arrive port b fcs room)) ∧
  (∀ (dt port : Nat) (b : Bytes) (fcs room : Bool) (s : State), (s.tick dt).frameKind port true true →
    exec (.espOutboundFrame dt port b fcs room) s = .next ((s.tick dt).arrive port b fcs room)) ∧
  (∀ (dt port : Nat) (b : Bytes) (fcs room : Bool) (s : State), (s.tick dt).frameKind port true false →
    exec (.espInboundFrame dt port b fcs room) s = .next ((s.tick dt).arrive port b fcs room)) ∧
  (∀ (s t : State) (port : Nat) (b : Bytes) (room : Bool),
    s.arrive port b false room = s.bumpSat Fld.NET_FCS_ERR_count port 1 ∧
    (b.length < 64 ∨ 9216 < b.length → s.arrive port b true room = s.bumpSat Fld.NET_SIZE_ERR_count port 1) ∧
    (64 ≤ b.length → b.length ≤ 9216 → fieldBE b 12 2 ≠ 0x8808 → t = s.pmc (0x0A0 + port) 1 → t.linkUp (t.partner port) →
      (t.stages port = false → s.arrive port b true true = t.frameSteps port b) ∧
      (t.stages port → t.stagedOctets port + b.length ≤ stagingSize →
        s.arrive port b true true = { t with tbl := { t.tbl with staged := t.tbl.staged ++ [(port, b)] } }))) ∧
  (∀ (s t : State) (port : Nat) (b : Bytes) (c : PairCfg), c = s.pairCfg (s.portPair port) → t = s.pmc (0x090 + s.rxBank port) 1 →
    s.frameSteps port b =
      if c.esp then (if s.sideB port = c.clearB then t.espOutFrame port b else t.espInFrame port b)
      else (if s.sideB port = c.clearB then t.macOutFrame port b else t.macInFrame port b)) ∧
  (∀ (dt fid n slot : Nat) (j : BlkJob) (f : Frame) (tag : KeyTag) (e : BlkEntry) (s t u : State), t = s.tick dt →
    t.blk.jobs.get? (2 * fid + 1) = some j → t.tbl.frames.get? fid = some f → j.cluster = some n → j.tag = some tag →
    t.entryOf n tag = some (slot, e) → u = t.workOn n (2 * fid + 1) → u.clusterRuns n → u.chunksDone (2 * fid + 1) →
    exec (.inlineClusterDone dt fid) s = .next (u.clusterDone fid n f e.key)) ∧
  (∀ (dt fid : Nat) (room : Bool) (f : Frame) (s t : State), t = s.tick dt → t.tbl.frames.get? fid = some f → t.txTurn fid f →
    f.at_ = .ready → exec (.txPipelineFinish dt fid room) s = .next (State.txFinish (t.pmc (0x090 + t.txBank f.port) 1) fid f
      (room && t.linkUp (t.partner f.port) && t.txServed f)).settle) ∧
  (∀ (dt fid : Nat) (f : Frame) (s t : State), t = s.tick dt → t.tbl.frames.get? fid = some f → t.txTurn fid f →
    f.at_ = .bypass → t.linkUp (t.partner f.port) → t.txServed f →
    exec (.txPipelineFinish dt fid true) s = .next (State.transmit (t.pmc (0x090 + t.txBank f.port) 1) fid f f.data true).settle)

/-- The banks' engines learn, reinsert and age entries. LEARN_INSERT, on a bank that runs, takes the oldest learn request, and serves it where learning is enabled; STASH_REINSERT, on a bank that runs with an empty learn queue, places a stash entry anew, whatever it displaces taking its slot of the stash; SWEEPER_VISIT, on a bank that runs, visits the next slot: an entry of a kind P whose epoch is stale is removed and counted as aged, a hit entry loses its hit bit, an entry without hit gets its strike, and one with its strike is removed and counted. -/
def Obligations.LearnAndSweepComplete : Prop :=
  (∀ (dt bank : Nat) (e : FlowEntry) (r : List FlowEntry) (s t : State), t = s.tick dt → t.learnQueue bank = e :: r → t.bankRuns bank →
    exec (.learnInsert dt bank) s = .next (if t.flag Fld.TBL_FC_CTRL_learn_en 0 then (t.setLearn bank r).learnServe bank e else t.setLearn bank r)) ∧
  (∀ (dt bank k : Nat) (e : FlowEntry) (s t : State), t = s.tick dt → t.tbl.stash.find? (fun k _ => k / 64 == bank) = some (k, e) →
    t.bankRuns bank → t.learnQueue bank = [] →
    exec (.stashReinsert dt bank) s = .next (match (t.dropEntry (.stash k)).placeEntry bank e with
      | (none, u) => u
      | (some v, u) => u.putEntry (.stash k) v)) ∧
  (∀ (dt bank n : Nat) (s t u : State), t = s.tick dt → t.bankRuns bank → n = t.tbl.sweep.toList.getD bank 0 →
    u = { t with tbl := { t.tbl with sweep := t.tbl.sweep.setIfInBounds bank ((n + 1) % (524288 + 64)) } } →
    exec (.sweeperVisit dt bank) s = .next
      (if n < 524288 then
        match t.tbl.bank.get? (524288 * bank + n) with | some e => u.sweepEntry bank (.way (524288 * bank + n)) e | none => u
      else
        match t.tbl.stash.get? (64 * bank + (n - 524288)) with
        | some e => u.sweepEntry bank (.stash (64 * bank + (n - 524288))) e
        | none => u)) ∧
  (∀ (bank : Nat) (pos : BankPos) (e : FlowEntry) (u : State), u.sweepEntry bank pos e =
    if e.kind = 1 ∧ e.epoch ≠ u.epochOf e.mapIndex then (u.dropEntry pos).bumpSat Fld.TBL_FC_AGED_count bank 1
    else if e.hit then u.putEntry pos { e with hit := false, strike := false }
    else if e.strike then (u.dropEntry pos).bumpSat Fld.TBL_FC_AGED_count bank 1
    else u.putEntry pos { e with strike := true })

/-- SLICE_BIND binds an unbound slice to its PASID with the shares of its block. A started SLICE_BIND whose block is in range, on an UNBOUND slice, with a PASID bound to no slice and sums that stay within the device, completes with DONE. Afterwards the slice is BOUND under that PASID with generation 1, usage 0 and the block's shares; no other slice's registers change. Where the slice is not UNBOUND, the packet completes with REJECTED. -/
def Obligations.SliceBindBindsItsPasid : Prop :=
  (∀ (dt pid : Nat) (d : PktData) (s t : State) (p : Packet) (o : Option Key), (s.tick dt).Starts 0x0F01 pid d t p →
    t.handles pid p = .ok o → p.pind → p.areasOk ioNone → bindBlockOk p.block → t.sliceState (shSlice p.block) = 0 →
    t.pasidBound (shPasid p.block) = false → t.sumsOk (shSlice p.block) p.block →
    exec (.sliceBind dt pid d) s = .next ((t.bindSlice (shSlice p.block) (shPasid p.block) p.block).answers pid [] 0 0)) ∧
  (∀ (dt pid : Nat) (d : PktData) (s t : State) (p : Packet) (o : Option Key), (s.tick dt).Starts 0x0F01 pid d t p →
    t.handles pid p = .ok o → p.pind → p.areasOk ioNone → bindBlockOk p.block → t.sliceState (shSlice p.block) ≠ 0 →
    exec (.sliceBind dt pid d) s = .next ((t.countPid pid false).fail pid .rejected)) ∧
  (∀ (b : Bytes) (s t : State), bindBlockOk b → t = s.bindSlice (shSlice b) (shPasid b) b →
    t.sliceState (shSlice b) = 1 ∧ t.flag Fld.SLC_PASID_valid (shSlice b) ∧ t.fget Fld.SLC_PASID_pasid (shSlice b) = shPasid b ∧
    t.fget Fld.SLC_STATE_share_gen (shSlice b) = 1 ∧ t.fget Fld.SLC_PKE_SHARE_weight (shSlice b) = shWeight b ∧
    t.fget Fld.SLC_BULK_SHARE_rate (shSlice b) = shRate b ∧ t.fget Fld.SLC_KC_QUOTA_quota (shSlice b) = shKc b ∧
    t.fget Fld.SLC_SA_QUOTA_quota (shSlice b) = shSa b ∧ t.fget Fld.SLC_KC_USED_used (shSlice b) = 0 ∧
    t.fget Fld.SLC_SA_USED_used (shSlice b) = 0 ∧ t.ks = s.ks ∧ t.tbl = s.tbl ∧ t.bb = s.bb ∧ t.otp = s.otp ∧
    (∀ (r : RegName) (sl : Nat), sl ≠ shSlice b → sl < 4096 → r.idx ≠ RegName.DEV_ENDURING.idx → t.reg r sl = s.reg r sl))

/-- SHARE_SET, its mirrors and SLICE_UNBIND complete. SHARE_SET with an accepted block switches the slice's shares at once, or, where the slice becomes enduring, first builds the mirrors with its packet waiting; MIRROR_BUILD_DONE, with every mirror there or room for it within the block's quotas, then switches the shares and completes the packet; MIRROR_REBUILD_DONE, where the cache has room, writes a lost copy of an enduring slice's record or SA again. SLICE_UNBIND of a BOUND slice with its meter reservation and no sealing under way makes it UNBINDING, stops its queue pairs, waits as a deferred command, and goes on at once as far as State.unbindNow finds its rings and SAs to allow. -/
def Obligations.ShareAndUnbindComplete : Prop :=
  (∀ (dt pid : Nat) (d : PktData) (s t : State) (p : Packet) (b : Bytes), (s.tick dt).Starts 0x0F03 pid d t p →
    t.askShare pid p = .ok b → (shClass b ≠ 1 ∨ t.enduring (shSlice b)) →
    exec (.shareSet dt pid d) s = .next ((t.switchShare (shSlice b) b).answers pid [] 0 0)) ∧
  (∀ (dt pid : Nat) (d : PktData) (s t u : State) (p : Packet) (b : Bytes), (s.tick dt).Starts 0x0F03 pid d t p →
    t.askShare pid p = .ok b → shClass b = 1 → t.enduring (shSlice b) = false → t.buildMirrors (shSlice b) = some u →
    u.withinQuota (shSlice b) b →
    exec (.shareSet dt pid d) s = .next (State.setPacket { u with slc := { u.slc with builds := u.slc.builds.insert (shSlice b) ⟨pid, b⟩ } }
      pid { p with start := t.now, phase := .waiting })) ∧
  (∀ (pid : Nat) (t : State) (p : Packet) (o : Option Key), t.handles pid p = .ok o → p.pind → p.areasOk ioNone → setBlockOk p.block →
    ¬ (shClass p.block = 1 ∧ t.enduring (shSlice p.block) = false ∧ t.holdsCompat (shSlice p.block)) →
    t.sliceState (shSlice p.block) = 1 → t.slc.builds.has (shSlice p.block) = false →
    shGen p.block = t.fget Fld.SLC_STATE_share_gen (shSlice p.block) → t.sumsOk (shSlice p.block) p.block →
    t.vecLeft (shSlice p.block) p.block = false → t.askShare pid p = .ok p.block) ∧
  (∀ (dt slice : Nat) (b : ShareBuild) (s t : State), (s.tick dt).slc.builds.get? slice = some b →
    (s.tick dt).buildMirrors slice = some t → t.withinQuota slice b.block →
    exec (.mirrorBuildDone dt slice) s = .next
      ((State.switchShare { t with slc := { t.slc with builds := t.slc.builds.erase slice } } slice b.block).answers b.pid [] 0 0)) ∧
  (∀ (dt head : Nat) (r : KeyRec) (s u : State), (s.tick dt).ks.recs.get? head = some r → (s.tick dt).enduring r.slice →
    r.mirror = none → (s.tick dt).rebuildRecord head r = some u →
    exec (.mirrorRebuildDone dt true head) s = .next (u.rebuilt r.slice)) ∧
  (∀ (dt head : Nat) (a : SaCtx) (s u : State), (s.tick dt).tbl.sas.get? head = some a → (s.tick dt).enduring a.slice →
    a.mirror = none → (s.tick dt).rebuildSa head a = some u →
    exec (.mirrorRebuildDone dt false head) s = .next (u.rebuilt a.slice)) ∧
  (∀ (dt pid sl : Nat) (d : PktData) (s t r u : State) (p : Packet) (o : Option Key), (s.tick dt).Starts 0x0F02 pid d t p →
    t.handles pid p = .ok o → sl = p.par 0 1 → p.areasOk ioNone → p.inlineFrom 2 → sl ≤ 4095 → t.sliceState sl = 1 → t.sealing = false →
    t.meterReserve 1 = some r →
    u = ((((r.endBuild sl .busyRetry).countPid pid false).setPacket pid { p with
      start := r.now, phase := .waiting }).setSliceState sl 2).stopSlice sl →
    exec (.sliceUnbind dt pid d) s = .next
      (State.unbindNow { u with cmd := { u.cmd with deferred := u.cmd.deferred ++ [.unbind pid sl] } } pid sl))

/-- A slice is offered, exported, signed after a reset, imported, or its offer ends. The offer mode of SLICE_IMPORT, with neither sealing nor wipe under way, makes an offer of an UNBOUND slice for a PASID bound to none and outputs it where it fits; OFFER_EXPIRY ends an offer whose 600 s have passed. A SLICE_EXPORT that State.askExport accepts (its form, offer, domain, quorum, state and reservation) freezes the slice's SAs, stops its queue pairs and goes on to its package; the size query of a BOUND slice returns the package's length; sign-pending signs the package whose digest the record holds and clears the record; discard-pending clears it. A SLICE_IMPORT under a live offer whose package State.importSlice opens and installs completes with the installed state and its output. -/
def Obligations.MigrationCommandsComplete : Prop :=
  (∀ (dt pid sl pasid ident : Nat) (d : PktData) (s t u w : State) (p q : Packet) (o : Option Key) (body : Bytes) (f : Offer),
    (s.tick dt).cmd.packets.get? pid = some q → q.par 0 0 = 1 → (s.tick dt).Serves 0x0F09 pid d t p → t.handles pid p = .ok o →
    sl = p.par 2 3 → pasid = p.par 4 7 → p.areasOk ioOut → p.inlineFrom 8 → p.par 1 1 = 0 → sl ≤ 4095 → pasid ≤ 0xFFFFF →
    t.sealing = false → t.wiping = false → u = t.endOffer sl → u.sliceState sl = 0 → u.pasidBound pasid = false → p.fits offerLen →
    ident = max 1 (leNat (p.random 0 8)) → body = u.offerBytes sl (p.random 1 32) (p.random 2 64) →
    w = ((u.setSliceState sl 4).fset Fld.SLC_PASID_pasid sl pasid).fset Fld.SLC_PASID_valid sl 1 →
    f = ⟨ident, sl, pasid, p.random 1 32, Shares.make w.free (p.random 2 64), body, t.now + 600000000000⟩ →
    exec (.sliceImportOffer dt pid d) s = .next
      (State.answers { w with slc := { w.slc with offers := w.slc.offers.insert sl f }, free := w.free + 1 } pid body 0 ident)) ∧
  (∀ (dt slice : Nat) (o : Offer) (s : State), (s.tick dt).slc.offers.get? slice = some o → o.expiry ≤ (s.tick dt).now →
    exec (.offerExpiry dt slice) s = .next ((s.tick dt).endOffer slice)) ∧
  (∀ (dt pid sl mu : Nat) (d : PktData) (s t r u : State) (p : Packet), exMode d.pind = 0 → (s.tick dt).Starts 0x0F08 pid d t p →
    t.askExport pid p = .ok (r, mu) → sl = exSlice p.block →
    u = (((((r.endBuild sl .busyRetry).countPid pid false).setPacket pid { p with
      start := r.now, phase := .waiting }).setSliceState sl 3).freezeSas sl true).stopSlice sl →
    exec (.sliceExport dt pid d) s = .next (State.exportNow
      { u with cmd := { u.cmd with deferred := u.cmd.deferred ++ [.sliceExport pid sl (r.qpRunning sl) mu] } } pid sl (r.qpRunning sl) mu)) ∧
  (∀ (dt pid : Nat) (d : PktData) (s t : State) (p : Packet) (o : Option Key), exMode d.pind = 1 → (s.tick dt).Starts 0x0F08 pid d t p →
    t.handles pid p = .ok o → p.pind → exForm p.block false → p.areasOk ioNone → t.sliceState (exSlice p.block) = 1 →
    exec (.sliceExportSizeQuery dt pid d) s = .next (t.answers pid [] 0 (t.packageLen (exSlice p.block)))) ∧
  (∀ (dt pid : Nat) (d : PktData) (s t : State) (p : Packet) (o : Option Key), exMode d.pind = 2 → (s.tick dt).Serves 0x0F08 pid d t p →
    t.handles pid p = .ok o → p.pind → exForm p.block false → p.areasOk ioBoth →
    t.bb.exportRec = some (exSlice p.block, sha384 p.input) → p.fits 4723 →
    exec (.sliceExportSignPending dt pid d) s = .next
      (State.answers { t with bb := { t.bb with exportRec := none } } pid (t.attestSign p.input) 0 (p.inTotal + 4723))) ∧
  (∀ (dt pid : Nat) (d : PktData) (s t : State) (p : Packet) (o : Option Key) (h : Bytes), exMode d.pind = 3 →
    (s.tick dt).Starts 0x0F08 pid d t p → t.handles pid p = .ok o → p.pind → exForm p.block false → p.areasOk ioNone →
    t.bb.exportRec = some (exSlice p.block, h) →
    exec (.sliceExportDiscardPending dt pid d) s = .next (State.answers { t with bb := { t.bb with exportRec := none } } pid [] 0 0)) ∧
  (∀ (dt pid k : Nat) (d : PktData) (s t : State) (p q : Packet) (o : Option Key) (f : Offer) (r : Did),
    (s.tick dt).cmd.packets.get? pid = some q → q.par 0 0 ≠ 1 → (s.tick dt).Serves 0x0F09 pid d t p → t.handles pid p = .ok o →
    p.areasOk ioBoth → p.pind = false → p.par 0 0 = 2 → p.par 1 7 = 0 → t.sealing = false → t.wiping = false →
    t.slc.offers.find? (fun _ o => o.ident == p.par 8 15 && decide (t.now < o.expiry)) = some (k, f) → t.importSlice f p = .ok r →
    exec (.sliceImport dt pid d) s = .next (r.s.answers pid r.out r.mu r.result))

/-- A dirty log is enabled, disabled and flipped. DLOG_ENABLE with two nonzero buffers aligned to 64 octets and a window of 2^21 to 2^44 octets enables the log of a slice with buffer 0 active and no page marked; with any other configuration it sets err and enable stays 0. DLOG_DISABLE sets enable to 0. DLOG_FLIP on an enabled log with no flip pending begins a flip with no page marked, and DLOG_FLIP_DONE ends it and makes the other buffer active with the page count 0. -/
def Obligations.DirtyLogControlsComplete : Prop :=
  (∀ (dt sl : Nat) (s t u : State), sl < 4096 → t = s.tick dt → t.flag Fld.SLC_DLOG_CTRL_enable sl = false → t.dlogOk sl →
    u = ((t.fset Fld.SLC_DLOG_CTRL_enable sl 1).fset Fld.SLC_DLOG_CTRL_active sl 0).setReg .SLC_DLOG_PAGES sl 0 →
    exec (.dlogEnable dt sl) s = .next { u with slc := { u.slc with marked := u.slc.marked.erase sl } }) ∧
  (∀ (dt sl : Nat) (s t : State), sl < 4096 → t = s.tick dt → t.flag Fld.SLC_DLOG_CTRL_enable sl = false → t.dlogOk sl = false →
    exec (.dlogEnable dt sl) s = .next (t.fset Fld.SLC_DLOG_CTRL_err sl 1)) ∧
  (∀ (sl : Nat) (t : State), t.dlogOk sl ↔ (t.reg .SLC_DLOG_BUF0 sl).toNat ≠ 0 ∧ (t.reg .SLC_DLOG_BUF1 sl).toNat ≠ 0 ∧
    (t.reg .SLC_DLOG_BUF0 sl).toNat % 64 = 0 ∧ (t.reg .SLC_DLOG_BUF1 sl).toNat % 64 = 0 ∧
    21 ≤ t.fget Fld.SLC_DLOG_WIN_win_log2 sl ∧ t.fget Fld.SLC_DLOG_WIN_win_log2 sl ≤ 44) ∧
  (∀ (dt sl : Nat) (s : State), sl < 4096 → exec (.dlogDisable dt sl) s = .next ((s.tick dt).fset Fld.SLC_DLOG_CTRL_enable sl 0)) ∧
  (∀ (dt sl : Nat) (s t u : State), sl < 4096 → t = s.tick dt → t.flag Fld.SLC_DLOG_CTRL_enable sl → t.flag Fld.SLC_DLOG_CTRL_flip sl = false →
    u = t.fset Fld.SLC_DLOG_CTRL_flip sl 1 →
    exec (.dlogFlip dt sl) s = .next { u with slc := { u.slc with marked := u.slc.marked.erase sl } }) ∧
  (∀ (dt sl : Nat) (s t : State), sl < 4096 → t = s.tick dt → t.flag Fld.SLC_DLOG_CTRL_flip sl →
    exec (.dlogFlipDone dt sl) s = .next (((t.fset Fld.SLC_DLOG_CTRL_active sl (1 - t.fget Fld.SLC_DLOG_CTRL_active sl)).fset
      Fld.SLC_DLOG_CTRL_flip sl 0).setReg .SLC_DLOG_PAGES sl 0))

/-- Entropy blocks, restarts, known-answer tests and the test mode complete. While Sirocco runs, ENTROPY_BLOCK tests its block (State.entropyBlock); SIROCCO_RESTART_DONE resumes testing with no warm-up block left; RNG_RESTART restarts unless a fatal alarm stands; DRBG_KAT_REPEAT after 65,536 calls clears the count on a pass and uninstantiates the instance on a failure; test mode is entered by the secure world where State.testAllowed holds, and elsewhere the write is reported; it is left by a write of 0; its pattern is set in FACTORY, and outside it that write is reported; RNG_RAW_READ removes and returns the next 64 bits in test mode, and returns zero from an empty FIFO. -/
def Obligations.EntropyEventsComplete : Prop :=
  (∀ (dt samples kat : Nat) (sampling sampled : List Nat) (s : State), (s.tick dt).siroccoRuns →
    exec (.entropyBlock dt samples sampling sampled kat) s = .next ((s.tick dt).entropyBlock samples (ringsOf sampling sampled) kat)) ∧
  (∀ (dt : Nat) (s : State), (s.tick dt).siroccoRuns → (s.tick dt).rng.discard = 0 → (s.tick dt).flag Fld.RNG_STATUS_running 0 = false →
    exec (.siroccoRestartDone dt) s = .next (((s.tick dt).fset Fld.RNG_STATUS_running 0 1).fset Fld.RNG_CTRL_restart 0 0)) ∧
  (∀ (dt : Nat) (s : State), (s.tick dt).flag Fld.RNG_STATUS_fatal 0 = false →
    exec (.rngRestart dt) s = .next ((s.tick dt).restartSirocco.fset Fld.RNG_CTRL_restart 0 1)) ∧
  (∀ (dt n : Nat) (s t : State), t = s.tick dt → n < 4 → 65536 ≤ t.rng.calls.getD n 0 →
    exec (.drbgKatRepeat dt n true) s = .next { t with rng := { t.rng with calls := t.rng.calls.erase n } } ∧
    exec (.drbgKatRepeat dt n false) s = .next (t.katFails n)) ∧
  (∀ (dt : Nat) (m : Master) (s t : State), t = s.tick dt → t.masterOpen m = false → t.testAllowed →
    t.flag Fld.RNG_STATUS_test 0 = false → exec (.entropyTestModeEnter dt m) s = .next t.enterTest) ∧
  (∀ (dt : Nat) (m : Master) (s t : State), t = s.tick dt → t.masterOpen m = false → t.testAllowed = false →
    exec (.entropyTestModeEnter dt m) s = .next (t.report m .write 0x42000100 0x09 0xFFFF)) ∧
  (∀ (dt : Nat) (s : State), (s.tick dt).flag Fld.RNG_STATUS_test 0 → exec (.entropyTestModeExit dt) s = .next (s.tick dt).leaveTest) ∧
  (∀ (dt : Nat) (m : Master) (s t u : State), t = s.tick dt → t.masterOpen m = false → t.lc = 1 → t.flag Fld.RNG_TEST_enable 0 →
    u = (t.fset Fld.RNG_STATUS_pattern 0 1).fset Fld.RNG_TEST_pattern 0 1 →
    exec (.rngTestPattern dt m) s = .next { u with rng := { u.rng with half := false, patterns := 0 } }) ∧
  (∀ (dt : Nat) (m : Master) (s t : State), t = s.tick dt → t.masterOpen m = false → t.lc ≠ 1 →
    exec (.rngTestPattern dt m) s = .next (t.report m .write 0x42000100 0x09 0xFFFF)) ∧
  (∀ (dt w : Nat) (rest : List Nat) (s t : State), t = s.tick dt → t.rng.fifo = w :: rest → t.flag Fld.RNG_STATUS_test 0 →
    exec (.rngRawRead dt) s = .next (State.emit { t with rng := { t.rng with fifo := rest } } (.readData 0x42000108 w))) ∧
  (∀ (dt : Nat) (s t : State), t = s.tick dt → t.rng.fifo = [] →
    exec (.rngRawRead dt) s = .next (t.emit (.readData 0x42000108 0)))

/-- A failed block yields no seed, is counted, and the fourth within 10 s raises the fatal alarm. For any block in service (neither test mode nor pattern) that fails a test: no seed is added to the buffer and no instance becomes instantiated; where it is the fourth failure within 10 s the fatal alarm is set and running is 0; otherwise its time joins the failures of the last 10 s, and four warm-up blocks must pass. A block whose run of equal samples reaches 41, or in which the first sample's value occurs 794 times or more, or of which a ring's frequency lies outside 0.5 to 2 times its start-up value, or with a locked combination, fails. -/
def Obligations.FailedEntropyBlockNeverConditioned : Prop :=
  (∀ (s t : State) (samples kat : Nat) (freqs : List Nat), t = s.entropyBlock samples freqs kat →
    s.flag Fld.RNG_STATUS_pattern 0 = false → s.flag Fld.RNG_STATUS_test 0 = false →
    blockTest (runOver ⟨s.rng.runBit, s.rng.runLen, false⟩ samples) samples (deadPairs s.rng.ref freqs) (lockTest s.rng freqs).2 ≠ 0 →
    t.fget Fld.RNG_SEEDS_avail 0 ≤ s.fget Fld.RNG_SEEDS_avail 0 ∧
    (∀ n : Nat, n < 4 → bit (t.fget Fld.RNG_STATUS_inst 0) n → bit (s.fget Fld.RNG_STATUS_inst 0) n) ∧
    (3 ≤ (s.rng.fails.filter (fun x => decide (s.now ≤ x + 10000000000))).length →
      t.flag Fld.RNG_STATUS_fatal 0 ∧ t.flag Fld.RNG_STATUS_running 0 = false) ∧
    ((s.rng.fails.filter (fun x => decide (s.now ≤ x + 10000000000))).length < 3 →
      t.rng.discard = 4 ∧ t.flag Fld.RNG_STATUS_running 0 = false ∧ t.rng.half = false ∧
      t.rng.fails = s.now :: s.rng.fails.filter (fun x => decide (s.now ≤ x + 10000000000)))) ∧
  (∀ (r : Run) (samples dead locked : Nat), r.hit ∨ 794 ≤ firstCount samples ∨ dead ≠ 0 ∨ locked ≠ 0 →
    blockTest r samples dead locked ≠ 0) ∧
  (∀ (ref freqs : List Nat) (pair ring : Nat), pair < 32 → ring < 2 → ref ≠ [] →
    (2 * ringFreq freqs pair ring < ringFreq ref pair ring ∨ 2 * ringFreq ref pair ring < ringFreq freqs pair ring) →
    deadPairs ref freqs ≠ 0)

/-- Re-masking, wipe and compatibility lock complete. REMASK_LINE, on main power with KS not held, takes the next mask and re-masks a pair of share words of the BBRAM seed (both shares by the same mask), of a device-area record, of a compatibility slot, or of a record's line; on backup power KA re-masks the seed under its own expander. REMASK_PASS_END on main power counts and times the pass and begins the next, on backup power renews the backup mask key; KS_WIPE with 0xC1EA fails the commands that use the cache, wipes it and sets wipe_busy, with any other value it does nothing; WIPE_DONE clears wipe_busy and, with a valid seed and KS ready, derives the device keys again; KS_COMPAT_LOCK checks and locks the regions once; KS_SUCC_ABANDON with no activation clears the re-seal journal and the successor. -/
def Obligations.KeyStoreCommandsComplete : Prop :=
  (∀ (dt line word : Nat) (s u : State) (m : Bytes), (s.tick dt).onBackup = false → (s.tick dt).islandHeld 0x02 = false →
    (s.tick dt).nextMask = (m, u) →
    exec (.remaskLine dt true line word) s = .next { u with bb := { u.bb with
      seedA := xorAt u.bb.seedA (8 * (word % 8)) m
      seedB := xorAt u.bb.seedB (8 * (word % 8)) m } }) ∧
  (∀ (dt line word : Nat) (s u : State) (m : Bytes) (c : CompatSlot), (s.tick dt).onBackup = false → (s.tick dt).islandHeld 0x02 = false →
    (s.tick dt).nextMask = (m, u) → 8192 ≤ line → u.ks.slots.get? line = some c →
    exec (.remaskLine dt false line word) s = .next (u.remaskSlot line word c m)) ∧
  (∀ (dt line word : Nat) (s u : State) (m : Bytes), (s.tick dt).onBackup = false → (s.tick dt).islandHeld 0x02 = false →
    (s.tick dt).nextMask = (m, u) → line < 8192 → exec (.remaskLine dt false line word) s = .next (u.remaskDevice line word m)) ∧
  (∀ (dt line word : Nat) (s u : State) (m : Bytes), (s.tick dt).onBackup → (s.tick dt).nextKaMask = (m, u) →
    exec (.remaskLine dt true line word) s = .next (u.remaskSeed word m)) ∧
  (∀ (dt line word : Nat) (s u : State) (m : Bytes), (s.tick dt).onBackup = false → (s.tick dt).islandHeld 0x02 = false →
    (s.tick dt).nextMask = (m, u) → 8192 ≤ line → u.ks.slots.get? line = none →
    exec (.remaskLine dt false line word) s = .next
      { u with ks := { u.ks with recs := u.ks.recs.map (fun _ r => r.remaskLine line word m) } }) ∧
  (∀ (dt : Nat) (s : State), (s.tick dt).onBackup → exec (.remaskPassEnd dt) s = .next (s.tick dt).backupPassEnd) ∧
  (∀ (dt : Nat) (s : State), (s.tick dt).onBackup = false → exec (.remaskPassEnd dt) s = .next
    (State.backupKey (((s.tick dt).fset Fld.KS_REMASK_LAST_ms 0 (min (((s.tick dt).now - (s.tick dt).ks.passStart) / 1000000) 0xFFFF)).bumpWrap
      Fld.KS_REMASK_PASSES_count 0 1)).passBegin) ∧
  (∀ (dt : Nat) (s : State), exec (.ksWipe dt 0xC1EA) s = .next ((s.tick dt).wipeUses.wipeCache.fset Fld.KS_STATUS_wipe_busy 0 1)) ∧
  (∀ (dt v : Nat) (s : State), v % 2 ^ 16 ≠ 0xC1EA → exec (.ksWipe dt v) s = .next (s.tick dt)) ∧
  (∀ (dt : Nat) (s u : State), (s.tick dt).wiping → (s.tick dt).erasing = false → u = (s.tick dt).fset Fld.KS_STATUS_wipe_busy 0 0 →
    exec (.wipeDone dt) s = .next (if u.seedValid && u.flag Fld.KS_STATUS_ready 0 then u.deriveKeys else u)) ∧
  (∀ (dt : Nat) (s u : State), (s.tick dt).flag Fld.KS_COMPAT_LOCK_lock 0 = false →
    u = (if (s.tick dt).compatOk then s.tick dt else (s.tick dt).fset Fld.KS_COMPAT_LOCK_invalid 0 1).fset Fld.KS_COMPAT_LOCK_lock 0 1 →
    exec (.ksCompatLock dt) s = .next (u.fset Fld.DEV_KC_CAP_lines 0 (1048576 - 8192 - u.compatLines))) ∧
  (∀ (dt : Nat) (s : State), (s.tick dt).flag Fld.KS_COMPAT_LOCK_lock 0 → exec (.ksCompatLock dt) s = .next (s.tick dt)) ∧
  (∀ (dt : Nat) (s : State), (s.tick dt).fw.act = none →
    exec (.ksSuccAbandon dt) s = .next (((s.tick dt).setJournal Journal.idle).fset Fld.KS_SUCC_CTRL_valid 0 0))

/-- A pass that has not completed 2 s after its start sets remask_late and is recorded, and goes on. Where a re-masking pass started 2 s ago or more, REMASK_LATE sets KS_STATUS.remask_late and sends the recorder the late-pass event with the pass's milliseconds; the pass itself, the keys, every packet and every job stay as they were. Before 2 s it only lets time pass (the model's choice for an event that cannot occur). -/
def Obligations.LatePassIsReported : Prop :=
  (∀ (dt : Nat) (s t : State), t = s.tick dt → t.ks.passStart + 2000000000 ≤ t.now →
    exec (.remaskLate dt) s = .next ((t.fset Fld.KS_STATUS_remask_late 0 1).event 0x21 0x02 ((t.now - t.ks.passStart) / 1000000))) ∧
  (∀ (dt : Nat) (s u : State), exec (.remaskLate dt) s = .next u →
    u.ks = s.ks ∧ u.cmd.packets = s.cmd.packets ∧ u.pke.jobs = s.pke.jobs ∧ u.blk.jobs = s.blk.jobs ∧ u.bb = s.bb) ∧
  (∀ (dt : Nat) (s : State), (s.tick dt).now < (s.tick dt).ks.passStart + 2000000000 → exec (.remaskLate dt) s = .next (s.tick dt))

/-- WCALL, secure interrupts and the monitor functions act on the pair's registers. WCALL in the open world saves the next address in wepc, the immediate in warg, sets wcause 0x01 and world 0, and goes on at wvec with g kept; in the secure world, where the open world may run (State.openHere), it clears g8 to g31 and the vector and status registers, sets world 1, goes on at wepc and delivers the pair's pending open interrupts. A secure interrupt enters the same way with wcause 0x02. YIELD, MSG_SEND, MSG_RECV and INFO answer in g0 to g2 as their table says; a message longer than its buffer is not copied; an input buffer outside what the MPU grants the open world returns 0xFFFFFFFE with a report. DEVICE_TIMER_EXPIRY asserts source 0xA8 + n. -/
def Obligations.WorldCallsSwitchWorld : Prop :=
  (∀ (dt pair imm nextPc : Nat) (g : List Nat) (s : State), pair < 8 → ((s.tick dt).pairOf pair).world → ∃ t : State,
    exec (.wcallFromOpen dt pair imm nextPc g) s = .next t ∧ (t.pairOf pair).world = false ∧ (t.pairOf pair).wepc = nextPc % 2 ^ 64 ∧
    (t.pairOf pair).warg = imm % 2 ^ 16 ∧ (t.pairOf pair).wcause = 1 ∧ (t.pairOf pair).pc = ((s.tick dt).pairOf pair).wvec ∧
    (t.pairOf pair).g = gRegs g ∧ { t with wld := { t.wld with pairs := (s.tick dt).wld.pairs } } = s.tick dt) ∧
  (∀ (dt pair : Nat) (g : List Nat) (s : State), pair < 8 → ((s.tick dt).pairOf pair).world = false →
    (s.tick dt).openHere pair → ((s.tick dt).pairOf pair).haltPending = false → ((s.tick dt).pairOf pair).halted = false → ∃ t : State,
    exec (.wcallFromSecure dt pair g) s = .next t ∧ (t.pairOf pair).world ∧ (t.pairOf pair).pc = ((s.tick dt).pairOf pair).wepc ∧
    (t.pairOf pair).vs = .empty ∧ (∀ i : Nat, 8 ≤ i → i < 32 → (t.pairOf pair).getG i = 0) ∧
    t.wld.irqs = (s.tick dt).wld.irqs.filter (fun n => !((s.tick dt).pairOf pair).irqPending.contains n) ∧
    { t with wld := { t.wld with pairs := (s.tick dt).wld.pairs, irqs := (s.tick dt).wld.irqs } } = s.tick dt) ∧
  (∀ (dt pair source pc : Nat) (s t u : State), t = s.tick dt → pair < 8 → (t.pairOf pair).world → irqAssigned source →
    t.irqWorld source = 0 → t.takesIrq source pair → u = t.setPair pair ((t.pairOf pair).enter 0x02 pc) →
    exec (.secureInterrupt dt pair source pc) s = .next { u with wld := { u.wld with irqs := u.wld.irqs.filter (· != source) } }) ∧
  (∀ (dt pair : Nat) (msgs : List Bytes) (s t u : State), t = s.tick dt → t.inCall pair 0 → u = t.setPair pair ((t.pairOf pair).setG 0 0) →
    exec (.yield dt pair msgs) s = .next { u with wld := { u.wld with toOpen := u.wld.toOpen ++ msgs } }) ∧
  (∀ (dt pair a len : Nat) (data : Bytes) (s t u : State), t = s.tick dt → t.inCall pair 1 → a = (t.pairOf pair).getG 1 →
    len = (t.pairOf pair).getG 2 → t.bufferOk .read a len → 1 ≤ len → len ≤ 4096 → t.wld.toSecure.length < 64 →
    u = t.setPair pair ((t.pairOf pair).setG 0 0) →
    exec (.msgSend dt pair data) s = .next { u with wld := { u.wld with toSecure := u.wld.toSecure ++ [fitLen len data] } }) ∧
  (∀ (dt pair : Nat) (data : Bytes) (s t : State), t = s.tick dt → t.inCall pair 1 →
    t.bufferOk .read ((t.pairOf pair).getG 1) ((t.pairOf pair).getG 2) = false →
    exec (.msgSend dt pair data) s = .next (t.bufferFail pair .read ((t.pairOf pair).getG 1))) ∧
  (∀ (dt pair : Nat) (msg : Bytes) (rest : List Bytes) (s t u : State), t = s.tick dt → t.inCall pair 2 →
    t.bufferOk .write ((t.pairOf pair).getG 1) ((t.pairOf pair).getG 2) → t.wld.toOpen = msg :: rest →
    u = State.setPair { t with wld := { t.wld with toOpen := rest } } pair ((t.pairOf pair).setG 0 msg.length) →
    exec (.msgRecv dt pair) s = .next (if msg.length ≤ (t.pairOf pair).getG 2 then
      u.memoryStore pair none ((t.pairOf pair).getG 1) msg else u)) ∧
  (∀ (dt pair : Nat) (s t : State), t = s.tick dt → t.inCall pair 3 → exec (.info dt pair) s = .next
    (t.setPair pair ((((t.pairOf pair).setG 0 pair).setG 1 t.now).setG 2 (t.reg .WLD_DBG 0).toNat))) ∧
  (∀ (dt n : Nat) (s : State), n < 8 → exec (.deviceTimerExpiry dt n) s = .next ((s.tick dt).raiseIrq (0xA8 + n)))

/-- Under the assignment lock no rule write changes an assignment, and the write is reported. ASSIGN_LOCK sets the lock. While it is set, a rule write by the secure world to WLD_PER or to an assigned interrupt's WLD_IRQ, or one that would change an assigned island's world, is reported to the access supervisor with reason 0x0A, is not acknowledged, and does nothing else. DBG_LOCK does the same for WLD_DBG. No rule write clears either lock. -/
def Obligations.AssignmentLockHolds : Prop :=
  (∀ (dt : Nat) (s : State), exec (.assignLock dt) s = .next ((s.tick dt).fset Fld.WLD_LOCK_assign_lock 0 1) ∧
    exec (.dbgLock dt) s = .next ((s.tick dt).fset Fld.WLD_LOCK_dbg_lock 0 1)) ∧
  (∀ (dt addr value : Nat) (m : Master) (r : RegRef) (s t : State), t = s.tick dt → internalReg addr = some r → t.masterOpen m = false →
    t.flag Fld.WLD_LOCK_assign_lock 0 →
    (r.name = .WLD_PER ∨ (r.name = .WLD_IRQ ∧ irqAssigned r.index) ∨
      (r.name = .WLD_ISLAND ∧ islandAssigned r.index ∧ value % 2 ≠ t.fget Fld.WLD_ISLAND_world r.index)) →
    exec (.ruleWrite dt m addr value) s = .next (t.report m .write addr 0x0A 0xFFFF)) ∧
  (∀ (dt addr value : Nat) (m : Master) (r : RegRef) (s t : State), t = s.tick dt → internalReg addr = some r → t.masterOpen m = false →
    t.flag Fld.WLD_LOCK_dbg_lock 0 → r.name = .WLD_DBG →
    exec (.ruleWrite dt m addr value) s = .next (t.report m .write addr 0x0A 0xFFFF)) ∧
  (∀ (dt addr value : Nat) (m : Master) (r : RegRef) (s t u : State), t = s.tick dt → internalReg addr = some r → isRule r.name →
    t.masterOpen m = false → t.ruleWrite r (BitVec.ofNat 64 value) = some u →
    exec (.ruleWrite dt m addr value) s = .next (u.emit (.ack addr))) ∧
  (∀ (r : RegRef) (v : Word) (s t : State), s.ruleWrite r v = some t → r.index < 131072 →
    t.reg .WLD_LOCK 0 = s.reg .WLD_LOCK 0)

/-- Power requests, violations and debug halts take effect or are reported. DEV_PWR_REQ records a request and puts it into effect or defers it, and reports an island that does not exist; ISLAND_RELEASE_WRITE acts for NET0 to NET3 alone; ISLAND_GATED puts a draining island that is not held and whose request stands into the power state of the request, a NET island's links and ports with it; ISLAND_POWERED_UP brings a powering island on; ASV_RECORD_POP returns the last word of the oldest record and removes it; DEBUG_HALT_REQUEST halts a pair in the open world with its invasive enable, and waits while the pair runs in the secure world without the secure invasive enable. -/
def Obligations.IslandPowerAndAccessReports : Prop :=
  (∀ (dt n v : Nat) (m : Master) (s : State), islandAssigned n → v < 3 → exec (.devPwrReq dt m n v) s = .next
    ((((s.tick dt).fset Fld.DEV_PWR_REQ_req n v).fset Fld.WLD_ISLAND_req n v).islandUpdate n)) ∧
  (∀ (dt n v : Nat) (m : Master) (s : State), islandAssigned n = false →
    exec (.devPwrReq dt m n v) s = .next ((s.tick dt).report m .write (0xA0000 + 4 * n) 0x04 0xFFFF)) ∧
  (∀ (dt n : Nat) (v : Bool) (s : State), 0x10 ≤ n → n ≤ 0x13 →
    exec (.islandReleaseWrite dt n v) s = .next (((s.tick dt).fset Fld.WLD_ISLAND_rel n (b2n v)).islandUpdate n)) ∧
  (∀ (dt n : Nat) (v : Bool) (s : State), n < 0x10 ∨ 0x13 < n → exec (.islandReleaseWrite dt n v) s = .next (s.tick dt)) ∧
  (∀ (dt n : Nat) (s t : State), t = s.tick dt → t.fget Fld.WLD_ISLAND_pwr n = 3 → t.islandHeld n = false →
    t.fget Fld.WLD_ISLAND_req n ≠ 0 → t.islandFree n →
    exec (.islandGated dt n) s = .next (if islandConfigurable n then
      t.netOff n (t.fget Fld.WLD_ISLAND_req n) else t.fset Fld.WLD_ISLAND_pwr n (t.fget Fld.WLD_ISLAND_req n))) ∧
  (∀ (dt n : Nat) (s t : State), t = s.tick dt → t.fget Fld.WLD_ISLAND_pwr n = 4 →
    exec (.islandPoweredUp dt n) s = .next (((t.fset Fld.WLD_ISLAND_pwr n 0).islandUpdate n).trainLinks).settle) ∧
  (∀ (dt : Nat) (s t : State), t = (s.tick dt).emit (.readData 0x4500082C ((s.tick dt).readReg .WLD_ASV_REC 7).toNat) →
    exec (.asvRecordPop dt) s = .next { t with wld := { t.wld with asv := t.wld.asv.drop 1 } }) ∧
  (∀ (dt pair : Nat) (s t : State), t = s.tick dt → pair < 8 → (t.pairOf pair).world →
    exec (.debugHaltRequest dt pair) s = .next ((t.setPair pair { t.pairOf pair with haltPending := true }).resolveHalt pair)) ∧
  (∀ (dt pair : Nat) (s t : State), t = s.tick dt → pair < 8 → (t.pairOf pair).world = false → t.flag Fld.WLD_DBG_s_inv 0 = false →
    exec (.debugHaltRequest dt pair) s = .next (t.setPair pair { t.pairOf pair with haltPending := true }))

/-- Island self-tests, the firmware phase, READY, recovery and host link training complete. From ISLANDS to CONFIG the first self-test result of an island that has one is taken, and a failure is dealt with (State.islandFails). BOOT_PHASE_FIRMWARE runs the firmware phase once every island is tested, the DRBG instances are ready and BBRAM is not held in clear. BOOT_READY in phase 6 with both locks set runs State.readyPhase, after which the phase is 7; without the Gauntlet's lock it only lets time pass. RECOVERY_GO with a refused or invalid image only shows that; with a valid one it installs the image, makes it the active one (while the directory's generation of 32 bits does not wrap) and leads to a reset. HOST_LINK_UP, from ISLANDS on with the main rails up, shows the link's parameters. -/
def Obligations.BootEventsComplete : Prop :=
  (∀ (dt island : Nat) (pass : Bool) (s t u : State), t = s.tick dt → 2 ≤ t.phase → t.phase ≤ 5 → testedIslands.contains island →
    t.boot.tested.contains island = false → u = { t with boot := { t.boot with tested := island :: t.boot.tested } } →
    exec (.islandSelftestDone dt island pass) s = .next (if pass then u else u.islandFails island)) ∧
  (∀ (dt : Nat) (s t : State), t = s.tick dt → t.phase = 5 → (∀ i : Nat, testedIslands.contains i → t.boot.tested.contains i) →
    t.drbgReady 2 → t.drbgReady 3 → t.clearHeld = false → exec (.bootPhaseFirmware dt) s = .next t.firmwarePhase) ∧
  (∀ (dt : Nat) (s t : State), t = s.tick dt → t.phase = 6 → t.flag Fld.WLD_LOCK_assign_lock 0 → t.flag Fld.GNT_LOCK_lock 0 →
    exec (.bootReady dt) s = .next t.readyPhase ∧ t.readyPhase.phase = 7 ∧ t.readyPhase.booted) ∧
  (∀ (dt : Nat) (s t : State), t = s.tick dt → t.flag Fld.GNT_LOCK_lock 0 = false → exec (.bootReady dt) s = .next t) ∧
  (∀ (dt : Nat) (image : Bytes) (refused : Bool) (s t : State), t = s.tick dt → t.phase = 0xE → t.gnt.rpDue = false →
    (refused = true ∨ imageOk 1 (fitLen (min (t.fget Fld.DEV_RCV_LEN_len 0) (slotSize 1)) image) = false) →
    exec (.recoveryGo dt image refused) s = .next (t.fset Fld.DEV_RCV_CTRL_status 0 2)) ∧
  (∀ (dt : Nat) (image b : Bytes) (s t : State), t = s.tick dt → t.phase = 0xE → t.gnt.rpDue = false →
    b = fitLen (min (t.fget Fld.DEV_RCV_LEN_len 0) (slotSize 1)) image → imageOk 1 b →
    (∀ (i : Nat) (x : Directory), t.flash.directory = some (i, x) → x.gen < 2 ^ 32 - 1) → ∃ u : State,
    exec (.recoveryGo dt image false) s = .next u ∧ u.gnt.rpDue ∧ u.fget Fld.DEV_RCV_CTRL_status 0 = 3 ∧
    u.flash.dir.cus = (if imageOk 1 t.flash.cus[0] then 1 else 0) ∧
    (if imageOk 1 t.flash.cus[0] then u.flash.cus[1] else u.flash.cus[0]) = b ∧ u.bb = t.bb ∧ u.otp = t.otp) ∧
  (∀ (dt speed width : Nat) (flit : Bool) (s t : State), t = s.tick dt → 2 ≤ t.fget Fld.DEV_BOOT_STATUS_phase 0 → t.gnt.main →
    exec (.hostLinkUp dt speed width flit) s = .next ((((t.fset Fld.HLU_LINK_speed 0 speed).fset Fld.HLU_LINK_width 0 width).fset
      Fld.HLU_LINK_flit 0 (b2n flit)).fset Fld.HLU_LINK_up 0 1))

/-- Life-cycle transitions, their steps, their deadline and the manufacturing commands complete. An LC_TRANSITION that passes its checks while no other command of the device quorum executes stops the other queue pairs and is deferred with a deadline of 100 ms; it goes on (State.lcNow) once they have stopped or the deadline has passed and the RP may program OTP: the reset is then due and the transition in progress. A target that R342 does not permit is REJECTED. LC_STEPS_RUN runs up to six steps of the transition in progress while the RP may program OTP and KA is not held, and LC_STOP_DEADLINE lets waiting work settle. In the BLANK path MANUFACTURING_PROGRAM_TRIM sets trim bits and the two transitions begin: that to FACTORY with a journal record and the word unchanged, that to SCRAP with nothing programmed yet. -/
def Obligations.LifeCycleCommandsComplete : Prop :=
  (∀ (dt pid deadline mu : Nat) (d : PktData) (l : List (Bytes × List (Bytes × Bytes))) (s t u : State) (p : Packet) (r : LcRun),
    (s.tick dt).dqExecutes = false → (s.tick dt).Starts 0x0F07 pid d t p → t.askLc pid p l = .ok (u, mu, r) → deadline = u.now + 100000000 →
    exec (.lcTransition dt pid d l) s =
      .next (((u.defer pid p (.lifeCycle pid r deadline mu)).stopOthers (qpi p.ring p.qp)).lcNow pid r deadline mu)) ∧
  (∀ (dt pid : Nat) (d : PktData) (l : List (Bytes × List (Bytes × Bytes))) (s t : State) (p : Packet) (o : Option Key),
    (s.tick dt).dqExecutes = false → (s.tick dt).Starts 0x0F07 pid d t p → t.handles pid p = .ok o → targetFlag t.lc (field p.input 4 1) t.ep = none →
    exec (.lcTransition dt pid d l) s = .next ((t.countPid pid false).fail pid .rejected)) ∧
  (∀ (pid deadline mu : Nat) (p : Packet) (r : LcRun) (t : State), t.cmd.packets.get? pid = some p → t.boot.lcRun = none → t.rpPrograms →
    (t.othersStopped p ∨ deadline ≤ t.now) → (t.lcNow pid r deadline mu).gnt.rpDue ∧ (t.lcNow pid r deadline mu).boot.lcRun = some r) ∧
  (∀ (dt steps : Nat) (s t : State), t = s.tick dt → t.boot.lcRun.isSome → t.fget Fld.DEV_BOOT_STATUS_phase 0 ≤ 1 →
    t.gnt.rpDue = false → t.rpPrograms → t.islandHeld 0x05 = false → exec (.lcStepsRun dt steps) s = .next (State.lcRuns (min steps 6) t)) ∧
  (∀ (dt : Nat) (s : State), exec (.lcStopDeadline dt) s = .next (s.tick dt).settle) ∧
  (∀ (dt : Nat) (data : Bytes) (s t : State), t = s.tick dt → t.blankPath → exec (.manufacturingProgramTrim dt data) s =
    .next { t with otp := { t.otp with trim := t.otp.trim ||| BitVec.ofNat 2048 (leNat data) } }) ∧
  (∀ (dt n : Nat) (s t : State), t = s.tick dt → t.blankPath → t.otp.freeRecord = some n →
    exec (.manufacturingTransitionFactory dt) s = .next
      { t with otp := t.otp.intend n 0, boot := { t.boot with lcRun := some ⟨some n, 0, 0, 1, 0, 0⟩ } } ∧
    (t.otp.intend n 0).word = t.otp.word) ∧
  (∀ (dt : Nat) (s t : State), t = s.tick dt → t.blankPath →
    exec (.manufacturingTransitionScrap dt) s = .next { t with boot := { t.boot with lcRun := some ⟨none, 11, 0, 6, 0, 0⟩ } })

/-- Staging, activation, re-seal approvals, the deadline and the pair switches complete. FW_STAGE of a valid image on a device without an activation writes it to the spare slot, marks it staged and is DONE. A FW_ACTIVATE that passes its checks while no LC_TRANSITION executes begins forward sealing for a custody image and the switches for a steward image. A RESEAL_APPROVE that passes its checks (opResealApprove) completes with its result, and the slice is among the journal's done bits. RESEAL_DEADLINE at the deadline counts the loaded vaults not done as withheld, sets the journal COMPLETE and begins the switches. PAIR_SWITCH_DONE of the pair that loads moves on (State.pairLoaded); a first ACTIVATION_PAIR_FAILURE of a custody activation fences the pair and goes on with the next, a second failure begins the abandonment. -/
def Obligations.FirmwareCommandsComplete : Prop :=
  (∀ (dt pid : Nat) (d : PktData) (s t : State) (p : Packet) (o : Option Key), (s.tick dt).Starts 0x0F05 pid d t p →
    t.handles pid p = .ok o → p.areasOk ioIn → p.inlineFrom 1 → p.par 0 0 = 1 ∨ p.par 0 0 = 2 → t.fw.act = none → imageOk (p.par 0 0) p.input →
    exec (.fwStage dt pid d) s = .next
      (((t.writeImage (p.par 0 0) p.input).noteStage (p.par 0 0) true p.input).answers pid [] 0 0)) ∧
  (∀ (dt pid secs n mu : Nat) (d : PktData) (s t u : State) (p : Packet), (s.tick dt).lcExecutes = false → (s.tick dt).Starts 0x0F06 pid d t p →
    t.askActivate pid p = .ok (u, 2, secs, n, mu) → ∃ v : State, exec (.fwActivate dt pid d) s = .next v ∧
    v.fw.act = some ⟨pid, 2, u.now + 1000000000 * secs, 0, n, 0, [], none, 0, 2, mu⟩ ∧ v.bb = u.bb ∧ v.ks = u.ks ∧ v.flash = u.flash) ∧
  (∀ (dt pid secs n mu : Nat) (d : PktData) (s t u w : State) (p : Packet), (s.tick dt).lcExecutes = false → (s.tick dt).Starts 0x0F06 pid d t p →
    t.askActivate pid p = .ok (u, 1, secs, n, mu) →
    w = (u.countPid pid false).setPacket pid { p with start := (u.countPid pid false).now, phase := .waiting } →
    exec (.fwActivate dt pid d) s = .next (w.forwardSeal p ⟨pid, 1, w.now + 1000000000 * secs, 0, n, 0, [], none, 0, 1, mu⟩)) ∧
  (∀ (dt pid : Nat) (d : PktData) (s t : State) (p : Packet) (r : Did), (s.tick dt).Serves 0x0506 pid d t p →
    opResealApprove t pid p = .ok r → exec (.resealApprove dt pid d) s = .next (r.s.answers pid r.out r.mu r.result) ∧
    r.s.bb.journal.done.contains p.ring) ∧
  (∀ (dt : Nat) (a : Act) (s t : State), t = s.tick dt → t.fw.act = some a → a.kind = 1 → a.phase = 1 → a.deadline ≤ t.now → ∃ u : State,
    exec (.resealDeadline dt) s = .next u ∧ u.bb.journal.state = 3 ∧ u.bb.journal.done = t.bb.journal.done ∧ ∃ b : Act,
    u.fw.act = some b ∧ b.phase = 2 ∧
    b.withheld = (t.loadedVaults.filter (fun sl => !t.bb.journal.done.contains sl)).length) ∧
  (∀ (dt pair : Nat) (a : Act) (s t : State), t = s.tick dt → t.fw.act = some a → t.islandHeld (8 + pair) = false → pair < 8 → a.phase = 2 →
    t.loads a = some pair → (a.kind = 2 ∨ (t.pairOf pair).world = false) →
    exec (.pairSwitchDone dt pair) s = .next (t.pairLoaded a pair)) ∧
  (∀ (dt pair m : Nat) (a : Act) (s t u : State), t = s.tick dt → t.fw.act = some a → a.phase = 2 → a.kind = 1 → t.loads a = some pair →
    pair < 8 → a.fails = 0 → u = t.fence 0 pair → u.nextPair { a with fails := 1, loading := none } pair = some m →
    exec (.activationPairFailure dt pair) s = .next ((u.withdrawPair m none).setAct (some { a with fails := 1, loading := some m }))) ∧
  (∀ (dt pair : Nat) (a : Act) (s t : State), t = s.tick dt → t.fw.act = some a → a.phase = 2 → t.loads a = some pair → pair < 8 →
    a.fails = 1 → exec (.activationPairFailure dt pair) s =
      .next ((t.fence 0 pair).beginAbandon { a with fails := 2, loading := none }))

/-- Mode switches, configuration loads and the device interrupt mask complete. A MODE_SWITCH that passes its checks to the mode in force is DONE at once with nothing changed but the completion; to another mode it sets switching and goes on to its switch point as State.modeNow allows; with no other switch or load under way, a permitted mode passes the checks. A CONFIG_LOAD that passes its checks, while no LC_TRANSITION executes, stores the endorsed image in the other slot, which the directory then names (while its generation does not wrap), sets busy, and goes on to its switch point as State.configNow allows. A write to DEV_IRQ_MASK replaces the mask, and with no cause pending under the mask does nothing else. -/
def Obligations.ModeAndConfigurationComplete : Prop :=
  (∀ (dt pid code : Nat) (d : PktData) (s t : State) (p : Packet), (s.tick dt).Starts 0x0F04 pid d t p → t.askMode pid p = .ok code →
    code = t.fget Fld.DEV_MODE_mode 0 → exec (.modeSwitch dt pid d) s = .next (t.answers pid [] 0 0)) ∧
  (∀ (dt pid code : Nat) (d : PktData) (s t u : State) (p : Packet), (s.tick dt).Starts 0x0F04 pid d t p → t.askMode pid p = .ok code →
    code ≠ t.fget Fld.DEV_MODE_mode 0 → u = (t.defer pid p (.modeSwitch pid code)).fset Fld.DEV_MODE_switching 0 1 →
    exec (.modeSwitch dt pid d) s = .next ((if modeDown (t.fget Fld.DEV_MODE_mode 0) && !modeDown code then u.netRelease false else u).modeNow pid code)) ∧
  (∀ (pid : Nat) (t : State) (p : Packet) (o : Option Key), t.handles pid p = .ok o → p.areasOk ioNone → p.inlineFrom 1 →
    t.modePermitted (p.par 0 0) → t.modeSwitching = false → t.configLoading = false → t.askMode pid p = .ok (p.par 0 0)) ∧
  (∀ (dt pid mu : Nat) (d : PktData) (s t u v : State) (p : Packet) (seeds : Bytes), (s.tick dt).lcExecutes = false →
    (s.tick dt).Starts 0x0F0A pid d t p → t.askConfig pid p = .ok (u, mu) → seeds = (List.range 4).flatMap (fun b => p.random b 34) →
    v = ((u.defer pid p (.configLoad pid p.input seeds mu)).storeConfig p.input).fset Fld.CFG_STATUS_busy 0 1 →
    exec (.configLoad dt pid d) s = .next (v.configNow pid p.input seeds mu)) ∧
  (∀ (t : State) (image : Bytes), (∀ (i : Nat) (x : Directory), t.flash.directory = some (i, x) → x.gen < 2 ^ 32 - 1) →
    (t.storeConfig image).flash.dir.cfg = t.spareCfg ∧ t.spareCfg ≠ t.flash.dir.cfg ∧
    (t.storeConfig image).cfg = t.cfg ∧ (t.storeConfig image).tbl = t.tbl) ∧
  (∀ (dt v : Nat) (s : State), exec (.devIrqMaskWrite dt v) s = .next ((s.tick dt).maskWrite (v % 64))) ∧
  (∀ (v : Nat) (s : State), (∀ n : Nat, v.testBit n → n < 6 → (s.reg .DEV_IRQ_CAUSE 0).getLsbD n = false) →
    s.maskWrite v = s.fset Fld.DEV_IRQ_MASK_mask 0 v)

/-- Card insertion, identification, the card commands, card errors and removal complete. A card inserted into an empty slot while PER runs is present and under identification, and its poll runs State.cardReady, or gives it up 1 s after the first query. A started card command runs State.cardCommand: beside another one or identification it completes with BUSY_RETRY; with no usable card it is REJECTED; past its checks with no event, hold or power-fail warning in its way it runs to its end (State.cardEnds). Removal ends a running command and clears the slot; a card error is counted and handled (State.cardError); a busy timeout in a write phase is counted and ends the command. -/
def Obligations.CardCommandsComplete : Prop :=
  (∀ (dt : Nat) (c : Card) (s t : State), t = s.tick dt → t.crd.card = none → t.perRuns → ∃ u : State,
    exec (.cardInserted dt c) s = .next u ∧ u.crd.card = some c ∧ u.crd.query = some t.now ∧ u.flag Fld.CRD_STATUS_present 0 ∧
    u.flag Fld.CRD_STATUS_ident 0 ∧ u.cmd = t.cmd) ∧
  (∀ (dt tq : Nat) (c : Card) (s t : State), t = s.tick dt → t.crd.card = some c → t.crd.query = some tq → t.islandHeld 0x07 = false →
    exec (.cardOperatingConditionPoll dt true) s = .next (t.cardReady c)) ∧
  (∀ (dt tq : Nat) (c : Card) (s t : State), t = s.tick dt → t.crd.card = some c → t.crd.query = some tq → t.islandHeld 0x07 = false →
    tq + 1000000000 ≤ t.now → exec (.cardOperatingConditionPoll dt false) s = .next (t.cardGivenUp.bumpSat Fld.CRD_ERR_timeout 0 1)) ∧
  (∀ (dt pid : Nat) (d : PktData) (stall : Option CardPhase) (s t : State) (p q : Packet) (i : Instr) (job : CardJob) (opc : Nat),
    (s.tick dt).cmd.packets.get? pid = some q →
    (i, job, opc) = (.vaultBackupInit dt pid d stall, .init, 0x0F0B) ∧ cardMode1 d q ∨
    (i, job, opc) = (.vaultBackup dt pid d stall, .backup, 0x0F0B) ∧ cardMode1 d q = false ∨
    (i, job, opc) = (.vaultRestore dt pid d stall, .restore, 0x0F0C) ∨ (i, job, opc) = (.evidenceExport dt pid d stall, .evidence, 0x0F0D) →
    (s.tick dt).Starts opc pid d t p → exec i s = .next (State.cardCommand job stall t pid p)) ∧
  (∀ (pid : Nat) (stall : Option CardPhase) (t u : State) (p : Packet) (o : Option Key) (job : CardJob), t.handles pid p = .ok o →
    cardForm job p → t.crd.run = none → t.crd.query = none → t.cardUsable = none →
    u = (t.countPid pid false).setPacket pid { p with start := (t.countPid pid false).now, phase := .waiting } →
    State.cardCommand job stall t pid p = ((u.setRun (some ⟨pid, job, .checks, 0, [], none⟩)).setRun none).fail pid .rejected) ∧
  (∀ (pid : Nat) (stall : Option CardPhase) (t : State) (p : Packet) (o : Option Key) (job : CardJob), t.handles pid p = .ok o →
    t.crd.run.isSome ∨ t.crd.query.isSome →
    State.cardCommand job stall t pid p = (t.countPid pid true).fail pid .busyRetry) ∧
  (∀ (pid g : Nat) (t u v : State) (p : Packet) (o : Option Key) (job : CardJob) (b : Bytes) (c : Card), t.handles pid p = .ok o →
    cardForm job p → t.crd.run = none → t.crd.query = none →
    u = (t.countPid pid false).setPacket pid { p with start := (t.countPid pid false).now, phase := .waiting } →
    v = u.setRun (some ⟨pid, job, .checks, 0, [], none⟩) → v.cardUsable = some c → v.cardHeld = false →
    v.askCard job { p with start := (t.countPid pid false).now, phase := .waiting } = .ok (b, g) → v.gnt.pfw = none →
    State.cardCommand job none t pid p = v.cardEnds ⟨pid, job, .checks, 0, b, none⟩ c g) ∧
  (∀ (dt : Nat) (c : Card) (s t : State), t = s.tick dt → t.crd.card = some c → t.crd.run = none →
    exec (.cardRemoved dt) s = .next t.cardGone) ∧
  (∀ (dt : Nat) (c : Card) (r : CardRun) (s t : State), t = s.tick dt → t.crd.card = some c → t.crd.run = some r → exec (.cardRemoved dt) s =
    .next ((t.cardStops r (r.ends.getD .cardRemoved)).bumpSat Fld.CRD_ERR_removed 0 1).cardGone) ∧
  (∀ (dt : Nat) (e : CardErr) (stall : Option CardPhase) (s t : State), t = s.tick dt → t.crd.run.isSome →
    exec (.cardResponseTimeout dt e stall) s = .next ((t.bumpSat (cardErrFld e) 0 1).cardError stall)) ∧
  (∀ (dt : Nat) (r : CardRun) (s t : State), t = s.tick dt → t.crd.run = some r → writePhase r.phase →
    exec (.cardBusyTimeout dt) s = .next ((t.bumpSat Fld.CRD_ERR_timeout 0 1).cardStops r (r.ends.getD .rejected)))

/-- Checks, visits, self-tests of the replicated units, handshake checks and memory errors complete. A firing check of an active or resting unit shows in its flag and fences it, but for two checks of a core: a given descriptor is judged (State.giveDescriptor), and a correctable operand memory error is counted. A handshake check between assigned islands is handled (State.fabricCheck). A lockstep mismatch, a failed known-answer check and a failed self-test fence the unit. A visit that is due and not held withdraws the next unit (State.visitBegin), whose ended drain leads to its self-test; a visited unit that passes is settled, a fenced one that passes returns (State.unitReturns). A background scrub pass changes nothing but the time. An uncorrectable error (a handshake's between assigned islands) is recorded and handled by its memory's policy (State.memError). A retired unit is fenced no more. -/
def Obligations.ReplicatedUnitEventsComplete : Prop :=
  (∀ (dt kind unit cause info : Nat) (s t : State), t = s.tick dt → kind < 4 → unit < unitCount kind → t.role kind unit ≤ 1 →
    kind ≠ 3 ∨ (cause ≠ 5 ∧ cause ≠ 6) →
    exec (.faultCheckFired dt kind unit cause info) s = .next ((t.noteCheck kind unit cause info).fence kind unit)) ∧
  (∀ (dt n info : Nat) (s t : State), t = s.tick dt → n < 72 → t.role 3 n ≤ 1 →
    exec (.faultCheckFired dt 3 n 5 info) s = .next (t.giveDescriptor n info) ∧
    exec (.faultCheckFired dt 3 n 6 info) s = .next (t.bumpSat Fld.PKE_CORE_ECC_count n 1)) ∧
  (∀ (dt src cause dst : Nat) (s : State), islandAssigned src → islandAssigned dst →
    exec (.faultCheckFired dt 4 src cause dst) s = .next ((s.tick dt).fabricCheck src cause dst)) ∧
  (∀ (dt pair : Nat) (s t : State), t = s.tick dt → pair < 8 → t.role 0 pair ≤ 1 → exec (.lockstepMismatch dt pair) s = .next (t.fence 0 pair)) ∧
  (∀ (dt kind unit : Nat) (s t : State), t = s.tick dt → (kind = 2 ∨ kind = 3) → unit < unitCount kind → t.role kind unit = 0 →
    exec (.knownAnswerCheck dt kind unit false) s = .next (t.fence kind unit) ∧ exec (.knownAnswerCheck dt kind unit true) s = .next t) ∧
  (∀ (dt kind island base u : Nat) (s t : State), t = s.tick dt → kind < 4 → island < 8 → base = (if kind = 3 then 9 * island else 0) →
    t.rotPaused kind = false → t.visitRuns kind base = false → t.visitDue kind base → t.erasing = false → t.nextUnit kind base = some u →
    t.islandHeld (unitIsland kind u) = false → exec (.oasisVisitStart dt kind island) s = .next (t.visitBegin kind u)) ∧
  (∀ (dt kind unit : Nat) (s t : State), t = s.tick dt → kind < 4 → unit < unitCount kind → t.rot.draining.contains (unitKey kind unit) →
    t.drained kind unit → t.islandHeld (unitIsland kind unit) = false →
    exec (.oasisDrainDone dt kind unit) s = .next ((t.closeUnit kind unit).toTest kind unit)) ∧
  (∀ (dt kind unit : Nat) (s t : State), t = s.tick dt → kind < 4 → unit < unitCount kind → t.rot.testing.contains (unitKey kind unit) →
    t.islandHeld (unitIsland kind unit) = false → t.erasing = false →
    exec (.unitSelftestDone dt kind unit false) s = .next (t.fence kind unit) ∧
    exec (.unitSelftestDone dt kind unit true) s = .next (if t.role kind unit = 2 then t.unitReturns kind unit else t.visitEnds kind unit)) ∧
  (∀ (dt which : Nat) (s : State), exec (.memoryScrubPass dt which) s = .next (s.tick dt)) ∧
  (∀ (dt : Nat) (e : MemErr) (s : State), errAssigned e → exec (.uncorrectableError dt e) s =
    .next (((s.tick dt).eccEvent (memRow e).1 (memRow e).2).memError e)) ∧
  (∀ (kind unit : Nat) (s : State), kind < 4 → unit < unitCount kind → s.role kind unit = 3 → s.fence kind unit = s)

/-- Every sensor's condition begins with its scope, record type and detail. On main power a warning excursion, a glitch, a clock fault, a short cycle or a lost reference clock begins its condition (State.condBegin) with the scope of R386 and the record type and detail of R395; so does a mesh, enclosure-loop, switch or ZEROIZE_N fault, and, while KA is supplied, a temperature or VBAK reading beyond its levels. Rail, temperature and VBAK readings show in their registers. -/
def Obligations.GauntletSensorsComplete : Prop :=
  (∀ (dt rail mv : Nat) (s t : State), t = s.tick dt → rail < 6 → t.gnt.main → mv < (railLevels rail).2.1 → (railLevels rail).1 ≤ mv →
    exec (.railWarningExcursion dt rail false mv) s = .next ((t.fset Fld.GNT_RAIL_mv rail mv).condBegin 0 (2 * rail) (railScope rail) 0x01
      (rail * 2 ^ 12 + mv / 2 % 2 ^ 11))) ∧
  (∀ (dt rail mv : Nat) (s t : State), t = s.tick dt → rail < 6 → t.gnt.main → (railLevels rail).2.2.1 < mv → mv ≤ (railLevels rail).2.2.2.1 →
    exec (.railWarningExcursion dt rail true mv) s = .next ((t.fset Fld.GNT_RAIL_mv rail mv).condBegin 0 (2 * rail + 1) (railScope rail) 0x01
      (rail * 2 ^ 12 + 2 ^ 11 + mv / 2 % 2 ^ 11))) ∧
  (∀ (dt rail peak : Nat) (positive : Bool) (s t : State), t = s.tick dt → rail < 6 → t.gnt.main → (railLevels rail).2.2.2.2.1 < peak →
    exec (.glitch dt rail positive peak) s = .next (t.condBegin 3 rail maskAll 0x03 (rail * 2 ^ 12 + b2n positive * 2 ^ 11 + peak % 2 ^ 11))) ∧
  (∀ (dt island : Nat) (s t : State), t = s.tick dt → islandAssigned island → t.gnt.main →
    exec (.clockFrequency dt island) s = .next (t.condBegin 4 island (maskOf [island]) 0x04 (2 ^ 8 + island)) ∧
    exec (.shortCycle dt island) s = .next (t.condBegin 5 island maskAll 0x04 (2 * 2 ^ 8 + island))) ∧
  (∀ (dt clock : Nat) (s t : State), t = s.tick dt → clock < 4 → t.gnt.main →
    exec (.referenceLost dt clock) s = .next (t.condBegin 6 clock (refScope clock) 0x04 (3 * 2 ^ 8 + clock))) ∧
  (∀ (dt which fault line : Nat) (s t : State), t = s.tick dt → which < 4 → 1 ≤ fault → fault ≤ 3 → line < 64 →
    exec (.meshCheck dt which fault line) s = .next (t.meshFault which fault line)) ∧
  (∀ (dt which line : Nat) (s : State), exec (.meshCheck dt which 0 line) s = .next (s.tick dt)) ∧
  (∀ (dt n : Nat) (open_ : Bool) (s t : State), t = s.tick dt → n < 4 → open_ ≠ bit (t.fget Fld.GNT_SWITCH_CFG_pol 0) n →
    exec (.tamperSwitch dt n open_) s = .next (t.condBegin (17 + n) 0 maskAll 0x09 n)) ∧
  (∀ (dt : Nat) (s : State), exec (.zeroize dt) s = .next ((s.tick dt).condBegin 21 0 maskAll 0x0A 0)) ∧
  (∀ (dt v : Nat) (s t : State), t = s.tick dt → t.gnt.ka → exec (.temperature dt v) s = .next ((tempSensors (celsius v)).foldl
    (fun s n => s.condBegin n 0 maskAll 0x05 (n * 2 ^ 8 + v % 256)) (t.fset Fld.GNT_TEMP_celsius 0 (v % 256)))) ∧
  (∀ (dt mv : Nat) (s t : State), t = s.tick dt → t.gnt.ka → mv < 2300 →
    exec (.vbakLow dt mv) s = .next ((t.fset Fld.GNT_VBAK_mv 0 mv).condBegin 11 0 0 0x06 (mv % 2 ^ 12))) ∧
  (∀ (dt mv : Nat) (s t : State), t = s.tick dt → t.gnt.ka → 3800 < mv →
    exec (.vbakOver dt mv) s = .next ((t.fset Fld.GNT_VBAK_mv 0 mv).condBegin 12 0 maskAll 0x06 (2 ^ 15 + mv % 2 ^ 12)))

/-- Second decisions, ends, holds, erases, evidence commits, the lock and the power-fail warning complete. An awaited SECOND_DECISION is added to the first; CONDITION_END of a present condition whose reading lies inside its recovery level ends it; HOLD_LIFT 100 µs after the end, CLASS2_ERASE_DONE (here with a valid seed and BBRAM not held) and PFW_N_DEASSERTED end the hold, the erase and the warning and let what waited go on; CLEAR_HOLD_RELEASE frees BBRAM 1 s after the last class 3 condition; EVIDENCE_COMMIT, while the RP may program OTP, commits the oldest staged record with its chain value at the next index, or discards and counts it where no index takes it; GNT_LOCK sets the lock; PFW_N ends a writing card command and flushes the recorder. -/
def Obligations.GauntletResponsesComplete : Prop :=
  (∀ (dt sensor sub cls : Nat) (e : Second) (s t : State), t = s.tick dt → t.gnt.seconds.get? (condKey sensor sub) = some e → cls < 4 → sub < 256 →
    exec (.secondDecision dt sensor sub cls) s = .next (t.decide2 sensor (condKey sensor sub) cls e)) ∧
  (∀ (dt sensor sub v : Nat) (c : Cond) (s t : State), t = s.tick dt → t.gnt.conds.get? (condKey sensor sub) = some c → c.ended = none → sub < 256 →
    endsAt sensor sub v → exec (.conditionEnd dt sensor sub v) s = .next ((t.noteReading sensor sub v).condEnd (condKey sensor sub) c)) ∧
  (∀ (dt sensor sub at_ : Nat) (c : Cond) (s t : State), t = s.tick dt → t.gnt.conds.get? (condKey sensor sub) = some c → c.ended = some at_ →
    at_ + 100000 ≤ t.gnt.kaNs → sub < 256 → exec (.holdLift dt sensor sub) s = .next (t.lift (condKey sensor sub)).settle) ∧
  (∀ (dt : Nat) (s t u : State), t = s.tick dt → t.erasing → t.clearHeld = false →
    t.flag Fld.KS_STATUS_seed_valid 0 →
    u = ((t.fset Fld.GNT_STATUS_erase_busy 0 0).fset Fld.KS_STATUS_wipe_busy 0 0).deriveKeys →
    exec (.class2EraseDone dt) s = .next (([0x10, 0x11, 0x12, 0x13].foldl State.islandUpdate u).gntSync.settle)) ∧
  (∀ (dt : Nat) (s t : State), t = s.tick dt → t.clearHeld → t.class3 = false → t.gnt.clearEnd + 1000000000 ≤ t.gnt.kaNs →
    exec (.clearHoldRelease dt) s = .next (t.fset Fld.GNT_STATUS_clear_held 0 0)) ∧
  (∀ (dt : Nat) (b : Bytes) (rest : List Bytes) (s t : State), t = s.tick dt → t.gnt.staged = b :: rest → t.rpPrograms →
    2 ≤ t.fget Fld.DEV_BOOT_STATUS_phase 0 → t.logTakes b → ∃ u : State, exec (.evidenceCommit dt) s = .next u ∧ u.gnt.staged = rest ∧
    u.gnt.log = t.gnt.log.insert t.evNext (b ++ (sha384 (t.chainLast ++ b)).take 12) ∧ u.bb = t.bb ∧ u.otp = t.otp) ∧
  (∀ (dt : Nat) (b : Bytes) (rest : List Bytes) (s t : State), t = s.tick dt → t.gnt.staged = b :: rest → t.rpPrograms →
    2 ≤ t.fget Fld.DEV_BOOT_STATUS_phase 0 → t.logTakes b = false → exec (.evidenceCommit dt) s =
      .next (State.bumpSat { t with gnt := { t.gnt with staged := rest } } Fld.GNT_EV_DROPPED_count 0 1)) ∧
  (∀ (dt : Nat) (s : State), exec (.gntLock dt) s = .next ((s.tick dt).fset Fld.GNT_LOCK_lock 0 1)) ∧
  (∀ (dt : Nat) (s t u : State), t = s.tick dt → t.gnt.main → t.gnt.pfw = none →
    u = (if t.cardWrites then t.endCard .cardRemoved else t) →
    exec (.pfwNAsserted dt) s = .next (State.fset { u with gnt := { u.gnt with pfw := some u.gnt.kaNs } } Fld.REC_CTRL_flush 0 1)) ∧
  (∀ (dt : Nat) (s t : State), t = s.tick dt →
    exec (.pfwNDeasserted dt) s = .next (State.settle { t with gnt := { t.gnt with pfw := none } }))

/-- A class below the floor takes effect as the floor, above the maximum as the maximum, and a fixed sensor ignores writes. For every sensor and every written value: a write to the class of a fixed sensor changes no register; a write to another sensor's class, while the lock is clear, gives a class at least the sensor's floor and at most its maximum, and the written class where it lies between; no other register changes. Under the lock no write changes anything, and BOOT_READY only lets time pass while the lock is clear. -/
def Obligations.SensorClassStaysInItsRange : Prop :=
  (∀ (n v f m d : Nat) (s t : State), n < 23 → sensorRow n = (d, f, m, false) → s.flag Fld.GNT_LOCK_lock 0 = false → t = s.writeSensor n v →
    (v % 4 < f → t.sensorClass n = f) ∧ (m < v % 4 → t.sensorClass n = m) ∧ (f ≤ v % 4 → v % 4 ≤ m → t.sensorClass n = v % 4) ∧
    (∀ (r : RegName) (i : Nat), i < 131072 → r.idx ≠ RegName.GNT_SENSOR.idx ∨ i ≠ n → t.reg r i = s.reg r i)) ∧
  (∀ (n v f m d : Nat) (s : State), sensorRow n = (d, f, m, true) → s.writeSensor n v = s) ∧
  (∀ (n v : Nat) (s : State), s.flag Fld.GNT_LOCK_lock 0 → s.writeSensor n v = s) ∧
  (∀ (dt : Nat) (s : State), (s.tick dt).flag Fld.GNT_LOCK_lock 0 = false → exec (.bootReady dt) s = .next (s.tick dt))

/-- A dirty log with a bad configuration stays off with err set, and its address registers are fixed while it is on. For every slice whose log is off: a write of 1 to enable while a buffer address is zero or misaligned to 64 octets, or win_log2 lies outside 21 to 44, leaves enable at 0 and sets err, with nothing else changed. While a log is on, every permitted write of any length that lies in SLC_DLOG_BUF0, SLC_DLOG_BUF1 or SLC_DLOG_WIN leaves that register as it was and sets err: every other register and all other state stay. -/
def Obligations.DirtyLogRefusesBadConfiguration : Prop :=
  (∀ (dt sl : Nat) (s t u : State), sl < 4096 → t = s.tick dt → t.flag Fld.SLC_DLOG_CTRL_enable sl = false →
    (t.reg .SLC_DLOG_BUF0 sl).toNat = 0 ∨ (t.reg .SLC_DLOG_BUF1 sl).toNat = 0 ∨ (t.reg .SLC_DLOG_BUF0 sl).toNat % 64 ≠ 0 ∨
      (t.reg .SLC_DLOG_BUF1 sl).toNat % 64 ≠ 0 ∨ t.fget Fld.SLC_DLOG_WIN_win_log2 sl < 21 ∨ 44 < t.fget Fld.SLC_DLOG_WIN_win_log2 sl →
    u = t.fset Fld.SLC_DLOG_CTRL_err sl 1 →
    exec (.dlogEnable dt sl) s = .next u ∧ u.flag Fld.SLC_DLOG_CTRL_enable sl = false ∧ u.flag Fld.SLC_DLOG_CTRL_err sl) ∧
  (∀ (dt addr len value sl : Nat) (m : Master) (sp : AddrSpace) (n : RegName) (s t : State), t = s.tick dt → sl < 4096 →
    n = .SLC_DLOG_BUF0 ∨ n = .SLC_DLOG_BUF1 ∨ n = .SLC_DLOG_WIN → t.flag Fld.SLC_DLOG_CTRL_enable sl → 1 ≤ len →
    (∀ k : Nat, k < (addr % 4 + len + 3) / 4 → regAt sp (addr / 4 * 4 + 4 * k) = some ⟨n, sl⟩) →
    (sp = .internal → mpuGoverned addr = false ∧ (∀ k : Nat, k < (addr % 4 + len + 3) / 4 → opWord (addr / 4 * 4 + 4 * k) = none)) →
    t.accessCheck m .write sp addr len = none → (sp = .pf0 → t.windowClosed m addr = false) → t.worldAllows m .write ⟨n, sl⟩ →
    ∃ u : State, exec (.registerWrite dt m sp addr len value) s = .next u ∧ u.flag Fld.SLC_DLOG_CTRL_err sl ∧
    u.reg n sl = t.reg n sl ∧ u.flag Fld.SLC_DLOG_CTRL_enable sl ∧ { u with regs := t.regs } = t ∧
    (∀ (r : RegName) (i : Nat), i < 131072 → r ≠ .SLC_DLOG_CTRL ∨ i ≠ sl → u.reg r i = t.reg r i))

/-- Each committed evidence record carries the chain value over its predecessor. A commit at index i of a record's 20 octets b appends the first 12 octets of SHA-384(c and b), where c is octets 0x14 to 0x1F of record i - 1, and for record 0 the first 12 octets of SHA-384 over the ASCII octets ELVEVA-EVIDENCE1. Hence, on a log without gaps, every commit by the RP keeps this true of all records of the log: each one's last 12 octets are that value over the record before it. -/
def Obligations.EvidenceCommitExtendsTheChain : Prop :=
  (∀ (dt : Nat) (b : Bytes) (rest : List Bytes) (s t : State), t = s.tick dt → t.gnt.staged = b :: rest → t.rpPrograms →
    2 ≤ t.fget Fld.DEV_BOOT_STATUS_phase 0 → t.logTakes b → t.LogDense → b.length = 20 → t.LogChained → ∃ u : State,
    exec (.evidenceCommit dt) s = .next u ∧ u.LogDense ∧ u.LogChained ∧
    u.gnt.log.get? t.gnt.log.cells.length = some (b ++ (sha384 (t.chainBefore t.gnt.log.cells.length ++ b)).take 12)) ∧
  (∀ s : State, s.chainBefore 0 = (sha384 ([0x45, 0x4C, 0x56, 0x45, 0x56, 0x41, 0x2D, 0x45, 0x56, 0x49, 0x44, 0x45, 0x4E, 0x43, 0x45, 0x31] :
    Bytes)).take 12) ∧
  (∀ (i : Nat) (r : Bytes) (s : State), s.gnt.log.get? i = some r → s.chainBefore (i + 1) = slice r 0x14 12) ∧
  (∀ (typ cls detail : Nat) (union : Bool) (s : State), (s.evidenceBody typ cls detail union).length = 20)

/-- Meter ticks, the meter and dump rings, software events, flushes and the region reset complete. At a multiple of its interval an enabled meter ticks (State.meterTick) and enabled dumps run State.dump. An enable with a valid base starts them with the tail at 0 (and, for meters, writes held records); with an invalid base it sets err and does nothing else. A write of the head takes effect and held records follow (State.meterDrain). SOFTWARE_EVENT raises code 0xF0 for a nonzero value. A flush with the region's chip present runs State.flush, and without it sets nv_err and ends; the region reset empties the region, sets its next index to 0, clears stopped and keeps the recorder's entries. -/
def Obligations.RecorderAndMeterCommandsComplete : Prop :=
  (∀ (dt : Nat) (s t : State), t = s.tick dt → t.flag Fld.PMC_METER_CTRL_enable 0 → t.now % (t.met.period * 1000000000) = 0 →
    exec (.meterTick dt) s = .next t.meterTick) ∧
  (∀ (dt : Nat) (s t u : State), t = s.tick dt → t.flag Fld.PMC_METER_CTRL_enable 0 = false → t.meterBaseOk →
    u = (t.fset Fld.PMC_METER_CTRL_enable 0 1).fset Fld.PMC_METER_PTR_tail 0 0 →
    exec (.meterEnable dt) s = .next (State.meterDrain 4096 { u with met := { u.met with period := u.meterSeconds } })) ∧
  (∀ (dt : Nat) (s t : State), t = s.tick dt → t.flag Fld.PMC_METER_CTRL_enable 0 = false → t.meterBaseOk = false →
    exec (.meterEnable dt) s = .next (t.fset Fld.PMC_METER_CTRL_err 0 1)) ∧
  (∀ (dt v : Nat) (s : State), exec (.meterHeadWrite dt v) s =
    .next (State.meterDrain 4096 ((s.tick dt).fset Fld.PMC_METER_PTR_head 0 (v % 2 ^ 16)))) ∧
  (∀ (dt : Nat) (s t : State), t = s.tick dt → t.flag Fld.PMC_DUMP_CTRL_enable 0 → t.now % (t.dumpMs * 1000000) = 0 →
    exec (.dumpTick dt) s = .next t.dump) ∧
  (∀ (dt : Nat) (s t u : State), t = s.tick dt → t.flag Fld.PMC_DUMP_CTRL_enable 0 = false → t.dumpBaseOk →
    u = (t.fset Fld.PMC_DUMP_CTRL_enable 0 1).fset Fld.PMC_DUMP_PTR_tail 0 0 →
    exec (.dumpEnable dt) s = .next { u with met := { u.met with dumpSeq := 0 } }) ∧
  (∀ (dt : Nat) (s t : State), t = s.tick dt → t.flag Fld.PMC_DUMP_CTRL_enable 0 = false → t.dumpBaseOk = false →
    exec (.dumpEnable dt) s = .next (t.fset Fld.PMC_DUMP_CTRL_err 0 1)) ∧
  (∀ (dt v : Nat) (s : State), v % 2 ^ 16 ≠ 0 → exec (.softwareEvent dt v) s = .next ((s.tick dt).event 0xF0 0xFF (v % 2 ^ 16))) ∧
  (∀ (dt v : Nat) (s : State), v % 2 ^ 16 = 0 → exec (.softwareEvent dt v) s = .next (s.tick dt)) ∧
  (∀ (dt : Nat) (s t : State), t = s.tick dt → t.flag Fld.XSP_STATUS_cs1_ok 0 → exec (.recorderFlush dt true) s = .next t.flush) ∧
  (∀ (dt : Nat) (ok : Bool) (s t : State), t = s.tick dt → t.flag Fld.XSP_STATUS_cs1_ok 0 = false →
    exec (.recorderFlush dt ok) s = .next ((t.fset Fld.REC_STATUS_nv_err 0 1).fset Fld.REC_CTRL_flush 0 0)) ∧
  (∀ (dt : Nat) (s : State), ∃ u : State, exec (.recorderRegionReset dt) s = .next u ∧ u.rcd.region = .empty ∧
    u.fget Fld.REC_NV_NEXT_next 0 = 0 ∧ u.flag Fld.REC_STATUS_stopped 0 = false ∧ u.rcd.entries = s.rcd.entries)

/-- Ports, DMA errors, IDE failures, register writes and the test port complete. A port's link that is down comes up where State.portMayTrain allows, and an up link goes down by State.retrain; a write of a lane register is a register write of 4 octets. A refused DMA request and a timeout run State.dmaFails; a late completion is counted. An IDE failure of a Secure stream makes it Insecure and is counted. A register write that violates is reported and judged and does nothing else, and one that is permitted goes to a closed window, to memory, or piece by piece to registers. An access violation is reported, and a read of it answers zero. Boundary scan drives pins, sampled ones excepted, where State.scanDrives holds and otherwise acts as BYPASS; SAMPLE, IDCODE and BYPASS select their registers; the debug protocol makes one access (State.debugAccess). -/
def Obligations.PortsLinksAndTestPortComplete : Prop :=
  (∀ (dt port : Nat) (c2m : Bool) (s t : State), t = s.tick dt → t.portMayTrain port → t.linkUp port = false → ∃ u : State,
    exec (.portLinkUp dt port c2m) s = .next u ∧ u.linkUp port ∧ u.fget Fld.NET_PORT_STATUS_c2m port = b2n c2m ∧
    u.wld.irqs.contains (0x80 + port) ∧ u.tbl = t.tbl ∧ u.cmd = t.cmd) ∧
  (∀ (dt port : Nat) (s t : State), t = s.tick dt → t.linkUp port → exec (.portLinkDown dt port) s = .next (t.retrain port)) ∧
  (∀ (dt : Nat) (u : DmaUse) (s : State), exec (.dmaRefused dt u) s = .next ((s.tick dt).dmaFails u).settle ∧
    exec (.dmaCompletionTimeout dt u) s = .next ((s.tick dt).dmaFails u).settle) ∧
  (∀ (dt : Nat) (s : State), exec (.lateCompletion dt) s = .next ((s.tick dt).bumpSat Fld.HLU_DMA_ERR_count 0 1)) ∧
  (∀ (dt stream : Nat) (s t : State), t = s.tick dt → ideSecure t.lnk.ide stream → ∃ u : State,
    exec (.ideIntegrityFailure dt stream none) s = .next u ∧ ideSecure u.lnk.ide stream = false ∧
    u.fget Fld.HLU_IDE_FAIL_count 0 = min (t.fget Fld.HLU_IDE_FAIL_count 0 + 1) Fld.HLU_IDE_FAIL_count.max ∧ u.cmd = t.cmd) ∧
  (∀ (dt addr len value : Nat) (m : Master) (sp : AddrSpace) (s t : State), t = s.tick dt → exec (.registerWrite dt m sp addr len value) s =
    .next (match t.accessCheck m .write sp addr len with
      | some (reason, page) => (t.report m .write addr reason page).judgeRecord m reason
      | none =>
        if sp == .pf0 && t.windowClosed m addr then t
        else if sp == .internal && mpuGoverned addr then t.memoryWrite m addr (natLE len value)
        else (List.range ((addr % 4 + len + 3) / 4)).foldl (fun s k => s.writePiece m sp addr len value (addr / 4 * 4 + 4 * k)) t)) ∧
  (∀ (dt lane value : Nat) (m : Master) (s : State), lane < 16 →
    exec (.netLaneCfgWrite dt m lane value) s = exec (.registerWrite dt m .pf0 (0x200100 + 4 * lane) 4 (value % 2 ^ 32)) s) ∧
  (∀ (dt addr len reason page : Nat) (m : Master) (k : AccKind) (sp : AddrSpace) (s t u : State), t = s.tick dt →
    t.accessCheck m k sp addr len = some (reason, page) → u = (t.report m k addr reason page).judgeRecord m reason →
    exec (.accessViolation dt m k sp addr len) s = .next (if k = .write then u else u.emit (.readData addr 0))) ∧
  (∀ (dt : Nat) (drive : List (String × Bool)) (s t : State), t = s.tick dt → t.scanDrives → ∃ u : State, exec (.extest dt drive) s = .next u ∧
    u.lnk.tap = 0 ∧ (∀ (n : String) (v : Bool), (.pin n v) ∈ u.out → (.pin n v) ∈ t.out ∨ ((n, v) ∈ drive ∧ sampleOnly.contains n = false)) ∧
    exec (.clamp dt) s = .next (t.setTap 4) ∧ exec (.highz dt) s = .next (t.setTap 5)) ∧
  (∀ (dt : Nat) (drive : List (String × Bool)) (s t : State), t = s.tick dt → t.scanDrives = false → exec (.extest dt drive) s =
    .next (t.setTap 31) ∧ exec (.clamp dt) s = .next (t.setTap 31) ∧ exec (.highz dt) s = .next (t.setTap 31)) ∧
  (∀ (dt : Nat) (s : State), exec (.samplePreload dt) s = .next ((s.tick dt).setTap 1) ∧ exec (.idcode dt) s = .next ((s.tick dt).setTap 2) ∧
    exec (.bypass dt) s = .next ((s.tick dt).setTap 31)) ∧
  (∀ (dt addr value : Nat) (k : AccKind) (s : State), exec (.pdp dt k addr value) s = .next (((s.tick dt).setTap 16).debugAccess k addr value))

/-- SPDM, IDE key management, MCTP control and ENTDAA complete. A request that its binding carries and no hold delays is answered: an SPDM or IDE request receives Busy while State.spdmBusy holds (until READY and during an erase or wipe), and else its own answer (State.serveMgmt); an unknown SPDM request receives UnsupportedRequest; END_SESSION and HEARTBEAT for no live session receive InvalidSession. MCTP control answers by its command, an unsupported control command with code 0x05, and another message type is discarded. A request behind a hold is held while there is room. ENTDAA gives the I3C target without an address its address, answered with the provisioned ID. -/
def Obligations.ManagementMessagesComplete : Prop :=
  (∀ (dt tr a b c : Nat) (x y : Bytes) (f : Bool) (s : State) (i : Instr) (r : MgmtReq), (i, r) ∈ mgmtTable dt tr a b c x y f →
    (s.tick dt).mgmtReachable tr → (s.tick dt).mgmtHeld tr r = false → exec i s = .next ((s.tick dt).answerMgmt tr r)) ∧
  (∀ (dt a b c e n : Nat) (x : Bytes) (tr : Nat) (s : State) (i : Instr) (r : MgmtReq), (i, r) ∈ ideTable dt tr a b c e n x →
    (s.tick dt).mgmtReachable tr → (s.tick dt).mgmtHeld tr r = false → exec i s = .next ((s.tick dt).answerMgmt tr r)) ∧
  (∀ (dt a : Nat) (i3c : Bool) (s : State) (i : Instr) (r : MgmtReq), (i, r) ∈ mctpTable dt i3c a →
    (s.tick dt).mgmtReachable (mctpBinding i3c) → (s.tick dt).mgmtHeld (mctpBinding i3c) r = false →
    exec i s = .next ((s.tick dt).serveMgmt (mctpBinding i3c) r)) ∧
  (∀ (dt typ command : Nat) (i3c : Bool) (s : State), (s.tick dt).mgmtReachable (mctpBinding i3c) →
    (s.tick dt).mgmtHeld (mctpBinding i3c) (.mctpOther typ command) = false → exec (.mctpUnsupportedMessage dt i3c typ command) s =
    .next (if typ = 0 ∧ command ∉ [0x01, 0x02, 0x04, 0x05] then (s.tick dt).reply (mctpBinding i3c) (mctpReply command 0x05 [])
      else s.tick dt)) ∧
  (∀ (tr : Nat) (r : MgmtReq) (s : State), isSpdm r → s.spdmBusy → s.answerMgmt tr r = s.reply tr (spdmError 0x03 0)) ∧
  (∀ (tr : Nat) (r : MgmtReq) (s : State), s.spdmBusy = false → s.answerMgmt tr r = s.serveMgmt tr r) ∧
  (∀ (tr code : Nat) (s : State), s.serveMgmt tr (.spdmOther code) = s.respondSpdm tr (spdmError 0x07 code)) ∧
  (∀ (tr ident : Nat) (s : State), s.sessionOf tr ident = none → s.serveMgmt tr (.endSession ident) = s.respondSpdm tr (spdmError 0x02 0) ∧
    s.serveMgmt tr (.heartbeat ident) = s.respondSpdm tr (spdmError 0x02 0)) ∧
  (∀ (tr : Nat) (r : MgmtReq) (s : State), s.mgmtReachable tr → s.mgmtHeld tr r → s.mgmtRoom tr →
    s.mgmt tr r = { s with lnk := { s.lnk with held := s.lnk.held ++ [(tr, r)] } }) ∧
  (∀ (dt addr : Nat) (s t : State), t = s.tick dt → t.gnt.main → 2 ≤ t.fget Fld.DEV_BOOT_STATUS_phase 0 →
    t.fget Fld.DEV_BOOT_STATUS_phase 0 ≠ 0xF → t.lnk.i3c = none → addr < 128 → exec (.entdaa dt addr) s =
    .next (State.reply { t with lnk := { t.lnk with i3c := some addr } } 2 (natBE 6 t.provisionedId)))
end

