-- ==== Sys2Proof/Laws/Bits.lean ====
section
/-! SUPPORT. Laws of the bit-field and byte-order helpers: fields of a register value, lengths of octet strings. -/

namespace Sys2Proof.Machine

/-- Every bit of a register value after one field is replaced. -/
theorem wordSet_getLsbD (w : Word) (hi lo v i : Nat) (hh : hi < 64) (hl : lo ≤ hi) :
    (wordSet w hi lo v).getLsbD i = if lo ≤ i ∧ i ≤ hi then v.testBit (i - lo) else w.getLsbD i := by
  have e : hi - lo + lo = hi := by omega
  unfold wordSet
  simp only [BitVec.getLsbD_or, BitVec.getLsbD_and, BitVec.getLsbD_not, BitVec.getLsbD_ofNat, Nat.testBit_shiftLeft,
    Nat.testBit_two_pow_sub_one]
  by_cases h64 : i < 64
  · by_cases h1 : lo ≤ i <;> by_cases h2 : i ≤ hi <;> simp [h64, h1, h2, e]
  · have h : ¬ (lo ≤ i ∧ i ≤ hi) := by omega
    simp [h, h64, BitVec.getLsbD_of_ge w i (by omega)]

/-- Every bit of a field. -/
theorem wordField_testBit (w : Word) (hi lo j : Nat) :
    (wordField w hi lo).testBit j = (decide (j < hi - lo + 1) && w.getLsbD (lo + j)) := by
  simp only [wordField, bits, Nat.testBit_mod_two_pow, Nat.testBit_shiftRight, BitVec.testBit_toNat]

theorem wordField_lt (w : Word) (hi lo : Nat) : wordField w hi lo < 2 ^ (hi - lo + 1) := Nat.mod_lt _ (Nat.two_pow_pos _)

/-- A field read after it is replaced: the new value cut to the field's width. -/
theorem wordField_wordSet (w : Word) (hi lo v : Nat) (hh : hi < 64) (hl : lo ≤ hi) :
    wordField (wordSet w hi lo v) hi lo = v % 2 ^ (hi - lo + 1) := by
  apply Nat.eq_of_testBit_eq
  intro j
  rw [wordField_testBit, Nat.testBit_mod_two_pow]
  by_cases h : j < hi - lo + 1
  · rw [wordSet_getLsbD w hi lo v _ hh hl, if_pos (by omega)]; simp [h]
  · simp [h]

/-- A field read after another one, apart from it, is replaced. -/
theorem wordField_wordSet_ne (w : Word) (hi lo v hi' lo' : Nat) (hh : hi < 64) (hl : lo ≤ hi) (hl' : lo' ≤ hi')
    (h : hi' < lo ∨ hi < lo') : wordField (wordSet w hi lo v) hi' lo' = wordField w hi' lo' := by
  apply Nat.eq_of_testBit_eq
  intro j
  rw [wordField_testBit, wordField_testBit]
  by_cases hj : j < hi' - lo' + 1
  · rw [wordSet_getLsbD w hi lo v _ hh hl, if_neg (by omega)]
  · simp [hj]

@[simp] theorem natLE_length (len n : Nat) : (natLE len n).length = len := by
  induction len generalizing n with
  | zero => rfl
  | succ k ih => simp [natLE, ih]

@[simp] theorem natBE_length (len n : Nat) : (natBE len n).length = len := by simp [natBE]

@[simp] theorem zeros_length (n : Nat) : (zeros n).length = n := by simp [zeros]

@[simp] theorem fitLen_length (n : Nat) (b : Bytes) : (fitLen n b).length = n := by simp [fitLen]; omega

theorem fitLen_of_length (n : Nat) (b : Bytes) (h : b.length = n) : fitLen n b = b := by
  subst h; simp [fitLen, zeros]

/-- The little-endian octets of a number give it back, cut to their length. -/
theorem leNat_natLE (len n : Nat) : leNat (natLE len n) = n % 256 ^ len := by
  induction len generalizing n with
  | zero => simp [natLE, leNat, Nat.mod_one]
  | succ k ih =>
    have h : (BitVec.ofNat 8 n).toNat = n % 256 := by simp
    simp only [natLE, leNat, ih, h]
    rw [show 256 ^ (k + 1) = 256 * 256 ^ k by ring, Nat.mod_mul]

theorem slice_append_left (a b : Bytes) (n : Nat) (h : n ≤ a.length) : slice (a ++ b) 0 n = a.take n := by
  simp [slice, List.take_append_of_le_length h]

theorem slice_append_right (a b : Bytes) (off n : Nat) (h : a.length = off) : slice (a ++ b) off n = b.take n := by
  subst h; simp [slice]

end Sys2Proof.Machine
end

