-- ==== Sys2Proof/Laws/Maps.lean ====
section
/-! SUPPORT. Laws of the sparse tables: what a read gives after each update, and that every update keeps the canonical form. -/

namespace Sys2Proof.Machine

theorem cellsGet_insert {α : Type} (m : List (Nat × α)) (k j : Nat) (v : α) :
    cellsGet (cellsInsert m k v) j = if j = k then some v else cellsGet m j := by
  induction m with
  | nil => simp [cellsInsert, cellsGet]
  | cons e m ih =>
    obtain ⟨i, w⟩ := e
    simp only [cellsInsert]
    split
    · simp [cellsGet]
    · split
      · next h => subst h; simp only [cellsGet]; split <;> rfl
      · simp only [cellsGet, ih]; split <;> split <;> simp_all

theorem cellsGet_erase {α : Type} (m : List (Nat × α)) (k j : Nat) :
    cellsGet (cellsErase m k) j = if j = k then none else cellsGet m j := by
  induction m with
  | nil => simp [cellsErase, cellsGet]
  | cons e m ih =>
    obtain ⟨i, w⟩ := e
    simp only [cellsErase, List.filter_cons] at ih ⊢
    split <;> simp_all [cellsGet] <;> split <;> simp_all

theorem cellsGet_map {α : Type} (m : List (Nat × α)) (f : Nat → α → α) (j : Nat) :
    cellsGet (m.map (fun e => (e.1, f e.1 e.2))) j = (cellsGet m j).map (f j) := by
  induction m with
  | nil => rfl
  | cons e m ih => obtain ⟨i, w⟩ := e; simp only [List.map_cons, cellsGet, ih]; split <;> simp_all

@[simp] theorem NMap.get?_empty {α : Type} (k : Nat) : (NMap.empty : NMap α).get? k = none := rfl

@[simp] theorem NMap.getD_empty {α : Type} (k : Nat) (d : α) : (NMap.empty : NMap α).getD k d = d := rfl

theorem NMap.get?_insert {α : Type} (m : NMap α) (k j : Nat) (v : α) :
    (m.insert k v).get? j = if j = k then some v else m.get? j := cellsGet_insert m.cells k j v

@[simp] theorem NMap.get?_insert_self {α : Type} (m : NMap α) (k : Nat) (v : α) : (m.insert k v).get? k = some v := by
  simp [NMap.get?_insert]

theorem NMap.get?_insert_ne {α : Type} (m : NMap α) {k j : Nat} (v : α) (h : j ≠ k) : (m.insert k v).get? j = m.get? j := by
  simp [NMap.get?_insert, h]

theorem NMap.get?_erase {α : Type} (m : NMap α) (k j : Nat) :
    (m.erase k).get? j = if j = k then none else m.get? j := cellsGet_erase m.cells k j

@[simp] theorem NMap.get?_erase_self {α : Type} (m : NMap α) (k : Nat) : (m.erase k).get? k = none := by simp [NMap.get?_erase]

theorem NMap.get?_erase_ne {α : Type} (m : NMap α) {k j : Nat} (h : j ≠ k) : (m.erase k).get? j = m.get? j := by
  simp [NMap.get?_erase, h]

@[simp] theorem NMap.get?_map {α : Type} (m : NMap α) (f : Nat → α → α) (j : Nat) :
    (m.map f).get? j = (m.get? j).map (f j) := cellsGet_map m.cells f j

theorem NMap.getD_setD {α : Type} [DecidableEq α] (m : NMap α) (d : α) (k j : Nat) (v : α) :
    (m.setD d k v).getD j d = if j = k then v else m.getD j d := by
  unfold NMap.setD NMap.getD
  split
  · rw [NMap.get?_erase]; split <;> simp_all
  · rw [NMap.get?_insert]; split <;> simp

/-- A table whose default differs between keys: the read of the key written. -/
@[simp] theorem NMap.getD_setD_self {α : Type} [DecidableEq α] (m : NMap α) (d : α) (k : Nat) (v : α) :
    (m.setD d k v).getD k d = v := by simp [NMap.getD_setD]

/-- A table whose default differs between keys: the read of another key. -/
theorem NMap.getD_setD_ne {α : Type} [DecidableEq α] (m : NMap α) (d d' : α) {k j : Nat} (v : α) (h : j ≠ k) :
    (m.setD d k v).getD j d' = m.getD j d' := by
  unfold NMap.setD NMap.getD
  split
  · rw [NMap.get?_erase_ne _ h]
  · rw [NMap.get?_insert_ne _ _ h]

/-! ## The canonical form -/

theorem cellsFrom_mono {α : Type} {a b : Nat} (m : List (Nat × α)) (h : a ≤ b) (hm : cellsFrom b m) : cellsFrom a m := by
  cases m with
  | nil => rfl
  | cons e m => simp only [cellsFrom, Bool.and_eq_true, decide_eq_true_eq] at hm ⊢; exact ⟨by omega, hm.2⟩

theorem cellsFrom_insert {α : Type} (m : List (Nat × α)) (k : Nat) (v : α) {b : Nat} (hb : b ≤ k) (h : cellsFrom b m) :
    cellsFrom b (cellsInsert m k v) := by
  induction m generalizing b with
  | nil => simp [cellsInsert, cellsFrom, hb]
  | cons e m ih =>
    obtain ⟨j, w⟩ := e
    simp only [cellsFrom, Bool.and_eq_true, decide_eq_true_eq] at h
    simp only [cellsInsert]
    split
    · next hk => simp only [cellsFrom, Bool.and_eq_true, decide_eq_true_eq]; exact ⟨hb, by omega, h.2⟩
    · split
      · next hk => subst hk; simp only [cellsFrom, Bool.and_eq_true, decide_eq_true_eq]; exact ⟨hb, h.2⟩
      · simp only [cellsFrom, Bool.and_eq_true, decide_eq_true_eq]; exact ⟨h.1, ih (by omega) h.2⟩

theorem cellsFrom_filter {α : Type} (m : List (Nat × α)) (p : Nat × α → Bool) {b : Nat} (h : cellsFrom b m) :
    cellsFrom b (m.filter p) := by
  induction m generalizing b with
  | nil => exact h
  | cons e m ih =>
    obtain ⟨j, w⟩ := e
    simp only [cellsFrom, Bool.and_eq_true, decide_eq_true_eq] at h
    simp only [List.filter_cons]
    split
    · simp only [cellsFrom, Bool.and_eq_true, decide_eq_true_eq]; exact ⟨h.1, ih h.2⟩
    · exact cellsFrom_mono _ (by omega) (ih h.2)

theorem cellsFrom_map {α : Type} (m : List (Nat × α)) (f : Nat → α → α) {b : Nat} (h : cellsFrom b m) :
    cellsFrom b (m.map (fun e => (e.1, f e.1 e.2))) := by
  induction m generalizing b with
  | nil => exact h
  | cons e m ih =>
    simp only [cellsFrom, Bool.and_eq_true, decide_eq_true_eq, List.map_cons] at h ⊢
    exact ⟨h.1, ih h.2⟩

theorem NMap.wf_empty {α : Type} : (NMap.empty : NMap α).wf := rfl

theorem NMap.wf_insert {α : Type} (m : NMap α) (k : Nat) (v : α) (h : m.wf) : (m.insert k v).wf :=
  cellsFrom_insert m.cells k v (Nat.zero_le k) h

theorem NMap.wf_erase {α : Type} (m : NMap α) (k : Nat) (h : m.wf) : (m.erase k).wf := cellsFrom_filter m.cells _ h

theorem NMap.wf_filter {α : Type} (m : NMap α) (p : Nat → α → Bool) (h : m.wf) : (m.filter p).wf := cellsFrom_filter m.cells _ h

theorem NMap.wf_map {α : Type} (m : NMap α) (f : Nat → α → α) (h : m.wf) : (m.map f).wf := cellsFrom_map m.cells f h

theorem NMap.wf_setD {α : Type} [DecidableEq α] (m : NMap α) (d : α) (k : Nat) (v : α) (h : m.wf) : (m.setD d k v).wf := by
  unfold NMap.setD; split
  · exact m.wf_erase k h
  · exact m.wf_insert k v h

theorem cellsInsert_mem {α : Type} (m : List (Nat × α)) (k : Nat) (v : α) (e : Nat × α) (h : e ∈ cellsInsert m k v) :
    e = (k, v) ∨ e ∈ m := by
  induction m with
  | nil => simpa [cellsInsert] using h
  | cons x m ih =>
    obtain ⟨j, w⟩ := x
    simp only [cellsInsert] at h
    split at h
    · simpa using h
    · split at h
      · simp only [List.mem_cons] at h ⊢; tauto
      · simp only [List.mem_cons] at h ⊢
        rcases h with h | h
        · exact .inr (.inl h)
        · rcases ih h with h | h
          · exact .inl h
          · exact .inr (.inr h)

/-- A table whose unlisted keys read as a default keeps its canonical form under every write. -/
theorem NMap.wfD_setD {α : Type} [DecidableEq α] (m : NMap α) (d : α) (k : Nat) (v : α) (h : m.wfD d) : (m.setD d k v).wfD d := by
  simp only [NMap.wfD, Bool.and_eq_true, List.all_eq_true, decide_eq_true_eq] at h ⊢
  refine ⟨m.wf_setD d k v h.1, fun e he => ?_⟩
  unfold NMap.setD at he
  split at he
  · exact h.2 e (List.mem_of_mem_filter he)
  · next hv =>
    rcases cellsInsert_mem _ _ _ _ he with rfl | he
    · exact hv
    · exact h.2 e he

theorem NMap.wfD_empty {α : Type} [DecidableEq α] (d : α) : (NMap.empty : NMap α).wfD d := rfl

/-- A test over the entries of other keys does not see an update. -/
theorem cellsAny_insert {α : Type} (m : List (Nat × α)) (k : Nat) (v : α) (f : Nat × α → Bool) :
    (cellsInsert m k v).any (fun e => e.1 != k && f e) = m.any (fun e => e.1 != k && f e) := by
  induction m with
  | nil => simp [cellsInsert]
  | cons e m ih =>
    obtain ⟨i, w⟩ := e
    simp only [cellsInsert]
    split
    · simp
    · split
      · next h => subst h; simp
      · simp only [List.any_cons, ih]

end Sys2Proof.Machine
end

