-- ==== Sys2Proof/Laws/State.lean ====
section
/-! SUPPORT. Laws of the state's updates: what a read of a register or of a field gives after a write, and every field that an update leaves alone. -/

namespace Sys2Proof.Machine

/-! ## Register keys -/

theorem RegName.ofNat_idx (r : RegName) : RegName.ofNat r.idx = r := by cases r <;> rfl

theorem RegName.idx_inj {a b : RegName} (h : a.idx = b.idx) : a = b := by
  rw [← RegName.ofNat_idx a, ← RegName.ofNat_idx b, h]

theorem regKey_inj {a b : RegName} {i j : Nat} (hi : i < 131072) (hj : j < 131072) (h : regKey a i = regKey b j) : a = b ∧ i = j := by
  unfold regKey at h
  have hk : a.idx = b.idx := by omega
  exact ⟨RegName.idx_inj hk, by omega⟩

/-! ## Registers and fields -/

@[simp] theorem State.reg_setReg (s : State) (r : RegName) (i : Nat) (w : Word) : (s.setReg r i w).reg r i = w := by
  simp [State.reg, State.setReg]

/-- A write to a register leaves every other register. -/
theorem State.reg_setReg_ne (s : State) {r r' : RegName} {i i' : Nat} (w : Word) (hi : i < 131072) (hi' : i' < 131072)
    (h : r' ≠ r ∨ i' ≠ i) : (s.setReg r i w).reg r' i' = s.reg r' i' := by
  have hk : regKey r' i' ≠ regKey r i := by
    intro e
    have := regKey_inj hi' hi e
    rcases h with h | h
    · exact h this.1
    · exact h this.2
  simp only [State.reg, State.setReg]
  exact NMap.getD_setD_ne _ _ _ _ hk

theorem State.reg_fset (s : State) (f : Fld) (i v : Nat) : (s.fset f i v).reg f.reg i = wordSet (s.reg f.reg i) f.hi f.lo v := by
  simp [State.fset]

theorem State.reg_fset_ne (s : State) {f : Fld} {r : RegName} {i j : Nat} (v : Nat) (hi : i < 131072) (hj : j < 131072)
    (h : r ≠ f.reg ∨ j ≠ i) : (s.fset f i v).reg r j = s.reg r j := State.reg_setReg_ne s _ hi hj h

/-- A field read after it is set. -/
theorem State.fget_fset (s : State) (f : Fld) (i v : Nat) (hh : f.hi < 64) (hl : f.lo ≤ f.hi) :
    (s.fset f i v).fget f i = v % 2 ^ (f.hi - f.lo + 1) := by
  unfold State.fget
  rw [State.reg_fset, wordField_wordSet _ _ _ _ hh hl]

/-- A field of another register, or at another index, read after a field is set. -/
theorem State.fget_fset_ne (s : State) {f g : Fld} {i j : Nat} (v : Nat) (hi : i < 131072) (hj : j < 131072)
    (h : g.reg ≠ f.reg ∨ j ≠ i) : (s.fset f i v).fget g j = s.fget g j := by
  unfold State.fget
  rw [State.reg_fset_ne s v hi hj h]

/-- Another field of the same register read after a field is set. -/
theorem State.fget_fset_apart (s : State) {f g : Fld} (i v : Nat) (hr : g.reg = f.reg) (hh : f.hi < 64) (hl : f.lo ≤ f.hi)
    (hl' : g.lo ≤ g.hi) (h : g.hi < f.lo ∨ f.hi < g.lo) : (s.fset f i v).fget g i = s.fget g i := by
  unfold State.fget
  rw [hr, State.reg_fset, wordField_wordSet_ne _ _ _ _ _ _ hh hl hl' h]

/-- Every register holds its reset value in the state after reset. -/
@[simp] theorem State.reg_reset (r : RegName) (i : Nat) : State.reset.reg r i = regReset r i := rfl

/-- The register store keeps its canonical form under every write. -/
theorem State.setReg_wf (s : State) (r : RegName) (i : Nat) (w : Word) (h : s.regs.wf) : (s.setReg r i w).regs.wf :=
  NMap.wf_setD _ _ _ _ h

theorem State.reset_regs_wf : State.reset.regs.wf := rfl

/-! ## What an update leaves alone -/

@[simp] theorem State.setReg_pending (s : State) (r : RegName) (i : Nat) (w : Word) : (s.setReg r i w).pending = s.pending := rfl
@[simp] theorem State.setReg_now (s : State) (r : RegName) (i : Nat) (w : Word) : (s.setReg r i w).now = s.now := rfl
@[simp] theorem State.setReg_free (s : State) (r : RegName) (i : Nat) (w : Word) : (s.setReg r i w).free = s.free := rfl
@[simp] theorem State.setReg_out (s : State) (r : RegName) (i : Nat) (w : Word) : (s.setReg r i w).out = s.out := rfl
@[simp] theorem State.setReg_cmd (s : State) (r : RegName) (i : Nat) (w : Word) : (s.setReg r i w).cmd = s.cmd := rfl
@[simp] theorem State.setReg_slc (s : State) (r : RegName) (i : Nat) (w : Word) : (s.setReg r i w).slc = s.slc := rfl
@[simp] theorem State.setReg_rcd (s : State) (r : RegName) (i : Nat) (w : Word) : (s.setReg r i w).rcd = s.rcd := rfl
@[simp] theorem State.setReg_met (s : State) (r : RegName) (i : Nat) (w : Word) : (s.setReg r i w).met = s.met := rfl
@[simp] theorem State.setReg_wld (s : State) (r : RegName) (i : Nat) (w : Word) : (s.setReg r i w).wld = s.wld := rfl
@[simp] theorem State.setReg_ks (s : State) (r : RegName) (i : Nat) (w : Word) : (s.setReg r i w).ks = s.ks := rfl
@[simp] theorem State.setReg_bb (s : State) (r : RegName) (i : Nat) (w : Word) : (s.setReg r i w).bb = s.bb := rfl
@[simp] theorem State.setReg_vlt (s : State) (r : RegName) (i : Nat) (w : Word) : (s.setReg r i w).vlt = s.vlt := rfl
@[simp] theorem State.setReg_boot (s : State) (r : RegName) (i : Nat) (w : Word) : (s.setReg r i w).boot = s.boot := rfl
@[simp] theorem State.setReg_otp (s : State) (r : RegName) (i : Nat) (w : Word) : (s.setReg r i w).otp = s.otp := rfl
@[simp] theorem State.setReg_pke (s : State) (r : RegName) (i : Nat) (w : Word) : (s.setReg r i w).pke = s.pke := rfl
@[simp] theorem State.setReg_blk (s : State) (r : RegName) (i : Nat) (w : Word) : (s.setReg r i w).blk = s.blk := rfl
@[simp] theorem State.setReg_rot (s : State) (r : RegName) (i : Nat) (w : Word) : (s.setReg r i w).rot = s.rot := rfl
@[simp] theorem State.setReg_fab (s : State) (r : RegName) (i : Nat) (w : Word) : (s.setReg r i w).fab = s.fab := rfl
@[simp] theorem State.setReg_tbl (s : State) (r : RegName) (i : Nat) (w : Word) : (s.setReg r i w).tbl = s.tbl := rfl
@[simp] theorem State.setReg_gnt (s : State) (r : RegName) (i : Nat) (w : Word) : (s.setReg r i w).gnt = s.gnt := rfl
@[simp] theorem State.setReg_rng (s : State) (r : RegName) (i : Nat) (w : Word) : (s.setReg r i w).rng = s.rng := rfl
@[simp] theorem State.setReg_pairs (s : State) (r : RegName) (i : Nat) (w : Word) : (s.setReg r i w).pairs = s.pairs := rfl
@[simp] theorem State.setReg_flash (s : State) (r : RegName) (i : Nat) (w : Word) : (s.setReg r i w).flash = s.flash := rfl
@[simp] theorem State.setReg_cfg (s : State) (r : RegName) (i : Nat) (w : Word) : (s.setReg r i w).cfg = s.cfg := rfl
@[simp] theorem State.setReg_fw (s : State) (r : RegName) (i : Nat) (w : Word) : (s.setReg r i w).fw = s.fw := rfl
@[simp] theorem State.setReg_crd (s : State) (r : RegName) (i : Nat) (w : Word) : (s.setReg r i w).crd = s.crd := rfl
@[simp] theorem State.setReg_lnk (s : State) (r : RegName) (i : Nat) (w : Word) : (s.setReg r i w).lnk = s.lnk := rfl

@[simp] theorem State.fset_pending (s : State) (f : Fld) (i v : Nat) : (s.fset f i v).pending = s.pending := rfl
@[simp] theorem State.fset_now (s : State) (f : Fld) (i v : Nat) : (s.fset f i v).now = s.now := rfl
@[simp] theorem State.fset_free (s : State) (f : Fld) (i v : Nat) : (s.fset f i v).free = s.free := rfl
@[simp] theorem State.fset_out (s : State) (f : Fld) (i v : Nat) : (s.fset f i v).out = s.out := rfl
@[simp] theorem State.fset_cmd (s : State) (f : Fld) (i v : Nat) : (s.fset f i v).cmd = s.cmd := rfl
@[simp] theorem State.fset_slc (s : State) (f : Fld) (i v : Nat) : (s.fset f i v).slc = s.slc := rfl
@[simp] theorem State.fset_rcd (s : State) (f : Fld) (i v : Nat) : (s.fset f i v).rcd = s.rcd := rfl
@[simp] theorem State.fset_met (s : State) (f : Fld) (i v : Nat) : (s.fset f i v).met = s.met := rfl
@[simp] theorem State.fset_wld (s : State) (f : Fld) (i v : Nat) : (s.fset f i v).wld = s.wld := rfl
@[simp] theorem State.fset_ks (s : State) (f : Fld) (i v : Nat) : (s.fset f i v).ks = s.ks := rfl
@[simp] theorem State.fset_bb (s : State) (f : Fld) (i v : Nat) : (s.fset f i v).bb = s.bb := rfl
@[simp] theorem State.fset_vlt (s : State) (f : Fld) (i v : Nat) : (s.fset f i v).vlt = s.vlt := rfl
@[simp] theorem State.fset_boot (s : State) (f : Fld) (i v : Nat) : (s.fset f i v).boot = s.boot := rfl
@[simp] theorem State.fset_otp (s : State) (f : Fld) (i v : Nat) : (s.fset f i v).otp = s.otp := rfl
@[simp] theorem State.fset_pke (s : State) (f : Fld) (i v : Nat) : (s.fset f i v).pke = s.pke := rfl
@[simp] theorem State.fset_blk (s : State) (f : Fld) (i v : Nat) : (s.fset f i v).blk = s.blk := rfl
@[simp] theorem State.fset_rot (s : State) (f : Fld) (i v : Nat) : (s.fset f i v).rot = s.rot := rfl
@[simp] theorem State.fset_fab (s : State) (f : Fld) (i v : Nat) : (s.fset f i v).fab = s.fab := rfl
@[simp] theorem State.fset_tbl (s : State) (f : Fld) (i v : Nat) : (s.fset f i v).tbl = s.tbl := rfl
@[simp] theorem State.fset_gnt (s : State) (f : Fld) (i v : Nat) : (s.fset f i v).gnt = s.gnt := rfl
@[simp] theorem State.fset_rng (s : State) (f : Fld) (i v : Nat) : (s.fset f i v).rng = s.rng := rfl
@[simp] theorem State.fset_pairs (s : State) (f : Fld) (i v : Nat) : (s.fset f i v).pairs = s.pairs := rfl
@[simp] theorem State.fset_flash (s : State) (f : Fld) (i v : Nat) : (s.fset f i v).flash = s.flash := rfl
@[simp] theorem State.fset_cfg (s : State) (f : Fld) (i v : Nat) : (s.fset f i v).cfg = s.cfg := rfl
@[simp] theorem State.fset_fw (s : State) (f : Fld) (i v : Nat) : (s.fset f i v).fw = s.fw := rfl
@[simp] theorem State.fset_crd (s : State) (f : Fld) (i v : Nat) : (s.fset f i v).crd = s.crd := rfl
@[simp] theorem State.fset_lnk (s : State) (f : Fld) (i v : Nat) : (s.fset f i v).lnk = s.lnk := rfl

@[simp] theorem State.bumpSat_pending (s : State) (f : Fld) (i n : Nat) : (s.bumpSat f i n).pending = s.pending := rfl
@[simp] theorem State.bumpSat_now (s : State) (f : Fld) (i n : Nat) : (s.bumpSat f i n).now = s.now := rfl
@[simp] theorem State.bumpSat_free (s : State) (f : Fld) (i n : Nat) : (s.bumpSat f i n).free = s.free := rfl
@[simp] theorem State.bumpSat_out (s : State) (f : Fld) (i n : Nat) : (s.bumpSat f i n).out = s.out := rfl
@[simp] theorem State.bumpSat_cmd (s : State) (f : Fld) (i n : Nat) : (s.bumpSat f i n).cmd = s.cmd := rfl
@[simp] theorem State.bumpSat_slc (s : State) (f : Fld) (i n : Nat) : (s.bumpSat f i n).slc = s.slc := rfl
@[simp] theorem State.bumpSat_rcd (s : State) (f : Fld) (i n : Nat) : (s.bumpSat f i n).rcd = s.rcd := rfl
@[simp] theorem State.bumpSat_met (s : State) (f : Fld) (i n : Nat) : (s.bumpSat f i n).met = s.met := rfl
@[simp] theorem State.bumpSat_wld (s : State) (f : Fld) (i n : Nat) : (s.bumpSat f i n).wld = s.wld := rfl
@[simp] theorem State.bumpSat_ks (s : State) (f : Fld) (i n : Nat) : (s.bumpSat f i n).ks = s.ks := rfl
@[simp] theorem State.bumpSat_bb (s : State) (f : Fld) (i n : Nat) : (s.bumpSat f i n).bb = s.bb := rfl
@[simp] theorem State.bumpSat_vlt (s : State) (f : Fld) (i n : Nat) : (s.bumpSat f i n).vlt = s.vlt := rfl
@[simp] theorem State.bumpSat_boot (s : State) (f : Fld) (i n : Nat) : (s.bumpSat f i n).boot = s.boot := rfl
@[simp] theorem State.bumpSat_otp (s : State) (f : Fld) (i n : Nat) : (s.bumpSat f i n).otp = s.otp := rfl
@[simp] theorem State.bumpSat_pke (s : State) (f : Fld) (i n : Nat) : (s.bumpSat f i n).pke = s.pke := rfl
@[simp] theorem State.bumpSat_blk (s : State) (f : Fld) (i n : Nat) : (s.bumpSat f i n).blk = s.blk := rfl
@[simp] theorem State.bumpSat_rot (s : State) (f : Fld) (i n : Nat) : (s.bumpSat f i n).rot = s.rot := rfl
@[simp] theorem State.bumpSat_fab (s : State) (f : Fld) (i n : Nat) : (s.bumpSat f i n).fab = s.fab := rfl
@[simp] theorem State.bumpSat_tbl (s : State) (f : Fld) (i n : Nat) : (s.bumpSat f i n).tbl = s.tbl := rfl
@[simp] theorem State.bumpSat_gnt (s : State) (f : Fld) (i n : Nat) : (s.bumpSat f i n).gnt = s.gnt := rfl
@[simp] theorem State.bumpSat_rng (s : State) (f : Fld) (i n : Nat) : (s.bumpSat f i n).rng = s.rng := rfl
@[simp] theorem State.bumpSat_pairs (s : State) (f : Fld) (i n : Nat) : (s.bumpSat f i n).pairs = s.pairs := rfl
@[simp] theorem State.bumpSat_flash (s : State) (f : Fld) (i n : Nat) : (s.bumpSat f i n).flash = s.flash := rfl
@[simp] theorem State.bumpSat_cfg (s : State) (f : Fld) (i n : Nat) : (s.bumpSat f i n).cfg = s.cfg := rfl
@[simp] theorem State.bumpSat_fw (s : State) (f : Fld) (i n : Nat) : (s.bumpSat f i n).fw = s.fw := rfl
@[simp] theorem State.bumpSat_crd (s : State) (f : Fld) (i n : Nat) : (s.bumpSat f i n).crd = s.crd := rfl
@[simp] theorem State.bumpSat_lnk (s : State) (f : Fld) (i n : Nat) : (s.bumpSat f i n).lnk = s.lnk := rfl

@[simp] theorem State.bumpWrap_pending (s : State) (f : Fld) (i n : Nat) : (s.bumpWrap f i n).pending = s.pending := rfl
@[simp] theorem State.bumpWrap_now (s : State) (f : Fld) (i n : Nat) : (s.bumpWrap f i n).now = s.now := rfl
@[simp] theorem State.bumpWrap_free (s : State) (f : Fld) (i n : Nat) : (s.bumpWrap f i n).free = s.free := rfl
@[simp] theorem State.bumpWrap_out (s : State) (f : Fld) (i n : Nat) : (s.bumpWrap f i n).out = s.out := rfl
@[simp] theorem State.bumpWrap_cmd (s : State) (f : Fld) (i n : Nat) : (s.bumpWrap f i n).cmd = s.cmd := rfl
@[simp] theorem State.bumpWrap_slc (s : State) (f : Fld) (i n : Nat) : (s.bumpWrap f i n).slc = s.slc := rfl
@[simp] theorem State.bumpWrap_rcd (s : State) (f : Fld) (i n : Nat) : (s.bumpWrap f i n).rcd = s.rcd := rfl
@[simp] theorem State.bumpWrap_met (s : State) (f : Fld) (i n : Nat) : (s.bumpWrap f i n).met = s.met := rfl
@[simp] theorem State.bumpWrap_wld (s : State) (f : Fld) (i n : Nat) : (s.bumpWrap f i n).wld = s.wld := rfl
@[simp] theorem State.bumpWrap_ks (s : State) (f : Fld) (i n : Nat) : (s.bumpWrap f i n).ks = s.ks := rfl
@[simp] theorem State.bumpWrap_bb (s : State) (f : Fld) (i n : Nat) : (s.bumpWrap f i n).bb = s.bb := rfl
@[simp] theorem State.bumpWrap_vlt (s : State) (f : Fld) (i n : Nat) : (s.bumpWrap f i n).vlt = s.vlt := rfl
@[simp] theorem State.bumpWrap_boot (s : State) (f : Fld) (i n : Nat) : (s.bumpWrap f i n).boot = s.boot := rfl
@[simp] theorem State.bumpWrap_otp (s : State) (f : Fld) (i n : Nat) : (s.bumpWrap f i n).otp = s.otp := rfl
@[simp] theorem State.bumpWrap_pke (s : State) (f : Fld) (i n : Nat) : (s.bumpWrap f i n).pke = s.pke := rfl
@[simp] theorem State.bumpWrap_blk (s : State) (f : Fld) (i n : Nat) : (s.bumpWrap f i n).blk = s.blk := rfl
@[simp] theorem State.bumpWrap_rot (s : State) (f : Fld) (i n : Nat) : (s.bumpWrap f i n).rot = s.rot := rfl
@[simp] theorem State.bumpWrap_fab (s : State) (f : Fld) (i n : Nat) : (s.bumpWrap f i n).fab = s.fab := rfl
@[simp] theorem State.bumpWrap_tbl (s : State) (f : Fld) (i n : Nat) : (s.bumpWrap f i n).tbl = s.tbl := rfl
@[simp] theorem State.bumpWrap_gnt (s : State) (f : Fld) (i n : Nat) : (s.bumpWrap f i n).gnt = s.gnt := rfl
@[simp] theorem State.bumpWrap_rng (s : State) (f : Fld) (i n : Nat) : (s.bumpWrap f i n).rng = s.rng := rfl
@[simp] theorem State.bumpWrap_pairs (s : State) (f : Fld) (i n : Nat) : (s.bumpWrap f i n).pairs = s.pairs := rfl
@[simp] theorem State.bumpWrap_flash (s : State) (f : Fld) (i n : Nat) : (s.bumpWrap f i n).flash = s.flash := rfl
@[simp] theorem State.bumpWrap_cfg (s : State) (f : Fld) (i n : Nat) : (s.bumpWrap f i n).cfg = s.cfg := rfl
@[simp] theorem State.bumpWrap_fw (s : State) (f : Fld) (i n : Nat) : (s.bumpWrap f i n).fw = s.fw := rfl
@[simp] theorem State.bumpWrap_crd (s : State) (f : Fld) (i n : Nat) : (s.bumpWrap f i n).crd = s.crd := rfl
@[simp] theorem State.bumpWrap_lnk (s : State) (f : Fld) (i n : Nat) : (s.bumpWrap f i n).lnk = s.lnk := rfl

@[simp] theorem State.emit_pending (s : State) (o : Out) : (s.emit o).pending = s.pending := rfl
@[simp] theorem State.emit_now (s : State) (o : Out) : (s.emit o).now = s.now := rfl
@[simp] theorem State.emit_free (s : State) (o : Out) : (s.emit o).free = s.free := rfl
@[simp] theorem State.emit_regs (s : State) (o : Out) : (s.emit o).regs = s.regs := rfl
@[simp] theorem State.emit_cmd (s : State) (o : Out) : (s.emit o).cmd = s.cmd := rfl
@[simp] theorem State.emit_slc (s : State) (o : Out) : (s.emit o).slc = s.slc := rfl
@[simp] theorem State.emit_rcd (s : State) (o : Out) : (s.emit o).rcd = s.rcd := rfl
@[simp] theorem State.emit_met (s : State) (o : Out) : (s.emit o).met = s.met := rfl
@[simp] theorem State.emit_wld (s : State) (o : Out) : (s.emit o).wld = s.wld := rfl
@[simp] theorem State.emit_ks (s : State) (o : Out) : (s.emit o).ks = s.ks := rfl
@[simp] theorem State.emit_bb (s : State) (o : Out) : (s.emit o).bb = s.bb := rfl
@[simp] theorem State.emit_vlt (s : State) (o : Out) : (s.emit o).vlt = s.vlt := rfl
@[simp] theorem State.emit_boot (s : State) (o : Out) : (s.emit o).boot = s.boot := rfl
@[simp] theorem State.emit_otp (s : State) (o : Out) : (s.emit o).otp = s.otp := rfl
@[simp] theorem State.emit_pke (s : State) (o : Out) : (s.emit o).pke = s.pke := rfl
@[simp] theorem State.emit_blk (s : State) (o : Out) : (s.emit o).blk = s.blk := rfl
@[simp] theorem State.emit_rot (s : State) (o : Out) : (s.emit o).rot = s.rot := rfl
@[simp] theorem State.emit_fab (s : State) (o : Out) : (s.emit o).fab = s.fab := rfl
@[simp] theorem State.emit_tbl (s : State) (o : Out) : (s.emit o).tbl = s.tbl := rfl
@[simp] theorem State.emit_gnt (s : State) (o : Out) : (s.emit o).gnt = s.gnt := rfl
@[simp] theorem State.emit_rng (s : State) (o : Out) : (s.emit o).rng = s.rng := rfl
@[simp] theorem State.emit_pairs (s : State) (o : Out) : (s.emit o).pairs = s.pairs := rfl
@[simp] theorem State.emit_flash (s : State) (o : Out) : (s.emit o).flash = s.flash := rfl
@[simp] theorem State.emit_cfg (s : State) (o : Out) : (s.emit o).cfg = s.cfg := rfl
@[simp] theorem State.emit_fw (s : State) (o : Out) : (s.emit o).fw = s.fw := rfl
@[simp] theorem State.emit_crd (s : State) (o : Out) : (s.emit o).crd = s.crd := rfl
@[simp] theorem State.emit_lnk (s : State) (o : Out) : (s.emit o).lnk = s.lnk := rfl

@[simp] theorem State.setPacket_pending (s : State) (pid : Nat) (p : Packet) : (s.setPacket pid p).pending = s.pending := rfl
@[simp] theorem State.setPacket_now (s : State) (pid : Nat) (p : Packet) : (s.setPacket pid p).now = s.now := rfl
@[simp] theorem State.setPacket_free (s : State) (pid : Nat) (p : Packet) : (s.setPacket pid p).free = s.free := rfl
@[simp] theorem State.setPacket_out (s : State) (pid : Nat) (p : Packet) : (s.setPacket pid p).out = s.out := rfl
@[simp] theorem State.setPacket_regs (s : State) (pid : Nat) (p : Packet) : (s.setPacket pid p).regs = s.regs := rfl
@[simp] theorem State.setPacket_slc (s : State) (pid : Nat) (p : Packet) : (s.setPacket pid p).slc = s.slc := rfl
@[simp] theorem State.setPacket_rcd (s : State) (pid : Nat) (p : Packet) : (s.setPacket pid p).rcd = s.rcd := rfl
@[simp] theorem State.setPacket_met (s : State) (pid : Nat) (p : Packet) : (s.setPacket pid p).met = s.met := rfl
@[simp] theorem State.setPacket_wld (s : State) (pid : Nat) (p : Packet) : (s.setPacket pid p).wld = s.wld := rfl
@[simp] theorem State.setPacket_ks (s : State) (pid : Nat) (p : Packet) : (s.setPacket pid p).ks = s.ks := rfl
@[simp] theorem State.setPacket_bb (s : State) (pid : Nat) (p : Packet) : (s.setPacket pid p).bb = s.bb := rfl
@[simp] theorem State.setPacket_vlt (s : State) (pid : Nat) (p : Packet) : (s.setPacket pid p).vlt = s.vlt := rfl
@[simp] theorem State.setPacket_boot (s : State) (pid : Nat) (p : Packet) : (s.setPacket pid p).boot = s.boot := rfl
@[simp] theorem State.setPacket_otp (s : State) (pid : Nat) (p : Packet) : (s.setPacket pid p).otp = s.otp := rfl
@[simp] theorem State.setPacket_pke (s : State) (pid : Nat) (p : Packet) : (s.setPacket pid p).pke = s.pke := rfl
@[simp] theorem State.setPacket_blk (s : State) (pid : Nat) (p : Packet) : (s.setPacket pid p).blk = s.blk := rfl
@[simp] theorem State.setPacket_rot (s : State) (pid : Nat) (p : Packet) : (s.setPacket pid p).rot = s.rot := rfl
@[simp] theorem State.setPacket_fab (s : State) (pid : Nat) (p : Packet) : (s.setPacket pid p).fab = s.fab := rfl
@[simp] theorem State.setPacket_tbl (s : State) (pid : Nat) (p : Packet) : (s.setPacket pid p).tbl = s.tbl := rfl
@[simp] theorem State.setPacket_gnt (s : State) (pid : Nat) (p : Packet) : (s.setPacket pid p).gnt = s.gnt := rfl
@[simp] theorem State.setPacket_rng (s : State) (pid : Nat) (p : Packet) : (s.setPacket pid p).rng = s.rng := rfl
@[simp] theorem State.setPacket_pairs (s : State) (pid : Nat) (p : Packet) : (s.setPacket pid p).pairs = s.pairs := rfl
@[simp] theorem State.setPacket_flash (s : State) (pid : Nat) (p : Packet) : (s.setPacket pid p).flash = s.flash := rfl
@[simp] theorem State.setPacket_cfg (s : State) (pid : Nat) (p : Packet) : (s.setPacket pid p).cfg = s.cfg := rfl
@[simp] theorem State.setPacket_fw (s : State) (pid : Nat) (p : Packet) : (s.setPacket pid p).fw = s.fw := rfl
@[simp] theorem State.setPacket_crd (s : State) (pid : Nat) (p : Packet) : (s.setPacket pid p).crd = s.crd := rfl
@[simp] theorem State.setPacket_lnk (s : State) (pid : Nat) (p : Packet) : (s.setPacket pid p).lnk = s.lnk := rfl

end Sys2Proof.Machine
end

