-- ==== Sys2Proof/Laws/Ops.lean ====
section
/-! SUPPORT. Laws of the shared operations: what each can change. A frame `put old fields back = s` says that every other field of the state is as it was. -/

namespace Sys2Proof.Machine

/-- Registers alone change. -/
theorem State.fset_frame (s : State) (f : Fld) (i v : Nat) : { s.fset f i v with regs := s.regs } = s := rfl

theorem State.bumpSat_frame (s : State) (f : Fld) (i n : Nat) : { s.bumpSat f i n with regs := s.regs } = s := rfl

theorem State.bumpWrap_frame (s : State) (f : Fld) (i n : Nat) : { s.bumpWrap f i n with regs := s.regs } = s := rfl

/-- An operation that changes registers alone, applied along a list, changes registers alone. -/
theorem State.foldl_frame {α : Type} (f : State → α → State) (h : ∀ (s : State) (a : α), { f s a with regs := s.regs } = s)
    (l : List α) (s : State) : { l.foldl f s with regs := s.regs } = s := by
  induction l generalizing s with
  | nil => rfl
  | cons a l ih =>
    have e := congrArg (fun t : State => { t with regs := s.regs }) (ih (f s a))
    exact e.trans (h s a)

/-- A counter of the performance monitor changes registers alone (R438). -/
theorem State.pmcAdd_frame (s : State) (c n : Nat) : { s.pmcAdd c n with regs := s.regs } = s := by
  unfold State.pmcAdd
  dsimp only
  split <;> rfl

/-- An event of the performance monitor changes registers alone (R438). -/
theorem State.pmc_frame (s : State) (ev n : Nat) : { s.pmc ev n with regs := s.regs } = s :=
  State.foldl_frame _ (fun s c => s.pmcAdd_frame c n) _ s

theorem State.timeCounter_frame (us : Nat) (s : State) (c : Nat) : { State.timeCounter us s c with regs := s.regs } = s := by
  unfold State.timeCounter
  dsimp only
  split
  · split
    · rfl
    · exact s.pmcAdd_frame c _
  · rfl

/-- Time changes device time, KA's time and the counters of the performance monitor (R438), and nothing else. -/
theorem State.tick_frame (s : State) (dt : Nat) :
    { s.tick dt with regs := s.regs, now := s.now, gnt := s.gnt } = s := by
  unfold State.tick
  dsimp only
  split
  · rfl
  · exact congrArg (fun t : State => { t with now := s.now, gnt := s.gnt })
      (State.foldl_frame (State.timeCounter ((s.now + dt) / 1000 - s.now / 1000)) (fun t c => t.timeCounter_frame _ c)
        (List.range 256) { s with now := s.now + dt, gnt := { s.gnt with kaNs := if s.gnt.ka then s.gnt.kaNs + dt else s.gnt.kaNs } })

/-- Device time and KA's time after time has passed. -/
theorem State.tick_times (s : State) (dt : Nat) : (s.tick dt).now = s.now + dt ∧
    (s.tick dt).gnt = { s.gnt with kaNs := if s.gnt.ka then s.gnt.kaNs + dt else s.gnt.kaNs } := by
  unfold State.tick
  dsimp only
  split
  · exact ⟨rfl, rfl⟩
  · have h := State.foldl_frame (State.timeCounter ((s.now + dt) / 1000 - s.now / 1000)) (fun t c => t.timeCounter_frame _ c)
      (List.range 256) { s with now := s.now + dt, gnt := { s.gnt with kaNs := if s.gnt.ka then s.gnt.kaNs + dt else s.gnt.kaNs } }
    exact ⟨congrArg (fun t : State => t.now) h, congrArg (fun t : State => t.gnt) h⟩

/-- No time passes in 0 ns. -/
@[simp] theorem State.tick_zero (s : State) : s.tick 0 = s := by
  unfold State.tick
  simp only [Nat.add_zero, Nat.sub_self, if_true, ite_self]

/-- A record of the recorder changes the recorder and registers alone (R430 to R432). -/
theorem State.event_frame (s : State) (code island detail : Nat) :
    { s.event code island detail with regs := s.regs, rcd := s.rcd } = s := by
  have h : { s.makeRecord code island detail with rcd := s.rcd } = s := by
    unfold State.makeRecord
    dsimp only
    repeat' split
    all_goals rfl
  unfold State.event
  dsimp only
  split
  · split
    · exact congrArg (fun t : State => { t with regs := s.regs }) h
    · exact congrArg (fun t : State => { t with regs := s.regs }) h
  · rfl

/-- The start of a packet by a command pair changes commands, registers and the count of free values alone (R54). -/
theorem State.take_frame (s : State) (pid : Nat) (p : Packet) :
    { s.take pid p with regs := s.regs, cmd := s.cmd, free := s.free } = s := by
  have h : ∀ (u : State) (n : Nat), { u.runCaravan p n with cmd := u.cmd } = u := by
    intro u n
    unfold State.runCaravan
    split
    · split <;> rfl
    · rfl
  unfold State.take
  dsimp only
  have e := State.pmc_frame ((s.setPacket pid { p with start := s.now, pair := s.pairFor p }).runCaravan p (s.pairFor p)) 0x0F0
    (p.data.pind.length + 16 * (p.data.inList.length + p.data.outList.length) + p.data.input.length)
  have e2 := congrArg (fun t : State => { t with regs := s.regs, cmd := s.cmd, free := s.free }) e
  have e3 := congrArg (fun t : State => { t with regs := s.regs, cmd := s.cmd, free := s.free })
    (h (s.setPacket pid { p with start := s.now, pair := s.pairFor p }) (s.pairFor p))
  exact e2.trans e3

@[simp] theorem State.pmc_pending (s : State) (ev n : Nat) : (s.pmc ev n).pending = s.pending := by
  have e := congrArg (fun t : State => t.pending) (s.pmc_frame ev n)
  exact e

@[simp] theorem State.pmc_now (s : State) (ev n : Nat) : (s.pmc ev n).now = s.now := by
  have e := congrArg (fun t : State => t.now) (s.pmc_frame ev n)
  exact e

@[simp] theorem State.pmc_free (s : State) (ev n : Nat) : (s.pmc ev n).free = s.free := by
  have e := congrArg (fun t : State => t.free) (s.pmc_frame ev n)
  exact e

@[simp] theorem State.pmc_out (s : State) (ev n : Nat) : (s.pmc ev n).out = s.out := by
  have e := congrArg (fun t : State => t.out) (s.pmc_frame ev n)
  exact e

@[simp] theorem State.pmc_cmd (s : State) (ev n : Nat) : (s.pmc ev n).cmd = s.cmd := by
  have e := congrArg (fun t : State => t.cmd) (s.pmc_frame ev n)
  exact e

@[simp] theorem State.pmc_slc (s : State) (ev n : Nat) : (s.pmc ev n).slc = s.slc := by
  have e := congrArg (fun t : State => t.slc) (s.pmc_frame ev n)
  exact e

@[simp] theorem State.pmc_rcd (s : State) (ev n : Nat) : (s.pmc ev n).rcd = s.rcd := by
  have e := congrArg (fun t : State => t.rcd) (s.pmc_frame ev n)
  exact e

@[simp] theorem State.pmc_met (s : State) (ev n : Nat) : (s.pmc ev n).met = s.met := by
  have e := congrArg (fun t : State => t.met) (s.pmc_frame ev n)
  exact e

@[simp] theorem State.pmc_wld (s : State) (ev n : Nat) : (s.pmc ev n).wld = s.wld := by
  have e := congrArg (fun t : State => t.wld) (s.pmc_frame ev n)
  exact e

@[simp] theorem State.pmc_ks (s : State) (ev n : Nat) : (s.pmc ev n).ks = s.ks := by
  have e := congrArg (fun t : State => t.ks) (s.pmc_frame ev n)
  exact e

@[simp] theorem State.pmc_bb (s : State) (ev n : Nat) : (s.pmc ev n).bb = s.bb := by
  have e := congrArg (fun t : State => t.bb) (s.pmc_frame ev n)
  exact e

@[simp] theorem State.pmc_vlt (s : State) (ev n : Nat) : (s.pmc ev n).vlt = s.vlt := by
  have e := congrArg (fun t : State => t.vlt) (s.pmc_frame ev n)
  exact e

@[simp] theorem State.pmc_boot (s : State) (ev n : Nat) : (s.pmc ev n).boot = s.boot := by
  have e := congrArg (fun t : State => t.boot) (s.pmc_frame ev n)
  exact e

@[simp] theorem State.pmc_otp (s : State) (ev n : Nat) : (s.pmc ev n).otp = s.otp := by
  have e := congrArg (fun t : State => t.otp) (s.pmc_frame ev n)
  exact e

@[simp] theorem State.pmc_pke (s : State) (ev n : Nat) : (s.pmc ev n).pke = s.pke := by
  have e := congrArg (fun t : State => t.pke) (s.pmc_frame ev n)
  exact e

@[simp] theorem State.pmc_blk (s : State) (ev n : Nat) : (s.pmc ev n).blk = s.blk := by
  have e := congrArg (fun t : State => t.blk) (s.pmc_frame ev n)
  exact e

@[simp] theorem State.pmc_rot (s : State) (ev n : Nat) : (s.pmc ev n).rot = s.rot := by
  have e := congrArg (fun t : State => t.rot) (s.pmc_frame ev n)
  exact e

@[simp] theorem State.pmc_tbl (s : State) (ev n : Nat) : (s.pmc ev n).tbl = s.tbl := by
  have e := congrArg (fun t : State => t.tbl) (s.pmc_frame ev n)
  exact e

@[simp] theorem State.pmc_gnt (s : State) (ev n : Nat) : (s.pmc ev n).gnt = s.gnt := by
  have e := congrArg (fun t : State => t.gnt) (s.pmc_frame ev n)
  exact e

@[simp] theorem State.pmc_rng (s : State) (ev n : Nat) : (s.pmc ev n).rng = s.rng := by
  have e := congrArg (fun t : State => t.rng) (s.pmc_frame ev n)
  exact e

@[simp] theorem State.pmc_pairs (s : State) (ev n : Nat) : (s.pmc ev n).pairs = s.pairs := by
  have e := congrArg (fun t : State => t.pairs) (s.pmc_frame ev n)
  exact e

@[simp] theorem State.pmc_flash (s : State) (ev n : Nat) : (s.pmc ev n).flash = s.flash := by
  have e := congrArg (fun t : State => t.flash) (s.pmc_frame ev n)
  exact e

@[simp] theorem State.pmc_cfg (s : State) (ev n : Nat) : (s.pmc ev n).cfg = s.cfg := by
  have e := congrArg (fun t : State => t.cfg) (s.pmc_frame ev n)
  exact e

@[simp] theorem State.pmc_fw (s : State) (ev n : Nat) : (s.pmc ev n).fw = s.fw := by
  have e := congrArg (fun t : State => t.fw) (s.pmc_frame ev n)
  exact e

@[simp] theorem State.pmc_crd (s : State) (ev n : Nat) : (s.pmc ev n).crd = s.crd := by
  have e := congrArg (fun t : State => t.crd) (s.pmc_frame ev n)
  exact e

@[simp] theorem State.pmc_lnk (s : State) (ev n : Nat) : (s.pmc ev n).lnk = s.lnk := by
  have e := congrArg (fun t : State => t.lnk) (s.pmc_frame ev n)
  exact e

@[simp] theorem State.tick_pending (s : State) (dt : Nat) : (s.tick dt).pending = s.pending := by
  have e := congrArg (fun t : State => t.pending) (s.tick_frame dt)
  exact e

@[simp] theorem State.tick_free (s : State) (dt : Nat) : (s.tick dt).free = s.free := by
  have e := congrArg (fun t : State => t.free) (s.tick_frame dt)
  exact e

@[simp] theorem State.tick_out (s : State) (dt : Nat) : (s.tick dt).out = s.out := by
  have e := congrArg (fun t : State => t.out) (s.tick_frame dt)
  exact e

@[simp] theorem State.tick_cmd (s : State) (dt : Nat) : (s.tick dt).cmd = s.cmd := by
  have e := congrArg (fun t : State => t.cmd) (s.tick_frame dt)
  exact e

@[simp] theorem State.tick_slc (s : State) (dt : Nat) : (s.tick dt).slc = s.slc := by
  have e := congrArg (fun t : State => t.slc) (s.tick_frame dt)
  exact e

@[simp] theorem State.tick_rcd (s : State) (dt : Nat) : (s.tick dt).rcd = s.rcd := by
  have e := congrArg (fun t : State => t.rcd) (s.tick_frame dt)
  exact e

@[simp] theorem State.tick_met (s : State) (dt : Nat) : (s.tick dt).met = s.met := by
  have e := congrArg (fun t : State => t.met) (s.tick_frame dt)
  exact e

@[simp] theorem State.tick_wld (s : State) (dt : Nat) : (s.tick dt).wld = s.wld := by
  have e := congrArg (fun t : State => t.wld) (s.tick_frame dt)
  exact e

@[simp] theorem State.tick_ks (s : State) (dt : Nat) : (s.tick dt).ks = s.ks := by
  have e := congrArg (fun t : State => t.ks) (s.tick_frame dt)
  exact e

@[simp] theorem State.tick_bb (s : State) (dt : Nat) : (s.tick dt).bb = s.bb := by
  have e := congrArg (fun t : State => t.bb) (s.tick_frame dt)
  exact e

@[simp] theorem State.tick_vlt (s : State) (dt : Nat) : (s.tick dt).vlt = s.vlt := by
  have e := congrArg (fun t : State => t.vlt) (s.tick_frame dt)
  exact e

@[simp] theorem State.tick_boot (s : State) (dt : Nat) : (s.tick dt).boot = s.boot := by
  have e := congrArg (fun t : State => t.boot) (s.tick_frame dt)
  exact e

@[simp] theorem State.tick_otp (s : State) (dt : Nat) : (s.tick dt).otp = s.otp := by
  have e := congrArg (fun t : State => t.otp) (s.tick_frame dt)
  exact e

@[simp] theorem State.tick_pke (s : State) (dt : Nat) : (s.tick dt).pke = s.pke := by
  have e := congrArg (fun t : State => t.pke) (s.tick_frame dt)
  exact e

@[simp] theorem State.tick_blk (s : State) (dt : Nat) : (s.tick dt).blk = s.blk := by
  have e := congrArg (fun t : State => t.blk) (s.tick_frame dt)
  exact e

@[simp] theorem State.tick_rot (s : State) (dt : Nat) : (s.tick dt).rot = s.rot := by
  have e := congrArg (fun t : State => t.rot) (s.tick_frame dt)
  exact e

@[simp] theorem State.tick_tbl (s : State) (dt : Nat) : (s.tick dt).tbl = s.tbl := by
  have e := congrArg (fun t : State => t.tbl) (s.tick_frame dt)
  exact e

@[simp] theorem State.tick_rng (s : State) (dt : Nat) : (s.tick dt).rng = s.rng := by
  have e := congrArg (fun t : State => t.rng) (s.tick_frame dt)
  exact e

@[simp] theorem State.tick_pairs (s : State) (dt : Nat) : (s.tick dt).pairs = s.pairs := by
  have e := congrArg (fun t : State => t.pairs) (s.tick_frame dt)
  exact e

@[simp] theorem State.tick_flash (s : State) (dt : Nat) : (s.tick dt).flash = s.flash := by
  have e := congrArg (fun t : State => t.flash) (s.tick_frame dt)
  exact e

@[simp] theorem State.tick_cfg (s : State) (dt : Nat) : (s.tick dt).cfg = s.cfg := by
  have e := congrArg (fun t : State => t.cfg) (s.tick_frame dt)
  exact e

@[simp] theorem State.tick_fw (s : State) (dt : Nat) : (s.tick dt).fw = s.fw := by
  have e := congrArg (fun t : State => t.fw) (s.tick_frame dt)
  exact e

@[simp] theorem State.tick_crd (s : State) (dt : Nat) : (s.tick dt).crd = s.crd := by
  have e := congrArg (fun t : State => t.crd) (s.tick_frame dt)
  exact e

@[simp] theorem State.tick_lnk (s : State) (dt : Nat) : (s.tick dt).lnk = s.lnk := by
  have e := congrArg (fun t : State => t.lnk) (s.tick_frame dt)
  exact e

@[simp] theorem State.event_pending (s : State) (c i d : Nat) : (s.event c i d).pending = s.pending := by
  have e := congrArg (fun t : State => t.pending) (s.event_frame c i d)
  exact e

@[simp] theorem State.event_now (s : State) (c i d : Nat) : (s.event c i d).now = s.now := by
  have e := congrArg (fun t : State => t.now) (s.event_frame c i d)
  exact e

@[simp] theorem State.event_free (s : State) (c i d : Nat) : (s.event c i d).free = s.free := by
  have e := congrArg (fun t : State => t.free) (s.event_frame c i d)
  exact e

@[simp] theorem State.event_out (s : State) (c i d : Nat) : (s.event c i d).out = s.out := by
  have e := congrArg (fun t : State => t.out) (s.event_frame c i d)
  exact e

@[simp] theorem State.event_cmd (s : State) (c i d : Nat) : (s.event c i d).cmd = s.cmd := by
  have e := congrArg (fun t : State => t.cmd) (s.event_frame c i d)
  exact e

@[simp] theorem State.event_slc (s : State) (c i d : Nat) : (s.event c i d).slc = s.slc := by
  have e := congrArg (fun t : State => t.slc) (s.event_frame c i d)
  exact e

@[simp] theorem State.event_met (s : State) (c i d : Nat) : (s.event c i d).met = s.met := by
  have e := congrArg (fun t : State => t.met) (s.event_frame c i d)
  exact e

@[simp] theorem State.event_wld (s : State) (c i d : Nat) : (s.event c i d).wld = s.wld := by
  have e := congrArg (fun t : State => t.wld) (s.event_frame c i d)
  exact e

@[simp] theorem State.event_ks (s : State) (c i d : Nat) : (s.event c i d).ks = s.ks := by
  have e := congrArg (fun t : State => t.ks) (s.event_frame c i d)
  exact e

@[simp] theorem State.event_bb (s : State) (c i d : Nat) : (s.event c i d).bb = s.bb := by
  have e := congrArg (fun t : State => t.bb) (s.event_frame c i d)
  exact e

@[simp] theorem State.event_vlt (s : State) (c i d : Nat) : (s.event c i d).vlt = s.vlt := by
  have e := congrArg (fun t : State => t.vlt) (s.event_frame c i d)
  exact e

@[simp] theorem State.event_boot (s : State) (c i d : Nat) : (s.event c i d).boot = s.boot := by
  have e := congrArg (fun t : State => t.boot) (s.event_frame c i d)
  exact e

@[simp] theorem State.event_otp (s : State) (c i d : Nat) : (s.event c i d).otp = s.otp := by
  have e := congrArg (fun t : State => t.otp) (s.event_frame c i d)
  exact e

@[simp] theorem State.event_pke (s : State) (c i d : Nat) : (s.event c i d).pke = s.pke := by
  have e := congrArg (fun t : State => t.pke) (s.event_frame c i d)
  exact e

@[simp] theorem State.event_blk (s : State) (c i d : Nat) : (s.event c i d).blk = s.blk := by
  have e := congrArg (fun t : State => t.blk) (s.event_frame c i d)
  exact e

@[simp] theorem State.event_rot (s : State) (c i d : Nat) : (s.event c i d).rot = s.rot := by
  have e := congrArg (fun t : State => t.rot) (s.event_frame c i d)
  exact e

@[simp] theorem State.event_tbl (s : State) (c i d : Nat) : (s.event c i d).tbl = s.tbl := by
  have e := congrArg (fun t : State => t.tbl) (s.event_frame c i d)
  exact e

@[simp] theorem State.event_gnt (s : State) (c i d : Nat) : (s.event c i d).gnt = s.gnt := by
  have e := congrArg (fun t : State => t.gnt) (s.event_frame c i d)
  exact e

@[simp] theorem State.event_rng (s : State) (c i d : Nat) : (s.event c i d).rng = s.rng := by
  have e := congrArg (fun t : State => t.rng) (s.event_frame c i d)
  exact e

@[simp] theorem State.event_pairs (s : State) (c i d : Nat) : (s.event c i d).pairs = s.pairs := by
  have e := congrArg (fun t : State => t.pairs) (s.event_frame c i d)
  exact e

@[simp] theorem State.event_flash (s : State) (c i d : Nat) : (s.event c i d).flash = s.flash := by
  have e := congrArg (fun t : State => t.flash) (s.event_frame c i d)
  exact e

@[simp] theorem State.event_cfg (s : State) (c i d : Nat) : (s.event c i d).cfg = s.cfg := by
  have e := congrArg (fun t : State => t.cfg) (s.event_frame c i d)
  exact e

@[simp] theorem State.event_fw (s : State) (c i d : Nat) : (s.event c i d).fw = s.fw := by
  have e := congrArg (fun t : State => t.fw) (s.event_frame c i d)
  exact e

@[simp] theorem State.event_crd (s : State) (c i d : Nat) : (s.event c i d).crd = s.crd := by
  have e := congrArg (fun t : State => t.crd) (s.event_frame c i d)
  exact e

@[simp] theorem State.event_lnk (s : State) (c i d : Nat) : (s.event c i d).lnk = s.lnk := by
  have e := congrArg (fun t : State => t.lnk) (s.event_frame c i d)
  exact e

@[simp] theorem State.take_pending (s : State) (pid : Nat) (p : Packet) : (s.take pid p).pending = s.pending := by
  have e := congrArg (fun t : State => t.pending) (s.take_frame pid p)
  exact e

@[simp] theorem State.take_now (s : State) (pid : Nat) (p : Packet) : (s.take pid p).now = s.now := by
  have e := congrArg (fun t : State => t.now) (s.take_frame pid p)
  exact e

@[simp] theorem State.take_out (s : State) (pid : Nat) (p : Packet) : (s.take pid p).out = s.out := by
  have e := congrArg (fun t : State => t.out) (s.take_frame pid p)
  exact e

@[simp] theorem State.take_slc (s : State) (pid : Nat) (p : Packet) : (s.take pid p).slc = s.slc := by
  have e := congrArg (fun t : State => t.slc) (s.take_frame pid p)
  exact e

@[simp] theorem State.take_rcd (s : State) (pid : Nat) (p : Packet) : (s.take pid p).rcd = s.rcd := by
  have e := congrArg (fun t : State => t.rcd) (s.take_frame pid p)
  exact e

@[simp] theorem State.take_met (s : State) (pid : Nat) (p : Packet) : (s.take pid p).met = s.met := by
  have e := congrArg (fun t : State => t.met) (s.take_frame pid p)
  exact e

@[simp] theorem State.take_wld (s : State) (pid : Nat) (p : Packet) : (s.take pid p).wld = s.wld := by
  have e := congrArg (fun t : State => t.wld) (s.take_frame pid p)
  exact e

@[simp] theorem State.take_ks (s : State) (pid : Nat) (p : Packet) : (s.take pid p).ks = s.ks := by
  have e := congrArg (fun t : State => t.ks) (s.take_frame pid p)
  exact e

@[simp] theorem State.take_bb (s : State) (pid : Nat) (p : Packet) : (s.take pid p).bb = s.bb := by
  have e := congrArg (fun t : State => t.bb) (s.take_frame pid p)
  exact e

@[simp] theorem State.take_vlt (s : State) (pid : Nat) (p : Packet) : (s.take pid p).vlt = s.vlt := by
  have e := congrArg (fun t : State => t.vlt) (s.take_frame pid p)
  exact e

@[simp] theorem State.take_boot (s : State) (pid : Nat) (p : Packet) : (s.take pid p).boot = s.boot := by
  have e := congrArg (fun t : State => t.boot) (s.take_frame pid p)
  exact e

@[simp] theorem State.take_otp (s : State) (pid : Nat) (p : Packet) : (s.take pid p).otp = s.otp := by
  have e := congrArg (fun t : State => t.otp) (s.take_frame pid p)
  exact e

@[simp] theorem State.take_pke (s : State) (pid : Nat) (p : Packet) : (s.take pid p).pke = s.pke := by
  have e := congrArg (fun t : State => t.pke) (s.take_frame pid p)
  exact e

@[simp] theorem State.take_blk (s : State) (pid : Nat) (p : Packet) : (s.take pid p).blk = s.blk := by
  have e := congrArg (fun t : State => t.blk) (s.take_frame pid p)
  exact e

@[simp] theorem State.take_rot (s : State) (pid : Nat) (p : Packet) : (s.take pid p).rot = s.rot := by
  have e := congrArg (fun t : State => t.rot) (s.take_frame pid p)
  exact e

@[simp] theorem State.take_tbl (s : State) (pid : Nat) (p : Packet) : (s.take pid p).tbl = s.tbl := by
  have e := congrArg (fun t : State => t.tbl) (s.take_frame pid p)
  exact e

@[simp] theorem State.take_gnt (s : State) (pid : Nat) (p : Packet) : (s.take pid p).gnt = s.gnt := by
  have e := congrArg (fun t : State => t.gnt) (s.take_frame pid p)
  exact e

@[simp] theorem State.take_rng (s : State) (pid : Nat) (p : Packet) : (s.take pid p).rng = s.rng := by
  have e := congrArg (fun t : State => t.rng) (s.take_frame pid p)
  exact e

@[simp] theorem State.take_pairs (s : State) (pid : Nat) (p : Packet) : (s.take pid p).pairs = s.pairs := by
  have e := congrArg (fun t : State => t.pairs) (s.take_frame pid p)
  exact e

@[simp] theorem State.take_flash (s : State) (pid : Nat) (p : Packet) : (s.take pid p).flash = s.flash := by
  have e := congrArg (fun t : State => t.flash) (s.take_frame pid p)
  exact e

@[simp] theorem State.take_cfg (s : State) (pid : Nat) (p : Packet) : (s.take pid p).cfg = s.cfg := by
  have e := congrArg (fun t : State => t.cfg) (s.take_frame pid p)
  exact e

@[simp] theorem State.take_fw (s : State) (pid : Nat) (p : Packet) : (s.take pid p).fw = s.fw := by
  have e := congrArg (fun t : State => t.fw) (s.take_frame pid p)
  exact e

@[simp] theorem State.take_crd (s : State) (pid : Nat) (p : Packet) : (s.take pid p).crd = s.crd := by
  have e := congrArg (fun t : State => t.crd) (s.take_frame pid p)
  exact e

@[simp] theorem State.take_lnk (s : State) (pid : Nat) (p : Packet) : (s.take pid p).lnk = s.lnk := by
  have e := congrArg (fun t : State => t.lnk) (s.take_frame pid p)
  exact e

/-- A packet outside a caravan marks none as running. -/
theorem State.runCaravan_none (s : State) (p : Packet) (n : Nat) (h : p.caravan = none) : s.runCaravan p n = s := by
  unfold State.runCaravan
  rw [h]

/-- The command unit after the start of a packet outside a caravan: the packet has its start time and its pair. -/
theorem State.take_cmd (s : State) (pid : Nat) (p : Packet) (h : p.caravan = none) :
    (s.take pid p).cmd = { s.cmd with packets := s.cmd.packets.insert pid { p with start := s.now, pair := s.pairFor p } } := by
  have e := State.pmc_frame ((s.setPacket pid { p with start := s.now, pair := s.pairFor p }).runCaravan p (s.pairFor p)) 0x0F0
    (p.data.pind.length + 16 * (p.data.inList.length + p.data.outList.length) + p.data.input.length)
  have e2 := congrArg (fun t : State => t.cmd) e
  have e3 : (s.setPacket pid { p with start := s.now, pair := s.pairFor p }).runCaravan p (s.pairFor p) =
      s.setPacket pid { p with start := s.now, pair := s.pairFor p } := State.runCaravan_none _ p _ h
  unfold State.take
  dsimp only
  rw [e3] at e2 ⊢
  exact e2

end Sys2Proof.Machine
end

