-- ==== Sys2Proof/Laws/Keys.lean ====
section
/-! SUPPORT. Laws of key handles and of the handle checks: the fields of a handle (R66), the handle of a record resolves to it (R110), and the checks of R57 that a packet's key passes. -/

namespace Sys2Proof.Machine

theorem hLine_mkHandle (sl g c l : Nat) (hl : l < 2 ^ 20) : hLine (mkHandle sl g c l) = l := by
  simp only [hLine, mkHandle, bits, Nat.shiftRight_eq_div_pow]; omega

theorem hClass_mkHandle (sl g c l : Nat) (hl : l < 2 ^ 20) (hc : c < 16) : hClass (mkHandle sl g c l) = c := by
  simp only [hClass, mkHandle, bits, Nat.shiftRight_eq_div_pow]; omega

theorem hGen_mkHandle (sl g c l : Nat) (hl : l < 2 ^ 20) (hc : c < 16) (hg : g < 4096) : hGen (mkHandle sl g c l) = g := by
  simp only [hGen, mkHandle, bits, Nat.shiftRight_eq_div_pow]; omega

theorem hSlice_mkHandle (sl g c l : Nat) (hl : l < 2 ^ 20) (hc : c < 16) (hg : g < 4096) (hs : sl < 4096) :
    hSlice (mkHandle sl g c l) = sl := by
  simp only [hSlice, mkHandle, bits, Nat.shiftRight_eq_div_pow]; omega

theorem mkHandle_spare (sl g c l : Nat) (hl : l < 2 ^ 20) : bits (mkHandle sl g c l) 35 20 = 0 := by
  simp only [mkHandle, bits, Nat.shiftRight_eq_div_pow]; omega

theorem mkHandle_lt (sl g c l : Nat) (hl : l < 2 ^ 20) (hc : c < 16) (hg : g < 4096) (hs : sl < 4096) : mkHandle sl g c l < 2 ^ 64 := by
  simp only [mkHandle]; omega

theorem State.lineGen_lt (s : State) (i : Nat) : s.lineGen i < 4096 := Nat.mod_lt _ (by decide)

/-- The handle of a native record resolves to it (R110). -/
theorem State.resolve_handleOf (s : State) (line : Nat) (r : KeyRec) (hr : s.ks.recs.get? line = some r) (ht : r.typ ≠ 0x70)
    (hl : line < 2 ^ 20) (hc : r.cls < 16) (hs : r.slice < 4096) :
    s.resolve (s.handleOf r.slice r.cls line) = some (r.key line) := by
  have hg := s.lineGen_lt line
  simp only [State.resolve, State.handleOf, hLine_mkHandle _ _ _ _ hl, hClass_mkHandle _ _ _ _ hl hc, hGen_mkHandle _ _ _ _ hl hc hg,
    hSlice_mkHandle _ _ _ _ hl hc hg hs, mkHandle_spare _ _ _ _ hl, hr]
  simp [ht]

/-- The handle of a compatibility slot resolves to it (R110, R130). -/
theorem State.resolve_slot (s : State) (line : Nat) (c : CompatSlot) (hr : s.ks.recs.get? line = none)
    (hs : s.ks.slots.get? line = some c) (hb : c.bad = false) (hl : line < 2 ^ 20) (hc : c.cls < 16) (hsl : c.slice < 4096) :
    s.resolve (s.handleOf c.slice c.cls line) = some (c.key line) := by
  have hg := s.lineGen_lt line
  simp only [State.resolve, State.handleOf, hLine_mkHandle _ _ _ _ hl, hClass_mkHandle _ _ _ _ hl hc, hGen_mkHandle _ _ _ _ hl hc hg,
    hSlice_mkHandle _ _ _ _ hl hc hg hsl, mkHandle_spare _ _ _ _ hl, hr, hs]
  simp [hb]

/-- The handle checks pass on a slice's packet that names a key of a permitted class under its own slice (R57). -/
theorem State.checkHandles_ok (s : State) (p : Packet) (use : KeyUse) (h : Nat) (k : Key) (hm : p.manager = false)
    (h1 : p.khandle1 = 0) (hu : use ≠ .unused) (h0 : h ≠ 0) (hs : hSlice h = p.ring) (hp : use.permits (hClass h)) (hw : s.wiping = false)
    (hk : s.resolve h = some k) (hl : s.unloading h = false) : s.checkHandles p use h = .ok (some k) := by
  have e1 : (use != .unused) = true := by simpa using hu
  have e2 : (h == 0) = false := by simpa using h0
  have e3 : (h != 0) = true := by simpa using h0
  have e4 : (hSlice h != p.ring) = false := by simp [hs]
  have e5 : use.classOk (hClass h) = true := by simp [KeyUse.classOk, hu, hp]
  simp only [State.checkHandles, e1, e2, e3, e4, e5, hm, h1, hw, hk, hl, require]
  simp
  rfl

/-- The key of a packet without `prevkey` is that of its first handle (R57). -/
theorem State.keyOf_ok (s : State) (pid : Nat) (p : Packet) (o : OpInfo) (k : Key) (ho : opInfo p.opcode = some o)
    (hv : p.prevkey = false) (hk : s.checkHandles p o.key p.khandle0 = .ok (some k)) : s.keyOf pid p = .ok k := by
  simp only [State.keyOf, State.handles, ho, State.firstHandle, hv, getOr]
  simp only [Bool.false_eq_true, if_false]
  rw [show (Except.ok p.khandle0 >>= fun h0 => s.checkHandles p o.key h0) = s.checkHandles p o.key p.khandle0 from rfl, hk]
  rfl

end Sys2Proof.Machine
end

