-- ==== Sys2Proof/Laws/Sealed.lean ====
section
/-! SUPPORT. Laws of sealed texts and of the cache: what is sealed opens again (R122 to R126), a record finds lines where the first free ones serve (R106), a programmed policy digest reads back (R353). -/

namespace Sys2Proof.Machine

@[simp] theorem xorBytes_length (a b : Bytes) : (xorBytes a b).length = min a.length b.length := by simp [xorBytes]

/-- A mask as long as the text, applied twice, gives the text back. -/
theorem xorBytes_twice (a b : Bytes) (h : a.length = b.length) : xorBytes (xorBytes a b) b = a := by
  induction a generalizing b with
  | nil => rfl
  | cons x a ih =>
    cases b with
    | nil => simp at h
    | cons y b =>
      have e := ih b (by simpa using h)
      simp only [xorBytes] at e ⊢
      simp [e]

/-- AES-256-GCM-SIV opens what it sealed. -/
theorem sivOpen_sivSeal (key nonce aad pt : Bytes) :
    sivOpen key nonce aad (sivSeal key nonce aad pt).1 (sivSeal key nonce aad pt).2 = some pt := by
  simp only [sivSeal, sivOpen, xorBytes_length, fitLen_length, Nat.min_self]
  rw [xorBytes_twice _ _ (by simp)]
  simp

@[simp] theorem sivSeal_fst_length (key nonce aad pt : Bytes) : (sivSeal key nonce aad pt).1.length = pt.length := by simp [sivSeal]

@[simp] theorem sivSeal_snd_length (key nonce aad pt : Bytes) : (sivSeal key nonce aad pt).2.length = 16 := by simp [sivSeal]

/-- A slice that lies in the first part of a text. -/
theorem slice_append_of_le (a b : Bytes) (off n : Nat) (h : off + n ≤ a.length) : slice (a ++ b) off n = slice a off n := by
  unfold slice
  rw [List.drop_append_of_le_length (by omega), List.take_append_of_le_length (by simp; omega)]

/-- A slice that lies in the second part of a text. -/
theorem slice_append_of_ge (a b : Bytes) (off n : Nat) (h : a.length ≤ off) : slice (a ++ b) off n = slice b (off - a.length) n := by
  unfold slice
  rw [List.drop_append, List.drop_eq_nil_of_le h]
  simp

theorem slice_all (a : Bytes) (n : Nat) (h : a.length = n) : slice a 0 n = a := by
  subst h; simp [slice]

theorem slice_zero (a : Bytes) (n : Nat) : slice a 0 n = a.take n := by simp [slice]

/-- A mitten opens under the root that made it, where its header passes the checks of R123. -/
theorem openMitten_mkMitten (root block vault header nonce secret pub : Bytes) (hl : header.length = 64) (hh : headerOk header vault = true)
    (hs : field header 0x28 2 = secret.length) (hp : field header 0x2A 2 = pub.length) (hn : secret.length + pub.length < 2 ^ 32)
    (hd : (deletedList block).contains (field header 8 8) = false) :
    openMitten root block vault (mkMitten root header nonce secret pub) = some (secret, pub) := by
  have hr := sivOpen_sivSeal root (fitLen 12 nonce) (header ++ fitLen 12 nonce ++ natLE 4 (secret.length + pub.length)) (secret ++ pub)
  have hlc := sivSeal_fst_length root (fitLen 12 nonce) (header ++ fitLen 12 nonce ++ natLE 4 (secret.length + pub.length)) (secret ++ pub)
  have hlt := sivSeal_snd_length root (fitLen 12 nonce) (header ++ fitLen 12 nonce ++ natLE 4 (secret.length + pub.length)) (secret ++ pub)
  have em : mkMitten root header nonce secret pub = header ++ fitLen 12 nonce ++ natLE 4 (secret.length + pub.length) ++
    (sivSeal root (fitLen 12 nonce) (header ++ fitLen 12 nonce ++ natLE 4 (secret.length + pub.length)) (secret ++ pub)).1 ++
    (sivSeal root (fitLen 12 nonce) (header ++ fitLen 12 nonce ++ natLE 4 (secret.length + pub.length)) (secret ++ pub)).2 := rfl
  rw [em]
  generalize (sivSeal root (fitLen 12 nonce) (header ++ fitLen 12 nonce ++ natLE 4 (secret.length + pub.length)) (secret ++ pub)).1 = c at *
  generalize (sivSeal root (fitLen 12 nonce) (header ++ fitLen 12 nonce ++ natLE 4 (secret.length + pub.length)) (secret ++ pub)).2 = g at *
  rw [List.length_append] at hlc
  have ha : (header ++ fitLen 12 nonce ++ natLE 4 (secret.length + pub.length)).length = 0x50 := by simp [hl]
  have hf : ∀ off n, off + n ≤ 64 → slice (header ++ fitLen 12 nonce ++ natLE 4 (secret.length + pub.length) ++ c ++ g) off n = slice header off n := by
    intro off n h
    rw [List.append_assoc, List.append_assoc, List.append_assoc]
    exact slice_append_of_le _ _ _ _ (by omega)
  have hL : field (header ++ fitLen 12 nonce ++ natLE 4 (secret.length + pub.length) ++ c ++ g) 0x4C 4 = secret.length + pub.length := by
    unfold field
    rw [List.append_assoc, slice_append_of_le _ _ _ _ (by omega), slice_append_of_ge _ _ _ _ (by simp [hl]),
      show 0x4C - (header ++ fitLen 12 nonce).length = 0 by simp [hl], slice_all _ _ (by simp), leNat_natLE]
    exact Nat.mod_eq_of_lt hn
  have hlen : (header ++ fitLen 12 nonce ++ natLE 4 (secret.length + pub.length) ++ c ++ g).length = 96 + (secret.length + pub.length) := by
    simp [hl, hlc, hlt]; omega
  have hok : headerOk (header ++ fitLen 12 nonce ++ natLE 4 (secret.length + pub.length) ++ c ++ g) vault = true := by
    rw [← hh]
    unfold headerOk field
    simp only [hf _ _ (show 1 + 1 ≤ 64 by decide), hf _ _ (show 2 + 1 ≤ 64 by decide), hf _ _ (show 3 + 1 ≤ 64 by decide),
      hf _ _ (show 0 + 1 ≤ 64 by decide), hf _ _ (show 6 + 2 ≤ 64 by decide), hf _ _ (show 0x10 + 16 ≤ 64 by decide),
      hf _ _ (show 0x20 + 8 ≤ 64 by decide), hf _ _ (show 0x28 + 2 ≤ 64 by decide), hf _ _ (show 0x2A + 2 ≤ 64 by decide),
      hf _ _ (show 0x2C + 4 ≤ 64 by decide), hf _ _ (show 0x30 + 16 ≤ 64 by decide), hf _ _ (show 4 + 2 ≤ 64 by decide)]
  have hsf : field (header ++ fitLen 12 nonce ++ natLE 4 (secret.length + pub.length) ++ c ++ g) 0x28 2 = secret.length := by
    unfold field; rw [hf _ _ (by decide)]; exact hs
  have hpf : field (header ++ fitLen 12 nonce ++ natLE 4 (secret.length + pub.length) ++ c ++ g) 0x2A 2 = pub.length := by
    unfold field; rw [hf _ _ (by decide)]; exact hp
  have hdf : field (header ++ fitLen 12 nonce ++ natLE 4 (secret.length + pub.length) ++ c ++ g) 8 8 = field header 8 8 := by
    unfold field; rw [hf _ _ (by decide)]
  have hn12 : slice (header ++ fitLen 12 nonce ++ natLE 4 (secret.length + pub.length) ++ c ++ g) 0x40 12 = fitLen 12 nonce := by
    rw [List.append_assoc, slice_append_of_le _ _ _ _ (by omega), slice_append_of_le _ _ _ _ (by simp [hl]),
      slice_append_of_ge _ _ _ _ (by omega), hl]
    exact slice_all _ _ (by simp)
  have haad : slice (header ++ fitLen 12 nonce ++ natLE 4 (secret.length + pub.length) ++ c ++ g) 0 0x50 =
      header ++ fitLen 12 nonce ++ natLE 4 (secret.length + pub.length) := by
    rw [List.append_assoc, slice_append_of_le _ _ _ _ (by omega)]
    exact slice_all _ _ ha
  have hc : slice (header ++ fitLen 12 nonce ++ natLE 4 (secret.length + pub.length) ++ c ++ g) 0x50 (secret.length + pub.length) = c := by
    rw [List.append_assoc, slice_append_of_ge _ _ _ _ (by omega), ha, slice_append_of_le _ _ _ _ (by omega)]
    exact slice_all _ _ hlc
  have hg : slice (header ++ fitLen 12 nonce ++ natLE 4 (secret.length + pub.length) ++ c ++ g) (0x50 + (secret.length + pub.length)) 16 = g := by
    rw [slice_append_of_ge _ _ _ _ (by rw [List.length_append]; omega)]
    rw [List.length_append, ha, hlc, Nat.sub_self]
    exact slice_all _ _ hlt
  generalize header ++ fitLen 12 nonce ++ natLE 4 (secret.length + pub.length) ++ c ++ g = m at *
  unfold openMitten
  simp only [hL, hsf, hpf, hlen, hok, hdf, hd, hn12, haad, hc, hg, hr]
  have h96 : 96 ≤ 96 + (secret.length + pub.length) := by omega
  simp [h96]

/-- A new record finds its lines where the first free ones serve. -/
theorem State.allocLines_isSome (s : State) (n : Nat) (other : List Nat)
    (h : s.linesOk n other (s.firstLines (otherBanks other) n) = true) : (s.allocLines n other).isSome = true := by
  simp [State.allocLines, h]

/-- A record of an unmirrored slice enters the cache where the first free lines serve. -/
theorem State.addRecord_some (s : State) (r : KeyRec) (secret : Bytes) (hm : s.mirrors r.slice = false)
    (h : s.linesOk (recordLines secret.length r.pub.length) [] (s.firstLines (otherBanks []) (recordLines secret.length r.pub.length)) = true) :
    ∃ (l : Nat) (t : State), s.addRecord r secret = some (l, t) := by
  have e := s.allocLines_isSome (recordLines secret.length r.pub.length) [] h
  obtain ⟨l, hl⟩ := Option.isSome_iff_exists.mp e
  unfold State.addRecord
  dsimp only
  rw [hm, hl]
  exact ⟨_, _, rfl⟩

theorem natLE_leNat (b : Bytes) (n : Nat) (h : b.length = n) : natLE n (leNat b) = b := by
  induction b generalizing n with
  | nil => subst h; rfl
  | cons x b ih =>
    subst h
    have hx := x.isLt
    simp only [List.length_cons, natLE, leNat]
    rw [show (x.toNat + 256 * leNat b) / 256 = leNat b by omega, ih _ rfl]
    congr 1
    apply BitVec.eq_of_toNat_eq
    simp only [BitVec.toNat_ofNat]
    omega

theorem leNat_lt (b : Bytes) : leNat b < 256 ^ b.length := by
  induction b with
  | nil => simp [leNat]
  | cons x b ih =>
    have hx := x.isLt
    simp only [leNat, List.length_cons, Nat.pow_succ]
    omega

/-- The seal of a vault opens for its slice: a seal made under the current counter and measurement (R124 to R126). -/
theorem State.openSeal_deviceSeal (s : State) (sl : Nat) (vault root block : Bytes) (hv : vault.length = 16) (hr : root.length = 32)
    (hp : block.length < 2 ^ 16) (hs : sl < 2 ^ 16) (hlc : s.lc < 256) (hep : s.ep < 256) (he : s.vaultExists sl = true)
    (hx : s.vaultLost sl = false) (hm : (s.mr 2).length = 48) :
    s.openSeal sl (s.deviceSeal sl (s.vaultCounter sl) vault (s.mr 2) root block) = some (root, block) := by
  have hc : s.vaultCounter sl < 2 ^ 23 := Nat.mod_lt _ (by decide)
  generalize hmeas : s.mr 2 = meas at *
  generalize hW : s.vaultKey sl (s.vaultCounter sl) vault meas = W
  generalize hP : block.length = P at *
  generalize hH : sealHead 1 sl s.lc s.ep (s.vaultCounter sl) vault meas P = head
  have fv : fitLen 16 vault = vault := fitLen_of_length _ _ hv
  have fm : fitLen 48 meas = meas := fitLen_of_length _ _ hm
  have fr : fitLen 32 root = root := fitLen_of_length _ _ hr
  have hhl : head.length = 0x50 := by rw [← hH]; simp [sealHead]
  have f0 : field head 0 1 = 1 := by rw [← hH]; rfl
  have f1 : field head 1 1 = 1 := by rw [← hH]; rfl
  have f2 : field head 2 2 = P := by
    rw [← hH]; show leNat (natLE 2 P) = P
    rw [leNat_natLE]; exact Nat.mod_eq_of_lt hp
  have f4 : field head 4 2 = sl := by
    rw [← hH]; show leNat (natLE 2 sl) = sl
    rw [leNat_natLE]; exact Nat.mod_eq_of_lt hs
  have f6 : field head 6 1 = s.lc := by
    rw [← hH]; show leNat (natLE 1 s.lc) = s.lc
    rw [leNat_natLE]; exact Nat.mod_eq_of_lt hlc
  have f7 : field head 7 1 = s.ep := by
    rw [← hH]; show leNat (natLE 1 s.ep) = s.ep
    rw [leNat_natLE]; exact Nat.mod_eq_of_lt hep
  have f8 : field head 8 4 = s.vaultCounter sl := by
    rw [← hH]; show leNat (natLE 4 (s.vaultCounter sl)) = s.vaultCounter sl
    rw [leNat_natLE]; exact Nat.mod_eq_of_lt (by omega)
  have fC : field head 0x0C 4 = 144 + P := by
    rw [← hH]; show leNat (natLE 4 (144 + P)) = 144 + P
    rw [leNat_natLE]; exact Nat.mod_eq_of_lt (by omega)
  have fV : slice head 0x10 16 = vault := by
    rw [← hH]
    have e : sealHead 1 sl s.lc s.ep (s.vaultCounter sl) vault meas P = (natLE 1 1 ++ natLE 1 1 ++ natLE 2 P ++ natLE 2 sl ++ natLE 1 s.lc ++
      natLE 1 s.ep ++ natLE 4 (s.vaultCounter sl) ++ natLE 4 (144 + P)) ++ (vault ++ meas) := by simp only [sealHead, fv, fm, List.append_assoc]
    rw [e, slice_append_of_ge _ _ _ _ (by simp), slice_append_of_le _ _ _ _ (by simp [hv])]
    exact slice_all _ _ hv
  have fM : slice head 0x20 48 = meas := by
    rw [← hH]
    have e : sealHead 1 sl s.lc s.ep (s.vaultCounter sl) vault meas P = (natLE 1 1 ++ natLE 1 1 ++ natLE 2 P ++ natLE 2 sl ++ natLE 1 s.lc ++
      natLE 1 s.ep ++ natLE 4 (s.vaultCounter sl) ++ natLE 4 (144 + P) ++ vault) ++ meas := by simp only [sealHead, fv, fm, List.append_assoc]
    rw [e, slice_append_of_ge _ _ _ _ (by simp [hv])]
    rw [show 0x20 - (natLE 1 1 ++ natLE 1 1 ++ natLE 2 P ++ natLE 2 sl ++ natLE 1 s.lc ++
      natLE 1 s.ep ++ natLE 4 (s.vaultCounter sl) ++ natLE 4 (144 + P) ++ vault).length = 0 by simp [hv]]
    exact slice_all _ _ hm
  generalize hN : kmac W head (ascii "ELVEVA-SEAL-NONCE") 12 = nonce
  have hnl : nonce.length = 12 := by rw [← hN]; simp [kmac]
  have hro := sivOpen_sivSeal W nonce (head ++ nonce ++ natLE 4 (32 + P)) (root ++ block)
  have hcl := sivSeal_fst_length W nonce (head ++ nonce ++ natLE 4 (32 + P)) (root ++ block)
  have hgl := sivSeal_snd_length W nonce (head ++ nonce ++ natLE 4 (32 + P)) (root ++ block)
  have em : s.deviceSeal sl (s.vaultCounter sl) vault meas root block = head ++ nonce ++ natLE 4 (32 + P) ++
      (sivSeal W nonce (head ++ nonce ++ natLE 4 (32 + P)) (root ++ block)).1 ++
      (sivSeal W nonce (head ++ nonce ++ natLE 4 (32 + P)) (root ++ block)).2 := by
    unfold State.deviceSeal mkSeal
    simp only [hW, hP, hH, hN, fr]
  rw [em]
  generalize (sivSeal W nonce (head ++ nonce ++ natLE 4 (32 + P)) (root ++ block)).1 = c at *
  generalize (sivSeal W nonce (head ++ nonce ++ natLE 4 (32 + P)) (root ++ block)).2 = g at *
  rw [List.length_append, hr, hP] at hcl
  have ha : (head ++ nonce ++ natLE 4 (32 + P)).length = 0x60 := by simp [hhl, hnl]
  have hf : ∀ off n, off + n ≤ 0x50 → slice (head ++ nonce ++ natLE 4 (32 + P) ++ c ++ g) off n = slice head off n := by
    intro off n h
    rw [List.append_assoc, List.append_assoc, List.append_assoc]
    exact slice_append_of_le _ _ _ _ (by omega)
  have hff : ∀ off n, off + n ≤ 0x50 → field (head ++ nonce ++ natLE 4 (32 + P) ++ c ++ g) off n = field head off n := by
    intro off n h; unfold field; rw [hf off n h]
  have hlen : (head ++ nonce ++ natLE 4 (32 + P) ++ c ++ g).length = 144 + P := by simp [hhl, hnl, hcl, hgl]; omega
  have hL : field (head ++ nonce ++ natLE 4 (32 + P) ++ c ++ g) 0x5C 4 = 32 + P := by
    unfold field
    rw [List.append_assoc, slice_append_of_le _ _ _ _ (by omega), slice_append_of_ge _ _ _ _ (by simp [hhl, hnl]),
      show 0x5C - (head ++ nonce).length = 0 by simp [hhl, hnl], slice_all _ _ (by simp), leNat_natLE]
    exact Nat.mod_eq_of_lt (by omega)
  have hn12 : slice (head ++ nonce ++ natLE 4 (32 + P) ++ c ++ g) 0x50 12 = nonce := by
    rw [List.append_assoc, slice_append_of_le _ _ _ _ (by omega), slice_append_of_le _ _ _ _ (by simp [hhl, hnl]),
      slice_append_of_ge _ _ _ _ (by omega), hhl]
    exact slice_all _ _ hnl
  have haad : slice (head ++ nonce ++ natLE 4 (32 + P) ++ c ++ g) 0 0x60 = head ++ nonce ++ natLE 4 (32 + P) := by
    rw [List.append_assoc, slice_append_of_le _ _ _ _ (by omega)]
    exact slice_all _ _ ha
  have hcs : slice (head ++ nonce ++ natLE 4 (32 + P) ++ c ++ g) 0x60 (32 + P) = c := by
    rw [List.append_assoc, slice_append_of_ge _ _ _ _ (by omega), ha, slice_append_of_le _ _ _ _ (by omega)]
    exact slice_all _ _ hcl
  have hgs : slice (head ++ nonce ++ natLE 4 (32 + P) ++ c ++ g) (0x80 + P) 16 = g := by
    rw [slice_append_of_ge _ _ _ _ (by rw [List.length_append]; omega),
      show 0x80 + P - (head ++ nonce ++ natLE 4 (32 + P) ++ c).length = 0 by rw [List.length_append, ha, hcl]; omega]
    exact slice_all _ _ hgl
  have g0 := hff 0 1 (by decide)
  have g1 := hff 1 1 (by decide)
  have g2 := hff 2 2 (by decide)
  have g4 := hff 4 2 (by decide)
  have g6 := hff 6 1 (by decide)
  have g7 := hff 7 1 (by decide)
  have g8 := hff 8 4 (by decide)
  have gC := hff 0x0C 4 (by decide)
  have gV := hf 0x10 16 (by decide)
  have gM := hf 0x20 48 (by decide)
  rw [f0] at g0; rw [f1] at g1; rw [f2] at g2; rw [f4] at g4; rw [f6] at g6; rw [f7] at g7; rw [f8] at g8; rw [fC] at gC
  rw [fV] at gV; rw [fM] at gM
  generalize head ++ nonce ++ natLE 4 (32 + P) ++ c ++ g = b at *
  unfold State.openSeal
  simp only [g0, g1, g2, g4, g6, g7, g8, gC, gV, gM, hlen, hL, hn12, haad, hcs, hgs, he, hx, hmeas, hW, hro]
  simp [hr]

/-- Three equal copies vote for themselves (R340). -/
theorem majority_self {w : Nat} (v : BitVec w) : majority v v v = v := by
  apply BitVec.eq_of_getLsbD_eq
  intro i _
  simp only [majority, BitVec.getLsbD_or, BitVec.getLsbD_and]
  cases v.getLsbD i <;> rfl

/-- A free device policy record, programmed, is written and reads back its digest (R353). -/
theorem Otp.programDq_reads (o : Otp) (n : Nat) (b : Bytes) (hn : n < 16) (hf : o.dqFree n = true) (hb : b.length = 48) :
    (o.programDq n b).dqDigest n = b ∧ (o.programDq n b).dqWritten n = true := by
  have hr : (o.programDq n b).dqRecord n = BitVec.ofNat 386 (leNat b % 2 ^ 384) ||| pairMask 386 192 := by
    simp only [Otp.dqFree, Bool.and_eq_true, beq_iff_eq] at hf
    obtain ⟨⟨h0, h1⟩, h2⟩ := hf
    have hget : ∀ c : Vector (BitVec 386) 16, ∀ v, (c.setIfInBounds n v).getD n 0 = v := by
      intro c v
      simp [Vector.getD, hn]
    simp only [Otp.programDq, Otp.dqRecord, Vector.getElem_map, hget, h0, h1, h2]
    rw [majority_self]
    exact BitVec.zero_or
  have hl := leNat_lt b
  rw [hb] at hl
  have hl' : leNat b < 2 ^ 384 := by
    exact lt_of_lt_of_eq hl (by rw [show (256 : Nat) = 2 ^ 8 by decide, ← pow_mul])
  constructor
  · unfold Otp.dqDigest
    rw [hr]
    have e : (BitVec.ofNat 386 (leNat b % 2 ^ 384) ||| pairMask 386 192).toNat % 2 ^ 384 = leNat b := by
      apply Nat.eq_of_testBit_eq
      intro i
      rw [Nat.testBit_mod_two_pow, BitVec.testBit_toNat, BitVec.getLsbD_or, BitVec.getLsbD_ofNat, Nat.mod_eq_of_lt hl']
      by_cases hi : i < 384
      · have e2 : (pairMask 386 192).getLsbD i = false := by
          rw [pairMask, BitVec.getLsbD_ofNat, Nat.testBit_shiftLeft]
          simp; omega
        have e3 : i < 386 := by omega
        rw [e2]; simp [hi, e3]
      · have := Nat.testBit_lt_two_pow (x := leNat b) (i := i) (lt_of_lt_of_le hl' (Nat.pow_le_pow_right (by decide) (by omega)))
        simp [hi, this]
    rw [e]
    exact natLE_leNat b 48 hb
  · unfold Otp.dqWritten
    rw [hr]
    have e : ∀ j, j < 2 → (BitVec.ofNat 386 (leNat b % 2 ^ 384) ||| pairMask 386 192).getLsbD (2 * 192 + j) = true := by
      intro j hj
      rw [BitVec.getLsbD_or, pairMask, BitVec.getLsbD_ofNat, BitVec.getLsbD_ofNat]
      have : j = 0 ∨ j = 1 := by omega
      rcases this with rfl | rfl <;> simp <;> decide
    have e0 := e 0 (by decide)
    have e1 := e 1 (by decide)
    unfold pairAt
    rw [e1]
    rw [Nat.add_zero] at e0
    rw [e0]
    rfl

/-- The start of a packet outside a caravan leaves the other packets' use of a handle as it is (R58). -/
theorem State.references_take (s : State) (pid h : Nat) (p : Packet) (hc : p.caravan = none) :
    (s.take pid p).references pid h = s.references pid h := by
  unfold State.references
  rw [State.take_cmd s pid p hc]
  have e := cellsAny_insert s.cmd.packets.cells pid { p with start := s.now, pair := s.pairFor p }
    (fun e => e.2.phase.started && e.2.keys.contains h)
  simp only [← Bool.and_assoc] at e
  exact e

/-- A new key of an unmirrored slice enters the cache where the first free lines serve. -/
theorem State.enterKey_some (s : State) (sl : Nat) (vault : Bytes) (k : NewKey) (n : Nat) (hn : recordLines k.secret.length k.pub.length = n)
    (h : s.mirrors sl = false ∧ s.linesOk n [] (s.firstLines (otherBanks []) n) = true) :
    ∃ (h : Nat) (w : State), s.enterKey sl vault k = some (h, w) := by
  obtain ⟨l, t, e⟩ := s.addRecord_some (recOfHeader sl (k.header vault) k.pub) k.secret h.1 (by rw [← hn] at h; exact h.2)
  exact ⟨_, _, by unfold State.enterKey; rw [e]⟩

/-- A device seal has 144 octets and its policy block's (R124). -/
@[simp] theorem State.deviceSeal_length (s : State) (sl c : Nat) (vault meas root block : Bytes) :
    (s.deviceSeal sl c vault meas root block).length = 144 + block.length := by
  simp [State.deviceSeal, mkSeal, sealHead, kmac]
  omega

/-- The seal that a changed policy block makes (R117, R118). -/
theorem State.reissue_length (s : State) (line sl : Nat) (root block : Bytes) (w : State) (new : Bytes)
    (h : s.reissue line sl root block = some (w, new)) : new.length = 144 + block.length := by
  unfold State.reissue at h
  split at h
  · cases h
  · split at h
    · cases h
    · cases h; simp

/-- A received transfer, by its parts: its head, ciphertext and point, and a body sealed under the key that the recipient derives (R93, R152). -/
def transferOf (seed head ct point label body : Bytes) : Bytes :=
  let k := transferKey ((hybridReceive seed ct point).getD []) head label
  let aad := head ++ ct ++ point ++ zeros 7
  aad ++ (sivSeal k.1 k.2 aad body).1 ++ (sivSeal k.1 k.2 aad body).2

@[simp] theorem transferOf_length (seed head ct point label body : Bytes) (h1 : head.length = 0x80) (h2 : ct.length = 1568) (h3 : point.length = 97) :
    (transferOf seed head ct point label body).length = 0x718 + body.length := by
  simp [transferOf, h1, h2, h3]; omega

theorem transferOf_prefix (seed head ct point label body : Bytes) (off n : Nat) (h1 : head.length = 0x80) (h2 : ct.length = 1568)
    (h3 : point.length = 97) (h : off + n ≤ 0x708) :
    slice (transferOf seed head ct point label body) off n = slice (head ++ ct ++ point ++ zeros 7) off n := by
  unfold transferOf
  dsimp only
  rw [List.append_assoc]
  exact slice_append_of_le _ _ _ _ (by simp [h1, h2, h3]; omega)

/-- A transfer to a recipient's key opens with that key, where the sender's point is valid (R93, R154). -/
theorem openTransfer_transferOf (seed head ct point label body : Bytes) (h1 : head.length = 0x80) (h2 : ct.length = 1568)
    (h3 : point.length = 97) (ha : Config.accepts .ecdhP384 [point] = true) :
    ∃ k : Bytes, openTransfer seed (transferOf seed head ct point label body) label body.length = some (body, k) := by
  have ep := fun off n h => transferOf_prefix seed head ct point label body off n h1 h2 h3 h
  have hct : slice (transferOf seed head ct point label body) 0x80 1568 = ct := by
    rw [ep _ _ (by decide), List.append_assoc, slice_append_of_le _ _ _ _ (by simp [h1, h2]), slice_append_of_ge _ _ _ _ (by omega),
      h1]
    exact slice_all _ _ h2
  have hpt : slice (transferOf seed head ct point label body) 0x6A0 97 = point := by
    rw [ep _ _ (by decide), slice_append_of_le _ _ _ _ (by simp [h1, h2, h3]), slice_append_of_ge _ _ _ _ (by simp [h1, h2]),
      show 0x6A0 - (head ++ ct).length = 0 by simp [h1, h2]]
    exact slice_all _ _ h3
  have hhd : (transferOf seed head ct point label body).take 0x80 = head := by
    rw [← slice_zero, ep _ _ (by decide), List.append_assoc, List.append_assoc, slice_append_of_le _ _ _ _ (by omega)]
    exact slice_all _ _ h1
  have haad : (transferOf seed head ct point label body).take 0x708 = head ++ ct ++ point ++ zeros 7 := by
    rw [← slice_zero, ep _ _ (by decide)]
    exact slice_all _ _ (by simp [h1, h2, h3])
  have hr : hybridReceive seed ct point = some ((hybridReceive seed ct point).getD []) := by
    unfold hybridReceive; rw [if_pos ha]; rfl
  have hl : (head ++ ct ++ point ++ zeros 7).length = 0x708 := by simp [h1, h2, h3]
  have hbody : slice (transferOf seed head ct point label body) 0x708 body.length =
      (sivSeal (transferKey ((hybridReceive seed ct point).getD []) head label).1 (transferKey ((hybridReceive seed ct point).getD []) head label).2
        (head ++ ct ++ point ++ zeros 7) body).1 := by
    unfold transferOf
    dsimp only
    rw [List.append_assoc, slice_append_of_ge _ _ _ _ (by omega), hl, slice_append_of_le _ _ _ _ (by simp)]
    exact slice_all _ _ (by simp)
  have htag : slice (transferOf seed head ct point label body) (0x708 + body.length) 16 =
      (sivSeal (transferKey ((hybridReceive seed ct point).getD []) head label).1 (transferKey ((hybridReceive seed ct point).getD []) head label).2
        (head ++ ct ++ point ++ zeros 7) body).2 := by
    unfold transferOf
    dsimp only
    rw [slice_append_of_ge _ _ _ _ (by rw [List.length_append, hl, sivSeal_fst_length]),
      show ∀ x : Bytes, x.length = body.length → 0x708 + body.length - (head ++ ct ++ point ++ zeros 7 ++ x).length = 0 from
        fun x hx => by rw [List.length_append, hl, hx]; omega]
    · exact slice_all _ _ (by simp)
    · simp
  unfold openTransfer
  rw [hct, hpt, hr]
  dsimp only
  rw [hhd, haad, hbody, htag, sivOpen_sivSeal]
  exact ⟨_, rfl⟩

end Sys2Proof.Machine
end

