-- ==== Sys2Proof/WellFormed.lean ====
section
/-! DEFINITION. Which commands are well-formed: every operand lies in the range that the spec gives what it names. Log entries of this file: DEDUCED 211; DESIGN CHOICE 42. -/

namespace Sys2Proof

/-- A PASID has 20 bits. -/
def okPasid (p : Option Nat) : Bool := match p with | some n => decide (n < 2 ^ 20) | none => true

/-- A ring set: a slice's, or 4,096 for the manager's (R37). -/
def okRing (r : Nat) : Bool := decide (r ≤ 4096)

/-- A queue pair of a ring set (R37). -/
def okQueue (q : Nat) : Bool := decide (q < 8)

/-- A slice. -/
def okSlice (n : Nat) : Bool := decide (n < 4096)

/-- A network port (R244). -/
def okPort (n : Nat) : Bool := decide (n < 16)

/-- A network lane (R457). -/
def okLane (n : Nat) : Bool := decide (n < 16)

/-- A command pair (R12). -/
def okPair (n : Nat) : Bool := decide (n < 8)

/-- A public-key core (R162). -/
def okCore (n : Nat) : Bool := decide (n < 72)

/-- A bulk cluster (R224). -/
def okCluster (n : Nat) : Bool := decide (n < 16)

/-- A flow-cache bank (R286). -/
def okBank (n : Nat) : Bool := decide (n < 4)

/-- An island identifier (R12). -/
def okIsland (n : Nat) : Bool := decide (n < 64)

/-- A monitored rail (R380). -/
def okRail (n : Nat) : Bool := decide (n < 6)

/-- A Gauntlet sensor (R386). -/
def okSensor (n : Nat) : Bool := decide (n < 23)

/-- A tamper switch (R384). -/
def okSwitch (n : Nat) : Bool := decide (n < 4)

/-- A reference clock (R495). -/
def okClock (n : Nat) : Bool := decide (n < 4)

/-- A DRBG instance (R303). -/
def okInstance (n : Nat) : Bool := decide (n < 4)

/-- A device timer (R321). -/
def okTimer (n : Nat) : Bool := decide (n < 8)

/-- A kind of replicated unit (`DEV_ROTn`). -/
def okKind (k : Nat) : Bool := decide (k < 4)

/-- A unit of a kind (R407). -/
def okUnit (k n : Nat) : Bool :=
  match k with
  | 0 => decide (n < 8)
  | 1 => decide (n < 5)
  | 2 => decide (n < 16)
  | 3 => decide (n < 72)
  | _ => false

/-- What a check names: a unit of a kind (R407), or, as kind 4, the two ends of a handshake (R19). A refused descriptor comes with its 64 octets as one number (R169). -/
def okCheck (k n cause info : Nat) : Bool :=
  if k = 4 then Machine.islandAssigned n && Machine.islandAssigned info else okUnit k n && (cause != 5 || decide (info < 2 ^ 512))

/-- A management transport: DOE, MCTP over SMBus, MCTP over I3C (R455, R462). -/
def okTransport (t : Nat) : Bool := decide (t < 3)

/-- A range in host memory: a 64-bit address and a 32-bit length (R47). -/
def okRange (e : Nat × Nat × Nat) : Bool := decide (e.1 < 2 ^ 64) && decide (e.2.1 < 2 ^ 32) && decide (e.2.2 < 2 ^ 32)

/-- What the device reads for a packet: lists of ranges, and a parameter block of at most 4,096 octets (R46, R47), and how many output octets the host accepts before it refuses a write, where it refuses one (R49). -/
def okData (d : PktData) : Bool := d.inList.all okRange && d.outList.all okRange && decide (d.pind.length ≤ 4096) &&
  (match d.outFail with | some n => decide (n < 2 ^ 32) | none => true)

/-- A master that R331 names: an assigned island (R12), or the debug port with its island 0xFF. -/
def okMaster (m : Master) : Bool :=
  decide (m.source ≤ 5) && (if m.source = 2 then m.island == 0xFF else Machine.islandAssigned m.island) && okPasid m.pasid

/-- A submission entry has 64 octets (R44). -/
def okEntry (e : Bytes) : Bool := e.length == 64

/-- A DMA request names a ring, queue pair or slice that exists. -/
def okDma (u : DmaUse) : Bool :=
  match u with
  | .fetch ring q => okRing ring && okQueue q
  | .packet _ => true
  | .completion ring q => okRing ring && okQueue q
  | .dlog slice => okSlice slice
  | .other => true

/-- A DMA request that may be absent. -/
def okDmaOpt (u : Option DmaUse) : Bool := match u with | some u => okDma u | none => true

/-- 1,024 samples of an entropy block (R298). -/
def okSamples (n : Nat) : Bool := decide (n < 2 ^ 1024)

/-- A frequency for one oscillator of each of the 32 pairs (R297, R299). -/
def okFreqs (l : List Nat) : Bool := l.length == 32

/-- The end of a caravan lies at most 63 entries ahead (R59). -/
def okAhead (n : Nat) : Bool := decide (n ≤ 63)

/-- A value of 32 bits. -/
def okWord (n : Nat) : Bool := decide (n < 2 ^ 32)

/-- A value of 64 bits. -/
def okDword (n : Nat) : Bool := decide (n < 2 ^ 64)

/-- A write of 1 to 64 octets, with a value that they hold. -/
def okWrite (len value : Nat) : Bool := decide (1 ≤ len) && decide (len ≤ 64) && decide (value < 2 ^ (8 * len))

/-- An internal address of 40 bits, or an offset of a BAR (R32 to R35). -/
def okAddr (n : Nat) : Bool := decide (n < 2 ^ 40)

/-- A bus address of 7 bits (R462). -/
def okBusAddr (n : Nat) : Bool := decide (n < 128)

/-- The operands of a command lie in their ranges. -/
def Instr.wf (i : Instr) : Bool :=
  match i with
  | .powerOnReset _ _ => true
  | .coldReset _ _ => true
  | .rpReset _ _ => true
  | .hostLinkReset _ => true
  | .functionLevelReset _ _ => true
  | .bootPhaseRom _ _ => true
  | .bootPhaseKeys _ => true
  | .bootPhaseImages _ => true
  | .islandSelftestDone _ island _ => okIsland island
  | .bootPhaseFirmware _ => true
  | .bootReady _ => true
  | .recoveryGo _ _ _ => true
  | .qpEnable _ pasid ring q => okPasid pasid && okRing ring && okQueue q
  | .qpStop _ pasid ring q => okPasid pasid && okRing ring && okQueue q
  | .qpStopComplete _ ring q => okRing ring && okQueue q
  | .sqTailDoorbell _ pasid ring q value => okPasid pasid && okRing ring && okQueue q && okWord value
  | .cqHeadDoorbell _ pasid ring q value => okPasid pasid && okRing ring && okQueue q && okWord value
  | .sqEntryFetch _ ring q entry ahead => okRing ring && okQueue q && okEntry entry && okAhead ahead
  | .randomnessReady _ _ => true
  | .randomnessHoldExpiry _ _ => true
  | .tokenBucketStart _ _ => true
  | .completionIrqDelayExpiry _ ring q => okRing ring && okQueue q
  | .keyGenerate _ _ d => okData d
  | .keyLoad _ _ d => okData d
  | .keyUnload _ _ d => okData d
  | .keyPublic _ _ d => okData d
  | .keyDerive _ _ d => okData d
  | .keyExport _ _ d => okData d
  | .keyImport _ _ d => okData d
  | .keyDelete _ _ d => okData d
  | .keyAttr _ _ d => okData d
  | .aeadSeal _ _ d => okData d
  | .aeadOpen _ _ d => okData d
  | .xtsEncrypt _ _ d => okData d
  | .xtsDecrypt _ _ d => okData d
  | .cmacGenerate _ _ d => okData d
  | .cmacVerify _ _ d => okData d
  | .hash _ _ d => okData d
  | .hmacGenerate _ _ d => okData d
  | .hmacVerify _ _ d => okData d
  | .hkdf _ _ d => okData d
  | .tlsProtect _ _ d => okData d
  | .tlsUnprotect _ _ d => okData d
  | .keyFileKeyDelivered _ cluster _ => okCluster cluster
  | .lookasideResult _ _ => true
  | .sign _ _ d => okData d
  | .verify _ _ d => okData d
  | .keyAgree _ _ d => okData d
  | .kemEncaps _ _ d => okData d
  | .kemDecaps _ _ d => okData d
  | .rsaEncrypt _ _ d => okData d
  | .rsaDecrypt _ _ d => okData d
  | .wsOpen _ _ d => okData d
  | .wsClose _ _ d => okData d
  | .wsWrite _ _ d => okData d
  | .wsRead _ _ d => okData d
  | .wsExec _ _ d => okData d
  | .pkeDispatch _ _ => true
  | .verifyJobPlacement _ _ => true
  | .yieldPoint _ core _ => okCore core
  | .latticeQuantumBoundary _ _ => true
  | .pkeJobEnd _ core _ => okCore core
  | .releaseGate _ _ => true
  | .faultCheckFired _ kind unit cause detail => okCheck kind unit cause detail
  | .lockstepMismatch _ pair => okPair pair
  | .vaultCreate _ _ d => okData d
  | .vaultLoad _ _ d => okData d
  | .vaultPolicySet _ _ d => okData d
  | .vaultDelete _ _ d => okData d
  | .quorumChallenge _ _ d => okData d
  | .challengeExpiry _ _ => true
  | .resealApprove _ _ d => okData d
  | .dqChallenge _ _ d => okData d
  | .dqPolicySet _ _ d => okData d
  | .saInstall _ _ d => okData d
  | .saRekey _ _ d => okData d
  | .saRetire _ _ d => okData d
  | .saDrainDone _ _ => true
  | .saQueryState _ _ d => okData d
  | .saQueryWait _ _ d => okData d
  | .saQueryTimeout _ slice => okSlice slice
  | .policyAdd _ _ d => okData d
  | .policyDelete _ _ d => okData d
  | .directedFlush _ _ => true
  | .tblRehash _ _ d => okData d
  | .tblFlush _ _ d => okData d
  | .attest _ _ d => okData d
  | .meterReadInterim _ _ d => okData d
  | .meterReadStatement _ _ d => okData d
  | .measureRead _ _ d => okData d
  | .sliceBind _ _ d => okData d
  | .sliceUnbind _ _ d => okData d
  | .shareSet _ _ d => okData d
  | .mirrorBuildDone _ slice => okSlice slice
  | .mirrorRebuildDone _ _ _ => true
  | .modeSwitch _ _ d => okData d
  | .fwStage _ _ d => okData d
  | .fwActivate _ _ d => okData d
  | .resealDeadline _ => true
  | .pairSwitchDone _ pair => okPair pair
  | .activationPairFailure _ pair => okPair pair
  | .lcTransition _ _ d _ => okData d
  | .lcStepsRun _ _ => true
  | .sliceExport _ _ d => okData d
  | .sliceExportSizeQuery _ _ d => okData d
  | .sliceExportSignPending _ _ d => okData d
  | .sliceExportDiscardPending _ _ d => okData d
  | .sliceImportOffer _ _ d => okData d
  | .sliceImport _ _ d => okData d
  | .offerExpiry _ slice => okSlice slice
  | .configLoad _ _ d => okData d
  | .vaultBackupInit _ _ d _ => okData d
  | .vaultBackup _ _ d _ => okData d
  | .vaultRestore _ _ d _ => okData d
  | .evidenceExport _ _ d _ => okData d
  | .cardInserted _ _ => true
  | .cardOperatingConditionPoll _ _ => true
  | .cardRemoved _ => true
  | .entropyBlock _ samples sampling sampled _ => okSamples samples && okFreqs sampling && okFreqs sampled
  | .siroccoRestartDone _ => true
  | .rngRestart _ => true
  | .drbgKatRepeat _ n _ => okInstance n
  | .entropyTestModeEnter _ m => okMaster m
  | .entropyTestModeExit _ => true
  | .rngTestPattern _ m => okMaster m
  | .rngRawRead _ => true
  | .remaskLine _ _ _ _ => true
  | .remaskPassEnd _ => true
  | .remaskLate _ => true
  | .ksWipe _ value => okWord value
  | .wipeDone _ => true
  | .ksCompatLock _ => true
  | .ksSuccAbandon _ => true
  | .pkeCoreZero _ core value => okCore core && okWord value
  | .dlogEnable _ slice => okSlice slice
  | .dlogDisable _ slice => okSlice slice
  | .dlogFlip _ slice => okSlice slice
  | .dlogFlipDone _ slice => okSlice slice
  | .macsecOutboundFrame _ port _ _ _ => okPort port
  | .macsecInboundFrame _ port _ _ _ => okPort port
  | .espOutboundFrame _ port _ _ _ => okPort port
  | .espInboundFrame _ port _ _ _ => okPort port
  | .inlineClusterDone _ _ => true
  | .txPipelineFinish _ _ _ => true
  | .learnInsert _ bank => okBank bank
  | .stashReinsert _ bank => okBank bank
  | .sweeperVisit _ bank => okBank bank
  | .portLinkUp _ port _ => okPort port
  | .portLinkDown _ port => okPort port
  | .dmaRefused _ dma => okDma dma
  | .dmaCompletionTimeout _ dma => okDma dma
  | .lateCompletion _ => true
  | .ideIntegrityFailure _ _ dma => okDmaOpt dma
  | .getVersion _ tr => okTransport tr
  | .getCapabilities _ tr => okTransport tr
  | .negotiateAlgorithms _ tr _ => okTransport tr
  | .getDigests _ tr => okTransport tr
  | .getCertificate _ tr _ _ _ => okTransport tr
  | .challenge _ tr _ _ => okTransport tr
  | .getMeasurements _ tr _ _ _ => okTransport tr
  | .keyExchange _ tr _ _ => okTransport tr
  | .finish _ tr _ _ => okTransport tr
  | .endSession _ tr _ => okTransport tr
  | .heartbeat _ tr _ => okTransport tr
  | .keyUpdate _ tr _ _ => okTransport tr
  | .chunkSend _ tr _ _ _ _ => okTransport tr
  | .chunkGet _ tr _ _ => okTransport tr
  | .keyProg _ tr _ _ _ _ _ _ => okTransport tr
  | .kSetGo _ tr _ _ _ _ _ => okTransport tr
  | .kSetStop _ tr _ _ _ _ _ => okTransport tr
  | .query _ tr _ _ => okTransport tr
  | .spdmUnsupportedRequest _ tr _ => okTransport tr
  | .setEndpointId _ _ _ => true
  | .getEndpointId _ _ => true
  | .getMctpVersionSupport _ _ _ => true
  | .getMessageTypeSupport _ _ => true
  | .entdaa _ addr => okBusAddr addr
  | .wcallFromOpen _ pair _ _ _ => okPair pair
  | .wcallFromSecure _ pair _ => okPair pair
  | .yield _ pair _ => okPair pair
  | .msgSend _ pair _ => okPair pair
  | .msgRecv _ pair => okPair pair
  | .info _ pair => okPair pair
  | .secureInterrupt _ pair _ _ => okPair pair
  | .ruleWrite _ m addr value => okMaster m && okAddr addr && okDword value
  | .assignLock _ => true
  | .dbgLock _ => true
  | .devPwrReq _ m n value => okMaster m && okIsland n && okWord value
  | .islandReleaseWrite _ n _ => okIsland n
  | .islandGated _ n => okIsland n
  | .islandPoweredUp _ n => okIsland n
  | .accessViolation _ m _ _ addr _ => okMaster m && okAddr addr
  | .asvRecordPop _ => true
  | .debugHaltRequest _ pair => okPair pair
  | .extest _ _ => true
  | .samplePreload _ => true
  | .idcode _ => true
  | .clamp _ => true
  | .highz _ => true
  | .pdp _ _ addr value => okAddr addr && okWord value
  | .bypass _ => true
  | .manufacturingProgramTrim _ _ => true
  | .manufacturingTransitionFactory _ => true
  | .manufacturingTransitionScrap _ => true
  | .oasisVisitStart _ kind island => okIsland island && okKind kind
  | .oasisDrainDone _ kind unit => okUnit kind unit
  | .unitSelftestDone _ kind unit _ => okUnit kind unit
  | .knownAnswerCheck _ kind unit _ => okUnit kind unit
  | .memoryScrubPass _ _ => true
  | .uncorrectableError _ _ => true
  | .railWarningExcursion _ rail _ _ => okRail rail
  | .unannouncedPowerLoss _ rail _ _ _ => okRail rail
  | .orderlyPowerLoss _ rail _ _ _ => okRail rail
  | .overVoltage _ rail _ _ => okRail rail
  | .glitch _ rail _ _ => okRail rail
  | .clockFrequency _ island => okIsland island
  | .shortCycle _ island => okIsland island
  | .referenceLost _ clock => okClock clock
  | .meshCheck _ _ _ _ => true
  | .tamperSwitch _ n _ => okSwitch n
  | .zeroize _ => true
  | .temperature _ _ => true
  | .vbakLow _ _ => true
  | .vbakOver _ _ => true
  | .secondDecision _ sensor _ _ => okSensor sensor
  | .conditionEnd _ sensor _ _ => okSensor sensor
  | .holdLift _ sensor _ => okSensor sensor
  | .class2EraseDone _ => true
  | .clearHoldRelease _ => true
  | .evidenceCommit _ => true
  | .gntLock _ => true
  | .pfwNAsserted _ => true
  | .pfwNDeasserted _ => true
  | .devIrqMaskWrite _ value => okWord value
  | .meterTick _ => true
  | .meterEnable _ => true
  | .dumpTick _ => true
  | .dumpEnable _ => true
  | .softwareEvent _ value => okWord value
  | .recorderFlush _ _ => true
  | .recorderRegionReset _ => true
  | .registerWrite _ m _ addr len value => okMaster m && okAddr addr && okWrite len value
  | .unknownOpcodeRelease _ _ => true
  | .lcStopDeadline _ => true
  | .randomDrawTimeout _ _ => true
  | .hostLinkUp _ _ _ _ => true
  | .kaSupplyLost _ => true
  | .kaSupplyRestored _ => true
  | .meterHeadWrite _ value => okWord value
  | .netLaneCfgWrite _ m lane value => okMaster m && okLane lane && okWord value
  | .cardResponseTimeout _ _ _ => true
  | .cardBusyTimeout _ => true
  | .mctpUnsupportedMessage _ _ _ _ => true
  | .deviceTimerExpiry _ n => okTimer n

end Sys2Proof
end

