-- ==== Sys2Proof/Tests/Slice0.lean ====
section
/-! SUPPORT. The model's own tests: ill-formed commands that the check refuses, witnesses for the statements' hypotheses (a concrete state and operands that meet all of them together), and single steps against the spec's words. -/

namespace Sys2Proof.Tests

set_option Elab.async false

open Sys2Proof.Machine

/-! ## Small states -/

/-- Boot is complete and the host link is up. -/
def up : State := (State.reset.fset Fld.DEV_BOOT_STATUS_phase 0 7).fset Fld.HLU_LINK_up 0 1

/-- Slice 5 is BOUND under PASID 0x100 with shares. -/
def bound : State :=
  let s := ((up.fset Fld.SLC_STATE_state 5 1).fset Fld.SLC_PASID_pasid 5 0x100).fset Fld.SLC_PASID_valid 5 1
  let s := (s.fset Fld.SLC_PKE_SHARE_weight 5 10).fset Fld.SLC_BULK_SHARE_rate 5 100
  let s := (s.fset Fld.SLC_KC_QUOTA_quota 5 1000).fset Fld.SLC_SA_QUOTA_quota 5 100
  s.fset Fld.SLC_STATE_share_gen 5 1

/-- A submission entry of 64 octets (R44). -/
def entryOf (opc flags h0 : Nat) (params : Bytes) (inLen outLen : Nat) : Bytes :=
  natLE 2 opc ++ natLE 2 flags ++ natLE 4 7 ++ natLE 8 h0 ++ zeros 8 ++ fitLen 16 params ++
  natLE 8 (if inLen = 0 then 0 else 0x600000) ++ natLE 8 (if outLen = 0 then 0 else 0x700000) ++ natLE 4 inLen ++ natLE 4 outLen

/-- What the device read for a packet: its parameter block and its input. -/
def dataOf (pind input : Bytes) : PktData := ⟨pind, [], [], input, [], false, none⟩

/-- A fetched packet with its random values reserved. -/
def pktOf (ring : Nat) (e : Bytes) : Packet := ⟨ring, 0, 0, e, 0, .fetched, 0, none, [], some 0, 0, dataOf [] [], false⟩

/-- One fetched packet, number 0. -/
def withPkt (s : State) (p : Packet) : State :=
  { s with cmd := { s.cmd with packets := ⟨[(0, p)]⟩, nextPid := 1 } }

/-- One fetched packet of slice 5, number 0. -/
def one (opc flags h0 : Nat) (params : Bytes) (inLen outLen : Nat) : State :=
  withPkt bound (pktOf 5 (entryOf opc flags h0 params inLen outLen))

/-- One fetched packet of the manager ring, number 0. -/
def mgr (s : State) (opc flags : Nat) (params : Bytes) (inLen outLen : Nat) : State :=
  withPkt s (pktOf managerRing (entryOf opc flags 0 params inLen outLen))

/-- The packet with what the device read for it. -/
def given (d : PktData) (p : Packet) : Packet := { p with data := { d with refused := d.refused || p.data.refused } }

/-- The packet as it is when its opcode's work begins. -/
def begun (s : State) (d : PktData) (p : Packet) : Packet := { given d p with start := s.now, pair := s.pairFor (given d p) }

/-- The state when the opcode's work begins. -/
def taken (s : State) (d : PktData) (p : Packet) : State :=
  s.take 0 (given d p)

theorem some_or_none {α : Type} (c : Bool) (a : α) : (if c then some a else none) = some a ∨ (if c then some a else none) = none := by
  cases c <;> simp

/-- A packet outside a caravan with its random values reserved, whose turn it is, starts. -/
theorem begins {s : State} {opc : Nat} {d : PktData} {p : Packet} (hp : s.cmd.packets.get? 0 = some p) (hc : p.caravan = none)
    (hr : p.rnd.isSome = true) (h : (s.startable opc 0 d).isSome = true ∧ s.booted = true ∧ s.turn 0 (given d p) false = true) :
    (s.tick 0).Starts opc 0 d (taken s d p) (begun s d p) := by
  obtain ⟨hs, hb, ht⟩ := h
  rw [State.tick_zero]
  have e : s.startable opc 0 d = some (given d p) := by
    have h2 : s.startable opc 0 d = some (given d p) ∨ s.startable opc 0 d = none := by
      unfold State.startable
      rw [hp]
      exact some_or_none _ _
    exact h2.resolve_right (fun h3 => by rw [h3] at hs; cases hs)
  refine ⟨_, given d p, s, e, ?_, rfl, ?_⟩
  · have hn : (given d p).rnd.isNone = false := by revert hr; unfold given; dsimp only; cases p.rnd <;> simp
    unfold State.prepare
    simp [hb, hn, ht]
  · have hk := State.take_cmd s 0 (given d p) hc
    unfold taken begun
    rw [hk]
    simp

/-- Packet 0 starts, the host refuses none of its output, and `c` holds of the state and the packet then. -/
def Meets (s : State) (opc : Nat) (d : PktData) (c : State → Packet → Prop) : Prop :=
  ∃ (t : State) (p : Packet), (s.tick 0).Serves opc 0 d t p ∧ c t p

theorem meets {s : State} {opc : Nat} {d : PktData} {c : State → Packet → Prop} {p : Packet} (hp : s.cmd.packets.get? 0 = some p)
    (h : (p.caravan.isNone = true ∧ p.rnd.isSome = true ∧ d.outFail = none) ∧
      ((s.startable opc 0 d).isSome = true ∧ s.booted = true ∧ s.turn 0 (given d p) false = true) ∧ c (taken s d p) (begun s d p)) :
    Meets s opc d c :=
  ⟨_, _, ⟨begins hp (by simpa using h.1.1) h.1.2.1 h.2.1, h.1.2.2⟩, h.2.2⟩

/-- A check of a packet passed. -/
def ok {α : Type} (r : Except Stop α) : Bool := match r with | .ok _ => true | .error _ => false

/-- A check of a packet passed with a value that meets a test. -/
def okAnd {α : Type} (r : Except Stop α) (f : α → Bool) : Bool := match r with | .ok a => f a | .error _ => false


/-- A check that passed gave a value. -/
theorem exists_of_ok {α : Type} {r : Except Stop α} (h : ok r = true) : ∃ a, r = .ok a := by
  cases r with
  | ok a => exact ⟨a, rfl⟩
  | error e => cases h

/-! ## Witnesses: steps, resets, boot -/

/-- After reset, with another boot phase. -/
def atPhase (n : Nat) : State := State.reset.fset Fld.DEV_BOOT_STATUS_phase 0 n

/-- After reset, with the Gauntlet's part changed. -/
def withGnt (s : State) (f : GntUnit → GntUnit) : State := { s with gnt := f s.gnt }

theorem witness_IdleStep : State.reset.pending = [] := by decide +kernel

theorem witness_StepKeepsPermanentRecord : ∃ s t : State, s.pending = [.gntLock 0] ∧ s.LogDense ∧ step s = .next t :=
  ⟨{ State.reset with pending := [.gntLock 0] }, _, rfl, by unfold State.LogDense; decide +kernel, rfl⟩

theorem witness_DeviceResets : (State.reset.tick 0).gnt.main ∧ ((withGnt State.reset (fun g => { g with rpDue := true })).tick 0).gnt.main ∧
    ((withGnt State.reset (fun g => { g with rpDue := true })).tick 0).gnt.rpDue := by decide +kernel

theorem witness_HostResets : ∃ p : Packet, (State.cutHost (withPkt bound { pktOf 5 (entryOf 0x0301 0 0 [] 0 0) with phase := .running }) false true).cmd.packets.get? 0 =
    some p ∧ (if p.ring = managerRing then false else true) := ⟨_, rfl, by decide +kernel⟩

theorem witness_SupplyEvents_1 : (2 : Nat) < 6 ∧ 799 < (railLevels 2).1 ∧ 799 < (railLevels 2).1 + 1 ∧ (State.reset.tick 0).gnt.main ∧
    !(State.reset.tick 0).warned ∧ (railLevels 2).2.2.2.1 < 1031 := by decide +kernel

theorem witness_SupplyEvents_2 : ((withGnt State.reset (fun g => { g with pfw := some 0 })).tick 5000000).gnt.main ∧
    ((withGnt State.reset (fun g => { g with pfw := some 0 })).tick 5000000).warned ∧
    ((withGnt State.reset (fun g => { g with pfw := some 0 })).tick 4999999).warned = false := by decide +kernel

theorem witness_SupplyEvents_3 : !((withGnt State.reset (fun g => { g with main := false })).tick 0).gnt.main ∧
    ((withGnt State.reset (fun g => { g with main := false })).tick 0).gnt.ka ∧
    !((withGnt State.reset (fun g => { g with main := false, ka := false })).tick 0).gnt.main ∧
    !((withGnt State.reset (fun g => { g with main := false, ka := false })).tick 0).gnt.ka := by decide +kernel

theorem witness_BootPhases_1 : (State.reset.tick 0).phase = 0 ∧ (State.reset.tick 0).railsGood ∧ (State.reset.tick 0).boot.lcRun = none ∧
    !(State.reset.tick 0).gnt.rpDue ∧ !(State.reset.tick 0).journalWaits := by decide +kernel

theorem witness_BootPhases_2 : ∃ s : State, s = ((atPhase 2).fset Fld.RNG_STATUS_inst 0 1).tick 0 ∧ (s.phase = 2 ∨ s.phase = 3) ∧ s.drbgReady 0 ∧
    !s.clearHeld ∧ !s.islandHeld 0x01 ∧ !s.islandHeld 0x02 := ⟨_, rfl, by decide +kernel⟩

theorem witness_BootPhases_3 : ((atPhase 3).tick 0).phase = 3 ∧ !((atPhase 3).tick 0).drbgReady 0 ∧ ((atPhase 4).tick 0).phase = 4 ∧
    !((atPhase 4).tick 0).islandHeld 0x01 := by decide +kernel
/-! ## Witnesses: rings -/

/-- A queue pair of the manager with a valid configuration. -/
def qpSet : State :=
  let i := qpi managerRing 0
  (((up.fset Fld.CMD_SQ_BASE_base i 1).fset Fld.CMD_CQ_BASE_base i 2).fset Fld.CMD_QP_SIZE_sq_log2 i 6).fset Fld.CMD_QP_SIZE_cq_log2 i 6

/-- It runs. -/
def qpOn : State := qpSet.startQp (qpi managerRing 0)

theorem witness_QueuePairEnable_1 : (qpSet.tick 0).ringOpen managerRing 0 none ∧
    (qpSet.tick 0).flag Fld.CMD_QP_STATUS_running (qpi managerRing 0) = false ∧
    (qpSet.tick 0).flag Fld.CMD_QP_CTRL_stop (qpi managerRing 0) = false ∧ (qpSet.tick 0).qpConfigOk managerRing 0 := by decide +kernel

theorem witness_QueuePairEnable_2 : (bound.tick 0).ringOpen 5 7 (some 0x100) ∧
    (bound.tick 0).flag Fld.CMD_QP_STATUS_running (qpi 5 7) = false ∧
    (bound.tick 0).flag Fld.CMD_QP_CTRL_stop (qpi 5 7) = false ∧ (bound.tick 0).qpConfigOk 5 7 = false := by decide +kernel

theorem witness_QueuePairControls : (qpOn.tick 0).ringOpen managerRing 0 none ∧
    (qpOn.tick 0).flag Fld.CMD_QP_STATUS_running (qpi managerRing 0) ∧
    (qpSet.tick 0).ringOpen managerRing 0 none ∧ (qpSet.tick 0).flag Fld.CMD_QP_STATUS_running (qpi managerRing 0) = false := by
  decide +kernel

theorem witness_QueuePairStop_1 : (qpOn.tick 0).ringOpen managerRing 0 none ∧
    (qpOn.tick 0).flag Fld.CMD_QP_STATUS_running (qpi managerRing 0) ∧
    (qpOn.tick 0).flag Fld.CMD_QP_CTRL_stop (qpi managerRing 0) = false := by decide +kernel

theorem witness_QueuePairStop_2 :
    ((qpOn.fset Fld.CMD_QP_CTRL_stop (qpi managerRing 0) 1).tick 0).stopEnded managerRing 0 := by decide +kernel

theorem witness_Doorbells : (qpOn.tick 0).ringOpen managerRing 0 none ∧
    63 < 2 ^ (qpOn.tick 0).fget Fld.CMD_QP_SIZE_sq_log2 (qpi managerRing 0) ∧
    2 ^ (qpOn.tick 0).fget Fld.CMD_QP_SIZE_sq_log2 (qpi managerRing 0) ≤ 64 := by decide +kernel

theorem witness_SlicePage_1 : (bound.tick 0).pageOpen 4095 (some 0x100) = false ∧ (bound.tick 0).pageOpen 5 (some 0x101) = false ∧
    bound.pageOpen 5 (some 0x100) := by decide +kernel

theorem witness_Fetch_1 : ∃ s : State, s = (qpOn.fset Fld.CMD_SQ_TAIL_tail (qpi managerRing 0) 1).tick 0 ∧
    s.flag Fld.CMD_QP_STATUS_running (qpi managerRing 0) ∧ s.flag Fld.HLU_LINK_up 0 ∧
    s.islandHeld 0 = false ∧ s.flag Fld.CMD_QP_CTRL_stop (qpi managerRing 0) = false ∧
    s.fget Fld.CMD_SQ_HEAD_head (qpi managerRing 0) ≠ s.fget Fld.CMD_SQ_TAIL_tail (qpi managerRing 0) ∧
    (s.qpPackets managerRing 0).length + s.cqUsed (qpi managerRing 0) + 1 < 2 ^ s.fget Fld.CMD_QP_SIZE_cq_log2 (qpi managerRing 0) :=
  ⟨_, rfl, by decide +kernel⟩

theorem witness_Fetch_2 : ∃ s : State, s = (qpOn.fset Fld.CMD_CQ_TAIL_tail (qpi managerRing 0) 63).tick 0 ∧
    2 ^ s.fget Fld.CMD_QP_SIZE_cq_log2 (qpi managerRing 0) ≤ (s.qpPackets managerRing 0).length + s.cqUsed (qpi managerRing 0) + 1 :=
  ⟨_, rfl, by decide +kernel⟩

theorem witness_Fetch_3 : ∃ (e : Bytes) (p : Packet), qpOn.booted ∧ qpOn.cmd.fetching.get? (qpi managerRing 0) = none ∧
    bit (field (fitLen 64 e) 2 2) 0 = false ∧ p = mkPacket managerRing 0 (qpOn.fget Fld.CMD_SQ_HEAD_head (qpi managerRing 0)) qpOn.now e none ∧
    p.decodes := ⟨entryOf 0x0803 0 0 [] 0 10660, _, by decide +kernel, by decide +kernel, by decide +kernel, rfl, by decide +kernel⟩

/-- The packet waits in a phase, with a DRBG instance ready, at 1 s. -/
def inPhase (ph : PktPhase) : State :=
  let s := (bound.fset Fld.RNG_STATUS_inst 0 15)
  { withPkt s { pktOf 5 (entryOf 0x0101 0 0 [1, 1] 0 256) with phase := ph } with now := 1000000000 }

theorem witness_PacketTimers_1 : ∃ p : Packet, ((inPhase (.held 0)).tick 0).cmd.packets.get? 0 = some p ∧ p.phase = .held 0 ∧
    0 + 250000000 ≤ ((inPhase (.held 0)).tick 0).now := ⟨_, rfl, by decide +kernel⟩

theorem witness_PacketTimers_4 : ∃ p : Packet, ((inPhase (.held 900000000)).tick 0).cmd.packets.get? 0 = some p ∧ p.phase = .held 900000000 ∧
    ((inPhase (.held 900000000)).tick 0).randomReady p ∧ ((inPhase (.held 900000000)).tick 0).now < 900000000 + 250000000 :=
  ⟨_, rfl, by decide +kernel⟩

theorem witness_PacketTimers_2 : ∃ p : Packet, ((inPhase .unknownOp).tick 0).cmd.packets.get? 0 = some p ∧ p.phase = .unknownOp ∧
    p.fetched + 2000 ≤ ((inPhase .unknownOp).tick 0).now ∧ ((inPhase .unknownOp).tick 0).caravanTurn 0 p := ⟨_, rfl, by decide +kernel⟩

theorem witness_PacketTimers_3 : ∃ (s : State) (w : IrqWait), (s.tick 0).cmd.irq.get? (qpi 5 0) = some w ∧
    (s.tick 0).flag Fld.CMD_QP_IRQ_ien (qpi 5 0) ∧ (s.tick 0).fget Fld.CMD_QP_IRQ_delay (qpi 5 0) ≠ 0 ∧
    w.since + 1000 * (s.tick 0).fget Fld.CMD_QP_IRQ_delay (qpi 5 0) ≤ (s.tick 0).now :=
  ⟨{ (bound.fset Fld.CMD_QP_IRQ_ien 40 1).fset Fld.CMD_QP_IRQ_delay 40 4 with
    now := 5000, cmd := { bound.cmd with irq := ⟨[(40, ⟨1, 0⟩)]⟩ } }, _, rfl, by decide +kernel⟩

/-! ## Witnesses: packets and keys -/

theorem witness_PacketStart_1 : ((one 0x0803 0 0 [] 0 10660).startable 0x0803 0 (dataOf [] [])).isSome ∧ (one 0x0803 0 0 [] 0 10660).booted ∧
    ((withPkt State.reset (pktOf 5 (entryOf 0x0803 0 0 [] 0 10660))).startable 0x0803 0 (dataOf [] [])).isSome ∧
    (withPkt State.reset (pktOf 5 (entryOf 0x0803 0 0 [] 0 10660))).booted = false := by decide +kernel

theorem witness_PacketStart_3 : ∃ (t : State) (p : Packet), ((one 0x0803 0 0 [] 0 10660).tick 0).Starts 0x0803 0
    { dataOf [] [] with outFail := some 16 } t p ∧ p.refusesOut (zeros 10660) = some 16 := by
  refine ⟨_, _, begins (p := pktOf 5 (entryOf 0x0803 0 0 [] 0 10660)) rfl rfl rfl (by decide +kernel), by decide +kernel⟩

theorem witness_PacketStart_2 : Meets (one 0x0803 0 0 [] 0 10660) 0x0803 (dataOf [] []) (fun t p =>
    ok (t.handles 0 p) ∧ p.areasOk ioOut ∧ p.inlineFrom 0 ∧ p.inTotal = 0 ∧ p.fits 10660) := meets rfl (by decide +kernel)

/-! ## Witnesses: packets with a key -/

/-- The key handle in an entry. -/
theorem entry_khandle0 (opc flags h0 : Nat) (params : Bytes) (inLen outLen : Nat) (h : h0 < 2 ^ 64) :
    field (entryOf opc flags h0 params inLen outLen) 8 8 = h0 := by
  have e : slice (entryOf opc flags h0 params inLen outLen) 8 8 = natLE 8 h0 := rfl
  unfold field
  rw [e, leNat_natLE]
  exact Nat.mod_eq_of_lt h

/-- A policy block of one officer, approvals M, a quorum mask, a lifetime of 60 s, an officer's public key digest. -/
def policyB (m mask : Nat) (digest : Bytes) : Bytes :=
  natLE 1 1 ++ natLE 1 1 ++ natLE 1 m ++ natLE 1 0 ++ natLE 2 mask ++ natLE 2 0 ++ natLE 4 60 ++ zeros 4 ++ zeros 16 ++ zeros 32 ++
  (natLE 1 2 ++ zeros 15 ++ digest)

/-- The vault root of slice 5, in line 8300, with a policy block. -/
def rootRec (block : Bytes) : KeyRec := { rootRecord 5 (zeros 16) block with copy := ⟨[8300, 8301, 8302, 8303, 8304, 8305], zeros 32, zeros 32⟩ }

/-- The policy block of most tests. -/
def policy0 : Bytes := policyB 0 0x28 (zeros 48)

/-- Slice 5 with a vault: its root is loaded, its seal counter is 3, the seed is valid. -/
def vaulted : State :=
  let s := (bound.fset Fld.KS_STATUS_seed_valid 0 1).fset Fld.KS_STATUS_ready 0 1
  let s := { s with bb := { s.bb with vaults := ⟨[(5, 2 ^ 23 + 3)]⟩ }, boot := { s.boot with mr := ⟨[(2, zeros 48)]⟩ } }
  { s with ks := { s.ks with recs := ⟨[(8300, rootRec policy0)]⟩ } }

/-- Slice 5 with a vault and one key, in line 8192. -/
def keyed (r : KeyRec) : State := { vaulted with ks := { vaulted.ks with recs := ⟨[(8192, r), (8300, rootRec policy0)]⟩ } }

/-- One fetched packet of slice 5 with a vault, number 0. -/
def inVault (opc flags : Nat) (params : Bytes) (inLen outLen : Nat) : State :=
  withPkt vaulted (pktOf 5 (entryOf opc flags 0 params inLen outLen))

/-- A token without approvals (R145), and the parameter field of a packet that points to it. -/
def nullToken : Bytes := natLE 4 1 ++ zeros 12

def tokenAt : Bytes := natLE 8 0x500000 ++ natLE 4 16 ++ zeros 4

/-- The packet that names the key. -/
def keyPkt (r : KeyRec) (opc flags : Nat) (params : Bytes) (inLen outLen : Nat) : Packet :=
  pktOf 5 (entryOf opc flags ((keyed r).handleOf r.slice r.cls 8192) params inLen outLen)

/-- Its state. -/
def oneKey (r : KeyRec) (opc flags : Nat) (params : Bytes) (inLen outLen : Nat) : State :=
  withPkt (keyed r) (keyPkt r opc flags params inLen outLen)

/-- What the check of a key needs of the packet and the state. -/
def keyForm (t : State) (p : Packet) (o : OpInfo) (cls : Nat) : Bool :=
  decide (opInfo p.opcode = some o) && o.key != .unused && o.key.permits cls && !p.manager && !p.prevkey && p.khandle1 == 0 && p.ring == 5 &&
    !t.wiping && t.cmd.deferred.isEmpty

/-- Packet 0 starts with its key, and a test holds of the state and the packet then. -/
def WithKey (s : State) (r : KeyRec) (opc : Nat) (d : PktData) (o : OpInfo) (c : State → Packet → Prop) : Prop :=
  ∃ (t : State) (p : Packet), (s.tick 0).Serves opc 0 d t p ∧
    t.keyOf 0 p = .ok (r.key 8192) ∧ t.firstHandle 0 p = some (t.handleOf 5 r.cls 8192) ∧
    t.checkHandles p o.key (t.handleOf 5 r.cls 8192) = .ok (some (r.key 8192)) ∧
    t.resolve (t.handleOf 5 r.cls 8192) = some (r.key 8192) ∧ t.ks = s.ks ∧ c t p

/-- What the check of a key needs gives that. -/
theorem meetsKey {s : State} {r : KeyRec} {opc flags : Nat} {params : Bytes} {inLen outLen : Nat} {d : PktData} {o : OpInfo}
    {c : State → Packet → Prop} (hp : s.cmd.packets.get? 0 = some (keyPkt r opc flags params inLen outLen))
    (hk : s.ks = (keyed r).ks) (hs : r.slice = 5 ∧ r.cls < 16 ∧ 1 ≤ r.cls ∧ r.typ ≠ 0x70)
    (h1 : d.outFail = none ∧ (s.startable opc 0 d).isSome = true ∧ s.booted = true ∧
      s.turn 0 (given d (keyPkt r opc flags params inLen outLen)) false = true)
    (h2 : keyForm (taken s d (keyPkt r opc flags params inLen outLen)) (begun s d (keyPkt r opc flags params inLen outLen)) o r.cls = true ∧
      c (taken s d (keyPkt r opc flags params inLen outLen)) (begun s d (keyPkt r opc flags params inLen outLen))) :
    WithKey s r opc d o c := by
  obtain ⟨h5, h16, hc1, h70⟩ := hs
  obtain ⟨hf, h2⟩ := h2
  have hks : (taken s d (keyPkt r opc flags params inLen outLen)).ks = s.ks := State.take_ks _ _ _
  have hst := begins (s := s) (p := keyPkt r opc flags params inLen outLen) (d := d) hp rfl rfl h1.2
  generalize taken s d (keyPkt r opc flags params inLen outLen) = t at *
  have hg := t.lineGen_lt 8192
  have hh : t.handleOf 5 r.cls 8192 = (keyed r).handleOf r.slice r.cls 8192 := by
    unfold State.handleOf State.lineGen; rw [hks, hk, h5]
  have hres : t.resolve (t.handleOf 5 r.cls 8192) = some (r.key 8192) := by
    have e := t.resolve_handleOf 8192 r (by rw [hks, hk]; rfl) h70 (by decide) h16 (by omega)
    rwa [h5] at e
  have hkh : (begun s d (keyPkt r opc flags params inLen outLen)).khandle0 = t.handleOf 5 r.cls 8192 := by
    rw [hh]
    exact entry_khandle0 _ _ _ _ _ _ (mkHandle_lt _ _ _ _ (by decide) h16 ((keyed r).lineGen_lt 8192) (by omega))
  simp only [keyForm, Bool.and_eq_true, decide_eq_true_eq, Bool.not_eq_true', bne_iff_ne, beq_iff_eq, List.isEmpty_iff] at hf
  obtain ⟨⟨⟨⟨⟨⟨⟨⟨ho, hu⟩, hp⟩, hm⟩, hv⟩, hk1⟩, hr⟩, hw⟩, hd⟩ := hf
  have hck : ∀ q : Packet, q.manager = false → q.khandle1 = 0 → q.ring = 5 →
      t.checkHandles q o.key (t.handleOf 5 r.cls 8192) = .ok (some (r.key 8192)) := by
    intro q hm hk1 hr
    refine t.checkHandles_ok q o.key _ _ hm hk1 hu ?_ ?_ ?_ hw hres ?_
    · unfold State.handleOf mkHandle; omega
    · rw [hr]; exact hSlice_mkHandle _ _ _ _ (by decide) h16 hg (by decide)
    · unfold State.handleOf; rw [hClass_mkHandle _ _ _ _ (by decide) h16]; exact hp
    · unfold State.unloading; rw [hd]; rfl
  refine ⟨t, _, ⟨hst, h1.1⟩, t.keyOf_ok 0 _ o _ ho hv ?_, ?_, hck _ hm hk1 hr, hres, hks, h2⟩
  · rw [hkh]; exact hck _ hm hk1 hr
  · unfold State.firstHandle; rw [hv, hkh]; rfl
/-! ## Witnesses: keys -/

/-- A traffic key, and an asymmetric or custody key, of slice 5. -/
def trafficKey (typ usage : Nat) : KeyRec := ⟨5, 1, typ, usage, 0, 9, zeros 16, 1, 0, ⟨[8192, 8193], zeros 64, zeros 64⟩, none, []⟩

def asymKey (cls typ usage pub : Nat) : KeyRec := ⟨5, cls, typ, usage, 0, 9, zeros 16, 1, 0, ⟨[8192, 8193, 8194], zeros 64, zeros 64⟩, none, zeros pub⟩

theorem witness_KeyReadouts_1 : WithKey (oneKey (trafficKey 0x06 0x80) 0x0109 0 [] 0 64) (trafficKey 0x06 0x80) 0x0109 (dataOf [] []) ⟨true, false, .anyKey, .no⟩
    (fun _ p => p.areasOk ioOut ∧ p.inlineFrom 0 ∧ p.fits 64) := meetsKey rfl rfl (by decide +kernel) (by decide +kernel) (by decide +kernel)

theorem witness_KeyReadouts_2 : WithKey (oneKey (asymKey 3 0x10 4 64) 0x0104 0 [] 0 65) (asymKey 3 0x10 4 64) 0x0104 (dataOf [] []) ⟨true, false, .asymCustody, .no⟩
    (fun _ p => p.areasOk ioOut ∧ p.inlineFrom 0 ∧ (zeros 64 != []) ∧ p.fits (pubForm 0x10 (zeros 64) 0).length) :=
  meetsKey rfl rfl (by decide +kernel) (by decide +kernel) (by decide +kernel)

theorem witness_KeyUnload_1 : WithKey (oneKey (trafficKey 0x06 0x80) 0x0103 0 [] 0 0) (trafficKey 0x06 0x80) 0x0103 (dataOf [] [])
    ⟨true, false, .anyKey, .no⟩ (fun t p => p.inlineFrom 0 ∧ ∀ h : Nat, t.references 0 h = false) :=
  meetsKey rfl rfl (by decide +kernel) (by decide +kernel) ⟨by decide +kernel, by decide +kernel, fun h => by unfold taken; rw [State.references_take _ _ _ _ rfl]; rfl⟩

/-- The key unload waits behind a packet that uses the key. -/
def unloadBusy : State :=
  let s := oneKey (trafficKey 0x06 0x80) 0x0103 0 [] 0 0
  let q := pktOf 6 (entryOf 0x0201 0 0 [] 0 0)
  { s with cmd := { s.cmd with packets := s.cmd.packets.insert 1 { q with phase := .cluster, keys := [s.handleOf 5 1 8192] } } }

/-- A handle depends on the key store alone. -/
theorem handleOf_ks (s t : State) (sl c l : Nat) (h : s.ks = t.ks) : s.handleOf sl c l = t.handleOf sl c l := by
  unfold State.handleOf State.lineGen; rw [h]

theorem witness_KeyUnload_2 : WithKey unloadBusy (trafficKey 0x06 0x80) 0x0103 (dataOf [] []) ⟨true, false, .anyKey, .no⟩
    (fun t p => p.inlineFrom 0 ∧ t.references 0 (unloadBusy.handleOf 5 1 8192)) :=
  meetsKey rfl rfl (by decide +kernel) (by decide +kernel) ⟨by decide +kernel, by decide +kernel, by
    unfold taken
    rw [State.references_take _ _ _ _ rfl]
    simp [State.references, unloadBusy, NMap.any, NMap.insert, oneKey, withPkt, cellsInsert]
    exact ⟨by decide, handleOf_ks _ _ _ _ _ rfl⟩⟩

theorem witness_KeyCreation_generate : Meets (inVault 0x0101 0 [1, 0x06, 0x80, 0] 0 128) 0x0101 (dataOf [] []) (fun t p =>
    (p.par 0 0 = clsTraffic ∧ ok (t.handles 0 p) ∧ t.wiping = false ∧ t.quotaOk p.ring (p.par 1 1) ∧ p.areasOk ioOut ∧ p.inlineFrom 4 ∧
    keyType (p.par 1 1) = some ⟨[1], 32, 0⟩ ∧ usageOk (p.par 1 1) clsTraffic (p.par 2 3) ∧
    t.vaultOf p.ring = some (8300, zeros 32, policy0)) ∧
    (∃ k : NewKey, k = ⟨clsTraffic, p.par 1 1, 1, p.par 2 3, leNat (p.random 0 8), 0, 0, p.random 2 32, []⟩ ∧
      p.fits (96 + k.secret.length + k.pub.length) ∧
      ∃ (h : Nat) (w : State), t.enterKey p.ring (t.vaultId p.ring) k = some (h, w))) :=
  meets rfl ⟨by decide +kernel, by decide +kernel, by decide +kernel, _, rfl, by
    rw [show ∀ b : Packet, (b.random 2 32).length = 32 from fun _ => fitLen_length _ _]; decide +kernel,
    State.enterKey_some _ _ _ _ 2 (by rw [show ∀ b : Packet, (b.random 2 32).length = 32 from fun _ => fitLen_length _ _]; rfl) (by decide +kernel)⟩

theorem witness_KeyCreation_derive : WithKey (oneKey (trafficKey 0x06 0x80) 0x0105 0 [1, 1, 0x80, 0, 0x06] 4 128) (trafficKey 0x06 0x80) 0x0105
    (dataOf [] [1, 2, 3, 4]) ⟨true, false, .trafficCustody, .yes⟩ (fun t p =>
    (bit (trafficKey 0x06 0x80).usage useDerive ∧ p.par 1 1 = clsTraffic ∧ t.wiping = false ∧ t.quotaOk p.ring (p.par 4 4) ∧
    p.areasOk ioBoth ∧ p.inlineFrom 5 ∧ p.inTotal ≤ 65535 ∧ keyType (p.par 4 4) = some ⟨[1], 32, 0⟩ ∧
    usageOk (p.par 4 4) (p.par 1 1) (p.par 2 3) ∧ t.oneRoot p.ring (p.par 4 4) ∧ t.vaultOf p.ring = some (8300, zeros 32, policy0)) ∧
    (∃ (secret : Bytes) (k : NewKey), derive (p.par 0 0) ((trafficKey 0x06 0x80).key 8192).secret p.input 32 = some secret ∧
      k = ⟨p.par 1 1, p.par 4 4, 2, p.par 2 3, leNat (p.random 0 8), 9, 0, secret, []⟩ ∧ p.fits (96 + k.secret.length + k.pub.length) ∧
      ∃ (h : Nat) (w : State), t.enterKey p.ring (t.vaultId p.ring) k = some (h, w))) :=
  meetsKey rfl rfl (by decide +kernel) (by decide +kernel) ⟨by decide +kernel, by decide +kernel, _, _, rfl, rfl,
    by dsimp only; rw [fitLen_length]; decide +kernel,
    State.enterKey_some _ _ _ _ 2 (by dsimp only; rw [fitLen_length]; rfl) (by decide +kernel)⟩

/-- A mitten of a traffic key under the vault root of slice 5. -/
def mitten0 : Bytes := mkMitten (zeros 32) (attrHeader 1 6 1 0x80 9 (zeros 16) 0 32 0 0) (zeros 12) (zeros 32) []

theorem mitten0_length : mitten0.length = 128 := by
  simp [mitten0, mkMitten, attrHeader]

/-- The state in which the mitten is loaded. -/
def loading : State := inVault 0x0102 0 [] 128 0

theorem witness_KeyCreation_load : Meets loading 0x0102 (dataOf [] mitten0) (fun t p =>
    (ok (t.handles 0 p) ∧ p.areasOk ioIn ∧ field p.input 0 1 = 1 ∧ t.wiping = false ∧ t.quotaOk p.ring (field p.input 2 1) ∧ p.inlineFrom 0 ∧
    t.vaultOf p.ring = some (8300, zeros 32, policy0) ∧ t.oneRoot p.ring (field p.input 2 1)) ∧
    openMitten (zeros 32) policy0 (t.vaultId p.ring) p.input = some (zeros 32, []) ∧
    ∃ (l : Nat) (w : State), t.addRecord (recOfHeader p.ring (p.input.take 64) []) (zeros 32) = some (l, w)) := by
  have e : (begun loading (dataOf [] mitten0) (pktOf 5 (entryOf 0x0102 0 0 [] 128 0))).input = mitten0 :=
    fitLen_of_length 128 mitten0 mitten0_length
  refine meets (p := pktOf 5 (entryOf 0x0102 0 0 [] 128 0)) rfl ⟨by decide +kernel, by decide +kernel, by decide +kernel, ?_,
    State.addRecord_some _ _ _ (by decide +kernel) (by decide +kernel)⟩
  have v : (taken loading (dataOf [] mitten0) (pktOf 5 (entryOf 0x0102 0 0 [] 128 0))).vaultId
    (begun loading (dataOf [] mitten0) (pktOf 5 (entryOf 0x0102 0 0 [] 128 0))).ring = zeros 16 := by decide +kernel
  rw [e, v]
  exact openMitten_mkMitten (zeros 32) policy0 (zeros 16) _ _ _ _ (by decide +kernel) (by decide +kernel) (by decide +kernel)
    (by decide +kernel) (by decide +kernel) (by decide +kernel)

/-- The compatibility root of slice 5, in line 8192. -/
def evxRoot : KeyRec := ⟨5, 2, 0x7F, 0x400, 0, 9, zeros 16, 1, 0, ⟨[8192, 8193], zeros 32, zeros 32⟩, none, []⟩

/-- An EVX-7200 record up to its tag, and whole. -/
def evxHead : Bytes := natLE 4 0x7203 ++ [2, 1] ++ natLE 2 0x80 ++ zeros 160

def evxRecord : Bytes := evxHead ++ fitLen 8 (Config.prim .hmacSha256 [zeros 32, evxHead])

/-- Region 0 has 4,096 lines in a locked configuration. -/
def evxLoading : State :=
  let s := ((keyed evxRoot).fset Fld.KS_COMPAT_CFG_base 0 2).fset Fld.KS_COMPAT_CFG_size 0 1
  withPkt ((s.fset Fld.KS_COMPAT_CFG_enable 0 1).fset Fld.KS_COMPAT_LOCK_lock 0 1) (pktOf 5 (entryOf 0x0102 0 0 [] 176 0))

theorem freeSlotLine_some (s : State) (h : (s.slotLines.find? s.slotFree).isSome = true) : ∃ l : Nat, s.freeSlotLine = some l := by
  unfold State.freeSlotLine
  dsimp only
  split
  · exact ⟨_, rfl⟩
  · exact Option.isSome_iff_exists.mp h

/-- The unwrapping of a compatibility record is an outside standard's, left open: where it accepts the record, and gives a key field whose unused octets are zero, the loading statement's premises hold. -/
theorem witness_KeyCreation_compat (ha : Config.accepts .evxUnwrap [zeros 32, slice evxHead 0x10 56] = true)
    (hz : allZero ((fitLen 48 (Config.prim .evxUnwrap [zeros 32, slice evxHead 0x10 56])).drop 32) = true) :
    Meets evxLoading 0x0102 (dataOf [] evxRecord) (fun t p =>
      (ok (t.handles 0 p) ∧ p.areasOk ioIn ∧ field p.input 0 1 = 3 ∧ t.wiping = false ∧ t.mirrors p.ring = false ∧ t.kcFits p.ring 4 ∧
      p.inlineFrom 0 ∧ t.compatRoot p.ring = some evxRoot ∧ evxRoot.copy.secret.take 32 = zeros 32) ∧
      (∃ l : Nat, t.freeSlotLine = some l) ∧ p.input.length = 176 ∧
      fitLen 8 (Config.prim .hmacSha256 [zeros 32, p.input.take 0xA8]) = slice p.input 0xA8 8 ∧
      Config.accepts .evxUnwrap [zeros 32, slice p.input 0x10 56] ∧
      evxOk p.input (fitLen 48 (Config.prim .evxUnwrap [zeros 32, slice p.input 0x10 56]))) := by
  have hl : evxRecord.length = 176 := by simp [evxRecord, evxHead]
  have e : (begun evxLoading (dataOf [] evxRecord) (pktOf 5 (entryOf 0x0102 0 0 [] 176 0))).input = evxRecord :=
    fitLen_of_length 176 evxRecord hl
  have h16 : slice evxRecord 0x10 56 = slice evxHead 0x10 56 := slice_append_of_le _ _ _ _ (by decide +kernel)
  refine meets (p := pktOf 5 (entryOf 0x0102 0 0 [] 176 0)) rfl ⟨by decide +kernel, by decide +kernel, by decide +kernel,
    freeSlotLine_some _ (by decide +kernel), ?_, ?_, ?_, ?_⟩
  · rw [e, hl]
  · rw [e]
    have h1 : evxRecord.take 0xA8 = evxHead := List.take_left' (by decide +kernel)
    have h2 : slice evxRecord 0xA8 8 = fitLen 8 (Config.prim .hmacSha256 [zeros 32, evxHead]) := by
      unfold evxRecord
      rw [slice_append_of_ge _ _ _ _ (by decide +kernel), show 0xA8 - evxHead.length = 0 by decide +kernel]
      exact slice_all _ _ (fitLen_length _ _)
    rw [h1, h2]
  · rw [e, h16]; exact ha
  · rw [e, h16]
    have hk : ∀ kf : Bytes, evxOk evxRecord kf = allZero (kf.drop 32) := by
      intro kf
      have h : (field evxRecord 4 1 = 2 ∧ field evxRecord 5 1 = 1 ∧ field evxRecord 0 4 = 0x7203 ∧ field evxRecord 6 2 = 0x80) ∧
        allZero (slice evxRecord 0x48 96) := by decide +kernel
      obtain ⟨⟨h1, h2, h3, h4⟩, h5⟩ := h
      unfold evxOk
      rw [h1, h2, h3, h4]
      simp [compatType, keyType, usageOk, usageMask, h5]
    rw [hk]; exact hz
/-! ## Witnesses: quorums and vaults -/

/-- A null token passes where the policy asks for no approval (R146). -/
theorem vaultQuorum_null (s : State) (sl cls : Nat) (must : Bool) (block digest t : Bytes) (aps : List (Bytes × Bytes))
    (h : tokenOk t (field block 1 1) = true ∧ tokenA t = 0 ∧ (if must || bit (field block 4 2) cls then field block 2 1 else 0) = 0) :
    s.vaultQuorum sl cls must block digest t aps = some (s, 0, none) := by
  obtain ⟨h1, h2, h3⟩ := h
  unfold State.vaultQuorum
  simp only [h1, h2, h3]
  rfl

/-- A changed policy block is sealed anew, within the room for it. -/
theorem reissue_fits (s : State) (line sl : Nat) (root block : Bytes) (p : Packet)
    (h : (s.reissue line sl root block).isSome = true ∧ p.fits (144 + block.length) = true) :
    ∃ (w : State) (new : Bytes), s.reissue line sl root block = some (w, new) ∧ p.fits new.length = true := by
  obtain ⟨⟨w, new⟩, e⟩ := Option.isSome_iff_exists.mp h.1
  exact ⟨w, new, e, by rw [s.reissue_length _ _ _ _ _ _ e]; exact h.2⟩

/-- The validation of a recipient's key is an outside standard's, left open. -/
theorem witness_KeyQuorum_export (hk : Config.accepts .mlKem1024Encaps [zeros 1568] = true) (he : Config.accepts .ecdhP384 [zeros 97] = true) :
    WithKey (oneKey (asymKey 3 0x10 0x404 64) 0x0106 2 tokenAt 1665 6635) (asymKey 3 0x10 0x404 64) 0x0106 (dataOf nullToken (zeros 1665))
      ⟨true, false, .asymCustody, .yes⟩ (fun t p =>
      (p.areasOk ioBoth ∧ p.inTotal = 1665 ∧ t.vaultOf p.ring = some (8300, zeros 32, policy0) ∧
      ((asymKey 3 0x10 0x404 64).key 8192).compat = false ∧ bit ((asymKey 3 0x10 0x404 64).key 8192).usage useExport ∧
      p.fits (6539 + (32 + 64))) ∧ (∀ digest : Bytes, t.vaultQuorum p.ring qExport false policy0 digest p.block p.data.approvals = some (t, 0, none)) ∧
      recipientOk p.input) :=
  meetsKey rfl rfl (by decide +kernel) (by decide +kernel) ⟨by decide +kernel, by decide +kernel,
    fun _ => vaultQuorum_null _ _ _ _ _ _ _ _ (by decide +kernel), by
    have e : (begun (oneKey (asymKey 3 0x10 0x404 64) 0x0106 2 tokenAt 1665 6635) (dataOf nullToken (zeros 1665))
      (keyPkt (asymKey 3 0x10 0x404 64) 0x0106 2 tokenAt 1665 6635)).input = zeros 1665 := fitLen_of_length 1665 _ (zeros_length _)
    rw [e]
    unfold recipientOk
    have h1 : (zeros 1665).take 1568 = zeros 1568 := by decide +kernel
    have h2 : (zeros 1665).drop 1568 = zeros 97 := by decide +kernel
    rw [h1, h2, hk, he, zeros_length]
    rfl⟩

theorem witness_KeyQuorum_delete : WithKey (oneKey (trafficKey 0x06 0x80) 0x0108 2 tokenAt 0 280) (trafficKey 0x06 0x80) 0x0108 (dataOf nullToken [])
    ⟨true, false, .anyKey, .no⟩ (fun t p =>
    (t.vaultOf p.ring = some (8300, zeros 32, policy0) ∧ t.sealing = false ∧ field policy0 6 2 < maxDeleted policy0 ∧ t.seedValid ∧ p.areasOk ioOut) ∧
    (∀ digest : Bytes, t.vaultQuorum p.ring qDelete false policy0 digest p.block p.data.approvals = some (t, 0, none)) ∧
    ∃ (w : State) (new : Bytes), t.reissue 8300 p.ring (zeros 32) (addDeleted policy0 9) = some (w, new) ∧ p.fits new.length) :=
  meetsKey rfl rfl (by decide +kernel) (by decide +kernel) ⟨by decide +kernel, by decide +kernel,
    fun _ => vaultQuorum_null _ _ _ _ _ _ _ _ (by decide +kernel), reissue_fits _ _ _ _ _ _ (by decide +kernel)⟩
/-- A token with one approval, by officer 0 with Ed25519, for challenge 1 (R145). -/
def oneToken : Bytes := natLE 4 1 ++ natLE 2 1 ++ natLE 2 0 ++ natLE 8 1 ++
  (natLE 1 0 ++ natLE 1 2 ++ natLE 2 0 ++ natLE 4 32 ++ natLE 8 0x500100 ++ natLE 4 64 ++ zeros 12)

/-- The policy block whose officer has the public key of 32 zero octets. -/
def policy1 : Bytes := policyB 1 0x28 (sha384 (zeros 32))

/-- Challenge 1 of slice 5, over a digest. -/
def challenge1 (cls : Nat) (digest : Bytes) : Challenge :=
  ⟨1, 5, cls, 3, 0, 60000000000, digest, zeros 1832, ⟨zeros 64, zeros 64⟩, []⟩

theorem policy1_digest : slice policy1 0x50 48 = sha384 (zeros 32) := by
  unfold policy1 policyB
  rw [slice_append_of_ge _ _ _ _ (by decide +kernel), slice_append_of_ge _ _ _ _ (by decide +kernel)]
  exact slice_all _ _ (fitLen_length _ _)

/-- The officer's approval passes, where the signature verifies. -/
theorem entries_one (ha : Config.accepts .ed25519 [zeros 32, quorumLabel ++ zeros 1832, zeros 64] = true) :
    entriesOk oneToken policy1 (zeros 1832) [(zeros 32, zeros 64)] = true := by
  have h1 : tokenA oneToken = 1 ∧ field oneToken (0x10 + 32 * 0) 1 = 0 ∧ field oneToken (0x10 + 32 * 0 + 1) 1 = 2 ∧
      field oneToken (0x10 + 32 * 0 + 4) 4 = 32 ∧ field oneToken (0x10 + 32 * 0 + 0x10) 4 = 64 := by decide +kernel
  obtain ⟨a2, a5, a6, a7, a8⟩ := h1
  have b4 : field policy1 (0x40 + 64 * 0) 1 = 2 := by decide +kernel
  unfold entriesOk
  rw [a2]
  simp only [List.range_one, List.all_cons, List.all_nil, Bool.and_true]
  unfold entryOk
  simp only [a5, a6, a7, a8, b4]
  simp only [officerLens, officerVerify, List.getD_cons_zero, zeros_length, ha]
  rw [show 0x40 + 64 * 0 + 0x10 = 0x50 from rfl, policy1_digest]
  simp

/-- One officer approves, where the signature verifies: the challenge ends (R146, R147). -/
theorem vaultQuorum_one (s : State) (cls : Nat) (must : Bool) (digest : Bytes) (h : s.vlt.challenges = [challenge1 cls digest])
    (hs : s.vaultCounter 5 = 3 ∧ s.now < 60000000000)
    (ha : Config.accepts .ed25519 [zeros 32, quorumLabel ++ zeros 1832, zeros 64] = true) :
    s.vaultQuorum 5 cls must policy1 digest oneToken [(zeros 32, zeros 64)] =
      some ((s.endChallenge 1).charge 5 40, 40, some (challenge1 cls digest)) := by
  have h1 : tokenOk oneToken 1 = true ∧ tokenA oneToken = 1 ∧ field oneToken 8 8 = 1 ∧ tokenCharge oneToken = 40 := by decide +kernel
  have h2 : field policy1 1 1 = 1 ∧ field policy1 2 1 = 1 ∧ field policy1 4 2 = 0x28 := by decide +kernel
  obtain ⟨a1, a2, a3, a4⟩ := h1
  obtain ⟨b1, b2, b3⟩ := h2
  have hc : s.tokenChallenge oneToken 5 cls (s.vaultCounter 5) digest = some (challenge1 cls digest) := by
    unfold State.tokenChallenge
    rw [h, hs.1, a3]
    simp [challenge1, Challenge.live, hs.2]
  unfold State.vaultQuorum
  dsimp only
  have e : (!tokenOk oneToken (field policy1 1 1) || decide (tokenA oneToken < if must || bit (field policy1 4 2) cls then field policy1 2 1 else 0)) = false := by
    rw [b1, b2, a1, a2]; split <;> rfl
  rw [e, a2, hc]
  simp only [Bool.false_eq_true, if_false]
  rw [show (challenge1 cls digest).body = zeros 1832 from rfl, entries_one ha, a4]
  rfl

/-- Slice 5 under the policy of one officer, with a live challenge. -/
def asked (cls : Nat) (digest : Bytes) (p : Packet) : State :=
  withPkt { vaulted with ks := { vaulted.ks with recs := ⟨[(8300, rootRec policy1)]⟩ }, vlt := { vaulted.vlt with challenges := [challenge1 cls digest] } } p

/-- The vault of a slice whose root is the cache's only record. -/
theorem vaultOf_only (t : State) (l sl : Nat) (r : KeyRec) (h : t.ks.recs = ⟨[(l, r)]⟩) (hr : r.slice = sl) (ht : r.typ = 0x70) :
    t.vaultOf sl = some (l, r.copy.secret.take 32, r.pub) := by
  unfold State.vaultOf State.rootOf
  rw [h]
  simp [NMap.find?, hr, ht]

theorem vaultOf_asked (cls : Nat) (digest : Bytes) (p : Packet) (d : PktData) :
    (taken (asked cls digest p) d p).vaultOf 5 = some (8300, zeros 32, policy1) :=
  (vaultOf_only _ 8300 5 (rootRec policy1) (by unfold taken; rw [State.take_ks]; rfl) rfl rfl).trans
    (by rw [show (rootRec policy1).copy.secret.take 32 = zeros 32 by decide +kernel]; rfl)

theorem asked_challenges (cls : Nat) (digest : Bytes) (p : Packet) (d : PktData) :
    (taken (asked cls digest p) d p).vlt.challenges = [challenge1 cls digest] := by
  have e := congrArg (fun t : State => t.vlt) ((asked cls digest p).take_frame 0 { p with data := { d with refused := d.refused || p.data.refused } })
  exact congrArg (fun v : VaultUnit => v.challenges) e

/-- The head of a transfer form of a CUSTODY key of type 0x14, and the form. -/
def formHead : Bytes := attrHeader 3 0x14 1 0x10 9 (zeros 16) 0 32 32 0 ++ sha384 (zeros 1665) ++ zeros 16

def form0 : Bytes := transferOf (zeros 64) formHead (zeros 1568) (zeros 97) keyTransferLabel (zeros 64)

def importPkt : Packet := pktOf 5 (entryOf 0x0107 2 0 (natLE 8 0x500000 ++ natLE 4 48) 1880 160)

def importing : State := asked qImport (sha384 form0) importPkt

def importData : PktData := ⟨oneToken, [], [], form0, [(zeros 32, zeros 64)], false, none⟩

/-- The signature check and the point check are outside standards', left open. -/
theorem witness_KeyQuorum_import (ha : Config.accepts .ed25519 [zeros 32, quorumLabel ++ zeros 1832, zeros 64] = true)
    (hp : Config.accepts .ecdhP384 [zeros 97] = true) :
    Meets importing 0x0107 importData (fun t p =>
      (ok (t.handles 0 p) ∧ p.areasOk ioBoth ∧ field p.input 1 1 ≠ clsTraffic ∧
        (field p.input 1 1 = clsCustody ∨ field p.input 1 1 = clsAsym) ∧ (deletedList policy1).contains (field p.input 8 8) = false ∧
        headerOk (p.input.take 64) (t.vaultId p.ring) ∧ field p.input 0x28 2 + field p.input 0x2A 2 = 64 ∧ p.fits (96 + (zeros 64).length)) ∧
      transferOk p.input ∧ t.vaultOf p.ring = some (8300, zeros 32, policy1) ∧
      ∃ u : State, t.vaultQuorum p.ring qImport false policy1 (sha384 p.input) p.block p.data.approvals =
        some (u, 40, some (challenge1 qImport (sha384 form0))) ∧
      (t.wiping = false ∧ u.quotaOk p.ring (field p.input 2 1) ∧ u.oneRoot p.ring (field p.input 2 1)) ∧
      slice p.input 0x40 48 = sha384 (slice (zeros 1832) 0xA0 1665) ∧
      (∃ x : Bytes, openTransfer (challenge1 qImport (sha384 form0)).keys.value p.input keyTransferLabel 64 = some (zeros 64, x)) ∧
      ∀ k : NewKey, k.secret.length = 32 → k.pub.length = 32 → ∃ (h : Nat) (w : State), u.enterKey p.ring (t.vaultId p.ring) k = some (h, w)) := by
  have hh : formHead.length = 0x80 := by simp [formHead, attrHeader, sha384]
  have hl : form0.length = 1880 := by
    unfold form0; rw [transferOf_length _ _ _ _ _ _ hh (zeros_length _) (zeros_length _), zeros_length]
  have hpre : ∀ off n, off + n ≤ 0x708 → slice form0 off n = slice (formHead ++ zeros 1568 ++ zeros 97 ++ zeros 7) off n :=
    fun off n h => transferOf_prefix _ _ _ _ _ _ _ _ hh (zeros_length _) (zeros_length _) h
  have e : (begun importing importData importPkt).input = form0 := fitLen_of_length 1880 _ hl
  refine meets (p := importPkt) rfl ⟨by decide +kernel, by decide +kernel, by decide +kernel, ?_, vaultOf_asked _ _ _ _,
    (((taken importing importData importPkt).endChallenge 1).charge 5 40), ?_, by decide +kernel, ?_, ?_, ?_⟩
  · rw [e]
    have h1 : slice form0 0x70 16 = zeros 16 := by
      rw [hpre _ _ (by decide), List.append_assoc, List.append_assoc, slice_append_of_le _ _ _ _ (by rw [hh])]
      unfold formHead
      rw [slice_append_of_ge _ _ _ _ (by simp [attrHeader, sha384]),
        show 0x70 - (attrHeader 3 0x14 1 0x10 9 (zeros 16) 0 32 32 0 ++ sha384 (zeros 1665)).length = 0 by simp [attrHeader, sha384]]
      decide +kernel
    have h2 : slice form0 0x701 7 = zeros 7 := by
      rw [hpre _ _ (by decide), slice_append_of_ge _ _ _ _ (by simp [hh]),
        show 0x701 - (formHead ++ zeros 1568 ++ zeros 97).length = 0 by simp [hh]]
      decide +kernel
    have h3 : field form0 0x28 2 = 32 ∧ field form0 0x2A 2 = 32 := by decide +kernel
    unfold transferOk
    rw [h1, h2, h3.1, h3.2, hl]
    decide +kernel
  · rw [e]
    have ht : (begun importing importData importPkt).block = oneToken := by decide +kernel
    have hr : (begun importing importData importPkt).ring = 5 := by decide +kernel
    have hd : (begun importing importData importPkt).data.approvals = [(zeros 32, zeros 64)] := by decide +kernel
    rw [ht, hr, hd]
    exact vaultQuorum_one (taken importing importData importPkt) qImport false (sha384 form0)
      (by unfold importing; exact asked_challenges _ _ _ _) (by decide +kernel) ha
  · rw [e, hpre _ _ (by decide), List.append_assoc, List.append_assoc, slice_append_of_le _ _ _ _ (by rw [hh]; decide)]
    unfold formHead
    rw [slice_append_of_le _ _ _ _ (by simp [attrHeader, sha384]), slice_append_of_ge _ _ _ _ (by simp [attrHeader]),
      show 0x40 - (attrHeader 3 0x14 1 0x10 9 (zeros 16) 0 32 32 0).length = 0 by simp [attrHeader],
      show slice (zeros 1832) 0xA0 1665 = zeros 1665 by decide +kernel]
    exact slice_all _ _ (fitLen_length _ _)
  · rw [e, show (challenge1 qImport (sha384 form0)).keys.value = zeros 64 from by show (⟨zeros 64, zeros 64⟩ : Shares).value = zeros 64; decide +kernel]
    exact openTransfer_transferOf (zeros 64) formHead (zeros 1568) (zeros 97) keyTransferLabel (zeros 64) hh (zeros_length _) (zeros_length _) hp
  · intro k h1 h2
    exact State.enterKey_some _ _ _ k 3 (by rw [h1, h2]; decide +kernel) (by decide +kernel)
/-- The seal of an advanced vault counter, with its length. -/
theorem issueSeal_some (s : State) (sl : Nat) (vault root block : Bytes) (u : State) (h : s.vaultAdvance sl true true = some u) :
    ∃ k new : Bytes, s.issueSeal sl vault root block = some (u.hwuLoad k, new) ∧ new.length = 144 + block.length := by
  unfold State.issueSeal
  rw [h]
  exact ⟨_, _, rfl, State.deviceSeal_length _ _ _ _ _ _ _⟩

/-- What the HWU held before matters to no allocation. -/
theorem hwuLoad_lines (s : State) (k : Bytes) (n : Nat) : (s.hwuLoad k).linesOk n [] ((s.hwuLoad k).firstLines (otherBanks []) n) =
    s.linesOk n [] (s.firstLines (otherBanks []) n) := by
  have hf : (s.hwuLoad k).lineFree = s.lineFree := rfl
  have hl : ∀ n i e, (s.hwuLoad k).linesFrom n i e = s.linesFrom n i e := by
    intro n; induction n with
    | zero => intro i e; rfl
    | succ n ih => intro i e; simp only [State.linesFrom, hf, ih]
  have hb : ∀ bs n, (s.hwuLoad k).firstLines bs n = s.firstLines bs n := by
    intro bs; induction bs with
    | nil => intro n; rfl
    | cons b bs ih => intro n; simp only [State.firstLines, hl, ih]
  rw [hb]; unfold State.linesOk; rw [hf]

/-- Slice 5 without a vault, the seed valid; one packet. -/
def bare (p : Packet) : State := withPkt ((bound.fset Fld.KS_STATUS_seed_valid 0 1).fset Fld.KS_STATUS_ready 0 1) p

def createPkt : Packet := pktOf 5 (entryOf 0x0501 0 0 [] 128 272)

theorem witness_Vault_create : Meets (bare createPkt) 0x0501 (dataOf [] (policyB 1 0x28 (zeros 48))) (fun t p =>
    (ok (t.handles 0 p) ∧ p.areasOk ioBoth ∧ p.inlineFrom 0 ∧ policyOk p.input false ∧ allZero (slice p.input 0x10 16) ∧ field p.input 6 2 = 0 ∧
    t.vaultExists p.ring = false ∧ t.rootOf p.ring = none ∧ t.sealing = false ∧ t.wiping = false ∧ t.rootFits p.ring p.input.length ∧ t.seedValid) ∧
    ∃ (block new : Bytes) (u w : State) (l : Nat), block = setVault p.input (p.random 0 16) ∧
      t.issueSeal p.ring (p.random 0 16) (p.random 1 32) block = some (u, new) ∧ p.fits new.length ∧
      u.addRecord (rootRecord p.ring (p.random 0 16) block) (p.random 1 32) = some (l, w)) := by
  refine meets (p := createPkt) rfl ⟨by decide +kernel, by decide +kernel, by decide +kernel, ?_⟩
  have hi : (begun (bare createPkt) (dataOf [] (policyB 1 0x28 (zeros 48))) createPkt).input.length = 128 := by decide +kernel
  have hb : ∀ v : Bytes, (setVault (begun (bare createPkt) (dataOf [] (policyB 1 0x28 (zeros 48))) createPkt).input v).length = 128 := by
    intro v; simp [setVault, hi]
  obtain ⟨u, hu⟩ := Option.isSome_iff_exists.mp (show ((taken (bare createPkt) (dataOf [] (policyB 1 0x28 (zeros 48))) createPkt).vaultAdvance
    (begun (bare createPkt) (dataOf [] (policyB 1 0x28 (zeros 48))) createPkt).ring true true).isSome = true by decide +kernel)
  have hm : u.mirrors 5 = false ∧ u.linesOk 4 [] (u.firstLines (otherBanks []) 4) = true := by
    have e : (match (taken (bare createPkt) (dataOf [] (policyB 1 0x28 (zeros 48))) createPkt).vaultAdvance
      (begun (bare createPkt) (dataOf [] (policyB 1 0x28 (zeros 48))) createPkt).ring true true with
      | some u => decide (u.mirrors 5 = false ∧ u.linesOk 4 [] (u.firstLines (otherBanks []) 4) = true) | none => false) = true := by decide +kernel
    rw [hu] at e
    exact of_decide_eq_true e
  obtain ⟨key, new, hs, hn⟩ := issueSeal_some _ _ ((begun (bare createPkt) (dataOf [] (policyB 1 0x28 (zeros 48))) createPkt).random 0 16)
    ((begun (bare createPkt) (dataOf [] (policyB 1 0x28 (zeros 48))) createPkt).random 1 32)
    (setVault (begun (bare createPkt) (dataOf [] (policyB 1 0x28 (zeros 48))) createPkt).input
      ((begun (bare createPkt) (dataOf [] (policyB 1 0x28 (zeros 48))) createPkt).random 0 16)) u hu
  obtain ⟨l, w, hw⟩ := (u.hwuLoad key).addRecord_some (rootRecord (begun (bare createPkt) (dataOf [] (policyB 1 0x28 (zeros 48))) createPkt).ring
    ((begun (bare createPkt) (dataOf [] (policyB 1 0x28 (zeros 48))) createPkt).random 0 16)
    (setVault (begun (bare createPkt) (dataOf [] (policyB 1 0x28 (zeros 48))) createPkt).input
      ((begun (bare createPkt) (dataOf [] (policyB 1 0x28 (zeros 48))) createPkt).random 0 16)))
    ((begun (bare createPkt) (dataOf [] (policyB 1 0x28 (zeros 48))) createPkt).random 1 32) hm.1
    (by rw [show ∀ b : Packet, (b.random 1 32).length = 32 from fun _ => fitLen_length _ _]; unfold rootRecord; rw [hb, hwuLoad_lines]; exact hm.2)
  exact ⟨_, new, u.hwuLoad key, w, l, rfl, hs, by rw [hn, hb]; decide +kernel, hw⟩

def loadPkt : Packet := pktOf 5 (entryOf 0x0502 0 0 [] 272 0)

/-- Slice 5 has a vault whose root is not loaded. -/
def unloaded : State := withPkt { vaulted with ks := { vaulted.ks with recs := .empty } } loadPkt

/-- The seal of that vault. -/
def seal0 : Bytes := unloaded.deviceSeal 5 3 (zeros 16) (zeros 48) (zeros 32) policy0

theorem witness_Vault_load : Meets unloaded 0x0502 (dataOf [] seal0) (fun t p =>
    (ok (t.handles 0 p) ∧ p.areasOk ioIn ∧ p.inlineFrom 0 ∧ field p.input 0x0C 4 = 144 + field p.input 2 2 ∧ t.rootOf p.ring = none ∧
    t.sealing = false ∧ t.wiping = false ∧ t.rootFits p.ring (field p.input 2 2) ∧ t.seedValid) ∧ p.input.length = 144 + 128 ∧ field p.input 2 2 = 128 ∧
    t.openSeal p.ring p.input = some (zeros 32, policy0) ∧
    ∃ (l : Nat) (w : State), (t.hwuLoad (t.vaultKey p.ring (field p.input 8 4) (slice p.input 0x10 16) (t.mr 2))).addRecord
      (rootRecord p.ring (slice p.input 0x10 16) policy0) (zeros 32) = some (l, w)) := by
  have hl : seal0.length = 272 := by unfold seal0; rw [State.deviceSeal_length]; decide +kernel
  have e : (begun unloaded (dataOf [] seal0) loadPkt).input = seal0 := fitLen_of_length 272 _ hl
  refine meets (p := loadPkt) rfl ⟨by decide +kernel, by decide +kernel, by decide +kernel, by rw [e, hl], by decide +kernel, ?_,
    State.addRecord_some _ _ _ (by decide +kernel) (by rw [hwuLoad_lines]; decide +kernel)⟩
  rw [e]
  have h := (taken unloaded (dataOf [] seal0) loadPkt).openSeal_deviceSeal 5 (zeros 16) (zeros 32) policy0 (zeros_length _) (zeros_length _)
    (by decide +kernel) (by decide) (by decide +kernel) (by decide +kernel) (by decide +kernel) (by decide +kernel) (by decide +kernel)
  have hc : (taken unloaded (dataOf [] seal0) loadPkt).vaultCounter 5 = 3 ∧ (taken unloaded (dataOf [] seal0) loadPkt).mr 2 = zeros 48 ∧
    (taken unloaded (dataOf [] seal0) loadPkt).lc = unloaded.lc ∧ (taken unloaded (dataOf [] seal0) loadPkt).ep = unloaded.ep ∧
    (begun unloaded (dataOf [] seal0) loadPkt).ring = 5 := by decide +kernel
  obtain ⟨c1, c2, c3, c4, c5⟩ := hc
  have hb : (taken unloaded (dataOf [] seal0) loadPkt).bb = unloaded.bb := State.take_bb _ _ _
  have ho : (taken unloaded (dataOf [] seal0) loadPkt).otp = unloaded.otp := State.take_otp _ _ _
  rw [c1, c2] at h
  rw [c5]
  have es : seal0 = (taken unloaded (dataOf [] seal0) loadPkt).deviceSeal 5 3 (zeros 16) (zeros 48) (zeros 32) policy0 := by
    generalize taken unloaded (dataOf [] seal0) loadPkt = t at *
    unfold seal0 State.deviceSeal State.vaultKey State.rootKey State.seed State.otpShare State.lcEp
    rw [c3, c4, hb, ho]
  rw [← es] at h
  exact h
def setPkt : Packet := pktOf 5 (entryOf 0x0503 2 0 (natLE 8 0x500000 ++ natLE 4 48) 128 272)

/-- The new policy block: the officer's key and one approval as before, a longer lifetime of challenges. -/
def policy2 : Bytes := policyB 1 0x28 (zeros 48)

def setting : State := asked qPolicy (sha384 policy2) setPkt

def setData : PktData := ⟨oneToken, [], [], policy2, [(zeros 32, zeros 64)], false, none⟩

/-- The signature check is an outside standard's, left open. -/
theorem witness_Vault_policySet (ha : Config.accepts .ed25519 [zeros 32, quorumLabel ++ zeros 1832, zeros 64] = true) :
    Meets setting 0x0503 setData (fun t p =>
      (ok (t.handles 0 p) ∧ p.areasOk ioBoth ∧ policyOk p.input false ∧ t.wiping = false ∧ policyContinues policy1 p.input) ∧
      t.vaultOf p.ring = some (8300, zeros 32, policy1) ∧
      ∃ u : State, t.vaultQuorum p.ring qPolicy true policy1 (sha384 p.input) p.block p.data.approvals =
        some (u, 40, some (challenge1 qPolicy (sha384 policy2))) ∧ (u.sealing = false ∧ u.seedValid) ∧
      ∃ (w : State) (new : Bytes), u.reissue 8300 p.ring (zeros 32) p.input = some (w, new) ∧ p.fits new.length) := by
  refine meets (p := setPkt) rfl ⟨by decide +kernel, by decide +kernel, by decide +kernel, vaultOf_asked _ _ _ _,
    (((taken setting setData setPkt).endChallenge 1).charge 5 40), ?_, by decide +kernel, reissue_fits _ _ _ _ _ _ (by decide +kernel)⟩
  have h : (begun setting setData setPkt).block = oneToken ∧ (begun setting setData setPkt).ring = 5 ∧
    (begun setting setData setPkt).data.approvals = [(zeros 32, zeros 64)] ∧ (begun setting setData setPkt).input = policy2 := by decide +kernel
  obtain ⟨h1, h2, h3, h4⟩ := h
  rw [h1, h2, h3, h4]
  exact vaultQuorum_one (taken setting setData setPkt) qPolicy true (sha384 policy2) (by unfold setting; exact asked_challenges _ _ _ _)
    (by decide +kernel) ha

theorem witness_Vault_delete : Meets (withPkt vaulted (pktOf 5 (entryOf 0x0504 2 0 tokenAt 0 0))) 0x0504 (dataOf nullToken []) (fun t p =>
    (ok (t.handles 0 p) ∧ p.areasOk ioNone ∧ t.wiping = false ∧ t.vaultOf p.ring = some (8300, zeros 32, policy0) ∧ t.sealing = false ∧
    (t.vaultAdvance p.ring false false).isSome) ∧
    ∀ digest : Bytes, t.vaultQuorum p.ring qDelete false policy0 digest p.block p.data.approvals = some (t, 0, none)) :=
  meets (p := pktOf 5 (entryOf 0x0504 2 0 tokenAt 0 0)) rfl ⟨by decide +kernel, by decide +kernel, by decide +kernel,
    fun _ => vaultQuorum_null _ _ _ _ _ _ _ _ (by decide +kernel)⟩

theorem witness_Challenges_vault : Meets (inVault 0x0505 0 [6] 48 160) 0x0505 (dataOf [] (zeros 48)) (fun t p =>
    ok (t.handles 0 p) ∧ ¬ (p.par 0 0 = qImport ∧ t.importsFull p.ring) ∧ p.areasOk ioBoth ∧ p.inlineFrom 1 ∧ p.par 0 0 ≤ 6 ∧ p.inTotal = 48 ∧
    t.wiping = false ∧ t.vaultOf p.ring = some (8300, zeros 32, policy0) ∧ p.fits (if p.par 0 0 = qImport then 1832 else 160)) := meets rfl (by decide +kernel)

theorem witness_Challenges_import : Meets (inVault 0x0505 0 [1] 48 1832) 0x0505 (dataOf [] (zeros 48)) (fun t p =>
    ok (t.handles 0 p) ∧ ¬ (p.par 0 0 = qImport ∧ t.importsFull p.ring) ∧ p.areasOk ioBoth ∧ p.inlineFrom 1 ∧ p.par 0 0 ≤ 6 ∧ p.inTotal = 48 ∧
    t.wiping = false ∧ t.vaultOf p.ring = some (8300, zeros 32, policy0) ∧ p.fits (if p.par 0 0 = qImport then 1832 else 160)) := meets rfl (by decide +kernel)

/-- The policy block of the device quorum. -/
def dqPolicy : Bytes := policyB 1 0 (zeros 48)

def dqPkt : Packet := pktOf managerRing (entryOf 0x0580 0 0 [0x13] 176 160)

/-- The device quorum's block is programmed in record 0. -/
def dqSet (p : Packet) : State :=
  let s := up.fset Fld.LC_STATE_lc 0 1
  withPkt { s with otp := s.otp.programDq 0 (sha384 dqPolicy) } p

theorem blank_dq : Otp.blank.dqFree 0 = true ∧ (∀ n ∈ [15, 14, 13, 12, 11, 10, 9, 8, 7, 6, 5, 4, 3, 2, 1],
    (Otp.blank.programDq 0 (sha384 dqPolicy)).dqWritten n = false) := by
  decide +kernel

theorem dqSet_otp (p : Packet) (d : PktData) : (taken (dqSet p) d p).otp = Otp.blank.programDq 0 (sha384 dqPolicy) := by
  unfold taken; rw [State.take_otp]; rfl

theorem dqSet_current : (Otp.blank.programDq 0 (sha384 dqPolicy)).dqCurrent = some 0 ∧
    (Otp.blank.programDq 0 (sha384 dqPolicy)).dqDigest 0 = sha384 dqPolicy := by
  have h := Otp.programDq_reads Otp.blank 0 (sha384 dqPolicy) (by decide) blank_dq.1 (fitLen_length _ _)
  refine ⟨?_, h.1⟩
  have hn := blank_dq.2
  unfold Otp.dqCurrent
  rw [show (List.range 16).reverse = [15, 14, 13, 12, 11, 10, 9, 8, 7, 6, 5, 4, 3, 2, 1, 0] by decide]
  simp only [List.find?_cons, hn 15 (by simp), hn 14 (by simp), hn 13 (by simp), hn 12 (by simp), hn 11 (by simp), hn 10 (by simp), hn 9 (by simp),
    hn 8 (by simp), hn 7 (by simp), hn 6 (by simp), hn 5 (by simp), hn 4 (by simp), hn 3 (by simp), hn 2 (by simp), hn 1 (by simp), h.2]

theorem witness_Challenges_device : Meets (dqSet dqPkt) 0x0580 (dataOf [] (dqPolicy ++ zeros 48)) (fun t p =>
    (ok (t.handles 0 p) ∧ p.areasOk ioBoth ∧ p.inlineFrom 1 ∧ 0x10 ≤ p.par 0 0 ∧ p.par 0 0 ≤ 0x13 ∧ 48 < p.inTotal ∧ p.fits 160) ∧
    ∃ r : Nat, t.otp.dqCurrent = some r ∧ sha384 (p.input.take (p.inTotal - 48)) = t.otp.dqDigest r) := by
  refine meets (p := dqPkt) rfl ⟨by decide +kernel, by decide +kernel, by decide +kernel, 0, ?_, ?_⟩
  · rw [dqSet_otp]; exact dqSet_current.1
  · rw [dqSet_otp, dqSet_current.2]
    congr 1

theorem witness_Challenges_expiry : ∃ s : State, s = { bound with vlt := { bound.vlt with challenges := [challenge1 0 []] }, now := 59999999999 } ∧
    challenge1 0 [] ∈ s.vlt.challenges ∧ (challenge1 0 []).ident = 1 ∧ (challenge1 0 []).expiry ≤ s.now + 1 :=
  ⟨_, rfl, by decide +kernel⟩

theorem witness_Challenges_policySet : Meets (mgr (up.fset Fld.LC_STATE_lc 0 1) 0x0581 2 tokenAt 128 0) 0x0581 (dataOf nullToken dqPolicy) (fun t p =>
    ok (t.handles 0 p) ∧ p.areasOk ioIn ∧ policyOk p.input true ∧ t.lc ≠ 0 ∧ (t.dqPolicyQuorum p).isSome ∧ (∃ n ∈ [0], t.dqNext = some n)) :=
  meets rfl (by decide +kernel)

theorem witness_Challenges_policySet_free : ∃ s : State, s = (mgr (up.fset Fld.LC_STATE_lc 0 1) 0x0581 2 tokenAt 128 0).tick 0 ∧
    s.dqExecutes = false ∧ s.rpPrograms := ⟨_, rfl, by decide +kernel⟩

theorem witness_Challenges_measures : Meets (mgr up 0x0803 0 [] 0 10660) 0x0803 (dataOf [] []) (fun t p =>
    ok (t.handles 0 p) ∧ p.areasOk ioOut ∧ p.inlineFrom 0 ∧ p.inTotal = 0 ∧ p.fits 10660) := meets rfl (by decide +kernel)
/-! ## Witnesses: public keys -/

/-- A packet that names the key: its premises of acceptance, whatever its handle. -/
def AskOk (opc : Nat) (k : Key) (t : State) (p : Packet) : Prop :=
  t.weight p.ring ≠ 0 ∧ supplied opc p = false ∧ keyPolicy opc p (some (0, k)) ∧
    (toNewKey opc p = true → t.wiping = false ∧ t.quotaOk p.ring (p.par 4 4)) ∧ (opFig opc k.typ (fun i => p.par i i)).isSome

/-- The policy on a key does not look at its handle. -/
theorem keyPolicy_handle (opc : Nat) (p : Packet) (h h' : Nat) (k : Key) : keyPolicy opc p (some (h, k)) = keyPolicy opc p (some (h', k)) := rfl

def infoAsym : OpInfo := ⟨true, false, .asymCustody, .yes⟩

theorem witness_PublicKey_sign : WithKey (oneKey (asymKey 2 0x10 4 64) 0x0301 0 [1, 1] 32 64) (asymKey 2 0x10 4 64) 0x0301 (dataOf [] (zeros 32)) infoAsym
    (AskOk 0x0301 ((asymKey 2 0x10 4 64).key 8192)) :=
  meetsKey rfl rfl (by decide +kernel) (by decide +kernel) ⟨by decide +kernel, by unfold AskOk; decide +kernel⟩

theorem witness_PublicKey_agree : WithKey (oneKey (asymKey 3 0x14 0x10 32) 0x0303 0 [1, 1, 0x80, 0, 6] 32 128) (asymKey 3 0x14 0x10 32) 0x0303
    (dataOf [] (zeros 32)) infoAsym (AskOk 0x0303 ((asymKey 3 0x14 0x10 32).key 8192)) :=
  meetsKey rfl rfl (by decide +kernel) (by decide +kernel) ⟨by decide +kernel, by unfold AskOk; decide +kernel⟩

theorem witness_PublicKey_encaps : WithKey (oneKey (asymKey 3 0x31 0x20 1216) 0x0304 0 [0, 1, 0x80, 0, 6] 0 1120) (asymKey 3 0x31 0x20 1216) 0x0304
    (dataOf [] []) infoAsym (AskOk 0x0304 ((asymKey 3 0x31 0x20 1216).key 8192)) :=
  meetsKey rfl rfl (by decide +kernel) (by decide +kernel) ⟨by decide +kernel, by unfold AskOk; decide +kernel⟩

theorem witness_PublicKey_decaps : WithKey (oneKey (asymKey 3 0x31 0x40 1216) 0x0305 0 [0] 1088 32) (asymKey 3 0x31 0x40 1216) 0x0305
    (dataOf [] (zeros 1088)) infoAsym (AskOk 0x0305 ((asymKey 3 0x31 0x40 1216).key 8192)) :=
  meetsKey rfl rfl (by decide +kernel) (by decide +kernel) ⟨by decide +kernel, by unfold AskOk; decide +kernel⟩

theorem witness_PublicKey_rsa : WithKey (oneKey (asymKey 3 0x20 3 256) 0x0306 0 [1] 32 256) (asymKey 3 0x20 3 256) 0x0306 (dataOf [] (zeros 32)) infoAsym
      (AskOk 0x0306 ((asymKey 3 0x20 3 256).key 8192)) ∧
    WithKey (oneKey (asymKey 3 0x20 3 256) 0x0307 0 [1] 256 32) (asymKey 3 0x20 3 256) 0x0307 (dataOf [] (zeros 256)) infoAsym
      (AskOk 0x0307 ((asymKey 3 0x20 3 256).key 8192)) :=
  ⟨meetsKey rfl rfl (by decide +kernel) (by decide +kernel) ⟨by decide +kernel, by unfold AskOk; decide +kernel⟩,
    meetsKey rfl rfl (by decide +kernel) (by decide +kernel) ⟨by decide +kernel, by unfold AskOk; decide +kernel⟩⟩

/-- VERIFY with the public key in the input: no handle. -/
theorem witness_PublicKey_verify : Meets (one 0x0302 0 0 [1, 1, 0, 0x10] 161 0) 0x0302 (dataOf [] (zeros 161)) (fun t p =>
    t.firstHandle 0 p = some 0 ∧ ok (t.checkHandles p .unused 0) ∧ t.weight p.ring ≠ 0 ∧ supplied 0x0302 p ∧ (opFig 0x0302 (p.par 3 3) (fun i => p.par i i)).isSome) :=
  meets rfl (by decide +kernel)

theorem witness_PublicKey_generate : Meets (inVault 0x0101 0 [3, 0x10, 4, 0] 0 200) 0x0101 (dataOf [] []) (fun t p =>
    (p.par 0 0 = clsCustody ∨ p.par 0 0 = clsAsym) ∧ t.firstHandle 0 p = some 0 ∧ ok (t.checkHandles p .unused 0) ∧ t.weight p.ring ≠ 0 ∧
    t.wiping = false ∧ t.quotaOk p.ring (p.par 1 1) ∧ (keyType (p.par 1 1)).any (fun kt => kt.classes.contains (p.par 0 0)) ∧
    (genFig (p.par 1 1)).isSome) := meets rfl (by decide +kernel)

theorem witness_PublicKey_attest : Meets (mgr up 0x0801 0 [] 32 4883) 0x0801 (dataOf [] (zeros 32)) (fun t p =>
    p.opcode = 0x0801 ∧ t.firstHandle 0 p = some 0 ∧ ok (t.checkHandles p .unused 0) ∧ (p.manager ∨ t.weight p.ring ≠ 0) ∧ t.switching = false ∧ t.wiping = false) :=
  meets rfl (by decide +kernel)

theorem witness_PublicKey_interim : Meets (mgr up 0x0802 0 [0, 0, 5, 0] 0 12486) 0x0802 (dataOf [] []) (fun t p =>
    p.opcode = 0x0802 ∧ p.par 0 0 = 0 ∧ t.firstHandle 0 p = some 0 ∧ ok (t.checkHandles p .unused 0) ∧ (p.manager ∨ t.weight p.ring ≠ 0) ∧
    t.switching = false ∧ t.wiping = false) := meets rfl (by decide +kernel)

theorem witness_PublicKey_statement : Meets (mgr bound 0x0802 0 [1, 0, 5, 0] 0 12486) 0x0802 (dataOf [] []) (fun t p =>
    ok (t.handles 0 p) ∧ t.switching = false ∧ p.par 0 0 = 1 ∧ t.meterParams p ∧ p.fits 12486) := meets rfl (by decide +kernel)

/-- Workspace 7 of slice 5, of two slots of four words; slot 1 is valid. -/
def spaced (opc flags : Nat) (params : Bytes) (inLen outLen : Nat) : State :=
  let s := one opc flags 0 params inLen outLen
  { s with pke := { s.pke with spaces := ⟨[(7, ⟨5, 4, 2, ⟨[(1, ⟨9, true⟩)]⟩⟩)]⟩ } }

/-- One instruction: slot 0 takes slot 1. -/
def wsDescriptor : Bytes := natLE 4 1 ++ natLE 2 1 ++ zeros 10 ++ (natLE 1 1 ++ [0] ++ natLE 2 0 ++ natLE 2 1 ++ zeros 10)

theorem witness_PublicKey_exec : Meets (spaced 0x0405 2 (natLE 8 0x500000 ++ natLE 4 32) 0 0) 0x0405
    (dataOf (natLE 8 7 ++ wsDescriptor) []) (fun t p =>
    t.firstHandle 0 p = some 0 ∧ ok (t.checkHandles p .unused 0) ∧ t.weight p.ring ≠ 0 ∧ p.areasOk ioNone ∧ wsCounted p.block) :=
  meets rfl (by decide +kernel)
/-- The packet of a workspace opcode, its job accepted, in the state `u`: its turn has come. -/
def slotsJob (u : State) (opc : Nat) (closes : Bool) (c : Packet → Bool) : Bool :=
  ((u.pke.jobs.get? 0).any (fun j => j.closes == closes && !j.reject && u.wsTurn j)) &&
  ((u.cmd.packets.get? 0).any (fun r => r.opcode == opc && ok (u.handles 0 r) && c r))

/-- The acceptance of a workspace packet. -/
def slotsState (t : State) (p : Packet) : State :=
  t.accept 0 p false .slots (slotsFig p.opcode) (wsNamed p != 0 && t.wsClosing p.ring (wsNamed p)) 0 (wsNamed p) (p.opcode == 0x0402) 0 0

theorem witness_Workspace_open : Meets (one 0x0401 0 0 (natLE 2 1920 ++ natLE 2 4) 0 0) 0x0401 (dataOf [] []) (fun t p =>
    t.weight p.ring ≠ 0 ∧ wsNamed p = 0 ∧ slotsJob (t.accept 0 p false .slots (slotsFig p.opcode) false 0 0 (p.opcode == 0x0402) 0 0) 0x0401 false (fun r =>
      r.inlineFrom 4 && decide (1 ≤ r.par 0 1 ∧ 4 ≤ r.par 2 3 ∧ r.par 2 3 ≤ 256 ∧ r.par 0 1 * r.par 2 3 ≤ 7680 ∧ t.wsCount r.ring < 4 ∧
        t.wsWords + r.par 0 1 * r.par 2 3 ≤ 524288))) := meets rfl (by decide +kernel)

theorem witness_Workspace_write : Meets (spaced 0x0403 0 (natLE 8 7 ++ natLE 2 1) 32 0) 0x0403 (dataOf [] (zeros 32)) (fun t p =>
    t.weight p.ring ≠ 0 ∧ slotsJob (slotsState t p) 0x0403 false (fun r => r.areasOk ioIn && r.inlineFrom 10 && decide (r.par 8 9 < 2 ∧ 1 ≤ r.inTotal ∧
      r.inTotal ≤ 8 * 4)) ∧ okAnd ((slotsState t p).spaceOf p (p.par 0 7)) (fun x => x.w == 4 && x.c == 2)) :=
  meets rfl (by decide +kernel)

theorem witness_Workspace_read : Meets (spaced 0x0404 0 (natLE 8 7 ++ natLE 2 1) 0 32) 0x0404 (dataOf [] []) (fun t p =>
    t.weight p.ring ≠ 0 ∧ slotsJob (slotsState t p) 0x0404 false (fun r => r.areasOk ioOut && r.inlineFrom 10 && decide (r.par 8 9 < 2 ∧ r.fits (8 * 4))) ∧
    okAnd ((slotsState t p).spaceOf p (p.par 0 7)) (fun x => x.w == 4 && x.c == 2 && (x.slots.get? (p.par 8 9)).any (fun v => v.valid))) := meets rfl (by decide +kernel)

theorem witness_Workspace_close : Meets (spaced 0x0402 0 (natLE 8 7) 0 0) 0x0402 (dataOf [] []) (fun t p =>
    t.weight p.ring ≠ 0 ∧ slotsJob (slotsState t p) 0x0402 true (fun r => r.inlineFrom 8) ∧ ok ((slotsState t p).spaceOf p (p.par 0 7))) :=
  meets rfl (by decide +kernel)

/-- Packet 0, a SIGN of slice 5, with its job in a place of the engine. -/
def working (at_ : JobAt) (f : Job → Job) : State :=
  let s := one 0x0301 0 0 [1, 1] 32 64
  let j := { mkJob 0 5 false .m (mkFig 30 46 2 80 36000 1) false 0 0 false with at_ := at_ }
  { s with now := 1000000000, pke := { s.pke with jobs := ⟨[(0, f j)]⟩ } }

/-- A second packet with its job. -/
def andJob (s : State) (at_ : JobAt) : State :=
  let j := { mkJob 1 5 false .m (mkFig 12 0 2 16 5700 3) false 0 0 false with at_ := at_ }
  { s with cmd := { s.cmd with packets := s.cmd.packets.insert 1 (pktOf 5 (entryOf 0x0301 0 0 [1, 1] 32 64)) }, pke := { s.pke with jobs := s.pke.jobs.insert 1 j } }

/-- The state of a dispatch: the waiting verifications are placed. -/
def ready (s : State) : State := (s.tick 0).serveVerify

theorem witness_PkeEvents_dispatch : ((ready (working .pending id)).nextJob).any (fun e => ((ready (working .pending id)).pickCore e.2.avoid).isSome) := by
  decide +kernel

/-- Every core but 71 rests; core 71 runs job 0, and job 1 is pending. -/
def oneCore : State :=
  (List.range 71).foldl (fun s n => s.fset Fld.PKE_CORE_MAP_role n 1) (andJob (working (.main 71) id) .pending)

theorem witness_PkeEvents_assign : ((ready oneCore).nextJob).any (fun e => (ready oneCore).pickCore e.2.avoid == none && e.2.avoid != some 71 &&
      e.2.short) ∧ (ready oneCore).coreTakes 71 ∧ ((ready oneCore).mainOf 71).isSome ∧ (ready oneCore).assignedOf 71 = none ∧
    (ready oneCore).suspendedOf 71 = none := by decide +kernel

theorem witness_PkeEvents_verify : (((working (.verifyQueue 3) id).tick 0).pke.jobs.get? 0).any (fun j => j.at_ == .verifyQueue 3 &&
      (((working (.verifyQueue 3) id).tick 0).verifyCore 3 0 j).any (fun n => (((working (.verifyQueue 3) id).tick 0).mainOf n).isNone &&
        (((working (.verifyQueue 3) id).tick 0).suspendedOf n).isNone)) := by
  decide +kernel

/-- Job 0, of quanta of 522 µs, waits on core 3 between two of them, where job 1, of workspace 7, waits for the core. -/
def yielding : State :=
  let s := andJob (working (.main 3) (fun j => { j with fig := mkQuant 522 0 26 1100 0 550 247400, quanta := 1, allow := 156000, since := 999400000, base := 999400000 }))
    (.assigned 3)
  let s := { s with pke := { s.pke with spaces := ⟨[(7, ⟨5, 4, 2, ⟨[(1, ⟨9, true⟩)]⟩⟩)]⟩ } }
  match s.pke.jobs.get? 1 with
  | some j => s.setJob 1 { j with kind := .ws, ws := 7 }
  | none => s

theorem witness_PkeEvents_yield : ((yielding.tick 0).mainOf 3).any (fun x => ((yielding.tick 0).assignedOf 3).any (fun y =>
      ((yielding.tick 0).cmd.packets.get? x.1).any (fun p => (yielding.tick 0).atYield p x.2 0) && (yielding.tick 0).yields x.2 y.1 y.2 3 &&
      (yielding.tick 0).mayStart y.2)) ∧ (yielding.tick 0).coreTakes 3 := by
  decide +kernel

theorem witness_PkeEvents_end : (((working (.main 3) id).tick 0).mainOf 3).any (fun e => ((working (.main 3) id).tick 0).mainDone e.2) ∧
    (((working (.verifying 3 10) id).tick 0).verifyingOn 10).any (fun e => ((working (.verifying 3 10) id).tick 0).verifyDone e.2 &&
      e.2.at_ == .verifying 3 10) := by decide +kernel

/-- A key generation of a quantised type in a quantum, on core 0. -/
def quantised (q : Nat) : State :=
  let s := working (.main 0) (fun j => { j with fig := mkQuant 66 36 4 108 30 226 86000, quanta := q })
  withPkt s (pktOf 5 (entryOf 0x0101 0 0 [3, 0x38, 4, 0] 0 5000))

theorem witness_PkeEvents_quantum : ((quantised 63).tick 0).pke.jobs.has 0 ∧
    (((quantised 63).tick 0).pke.jobs.get? 0).any (fun j => j.at_ == .main 0 && j.fig.quant && !j.accepted && decide (j.quanta < 64) &&
      decide (j.boundary ≤ ((quantised 63).tick 0).now)) ∧ (((quantised 63).tick 0).cmd.packets.get? 0).any (fun p => !drawsPerQuantum p) ∧
    (((quantised 64).tick 0).pke.jobs.get? 0).any (fun j => j.at_ == .main 0 && j.fig.quant && !j.accepted && decide (64 ≤ j.quanta) &&
      decide (j.boundary ≤ ((quantised 64).tick 0).now)) := by decide +kernel

theorem witness_PkeEvents_timeout : (((working (.main 0) (fun j => { j with draw := some 750000000 })).tick 0).pke.jobs.get? 0).any (fun j =>
      j.draw == some 750000000 && j.at_ == .main 0) ∧ ((working (.main 0) (fun j => { j with draw := some 750000000 })).tick 0).drbgReady 1 = false ∧
    750000000 + 250000000 ≤ ((working (.main 0) (fun j => { j with draw := some 750000000 })).tick 0).now := by decide +kernel

theorem witness_PkeEvents_zero : ∃ s : State, (s.tick 0).windowOpen 71 ∧ (0x2E41 : Nat) % 2 ^ 16 ≠ 0x2E40 ∧ (0x12E40 : Nat) % 2 ^ 16 = 0x2E40 :=
  ⟨up, by decide +kernel⟩

/-- Job 0 at the release gate since a time, with its packet. -/
def gated (since start : Nat) : State := working (.gate 3 since) (fun j => { j with start := start })

theorem witness_ReleaseGate_1 : ((gated 500 0).pke.jobs.get? 0).any (fun j => ((gated 500 0).cmd.packets.get? 0).any (fun p =>
      j.at_ == .gate 3 500 && j.kind != .c && !(gated 500 0).resultHeld p j 3 &&
      decide ((j.due (max 500 ((gated 500 0).liftedAt p j 3))).1 ≤ (gated 500 0).now))) := by decide +kernel

theorem witness_ReleaseGate_2 : ((gated 999999999 999950000).pke.jobs.get? 0).any (fun j => ((gated 999999999 999950000).cmd.packets.get? 0).any (fun p =>
      j.at_ == .gate 3 999999999 && j.kind != .c &&
      decide ((gated 999999999 999950000).now < (j.due (max 999999999 ((gated 999999999 999950000).liftedAt p j 3))).1))) := by decide +kernel

theorem witness_ReleaseGate_3 : ∃ j : Job, j.fig.quant = false ∧ 0 < j.fig.b ∧ j.start ≤ 80000 ∧ 80000 ≤ (j.due 80000).1 ∧ (j.due 80001).1 = 160000 :=
  ⟨mkJob 0 5 false .m (mkFig 30 46 2 80 36000 1) false 0 0 false, by decide +kernel⟩
/-! ## Witnesses: the clusters -/

/-- The handles pass where a key is had. -/
theorem handles_of_keyOf {t : State} {pid : Nat} {p : Packet} {k : Key} (h : t.keyOf pid p = .ok k) : t.handles pid p = .ok (some k) := by
  unfold State.keyOf at h
  cases e : t.handles pid p with
  | error x => rw [e] at h; cases h
  | ok o =>
    rw [e] at h
    cases o with
    | none => cases h
    | some x => cases h; rfl

theorem witness_SymmetricPackets_key : WithKey (oneKey (trafficKey 0x01 0x01) 0x0201 0 (natLE 1 1 ++ natLE 1 16 ++ natLE 2 4 ++ zeros 12) 20 64)
    (trafficKey 0x01 0x01) 0x0201 (dataOf [] (zeros 20)) ⟨true, false, .traffic, .no⟩ (fun t p => t.fget Fld.SLC_BULK_SHARE_rate p.ring ≠ 0 ∧
    bit ((trafficKey 0x01 0x01).key 8192).usage (symUse 0x0201) ∧ p.areasOk (symUses 0x0201) ∧ symOk 0x0201 p (some ((trafficKey 0x01 0x01).key 8192))) :=
  meetsKey rfl rfl (by decide +kernel) (by decide +kernel) (by decide +kernel)

theorem witness_SymmetricPackets_keyless : Meets (one 0x0207 0 0 [1] 64 32) 0x0207 (dataOf [] (zeros 64)) (fun t p => t.handles 0 p = .ok none ∧
    t.fget Fld.SLC_BULK_SHARE_rate p.ring ≠ 0 ∧ p.areasOk (symUses 0x0207) ∧ symOk 0x0207 p none) := meets rfl ⟨by decide +kernel, by decide +kernel, rfl, by decide +kernel⟩

/-- A keyless HASH of slice 5 that waits for tokens. -/
def waiting (level : Int) : State :=
  let s := one 0x0207 0 0 [1] 64 32
  { withPkt s { pktOf 5 (entryOf 0x0207 0 0 [1] 64 32) with phase := .tokens 0 } with slc := { s.slc with buckets := ⟨[(5, ⟨level, 0⟩)]⟩ } }

theorem witness_TokenBucketStart : (((waiting 0).tick 0).cmd.packets.get? 0).any (fun p => p.phase == .tokens 0 && ((waiting 0).tick 0).tokensFirst 0 p.ring 0 &&
    decide (0 ≤ ((waiting 0).tick 0).bucketLevel p.ring)) ∧
    (((waiting (-1)).tick 0).cmd.packets.get? 0).any (fun p => p.phase == .tokens 0 && decide (((waiting (-1)).tick 0).bucketLevel p.ring < 0)) := by decide +kernel

/-- A HASH in cluster 3, whose host may refuse a transfer. -/
def hashing (refused : Bool) : State :=
  let s := one 0x0207 0 0 [1] 64 32
  { withPkt s { pktOf 5 (entryOf 0x0207 0 0 [1] 64 32) with phase := .cluster, data := { dataOf [] (zeros 64) with refused := refused } } with
    blk := { s.blk with jobs := ⟨[(0, ⟨some 3, none, 64, 0, true, 0, 1, 0, 0⟩)]⟩ } }

/-- What the cluster leaves of the work on packet 0. -/
def worked (s : State) : State := (s.tick 0).workOn 3 0

theorem witness_ClusterWork_keyless : (((hashing false).tick 0).blk.jobs.get? 0).any (fun j => j.cluster == some 3) ∧
    ((hashing false).tick 0).clusterRuns 3 ∧ (worked (hashing false)).pke.jobs.get? 0 = none ∧
    ((worked (hashing false)).blk.jobs.get? 0).any (fun v => decide (v.chunks ≤ v.done) && (worked (hashing false)).blkKey 3 v == some ([], 0) &&
      (((hashing false).tick 0).cmd.packets.get? 0).any (fun p => ((hashing false).tick 0).gateHeld p == false && p.data.refused == false &&
        p.outStopped v == false && (symWork p []).isSome)) := by decide +kernel

theorem witness_ClusterWork_refused : (((hashing true).tick 0).blk.jobs.get? 0).any (fun j => j.cluster == some 3) ∧
    ((hashing true).tick 0).clusterRuns 3 ∧ (worked (hashing true)).pke.jobs.get? 0 = none ∧ (worked (hashing true)).blk.jobs.has 0 ∧
    (((hashing true).tick 0).cmd.packets.get? 0).any (fun p => ((hashing true).tick 0).gateHeld p == false && p.data.refused) := by decide +kernel

/-- A CMAC_GENERATE in cluster 3 under a key of a generation, whose register file may hold the key. -/
def macing (g : Nat) (file : NMap BlkEntry) : State :=
  let p := keyPkt (trafficKey 0x01 0x80) 0x0205 0 [16] 64 16
  { withPkt (keyed (trafficKey 0x01 0x80)) { p with phase := .cluster, data := dataOf [] (zeros 64) } with
    blk := ⟨file, ⟨[(0, ⟨some 3, some ⟨5, 8192, g⟩, 64, 0, true, 0, 1, 0, 0⟩)]⟩, 1, .empty, .empty⟩ }

/-- The file of cluster 3 holds the key, or its entry is taken by a miss. -/
def fileOf (g : Nat) (here : Bool) : NMap BlkEntry := ⟨[(192, ⟨⟨5, 8192, g⟩, 1, zeros 16, [], 0, here⟩)]⟩

theorem witness_ClusterWork_keyed : ((macing 0 (fileOf 0 true)).tick 0).blk.jobs.has 0 ∧ ((macing 0 (fileOf 0 true)).tick 0).clusterRuns 3 ∧
    (worked (macing 0 (fileOf 0 true))).pke.jobs.get? 0 = none ∧ ((worked (macing 0 (fileOf 0 true))).blk.jobs.get? 0).any (fun v => decide (v.chunks ≤ v.done) &&
      (worked (macing 0 (fileOf 0 true))).blkKey 3 v == some (zeros 16, 1) && (((macing 0 (fileOf 0 true)).tick 0).cmd.packets.cells).any (fun e => e.1 == 0 &&
        ((macing 0 (fileOf 0 true)).tick 0).gateHeld e.2 == false && e.2.data.refused == false && e.2.outStopped v == false &&
        (symWork e.2 (zeros 16)).isSome)) := by decide +kernel

/-- The same work, its entry taken by a miss. -/
def missing (g : Nat) : State := macing g (fileOf g false)

theorem witness_KeyDelivered_1 : ∃ (tag : KeyTag) (k : Key) (s : State), (s.tick 0).missOn 3 8192 = some tag ∧ (s.tick 0).islandHeld 0x02 = false ∧
    (s.tick 0).wiping = false ∧ (s.tick 0).resolve (mkHandle tag.slice tag.gen clsTraffic 8192) = some k ∧
    (s.tick 0).slotFails 8192 = none ∧ ((s.tick 0).slotOf 3 tag).isSome := by
  have hm : ∀ g, (missing g).missOn 3 8192 = some ⟨5, 8192, g⟩ ∧ ((missing g).slotOf 3 ⟨5, 8192, g⟩).isSome = true := fun g => by
    simp [State.missOn, State.clusterJobs, State.entryOf, State.slotOf, missing, macing, fileOf, withPkt, NMap.find?]
  have hw : ∀ g, (missing g).wiping = false ∧ (missing g).islandHeld 0x02 = false ∧ (missing g).slotFails 8192 = none := fun g =>
    (by decide +kernel : (missing 0).wiping = false ∧ (missing 0).islandHeld 0x02 = false ∧ (missing 0).slotFails 8192 = none)
  have hr : ∀ g, (missing g).resolve ((missing g).handleOf 5 1 8192) = some ((trafficKey 0x01 0x80).key 8192) := fun g =>
    (missing g).resolve_handleOf 8192 (trafficKey 0x01 0x80) (by rfl) (by decide) (by decide) (by decide) (by decide)
  have hg : ∀ g, (missing g).lineGen 8192 = (missing 0).lineGen 8192 := fun g => by rfl
  refine ⟨⟨5, 8192, (missing 0).lineGen 8192⟩, (trafficKey 0x01 0x80).key 8192, missing ((missing 0).lineGen 8192), ?_⟩
  rw [State.tick_zero]
  refine ⟨(hm _).1, (hw _).2.1, (hw _).1, ?_, (hw _).2.2, (hm _).2⟩
  have := hr ((missing 0).lineGen 8192)
  unfold State.handleOf at this
  rw [hg] at this
  exact this

/-- The same work after the key's record is gone. -/
def macGone : State := { missing 0 with ks := vaulted.ks }

theorem witness_KeyDelivered_2 : (macGone.tick 0).missOn 3 8192 = some ⟨5, 8192, 0⟩ ∧ (macGone.tick 0).islandHeld 0x02 = false ∧ (macGone.tick 0).wiping = false ∧
    (macGone.tick 0).resolve (mkHandle 5 0 clsTraffic 8192) = none := by decide +kernel

/-- The same work in a wiping device. -/
def macWipe : State := (missing 0).fset Fld.KS_STATUS_wipe_busy 0 1

theorem witness_KeyDelivered_3 : (macWipe.tick 0).missOn 3 8192 = some ⟨5, 8192, 0⟩ ∧ (macWipe.tick 0).islandHeld 0x02 = false ∧ (macWipe.tick 0).wiping := by decide +kernel

/-- AEAD_SEAL of 4 octets of associated data and 8 of text, and what it makes. -/
def sealing : Packet := { pktOf 5 (entryOf 0x0201 0 0 (natLE 1 1 ++ natLE 1 16 ++ natLE 2 4 ++ zeros 12) 12 24) with data := dataOf [] (zeros 12) }

def sealed : Bytes :=
  let ct := aeadCrypt .gcmStream (zeros 16) (zeros 12) (zeros 8)
  ct ++ aeadTag .gcmTag (zeros 16) (zeros 12) (zeros 4) ct 16

theorem sealed_length : sealed.length = 24 := by
  simp [sealed, aeadCrypt, aeadTag, fitLen_length, xorBytes, zeros]

/-- AEAD_OPEN of what it makes. -/
def opening : Packet := { pktOf 5 (entryOf 0x0202 0 0 (natLE 1 1 ++ natLE 1 16 ++ natLE 2 4 ++ zeros 12) 28 8) with data := dataOf [] (zeros 4 ++ sealed) }

theorem opening_input : opening.input = zeros 4 ++ sealed := by
  have h : opening.inTotal = 28 := by decide +kernel
  have e : opening.input = fitLen opening.inTotal (zeros 4 ++ sealed) := by rfl
  rw [e, h]
  exact fitLen_of_length _ _ (by simp [zeros, sealed_length])

theorem witness_AeadOpenRecovers : ∃ r : SymRes, workSeal sealing (zeros 16) = some r ∧ opening.par 0 0 = sealing.par 0 0 ∧ opening.par 1 1 = sealing.par 1 1 ∧
    sealing.par 1 1 ≤ 16 ∧ slice opening.params 4 12 = slice sealing.params 4 12 ∧ opening.aad = sealing.aad ∧ sealing.aad ≤ sealing.input.length ∧
    sealing.input.length = sealing.inTotal ∧ opening.inTotal = opening.input.length ∧ opening.input = sealing.input.take sealing.aad ++ r.out := by
  refine ⟨.good sealed, by rfl, by rfl, by rfl, by decide +kernel, by rfl, by rfl, by decide +kernel, by decide +kernel, ?_, ?_⟩
  · rw [opening_input, List.length_append, sealed_length]
    decide +kernel
  · rw [opening_input]
    have : sealing.input.take sealing.aad = zeros 4 := by decide +kernel
    rw [this]
    rfl

/-- AEAD_OPEN of a tag of AES-GCM alone. -/
def tagOnly (x : Bytes) : Packet := { pktOf 5 (entryOf 0x0202 0 0 (natLE 1 1 ++ natLE 1 16 ++ natLE 2 0 ++ zeros 12) 16 0) with data := dataOf [] x }

theorem tagOnly_work (x : Bytes) (hx : x.length = 16) (h : ¬ aeadTag .gcmTag (zeros 16) (zeros 12) [] [] 16 = x) :
    ∃ z : SymRes, workOpen (tagOnly x) (zeros 16) = some z ∧ z.status ≠ .done := by
  refine ⟨⟨.authFailed, aeadCrypt .gcmStream (zeros 16) (zeros 12) [], 0, 0⟩, ?_, by decide⟩
  have e1 : (tagOnly x).par 0 0 = 1 := by rfl
  have e2 : (tagOnly x).par 1 1 = 16 := by rfl
  have e3 : (tagOnly x).inTotal = 16 := (by decide +kernel : (tagOnly []).inTotal = 16)
  have e4 : (tagOnly x).aad = 0 := by rfl
  have e5 : slice (tagOnly x).params 4 12 = zeros 12 := by rfl
  have e6 : (tagOnly x).input = x := by
    have : (tagOnly x).input = fitLen (tagOnly x).inTotal x := by rfl
    rw [this, e3]
    exact fitLen_of_length _ _ hx
  simp [workOpen, e1, e2, e3, e4, e5, e6, aeadAlgs]
  simp [slice, h]

/-- Whatever the tag function gives, one of the two tags of all zeros and all ones fails. -/
theorem witness_AeadOpenFails : ∃ (q : Packet) (z : SymRes), workOpen q (zeros 16) = some z ∧ z.status ≠ .done := by
  by_cases h : aeadTag .gcmTag (zeros 16) (zeros 12) [] [] 16 = zeros 16
  · exact ⟨_, tagOnly_work (List.replicate 16 255) (by decide) (by rw [h]; decide)⟩
  · exact ⟨_, tagOnly_work (zeros 16) (by decide) h⟩

/-! ## Witnesses: security associations and policies -/

/-- Map index 3: pair 0, untagged, owned by slice 5. -/
def mapOne : NMap MapEntry := ⟨[(3, ⟨0, none, some 5, false, false, false, [], 7, false, []⟩)]⟩

/-- An SA of slice 5 of a kind, with identifier 7. -/
def sa0 (kind : Nat) (st : SaState) : SaCtx :=
  ⟨false, 5, st, kind, 1, 16, 0, 8192, 0, 0, 0, 0, 0, 7, 1, zeros 12, 0, 0, 0, 0, none, 0, 0, 0, 0, 0, 0, 0, 0xFFFF, 0, [], 0, none⟩

/-- A state with the map and SAs. -/
def mapped (s : State) (sas : NMap SaCtx) : State := { s with tbl := { s.tbl with map := mapOne, sas := sas } }

theorem saAdd_some (t : State) (a : SaCtx) (hm : t.mirrors a.slice = false) (hc : t.ctxOk a.size [] 0 = true) : ∃ h u, t.saAdd a = some (h, u) := by
  have h : (t.ctxAlloc a.size []).isSome = true := by
    unfold State.ctxAlloc
    dsimp only
    split
    · rfl
    · rw [show (List.range 16).filter (fun b => !([] : List Nat).contains b) = 0 :: (List.range 16).tail by decide, List.findSome?_cons]
      simp [firstFrom, hc]
  obtain ⟨k, hk⟩ := Option.isSome_iff_exists.mp h
  unfold State.saAdd
  rw [hk]
  simp [hm]

theorem saGen_lt (t : State) (h : Nat) : t.saGen h < 4096 := Nat.mod_lt _ (by decide)

/-- An SA is named by its identifier. -/
theorem saOfId_saIdOf (t : State) (h : Nat) (a : SaCtx) (ha : t.tbl.sas.get? h = some a) (hh : h < 2 ^ 20) :
    t.saOfId a.slice (t.saIdOf h) = some (h, a) := by
  have hg := saGen_lt t h
  have e : t.saIdOf h = mkSaId a.slice (t.saGen h) h := by unfold State.saIdOf; rw [ha]
  have em : mkSaId a.slice (t.saGen h) h % 2 ^ 20 = h := by unfold mkSaId; omega
  unfold State.saOfId
  rw [e]
  simp only [em, ha]
  simp

theorem saIdOf_lt (t : State) (h : Nat) (ha : ∀ a, t.tbl.sas.get? h = some a → a.slice < 4096) (hh : h < 2 ^ 20) : t.saIdOf h < 256 ^ 8 := by
  have hg := saGen_lt t h
  unfold State.saIdOf
  split
  · next a e => have := ha a e; unfold mkSaId; omega
  · decide

/-- A 64-bit number in front of an octet string. -/
theorem field_natLE (n : Nat) (r : Bytes) (h : n < 256 ^ 8) : field (natLE 8 n ++ r) 0 8 = n := by
  have e : slice (natLE 8 n ++ r) 0 8 = natLE 8 n := by
    rw [slice_append_of_le _ _ _ _ (by simp), slice_all _ _ (by simp)]
  unfold field
  rw [e, leNat_natLE, Nat.mod_eq_of_lt h]

/-- The first eight octets of the parameter field. -/
theorem par_natLE {p : Packet} {opc flags h0 n inLen outLen : Nat} {r : Bytes} (he : p.entry = entryOf opc flags h0 (natLE 8 n ++ r) inLen outLen)
    (h : n < 256 ^ 8) : p.par 0 7 = n := by
  have e : slice p.params 0 8 = natLE 8 n := by unfold Packet.params; rw [he]; rfl
  unfold Packet.par field
  rw [e, leNat_natLE, Nat.mod_eq_of_lt h]

/-- The last eight octets of the parameter field. -/
theorem par8_natLE {p : Packet} {opc flags h0 n inLen outLen : Nat} (he : p.entry = entryOf opc flags h0 (zeros 8 ++ natLE 8 n) inLen outLen)
    (h : n < 256 ^ 8) : p.par 8 15 = n := by
  have e : slice p.params 8 8 = natLE 8 n := by unfold Packet.params; rw [he]; rfl
  unfold Packet.par field
  rw [e, leNat_natLE, Nat.mod_eq_of_lt h]

theorem begun_block (s : State) (d : PktData) (p : Packet) : (begun s d p).block = if p.pind then fitLen p.pindLen d.pind else [] := rfl

/-- A packet does not touch the tables. -/
theorem mapped_tbl (b : State) (p : Packet) (m : NMap SaCtx) : (mapped (withPkt b p) m).tbl = (mapped b m).tbl ∧ (mapped (withPkt b p) m).ks = (mapped b m).ks := ⟨rfl, rfl⟩

def infoTraffic : OpInfo := ⟨true, false, .traffic, .no⟩

/-- SA_INSTALL's block: MACsec inbound, AES-GCM-128, pair 0, identifier 9. -/
def installBlock : Bytes := zeros 3 ++ [1, 1, 16, 0, 0] ++ natLE 4 0xFFF0000 ++ zeros 4 ++ natLE 8 9 ++ zeros 104

/-- An entry that points at a parameter block. -/
def blockAt (n : Nat) : Bytes := natLE 8 0x500000 ++ natLE 4 n ++ zeros 4

theorem witness_SaInstall : WithKey (mapped (oneKey (trafficKey 0x01 0x200) 0x0601 2 (blockAt 128) 0 0) .empty) (trafficKey 0x01 0x200) 0x0601
    (dataOf installBlock []) infoTraffic (fun t p => ∃ (h : Nat) (u : State) (a : SaCtx), (p.areasOk ioNone ∧ p.pind ∧ saForm p.block ∧
      (0x01 = suiteKey (field p.block 4 1)) ∧ t.pairOk (field p.block 8 4 % 8)) ∧ a = saOfBlock t.now p.ring 8192 (t.lineGen 8192) p.block ∧
      (bit 0x200 useInline ∧ t.saOwned a.slice a.kind a.pair a.vlan ∧ t.saAccepts ∧ t.saFits a.slice (t.saNeed a.slice a.size) ∧
        t.saTaken (isMac a.kind) a.ident a.an = false ∧ a.kind ≠ macOut) ∧ t.saAdd a = some (h, u)) := by
  refine meetsKey rfl rfl (by decide +kernel) (by decide +kernel) ⟨by decide +kernel, _, _, _, by decide +kernel, rfl, by decide +kernel,
    (saAdd_some _ _ (by decide +kernel) (by decide +kernel)).choose_spec.choose_spec⟩

/-- An SA at head context 7 keeps its identifier in a state with the same tables and generations. -/
theorem saIdOf_eq (s t : State) (ht : t.tbl = s.tbl) (hk : t.ks = s.ks) (h : Nat) : t.saIdOf h = s.saIdOf h := by
  unfold State.saIdOf State.saGen
  rw [ht, hk]

theorem saIdOf7_lt (s : State) (k : Nat) (st : SaState) (hs : s.tbl.sas = ⟨[(7, sa0 k st)]⟩) : s.saIdOf 7 < 256 ^ 8 :=
  saIdOf_lt s 7 (fun a h => by rw [hs] at h; have e : sa0 k st = a := Option.some.inj h; subst e; show 5 < 4096; decide) (by decide)

/-- The state of SA_REKEY. -/
def rekeying : State := mapped (oneKey (trafficKey 0x01 0x200) 0x0602 2 (blockAt 48) 0 0) ⟨[(7, sa0 2 .active)]⟩

/-- Its block: the old identifier, the new one, AN 1, next number 1. -/
def rekeyBlock : Bytes := natLE 8 (rekeying.saIdOf 7) ++ (natLE 8 10 ++ [1] ++ zeros 23 ++ natLE 8 1)

theorem mapped_sas (b : State) (m : NMap SaCtx) : (mapped b m).tbl.sas = m := rfl

theorem rekeying_lt : rekeying.saIdOf 7 < 256 ^ 8 := saIdOf7_lt _ 2 .active (mapped_sas _ _)

theorem rekeying_get : rekeying.tbl.sas.get? 7 = some (sa0 2 .active) := by
  have e : rekeying.tbl.sas = ⟨[(7, sa0 2 .active)]⟩ := mapped_sas _ _
  rw [e]
  rfl

theorem saOfId_eq (s t : State) (ht : t.tbl = s.tbl) (hk : t.ks = s.ks) (sl id : Nat) : t.saOfId sl id = s.saOfId sl id := by
  unfold State.saOfId State.saGen
  rw [ht, hk]

theorem witness_SaRekey : WithKey rekeying (trafficKey 0x01 0x200) 0x0602
    (dataOf rekeyBlock []) infoTraffic (fun t p => ∃ (h : Nat) (u : State) (a : SaCtx), t.saOfId p.ring (field p.block 0 8) = some (7, sa0 2 .active) ∧
      a = rekeyOf t.now 8192 (t.lineGen 8192) p.block (sa0 2 .active) ∧
      (p.areasOk ioNone ∧ p.pind ∧ rekeyForm p.block (sa0 2 .active) ∧ (0x01 = suiteKey (sa0 2 .active).suite)) ∧
      (bit 0x200 useInline ∧ t.saOwned a.slice a.kind a.pair a.vlan ∧ t.saAccepts ∧ t.saFits a.slice (t.saNeed a.slice a.size) ∧
        t.saTaken (isMac a.kind) a.ident a.an = false ∧ a.kind = macOut ∧
        t.tbl.sas.any (fun i b => i != 7 && b.kind == macOut && b.slice == a.slice && b.pair == a.pair && b.vlan == a.vlan &&
          b.state == .active) = false) ∧ t.saAdd a = some (h, u)) := by
  refine meetsKey rfl rfl (by decide +kernel) (by decide +kernel) ⟨by decide +kernel, _, _, _, ?_, rfl, by decide +kernel, by decide +kernel,
    (saAdd_some _ _ (by decide +kernel) (by decide +kernel)).choose_spec.choose_spec⟩
  have hb : (begun rekeying (dataOf rekeyBlock []) (keyPkt (trafficKey 0x01 0x200) 0x0602 2 (blockAt 48) 0 0)).block = rekeyBlock := by
    rw [begun_block]
    have hp : (keyPkt (trafficKey 0x01 0x200) 0x0602 2 (blockAt 48) 0 0).pind = true ∧ (keyPkt (trafficKey 0x01 0x200) 0x0602 2 (blockAt 48) 0 0).pindLen = 48 := by
      decide +kernel
    rw [hp.1, hp.2]
    exact fitLen_of_length _ _ (by simp [dataOf, rekeyBlock, zeros])
  rw [hb]
  unfold rekeyBlock
  rw [field_natLE _ _ rekeying_lt]
  exact (saOfId_eq rekeying _ (State.take_tbl _ _ _) (State.take_ks _ _ _) _ _).trans (saOfId_saIdOf rekeying 7 (sa0 2 .active) rekeying_get (by decide))

/-- A packet of an SA opcode without key, with its parameters, over one SA. -/
def onSa (p : Packet) (st : SaState) : State := mapped (withPkt bound p) ⟨[(7, sa0 1 st)]⟩

/-- The identifier of that SA. -/
def saId : Nat := (mapped bound ⟨[(7, sa0 1 .active)]⟩).saIdOf 7

theorem saId_lt : saId < 256 ^ 8 := saIdOf7_lt _ 1 .active rfl

theorem onSa_id (p : Packet) (d : PktData) : (taken (onSa p .active) d p).saOfId 5 saId = some (7, sa0 1 .active) := by
  have e : saId = (taken (onSa p .active) d p).saIdOf 7 := by
    exact (saIdOf_eq (mapped bound ⟨[(7, sa0 1 .active)]⟩) _ ((State.take_tbl _ _ _).trans (mapped_tbl bound p _).1) ((State.take_ks _ _ _).trans (mapped_tbl bound p _).2) 7).symm
  rw [e]
  exact saOfId_saIdOf _ 7 (sa0 1 .active) (by unfold taken; rw [State.take_tbl]; rfl) (by decide)

def retirePkt : Packet := pktOf 5 (entryOf 0x0603 0 0 (natLE 8 saId ++ zeros 8) 0 0)

theorem witness_SaRetire : Meets (onSa retirePkt .active) 0x0603 (dataOf [] []) (fun t p => (ok (t.handles 0 p) ∧ p.inlineFrom 8) ∧
    t.saOfId p.ring (p.par 0 7) = some (7, sa0 1 .active) ∧ (sa0 1 .active).state ≠ .draining) := by
  refine meets rfl ⟨by decide +kernel, by decide +kernel, by decide +kernel, ?_, by decide⟩
  have e : (begun (onSa retirePkt .active) (dataOf [] []) retirePkt).par 0 7 = saId := par_natLE rfl saId_lt
  rw [e]
  exact onSa_id _ _

def queryPkt : Packet := pktOf 5 (entryOf 0x0604 0 0 (zeros 8 ++ natLE 8 saId) 0 64)

theorem witness_SaQueryState : ((onSa queryPkt .active).tick 0).queryMode 0 ≠ 1 ∧ Meets (onSa queryPkt .active) 0x0604 (dataOf [] []) (fun t p =>
    (ok (t.handles 0 p) ∧ p.areasOk ioOut ∧ p.pind = false ∧ p.par 0 7 = 0 ∧ p.fits 64) ∧ t.saOfId p.ring (p.par 8 15) = some (7, sa0 1 .active)) := by
  refine ⟨by decide +kernel, meets rfl ⟨by decide +kernel, by decide +kernel, by decide +kernel, ?_⟩⟩
  have e : (begun (onSa queryPkt .active) (dataOf [] []) queryPkt).par 8 15 = saId := par8_natLE rfl saId_lt
  rw [e]
  exact onSa_id _ _

def waitPkt : Packet := pktOf 5 (entryOf 0x0604 0 0 (natLE 4 1 ++ natLE 4 100 ++ zeros 8) 0 4096)

theorem witness_SaQueryWait : ((onSa waitPkt .active).tick 0).queryMode 0 = 1 ∧ Meets (onSa waitPkt .active) 0x0604 (dataOf [] []) (fun t p =>
    ok (t.handles 0 p) ∧ p.areasOk ioOut ∧ p.pind = false ∧ p.par 1 3 = 0 ∧ p.par 8 15 = 0 ∧ 1 ≤ p.par 4 7 ∧ p.par 4 7 ≤ 60000 ∧
    t.tbl.waits.has p.ring = false) := ⟨by decide +kernel, meets rfl (by decide +kernel)⟩

theorem witness_SaEvents : (∃ s : State, (s.tick 0).tbl.sas.get? 7 = some (sa0 1 .draining) ∧ (s.tick 0).saFrames 7 = false) ∧
    (∃ (s : State) (w : SaWait), (s.tick 0).tbl.waits.get? 5 = some w ∧ w.deadline ≤ (s.tick 0).now) :=
  ⟨⟨onSa waitPkt .draining, by decide +kernel⟩, { bound with tbl := { bound.tbl with waits := ⟨[(5, ⟨0, 0⟩)]⟩ } }, ⟨0, 0⟩, by decide +kernel⟩

/-- Pair 0 is an ESP pair. -/
def espPair (s : State) : State := { s with pairs := ⟨[(0, ⟨true, false⟩)]⟩ }

/-- POLICY_ADD's entry: IPv4, 10.0.0.0/8, BYPASS, pair 0, untagged. -/
def policyEntry : Bytes := [1, 4, 8, 2, 0, 0, 0xFF, 0xFF] ++ zeros 8 ++ [10] ++ zeros 31

theorem witness_PolicyAdd : Meets (espPair (mapped (one 0x0701 0 0 [] 48 0) .empty)) 0x0701 (dataOf [] policyEntry) (fun t p => ok (t.handles 0 p) ∧ p.areasOk ioIn ∧
    p.inlineFrom 0 ∧ t.policyEntryOk p.ring p.input ∧ allZero (slice p.input 0x20 8) ∧ t.policyMap p.ring p.input = some 3 ∧ t.policyRoom 3 p.input) :=
  meets rfl (by decide +kernel)

/-- A policy of slice 5 in slot 9. -/
def policyOne : Policy := ⟨5, 3, 4, 8, [10] ++ zeros 15, 2, 0, 100⟩

/-- A state with policies. -/
def withPols (s : State) (m : NMap Policy) : State := { s with tbl := { s.tbl with pols := m } }

def policied : State := withPols (mapped bound .empty) ⟨[(9, policyOne)]⟩

def polIdOne : Nat := policied.polId 5 9

theorem polId_lt (s : State) : s.polId 5 9 < 256 ^ 8 ∧ s.polId 5 9 % 2 ^ 16 = 9 := by
  have h : s.polGen 9 < 4096 := Nat.mod_lt _ (by decide)
  unfold State.polId
  omega

theorem polIdOne_lt : polIdOne < 256 ^ 8 := (polId_lt policied).1

theorem policyOfId_polId (b t : State) (m : NMap Policy) (p : Policy) (hm : m.get? 9 = some p) (hp : p.slice = 5) (h1 : t.tbl = (withPols b m).tbl)
    (h2 : t.ks = (withPols b m).ks) : t.policyOfId 5 ((withPols b m).polId 5 9) = some 9 := by
  have e1 : t.polId 5 9 = (withPols b m).polId 5 9 := by unfold State.polId State.polGen; rw [h1, h2]
  have e2 := (polId_lt (withPols b m)).2
  have e3 : t.tbl.pols.get? 9 = some p := by rw [h1]; exact hm
  unfold State.policyOfId
  simp only [e2, e3, e1, hp]
  simp

def deletePkt : Packet := pktOf 5 (entryOf 0x0702 0 0 (natLE 8 polIdOne ++ zeros 8) 0 0)

theorem withPkt_tbl (s : State) (p : Packet) : (withPkt s p).tbl = s.tbl ∧ (withPkt s p).ks = s.ks := ⟨rfl, rfl⟩

theorem witness_PolicyDelete_1 : Meets (withPkt policied deletePkt) 0x0702 (dataOf [] []) (fun t p => (ok (t.handles 0 p) ∧ p.inlineFrom 8) ∧
    t.policyOfId p.ring (p.par 0 7) = some 9 ∧ t.tbl.pols.get? 9 = some policyOne) := by
  refine meets rfl ⟨by decide +kernel, by decide +kernel, by decide +kernel, ?_, by decide +kernel⟩
  have e : (begun (withPkt policied deletePkt) (dataOf [] []) deletePkt).par 0 7 = polIdOne := par_natLE rfl polIdOne_lt
  rw [e]
  exact policyOfId_polId (mapped bound .empty) _ _ policyOne rfl rfl ((State.take_tbl _ _ _).trans (withPkt_tbl _ _).1)
    ((State.take_ks _ _ _).trans (withPkt_tbl _ _).2)

/-- Map entry 3 lost the policy of identifier 5 × 2^52 + 11. -/
def lostOne : State :=
  let s := mapped (one 0x0702 0 0 (natLE 8 (5 * 2 ^ 52 + 11)) 0 0) .empty
  { s with tbl := { s.tbl with map := ⟨[(3, ⟨0, none, some 5, false, false, false, [], 7, true, [5 * 2 ^ 52 + 11]⟩)]⟩ } }

theorem witness_PolicyDelete_2 : Meets lostOne 0x0702 (dataOf [] []) (fun t p => ok (t.handles 0 p) ∧ p.inlineFrom 8 ∧ t.policyOfId p.ring (p.par 0 7) = none ∧
    t.lostPolicy p.ring (p.par 0 7) = some 3) := meets rfl (by decide +kernel)

theorem witness_TblBanks : Meets (mgr bound 0x0710 0 [5] 0 0) 0x0710 (dataOf [] []) (fun t p => ok (t.handles 0 p) ∧ p.inlineFrom 1 ∧ p.par 0 0 ≠ 0 ∧ p.par 0 0 < 16) ∧
    Meets (mgr bound 0x0711 0 [15] 0 0) 0x0711 (dataOf [] []) (fun t p => ok (t.handles 0 p) ∧ p.inlineFrom 1 ∧ p.par 0 0 ≠ 0 ∧ p.par 0 0 < 16) :=
  ⟨meets rfl (by decide +kernel), meets rfl (by decide +kernel)⟩

/-- A flow entry of kind P. -/
def flowP (hit strike : Bool) : FlowEntry := ⟨hit, strike, 1, 77, 3 * 2, 7, 1, 0⟩

theorem witness_DirectedFlush : (∃ (s : State) (m : MapEntry), (s.tick 0).tbl.map.get? 3 = some m ∧ m.epoch = 1023) ∧
    (∃ (s : State) (e : FlowEntry), (s.directedFlush 4).tbl.bank.get? 9 = some e) :=
  ⟨⟨{ bound with tbl := { bound.tbl with map := ⟨[(3, ⟨0, none, some 5, false, false, false, [], 1023, false, []⟩)]⟩ } }, _, rfl, rfl⟩,
    ⟨{ bound with tbl := { bound.tbl with bank := ⟨[(9, flowP true false)]⟩ } }, flowP true false, by decide +kernel⟩⟩

theorem witness_Learn : (∃ s : State, (s.tick 0).learnQueue 1 = [flowP false false] ∧ (s.tick 0).bankRuns 1) ∧
    (∃ s : State, (s.tick 0).tbl.stash.find? (fun k _ => k / 64 == 1) = some (66, flowP true true) ∧ (s.tick 0).bankRuns 1 ∧ (s.tick 0).learnQueue 1 = []) :=
  ⟨⟨{ bound with tbl := { bound.tbl with learn := ⟨[(1, [flowP false false])]⟩ } }, by decide +kernel⟩,
    { bound with tbl := { bound.tbl with stash := ⟨[(66, flowP true true)]⟩ } }, by decide +kernel⟩

/-- Port 0's link is up and its partner's. -/
def linked (s : State) : State :=
  (List.range 5).foldl (fun s n => s.fset Fld.DEV_UNIT_TP_pd n 5) ((List.range 8).foldl (fun s n => s.fset Fld.NET_PORT_STATUS_up n 1) s)

theorem witness_Frames : ((linked up).tick 0).frameKind 0 false true ∧ ((linked up).tick 0).frameKind (((linked up).tick 0).partner 0) false false ∧
    ((linked (espPair up)).tick 0).frameKind 0 true true ∧ ((linked (espPair up)).tick 0).frameKind (((linked up).tick 0).partner 0) true false := by decide +kernel

theorem witness_Arrive : ∃ (s t : State), s = linked up ∧ t = s.pmc (0x0A0 + 0) 1 ∧ 64 ≤ (zeros 64).length ∧ (zeros 64).length ≤ 9216 ∧
    fieldBE (zeros 64) 12 2 ≠ 0x8808 ∧ t.linkUp (t.partner 0) ∧ t.stages 0 = false := ⟨_, _, rfl, rfl, by decide +kernel⟩

theorem witness_ArriveStaged : ∃ (s t : State), s = (linked up).setReg .GNT_HOLD 0 (BitVec.ofNat 64 (2 ^ 0x1D)) ∧ t = s.pmc (0x0A0 + 0) 1 ∧ 64 ≤ (zeros 64).length ∧
    fieldBE (zeros 64) 12 2 ≠ 0x8808 ∧ t.linkUp (t.partner 0) ∧ t.stages 0 ∧ t.stagedOctets 0 + (zeros 64).length ≤ stagingSize :=
  ⟨_, _, rfl, rfl, by decide +kernel⟩

/-- Frame 4 of port 0 is in a cluster, ready or bypasses. -/
def framed (at_ : FrameAt) : State :=
  let s := linked up
  { s with
    tbl := { s.tbl with frames := ⟨[(4, ⟨0, zeros 64, 7, 0, 1, at_, zeros 96, none⟩)]⟩ }
    blk := ⟨⟨[(192, ⟨⟨5, 8192, 0⟩, 1, zeros 16, [], 0, true⟩)]⟩, ⟨[(9, ⟨some 3, some ⟨5, 8192, 0⟩, 64, 0, true, 0, 1, 0, 0⟩)]⟩, 1, .empty, .empty⟩ }

theorem witness_InlineFinish_1 : ((framed .cluster).tick 0).blk.jobs.get? 9 = some ⟨some 3, some ⟨5, 8192, 0⟩, 64, 0, true, 0, 1, 0, 0⟩ ∧
    ((framed .cluster).tick 0).entryOf 3 ⟨5, 8192, 0⟩ = some (192, ⟨⟨5, 8192, 0⟩, 1, zeros 16, [], 0, true⟩) ∧
    (((framed .cluster).tick 0).workOn 3 9).clusterRuns 3 ∧ (((framed .cluster).tick 0).workOn 3 9).chunksDone 9 ∧
    ((framed .cluster).tick 0).tbl.frames.has 4 := by decide +kernel

theorem witness_InlineFinish_2 :
    (((framed .ready).tick 0).tbl.frames.get? 4).any (fun f => ((framed .ready).tick 0).txTurn 4 f && f.at_ == .ready) ∧
    (((framed .bypass).tick 0).tbl.frames.get? 4).any (fun f => ((framed .bypass).tick 0).txTurn 4 f && f.at_ == .bypass &&
      ((framed .bypass).tick 0).linkUp (((framed .bypass).tick 0).partner f.port) && ((framed .bypass).tick 0).txServed f) := by decide +kernel
/-! ## Witnesses: slices, shares and migration -/

/-- A share block: slice, generation, PASID, class. -/
def shareBlk (sl gen pasid cls : Nat) : Bytes :=
  natLE 2 sl ++ natLE 2 gen ++ natLE 4 pasid ++ natLE 2 10 ++ natLE 2 100 ++ natLE 2 1 ++ [12, 12] ++ natLE 4 500 ++ natLE 4 50 ++ [4] ++ natLE 1 cls ++
  natLE 2 0 ++ natLE 2 64 ++ zeros 2

/-- The device with key-cache lines to give. -/
def roomy (s : State) : State := s.fset Fld.DEV_KC_CAP_lines 0 4096

theorem witness_SliceBind : Meets (mgr (roomy bound) 0x0F01 2 (blockAt 32) 0 0) 0x0F01 (dataOf (shareBlk 6 0 0x101 0) []) (fun t p => ok (t.handles 0 p) ∧ p.pind ∧
      p.areasOk ioNone ∧ bindBlockOk p.block ∧ t.sliceState (shSlice p.block) = 0 ∧ t.pasidBound (shPasid p.block) = false ∧ t.sumsOk (shSlice p.block) p.block) ∧
    Meets (mgr (roomy bound) 0x0F01 2 (blockAt 32) 0 0) 0x0F01 (dataOf (shareBlk 5 0 0x101 0) []) (fun t p => ok (t.handles 0 p) ∧ p.pind ∧
      p.areasOk ioNone ∧ bindBlockOk p.block ∧ t.sliceState (shSlice p.block) ≠ 0) ∧ bindBlockOk (shareBlk 6 0 0x101 0) :=
  ⟨meets rfl (by decide +kernel), meets rfl (by decide +kernel), by decide +kernel⟩

theorem witness_ShareSet_now : Meets (mgr (roomy bound) 0x0F03 2 (blockAt 32) 0 0) 0x0F03 (dataOf (shareBlk 5 1 0 0) []) (fun t p =>
      okAnd (t.askShare 0 p) (fun b => shClass b != 1) ∧ ok (t.handles 0 p) ∧ p.pind ∧ p.areasOk ioNone ∧ setBlockOk p.block ∧
      ¬ (shClass p.block = 1 ∧ t.enduring (shSlice p.block) = false ∧ t.holdsCompat (shSlice p.block)) ∧ t.sliceState (shSlice p.block) = 1 ∧
      t.slc.builds.has (shSlice p.block) = false ∧ shGen p.block = t.fget Fld.SLC_STATE_share_gen (shSlice p.block) ∧
      t.sumsOk (shSlice p.block) p.block ∧ t.vecLeft (shSlice p.block) p.block = false) := meets rfl (by decide +kernel)

theorem witness_ShareSet_build : Meets (mgr (roomy bound) 0x0F03 2 (blockAt 32) 0 0) 0x0F03 (dataOf (shareBlk 5 1 0 1) []) (fun t p =>
      okAnd (t.askShare 0 p) (fun b => shClass b == 1 && t.enduring (shSlice b) == false && (t.buildMirrors (shSlice b)).any (fun u => u.withinQuota (shSlice b) b))) :=
  meets rfl (by decide +kernel)

/-- Slice 5 is enduring, with a record and an SA that lost a copy. -/
def lostCopy : State := ((mapped (keyed (trafficKey 0x01 0x80)) ⟨[(7, sa0 1 .active)]⟩).fset Fld.SLC_STATE_enduring 5 1)

theorem rebuilds (s : State) (r : KeyRec) (h : s.linesOk r.copy.lines.length r.copy.lines (s.firstLines (otherBanks r.copy.lines)
      r.copy.lines.length) = true) : ∃ u, s.rebuildRecord 8192 r = some u := by
  obtain ⟨l, hl⟩ := Option.isSome_iff_exists.mp (s.allocLines_isSome r.copy.lines.length r.copy.lines h)
  exact ⟨_, by unfold State.rebuildRecord; rw [hl]; rfl⟩

theorem firstFrom_some (p : Nat → Bool) (n k : Nat) (h : p k = true) : firstFrom p (n + 1) k = some k := by simp [firstFrom, h]

/-- Contexts outside bank 0 are found from the first context of bank 1 on. -/
theorem ctxAlloc_some (t : State) (n : Nat) (hc : t.ctxOk n [0] 65536 = true) : ∃ m, t.ctxAlloc n [0] = some m := by
  unfold State.ctxAlloc
  dsimp only
  split
  · exact ⟨_, rfl⟩
  · refine ⟨65536, ?_⟩
    rw [show (List.range 16).filter (fun b => !([0] : List Nat).contains b) = 1 :: (List.range' 2 14) by decide]
    rw [List.findSome?_cons, Nat.mul_one, firstFrom_some _ 65535 65536 hc]

theorem witness_Mirrors : (∃ (s : State) (b : ShareBuild), (s.tick 0).slc.builds.get? 5 = some b ∧
      (((s.tick 0).buildMirrors 5).any (fun t => t.withinQuota 5 b.block)) = true) ∧
    ((lostCopy.tick 0).ks.recs.get? 8192 = some (trafficKey 0x01 0x80) ∧ (lostCopy.tick 0).enduring 5 ∧ (trafficKey 0x01 0x80).mirror = none ∧
      ∃ u, (lostCopy.tick 0).rebuildRecord 8192 (trafficKey 0x01 0x80) = some u) ∧
    ((lostCopy.tick 0).tbl.sas.get? 7 = some (sa0 1 .active) ∧ (sa0 1 .active).mirror = none ∧ ∃ u, (lostCopy.tick 0).rebuildSa 7 (sa0 1 .active) = some u) := by
  refine ⟨⟨{ bound with slc := { bound.slc with builds := ⟨[(5, ⟨0, shareBlk 5 1 0 1⟩)]⟩ } }, ⟨0, shareBlk 5 1 0 1⟩, by decide +kernel⟩,
    ⟨by decide +kernel, by decide +kernel, rfl, rebuilds _ _ (by decide +kernel)⟩, by decide +kernel, rfl, ?_⟩
  have hb : ctxBanks 7 (sa0 1 .active).size = [0] := by decide +kernel
  obtain ⟨m, e⟩ := ctxAlloc_some (lostCopy.tick 0) (sa0 1 .active).size (by decide +kernel)
  exact ⟨_, by unfold State.rebuildSa; rw [hb, e]; rfl⟩

/-- The meter ring runs. -/
def metered (s : State) : State := (s.fset Fld.PMC_METER_CTRL_enable 0 1).fset Fld.PMC_METER_BASE_log2 0 8

theorem witness_SliceUnbind : Meets (mgr (metered bound) 0x0F02 0 (natLE 2 5) 0 0) 0x0F02 (dataOf [] []) (fun t p => ok (t.handles 0 p) ∧ p.areasOk ioNone ∧
    p.inlineFrom 2 ∧ p.par 0 1 ≤ 4095 ∧ t.sliceState (p.par 0 1) = 1 ∧ t.sealing = false ∧ (t.meterReserve 1).isSome) := meets rfl (by decide +kernel)

def offerPkt : Packet := pktOf managerRing (entryOf 0x0F09 0 0 ([1, 0] ++ natLE 2 6 ++ natLE 4 0x102) 0 32768)

theorem witness_Offer : ((withPkt bound offerPkt).tick 0).cmd.packets.any (fun n q => n == 0 && q.par 0 0 == 1) ∧
    Meets (withPkt bound offerPkt) 0x0F09 (dataOf [] []) (fun t p => ok (t.handles 0 p) ∧ p.areasOk ioOut ∧ p.inlineFrom 8 ∧ p.par 1 1 = 0 ∧ p.par 2 3 ≤ 4095 ∧
      p.par 4 7 ≤ 0xFFFFF ∧ t.sealing = false ∧ t.wiping = false ∧ (t.endOffer (p.par 2 3)).sliceState (p.par 2 3) = 0 ∧ (t.endOffer (p.par 2 3)).pasidBound (p.par 4 7) = false ∧
      p.fits offerLen) := ⟨by decide +kernel, meets rfl (by decide +kernel)⟩

/-- A live offer for slice 6. -/
def offer1 : Offer := ⟨9, 6, 0x102, zeros 32, ⟨zeros 64, zeros 64⟩, [], 600000000000⟩

theorem witness_OfferExpiry : ∃ s : State, (s.tick 0).slc.offers.get? 6 = some offer1 ∧ offer1.expiry ≤ (s.tick 0).now :=
  ⟨{ bound with now := 600000000000, slc := { bound.slc with offers := ⟨[(6, offer1)]⟩ } }, by decide +kernel⟩

/-- A statement with a nonce of zeros, of domain zero. -/
def statement0 : Bytes := natLE 4 1 ++ natLE 4 12854 ++ zeros 12846

/-- An offer with that statement. -/
def offer0 : Bytes := natLE 4 1 ++ zeros 1780 ++ statement0 ++ zeros 4723

def exportBlk (sl mode : Nat) : Bytes := natLE 2 sl ++ natLE 1 mode ++ zeros 5

def exporting : State := mgr (metered vaulted) 0x0F08 2 (blockAt 24) 19361 65536

/-- The signature checks are outside standards', left open. -/
theorem witness_SliceExport (ha : ∀ (a : Config.Alg) (l : List Bytes), Config.accepts a l = true) :
    exMode (dataOf (exportBlk 5 0 ++ nullToken) offer0).pind = 0 ∧
    Meets exporting 0x0F08 (dataOf (exportBlk 5 0 ++ nullToken) offer0) (fun t p => ∃ (r : State) (mu : Nat), t.askExport 0 p = .ok (r, mu)) := by
  refine ⟨by decide +kernel, meets rfl ⟨by decide +kernel, by decide +kernel, ?_⟩⟩
  have hi : (begun exporting (dataOf (exportBlk 5 0 ++ nullToken) offer0) (pktOf managerRing (entryOf 0x0F08 2 0 (blockAt 24) 19361 65536))).input = offer0 :=
    fitLen_of_length 19361 _ (by decide +kernel)
  generalize hp : begun exporting (dataOf (exportBlk 5 0 ++ nullToken) offer0) (pktOf managerRing (entryOf 0x0F08 2 0 (blockAt 24) 19361 65536)) = p at *
  generalize ht : taken exporting (dataOf (exportBlk 5 0 ++ nullToken) offer0) (pktOf managerRing (entryOf 0x0F08 2 0 (blockAt 24) 19361 65536)) = t at *
  have h1 : ok (t.handles 0 p) = true ∧ (p.pind && p.readOk true && exForm p.block true && exMode p.block == 0) = true ∧ p.areasOk ioBoth = true := by
    subst hp ht; decide +kernel
  have h2 : offerOk offer0 = true := by
    unfold offerOk statementOk attestVerify recipientOk
    simp only [ha]
    decide +kernel
  have h3 : t.vaultNow 5 = .ok (8300, zeros 32, policy0) ∧ exSlice p.block = 5 := by
    refine ⟨?_, by subst hp; decide +kernel⟩
    have hw : t.wiping = false ∧ t.vaultOf 5 = some (8300, zeros 32, policy0) := by subst ht; decide +kernel
    unfold State.vaultNow
    rw [hw.1, hw.2]
    rfl
  have h4 : (slice offer0 0x14 16 == t.domain && slice offer0 0x44 48 == t.mr 2 && statementDomain (offerStatement offer0) == t.domain &&
    statementMeas (offerStatement offer0) == t.mr 2) = true := by subst ht; decide +kernel
  have h5 : (t.sliceState 5 != slUnbinding && t.sliceState 5 != slExporting && t.bb.exportRec.isNone && !t.sealing) = true := by
    subst ht; decide +kernel
  have h7 : t.vaultQuorum 5 qMigrate true policy0 (sha384 offer0) (p.block.drop 8) p.data.approvals = some (t, 0, none) :=
    vaultQuorum_null _ _ _ _ _ _ _ _ (by subst hp; decide +kernel)
  obtain ⟨r, h6⟩ : ∃ r, t.meterReserve 1 = some r := Option.isSome_iff_exists.mp (by subst ht; decide +kernel)
  have h8 : (t.sliceState 5 == slBound) = true := by subst ht; decide +kernel
  obtain ⟨k, hk⟩ := exists_of_ok h1.1
  refine ⟨r, 0, ?_⟩
  unfold State.askExport
  rw [hk]
  simp only [bind, Except.bind, hi, h1.2.1, h1.2.2, h2, h3.1, h3.2, h4, h5, h6, h7, h8, require, requireIn, getOr, getIn, Bool.and_self, if_true]

theorem witness_SliceExport_size : exMode (dataOf (exportBlk 5 1) []).pind = 1 ∧ Meets (mgr vaulted 0x0F08 2 (blockAt 8) 0 0) 0x0F08 (dataOf (exportBlk 5 1) [])
    (fun t p => ok (t.handles 0 p) ∧ p.pind ∧ exForm p.block false ∧ p.areasOk ioNone ∧ t.sliceState (exSlice p.block) = 1) :=
  ⟨by decide +kernel, meets rfl (by decide +kernel)⟩

/-- The package of slice 5 is unsigned. -/
def pendingExport (mode inLen outLen : Nat) : State :=
  mgr { bound with bb := { bound.bb with exportRec := some (5, sha384 (zeros 64)) } } 0x0F08 2 (natLE 8 0x500000 ++ natLE 4 8 ++ natLE 4 (0 * mode)) inLen outLen

theorem witness_SliceExport_sign : exMode (dataOf (exportBlk 5 2) (zeros 64)).pind = 2 ∧ Meets (pendingExport 2 64 8192) 0x0F08 (dataOf (exportBlk 5 2) (zeros 64))
    (fun t p => (ok (t.handles 0 p) ∧ p.pind ∧ exForm p.block false ∧ p.areasOk ioBoth ∧ p.fits 4723) ∧ t.bb.exportRec = some (exSlice p.block, sha384 p.input)) := by
  refine ⟨by decide +kernel, meets rfl ⟨by decide +kernel, by decide +kernel, by decide +kernel, ?_⟩⟩
  have e : (begun (pendingExport 2 64 8192) (dataOf (exportBlk 5 2) (zeros 64)) (pktOf managerRing (entryOf 0x0F08 2 0 (natLE 8 0x500000 ++ natLE 4 8 ++ natLE 4 (0 * 2)) 64
    8192))).input = zeros 64 := by decide +kernel
  rw [e]
  rfl

theorem witness_SliceExport_discard : exMode (dataOf (exportBlk 5 3) []).pind = 3 ∧ Meets (pendingExport 3 0 0) 0x0F08 (dataOf (exportBlk 5 3) [])
    (fun t p => (ok (t.handles 0 p) ∧ p.pind ∧ exForm p.block false ∧ p.areasOk ioNone) ∧ t.bb.exportRec = some (exSlice p.block, sha384 (zeros 64))) :=
  ⟨by decide +kernel, meets rfl ⟨by decide +kernel, by decide +kernel, by decide +kernel, by rfl⟩⟩


/-- Slice 5 has two buffers and a window for its dirty log. -/
def logged : State := ((bound.setReg .SLC_DLOG_BUF0 5 0x1000).setReg .SLC_DLOG_BUF1 5 0x2000).fset Fld.SLC_DLOG_WIN_win_log2 5 21

theorem witness_DirtyLogControls : ((logged.tick 0).flag Fld.SLC_DLOG_CTRL_enable 5 = false ∧ (logged.tick 0).dlogOk 5) ∧
    ((bound.tick 0).flag Fld.SLC_DLOG_CTRL_enable 5 = false ∧ (bound.tick 0).dlogOk 5 = false) ∧
    (((logged.fset Fld.SLC_DLOG_CTRL_enable 5 1).tick 0).flag Fld.SLC_DLOG_CTRL_enable 5 ∧
      ((logged.fset Fld.SLC_DLOG_CTRL_enable 5 1).tick 0).flag Fld.SLC_DLOG_CTRL_flip 5 = false) ∧
    ((logged.fset Fld.SLC_DLOG_CTRL_flip 5 1).tick 0).flag Fld.SLC_DLOG_CTRL_flip 5 := by decide +kernel
/-! ## Witness: the import of a slice -/

/-- The share section of a package, its queue pairs, and its body. -/
def pkgShare : Bytes := shareBlk 5 1 0x100 0

def pkgQp (q : Nat) : Bytes := natLE 1 q ++ zeros 47

def pkgSections : List (Nat × Bytes) := (1, pkgShare) :: (List.range 8).map (fun q => (7, pkgQp q)) ++ [(8, statement0)]

def pkgBody : Bytes := pkgSections.flatMap (fun e => packSection e.1 e.2) ++ packSection 0xFF []

/-- The package's head, for the slice of the offer. -/
def pkgHead : Bytes := natLE 4 1 ++ natLE 4 (0x718 + 13360 + 4723) ++ zeros 0x42 ++ natLE 2 6 ++ natLE 4 13360 ++ zeros 0x30

def pkgCore : Bytes := transferOf (zeros 64) pkgHead (zeros 1568) (zeros 97) migrateLabel pkgBody

def pkg0 : Bytes := pkgCore ++ zeros 4723

theorem pkgBody_length : pkgBody.length = 13360 := by decide +kernel

theorem pkgHead_length : pkgHead.length = 0x80 := by decide +kernel

theorem pkgCore_length : pkgCore.length = 0x718 + 13360 := by
  unfold pkgCore
  rw [transferOf_length _ _ _ _ _ _ pkgHead_length (zeros_length _) (zeros_length _), pkgBody_length]

theorem pkg0_length : pkg0.length = 0x718 + 13360 + 4723 := by
  unfold pkg0
  rw [List.length_append, pkgCore_length, zeros_length]

theorem pkg0_prefix (off n : Nat) (h : off + n ≤ 0x708) : slice pkg0 off n = slice (pkgHead ++ zeros 1568 ++ zeros 97 ++ zeros 7) off n := by
  unfold pkg0
  rw [slice_append_of_le _ _ _ _ (by rw [pkgCore_length]; omega)]
  exact transferOf_prefix _ _ _ _ _ _ _ _ pkgHead_length (zeros_length _) (zeros_length _) h

/-- A transfer opens whatever follows it. -/
theorem openTransfer_append (seed t r label : Bytes) (len : Nat) (h : t.length = 0x718 + len) :
    openTransfer seed (t ++ r) label len = openTransfer seed t label len := by
  unfold openTransfer
  rw [slice_append_of_le _ _ _ _ (by omega), slice_append_of_le _ _ _ _ (by omega), slice_append_of_le _ _ _ _ (by omega),
    slice_append_of_le _ _ _ _ (by omega), List.take_append_of_le_length (by omega), List.take_append_of_le_length (by omega)]

theorem pkg0_opens (ha : ∀ (a : Config.Alg) (l : List Bytes), Config.accepts a l = true) :
    ∃ k : Bytes, openTransfer (zeros 64) pkg0 migrateLabel 13360 = some (pkgBody, k) := by
  obtain ⟨k, e⟩ := openTransfer_transferOf (zeros 64) pkgHead (zeros 1568) (zeros 97) migrateLabel pkgBody pkgHead_length (zeros_length _) (zeros_length _) (ha _ _)
  rw [pkgBody_length] at e
  exact ⟨k, by unfold pkg0; rw [openTransfer_append _ _ _ _ _ pkgCore_length]; exact e⟩

/-- A section is unpacked, and the rest follows. -/
theorem unpack_packSection (f t : Nat) (c r : Bytes) (ht : t < 65536) (h : t ≠ 0xFF) (hc : c.length < 2 ^ 32) :
    unpack (f + 1) (packSection t c ++ r) = (unpack f r).map (fun l => (t, c) :: l) := by
  have hl : (natLE 2 t ++ zeros 2 ++ natLE 4 c.length).length = 8 := by simp
  have e : packSection t c ++ r = (natLE 2 t ++ zeros 2 ++ natLE 4 c.length) ++ (c ++ (zeros ((8 - c.length % 8) % 8) ++ r)) := by
    simp [packSection, List.append_assoc]
  have hfull : 8 + (c.length + 7) / 8 * 8 = 8 + c.length + (8 - c.length % 8) % 8 := by omega
  have f0 : field (packSection t c ++ r) 0 2 = t := by
    unfold field
    rw [e, slice_append_of_le _ _ _ _ (by rw [hl]; omega)]
    have : slice (natLE 2 t ++ zeros 2 ++ natLE 4 c.length) 0 2 = natLE 2 t := rfl
    rw [this, leNat_natLE]
    exact Nat.mod_eq_of_lt ht
  have f2 : field (packSection t c ++ r) 2 2 = 0 := by
    unfold field
    rw [e, slice_append_of_le _ _ _ _ (by rw [hl]; omega)]
    rfl
  have f4 : field (packSection t c ++ r) 4 4 = c.length := by
    unfold field
    rw [e, slice_append_of_le _ _ _ _ (by rw [hl])]
    have : slice (natLE 2 t ++ zeros 2 ++ natLE 4 c.length) 4 4 = natLE 4 c.length := rfl
    rw [this, leNat_natLE]
    exact Nat.mod_eq_of_lt hc
  have fc : slice (packSection t c ++ r) 8 c.length = c := by
    rw [e, slice_append_of_ge _ _ _ _ (by rw [hl]), hl, slice_append_of_le _ _ _ _ (by simp)]
    exact slice_all _ _ rfl
  have fl : (packSection t c ++ r).length = 8 + c.length + (8 - c.length % 8) % 8 + r.length := by
    rw [e]; simp; omega
  have fd : (packSection t c ++ r).drop (8 + c.length + (8 - c.length % 8) % 8) = r := by
    have : (packSection t c).length = 8 + c.length + (8 - c.length % 8) % 8 := by simp [packSection]; omega
    rw [← this]
    simp
  rw [unpack.eq_2]
  rw [f0, f2, f4, hfull, fl, if_neg (by simp), if_neg h, fc, fd]

theorem pkg0_unpacks : unpack (13360 + 1) pkgBody = some pkgSections := by
  have e : pkgBody = packSection 1 pkgShare ++ (packSection 7 (pkgQp 0) ++ (packSection 7 (pkgQp 1) ++ (packSection 7 (pkgQp 2) ++ (packSection 7 (pkgQp 3) ++
      (packSection 7 (pkgQp 4) ++ (packSection 7 (pkgQp 5) ++ (packSection 7 (pkgQp 6) ++ (packSection 7 (pkgQp 7) ++ (packSection 8 statement0 ++
      packSection 0xFF []))))))))) := by
    simp only [pkgBody, pkgSections, List.range, List.range.loop, List.map_cons, List.map_nil, List.flatMap_cons, List.flatMap_nil,
      List.cons_append, List.nil_append, List.append_nil, List.append_assoc]
  have hq : ∀ n, (pkgQp n).length < 2 ^ 32 := fun n => by simp [pkgQp]
  have hs : statement0.length < 2 ^ 32 := by decide +kernel
  rw [e, unpack_packSection _ _ _ _ (by decide) (by decide) (by decide +kernel)]
  iterate 8 rw [unpack_packSection _ _ _ _ (by decide) (by decide) (hq _)]
  rw [unpack_packSection _ _ _ _ (by decide) (by decide) hs]
  have : unpack 13351 (packSection 0xFF []) = some [] := by decide +kernel
  rw [this]
  rfl

theorem pkg0_opened (ha : ∀ (a : Config.Alg) (l : List Bytes), Config.accepts a l = true) (s : State)
    (hs : (statementDomain statement0 == s.domain && statementMeas statement0 == s.mr 2) = true) :
    ∃ k : Bytes, s.openPackage offer1 pkg0 = some (pkgSections, k) := by
  obtain ⟨k, e⟩ := pkg0_opens ha
  refine ⟨k, ?_⟩
  have hf : ∀ off n, off + n ≤ 0x708 → field pkg0 off n = field (pkgHead ++ zeros 1568 ++ zeros 97 ++ zeros 7) off n :=
    fun off n h => by unfold field; rw [pkg0_prefix off n h]
  have f : field pkg0 0 4 = 1 ∧ field pkg0 4 4 = 0x718 + 13360 + 4723 ∧ field pkg0 0x4A 2 = 6 ∧ field pkg0 0x4C 4 = 13360 := by
    rw [hf 0 4 (by decide), hf 4 4 (by decide), hf 0x4A 2 (by decide), hf 0x4C 4 (by decide)]
    decide +kernel
  have g : slice pkg0 0x28 32 = zeros 32 ∧ allZero (slice pkg0 0x58 40) = true ∧ allZero (slice pkg0 0x701 7) = true := by
    rw [pkg0_prefix _ _ (by decide), pkg0_prefix _ _ (by decide), pkg0_prefix _ _ (by decide)]
    decide +kernel
  have hst : statementOk statement0 (zeros 32) = true := by
    unfold statementOk attestVerify
    simp only [ha]
    decide +kernel
  have hc0 : sectionsOk pkgSections = true ∧ shareRecordOk ((contentsOf pkgSections 1).headD []) = true := by decide +kernel
  have hc : (contentsOf pkgSections 8).headD [] = statement0 ∧ sectionsOk pkgSections = true ∧ shareRecordOk ((contentsOf pkgSections 1).headD []) = true :=
    ⟨by rfl, hc0⟩
  have hav : ∀ c x y, attestVerify c x y = true := fun c x y => by unfold attestVerify; simp only [ha]; rfl
  have hn : offer1.nonce = zeros 32 ∧ offer1.slice = 6 ∧ offer1.keys.value = zeros 64 := ⟨rfl, rfl, by decide +kernel⟩
  simp only [Bool.and_eq_true] at hs
  unfold State.openPackage
  dsimp only
  rw [f.1, f.2.1, f.2.2.1, f.2.2.2, g.1, g.2.1, g.2.2, pkg0_length, hn.1, hn.2.1, hn.2.2, e]
  dsimp only
  rw [pkgBody_length, pkg0_unpacks]
  dsimp only
  rw [hc.1, hc.2.1, hc.2.2, hst, hav, hs.1, hs.2]
  rfl

def moveInPkt : Packet := pktOf managerRing (entryOf 0x0F09 0 0 ([2] ++ zeros 7 ++ natLE 8 9) 19899 4096)

/-- Slice 6 imports under its offer. -/
def movingIn : State :=
  let s := roomy vaulted
  withPkt { s with slc := { s.slc with offers := ⟨[(6, offer1)]⟩ } } moveInPkt

theorem importSlice_of_open {s : State} {o : Offer} {p : Packet} {x k : Bytes} {l : List (Nat × Bytes)} (hi : p.input = x)
    (e : s.openPackage o x = some (l, k)) : s.importSlice o p = s.installPackage o p l k := by
  unfold State.importSlice
  rw [hi, e]
  rfl

theorem pkg0_installs (k : Bytes) : ∃ r : Did, (taken movingIn (dataOf [] pkg0) moveInPkt).installPackage offer1 (begun movingIn (dataOf [] pkg0) moveInPkt)
    pkgSections k = .ok r := by
  have h2 : contentsOf pkgSections 2 = [] := by decide +kernel
  have h : ∀ (s : State) (p : Packet), s.installPackage offer1 p pkgSections k = s.installPackage offer1 p pkgSections [] := fun s p => by
    unfold State.installPackage
    rw [h2]
    rfl
  rw [h]
  exact exists_of_ok (by decide +kernel)

/-- The signature and point checks are outside standards', left open. -/
theorem witness_SliceImport (ha : ∀ (a : Config.Alg) (l : List Bytes), Config.accepts a l = true) :
    ((movingIn.tick 0).cmd.packets.any (fun n q => n == 0 && q.par 0 0 != 1)) ∧
    Meets movingIn 0x0F09 (dataOf [] pkg0) (fun t p => (ok (t.handles 0 p) ∧ p.areasOk ioBoth ∧ p.pind = false ∧ p.par 0 0 = 2 ∧ p.par 1 7 = 0 ∧ t.sealing = false ∧ t.wiping = false) ∧
      t.slc.offers.find? (fun _ o => o.ident == p.par 8 15 && decide (t.now < o.expiry)) = some (6, offer1) ∧ ∃ r : Did, t.importSlice offer1 p = .ok r) := by
  refine ⟨by decide +kernel, meets (p := moveInPkt) rfl ⟨by decide +kernel, by decide +kernel, by decide +kernel, by decide +kernel, ?_⟩⟩
  have hi : (begun movingIn (dataOf [] pkg0) moveInPkt).input = pkg0 := fitLen_of_length 19899 _ pkg0_length
  obtain ⟨k, e⟩ := pkg0_opened ha (taken movingIn (dataOf [] pkg0) moveInPkt) (by decide +kernel)
  obtain ⟨r, h⟩ := pkg0_installs k
  exact ⟨r, (importSlice_of_open hi e).trans h⟩

/-! ## Witnesses: entropy, key store, worlds -/

/-- The secure world of pair 0, and the open world. -/
def secureM : Master := ⟨0x08, 0, none⟩

/-- Sirocco's warm-up blocks have passed. -/
def warm : State := { up with rng := { up.rng with discard := 0 } }

theorem witness_Entropy : (warm.tick 0).siroccoRuns ∧ (warm.tick 0).rng.discard = 0 ∧ (warm.tick 0).flag Fld.RNG_STATUS_running 0 = false ∧
    (up.tick 0).flag Fld.RNG_STATUS_fatal 0 = false ∧ (up.tick 0).masterOpen secureM = false ∧ (up.tick 0).lc ≠ 1 := by decide +kernel

theorem witness_DrbgKat : ∃ s : State, 65536 ≤ (s.tick 0).rng.calls.getD 3 0 :=
  ⟨{ up with rng := { up.rng with calls := ⟨[(3, 65536)]⟩ } }, by decide +kernel⟩

/-- Life cycle FACTORY (1) and PRODUCTION (2). -/
def inLc (n : Nat) : State := up.fset Fld.LC_STATE_lc 0 n

theorem witness_TestMode : ((inLc 1).tick 0).testAllowed ∧ ((inLc 1).tick 0).flag Fld.RNG_STATUS_test 0 = false ∧ ((inLc 1).tick 0).lc = 1 ∧
    ((inLc 2).tick 0).testAllowed = false ∧ (((inLc 1).fset Fld.RNG_TEST_enable 0 1).tick 0).flag Fld.RNG_TEST_enable 0 ∧
    ((up.fset Fld.RNG_STATUS_test 0 1).tick 0).flag Fld.RNG_STATUS_test 0 := by decide +kernel

theorem witness_RawRead : (∃ s : State, (s.tick 0).rng.fifo = [5, 6] ∧ (s.tick 0).flag Fld.RNG_STATUS_test 0) ∧ (up.tick 0).rng.fifo = [] :=
  ⟨⟨let s := up.fset Fld.RNG_STATUS_test 0 1; { s with rng := { s.rng with fifo := [5, 6] } }, by decide +kernel⟩, by decide +kernel⟩

/-- Frequencies of the 64 rings: all 1,000, but the first of pair 3 as given. -/
def ringsWith (f : Nat) : List Nat := List.replicate 6 1000 ++ f :: List.replicate 57 1000

/-- A block of equal samples fails, whether three failures came before it or none; the clauses' cutoffs meet at 2 times the reference. -/
theorem witness_FailedBlock : up.flag Fld.RNG_STATUS_pattern 0 = false ∧ up.flag Fld.RNG_STATUS_test 0 = false ∧
    blockTest (runOver ⟨up.rng.runBit, up.rng.runLen, false⟩ 0) 0 (deadPairs up.rng.ref (ringsWith 1000)) (lockTest up.rng (ringsWith 1000)).2 ≠ 0 ∧
    (up.rng.fails.filter (fun x => decide (up.now ≤ x + 10000000000))).length < 3 ∧
    3 ≤ ([1, 2, 3].filter (fun x => decide (4 ≤ x + 10000000000))).length ∧ (firstCount 0 = 1024 ∧ blockTest ⟨false, 1, false⟩ 0 0 0 = 2) ∧
    blockTest ⟨false, 1, false⟩ (2 ^ 512 - 1) 1 0 = 3 ∧ blockTest ⟨false, 1, false⟩ (2 ^ 512 - 1) 0 1 = 4 ∧
    deadPairs (ringsWith 1000) (ringsWith 2001) = 8 ∧ deadPairs (ringsWith 1000) (ringsWith 2000) = 0 ∧
    deadPairs (ringsWith 1000) (ringsWith 499) = 8 ∧ deadPairs (ringsWith 1000) (ringsWith 500) = 0 := by decide +kernel

/-- A pair of combinations that holds its ratio over eight measurements is locked at the eighth: combination 0 is measured in block turn 0. -/
theorem test_lock : (lockTest { up.rng with locks := ⟨[(0, List.replicate 7 (1000, 1000))]⟩ } (ringsWith 1000)).2 = 3 ∧
    (lockTest { up.rng with locks := ⟨[(0, List.replicate 6 (1000, 1000))]⟩ } (ringsWith 1000)).2 = 0 := by decide +kernel

/-- Slot 8200 is in use, slot 8201 is not. -/
def slotted : State := { up with ks := { up.ks with slots := ⟨[(8200, ⟨0, 5, 1, false, [], zeros 64, zeros 64, [], []⟩)]⟩ } }

/-- The device runs on backup power. -/
def onBattery : State := { up with gnt := { up.gnt with main := false, ka := true } }

theorem witness_Remask : ((slotted.tick 0).onBackup = false ∧ (slotted.tick 0).islandHeld 0x02 = false) ∧
    (∃ (u : State) (m : Bytes) (c : CompatSlot), (slotted.tick 0).nextMask = (m, u) ∧ u.ks.slots.get? 8200 = some c ∧ u.ks.slots.get? 8201 = none) ∧
    (onBattery.tick 0).onBackup ∧ ∃ (u : State) (m : Bytes), (onBattery.tick 0).nextKaMask = (m, u) :=
  ⟨by decide +kernel, ⟨_, _, ⟨0, 5, 1, false, [], zeros 64, zeros 64, [], []⟩, rfl, by decide +kernel⟩, by decide +kernel, _, _, rfl⟩

theorem witness_KsCommands : (0x1C1EA : Nat) % 2 ^ 16 = 0xC1EA ∧ (0xC1EB : Nat) % 2 ^ 16 ≠ 0xC1EA ∧
    ((up.fset Fld.KS_STATUS_wipe_busy 0 1).tick 0).wiping ∧ ((up.fset Fld.KS_STATUS_wipe_busy 0 1).tick 0).erasing = false ∧
    (up.tick 0).flag Fld.KS_COMPAT_LOCK_lock 0 = false ∧ ((up.fset Fld.KS_COMPAT_LOCK_lock 0 1).tick 0).flag Fld.KS_COMPAT_LOCK_lock 0 ∧
    (up.tick 0).fw.act = none := by decide +kernel

theorem witness_LatePass : (∃ s : State, (s.tick 0).ks.passStart + 2000000000 ≤ (s.tick 0).now) ∧ (up.tick 0).now < (up.tick 0).ks.passStart + 2000000000 :=
  ⟨⟨{ up with now := 2000000000 }, by decide +kernel⟩, by decide +kernel⟩

/-- Pair 0 in a world, with a call's cause and function. -/
def inWorld (open_ : Bool) (fn : Nat) (g : Vector Nat 32) : State :=
  let s := ((up.fset Fld.MPU_CTRL_en 2 1).fset Fld.MPU_CTRL_world 2 1).fset Fld.MPU_CTRL_size_log2 2 19
  let s := ((s.fset Fld.MPU_CTRL_r 2 1).fset Fld.MPU_CTRL_w 2 1).setReg .MPU_BASE 2 0x10000000
  s.setPair 0 { PairWorld.reset with world := open_, wcause := 1, warg := fn, g := g, wvec := 0x10000100, wepc := 0x10000200 }

def noG : Vector Nat 32 := Vector.replicate 32 0

def bufG (a len : Nat) : Vector Nat 32 := (noG.set 1 a).set 2 len

theorem witness_Wcall : (((inWorld true 0 noG).tick 0).pairOf 0).world ∧ (((inWorld false 0 noG).tick 0).pairOf 0).world = false ∧
    ((inWorld false 0 noG).tick 0).openHere 0 ∧ (((inWorld false 0 noG).tick 0).pairOf 0).haltPending = false ∧ (((inWorld false 0 noG).tick 0).pairOf 0).halted = false ∧
    irqAssigned 0x10 ∧ ((inWorld true 0 noG).tick 0).irqWorld 0x10 = 0 ∧ ((inWorld true 0 noG).tick 0).takesIrq 0x10 0 := by decide +kernel

theorem witness_MonitorCalls : ((inWorld false 0 noG).tick 0).inCall 0 0 ∧ ((inWorld false 3 noG).tick 0).inCall 0 3 ∧
    (((inWorld false 1 (bufG 0x10000000 64)).tick 0).inCall 0 1 ∧ ((inWorld false 1 (bufG 0x10000000 64)).tick 0).bufferOk .read
      ((((inWorld false 1 (bufG 0x10000000 64)).tick 0).pairOf 0).getG 1) 64 ∧ ((inWorld false 1 (bufG 0x10000000 64)).tick 0).wld.toSecure.length < 64) ∧
    ((inWorld false 1 (bufG 0x20000000 64)).tick 0).bufferOk .read ((((inWorld false 1 (bufG 0x20000000 64)).tick 0).pairOf 0).getG 1)
      ((((inWorld false 1 (bufG 0x20000000 64)).tick 0).pairOf 0).getG 2) = false := by decide +kernel

theorem witness_MsgRecv : ∃ s : State, (s.tick 0).inCall 0 2 ∧ (s.tick 0).bufferOk .write (((s.tick 0).pairOf 0).getG 1) (((s.tick 0).pairOf 0).getG 2) ∧
    (s.tick 0).wld.toOpen = [zeros 64] :=
  ⟨let s := inWorld false 2 (bufG 0x10000000 64); { s with wld := { s.wld with toOpen := [zeros 64] } }, by decide +kernel⟩

/-- The assignment lock and the debug lock are set. -/
def locked : State := (up.fset Fld.WLD_LOCK_assign_lock 0 1).fset Fld.WLD_LOCK_dbg_lock 0 1

theorem witness_AssignmentLock : (locked.tick 0).masterOpen secureM = false ∧ (locked.tick 0).flag Fld.WLD_LOCK_assign_lock 0 ∧
    (locked.tick 0).flag Fld.WLD_LOCK_dbg_lock 0 ∧ (internalReg 0x45000008).any (fun r => r.name == .WLD_PER) ∧
    (internalReg 0x45000440).any (fun r => r.name == .WLD_IRQ && irqAssigned r.index) ∧
    (internalReg 0x45000140).any (fun r => r.name == .WLD_ISLAND && islandAssigned r.index && (1 : Nat) % 2 != (locked.tick 0).fget Fld.WLD_ISLAND_world r.index ||
      (0 : Nat) % 2 != (locked.tick 0).fget Fld.WLD_ISLAND_world r.index) ∧
    (internalReg 0x45000004).any (fun r => r.name == .WLD_DBG) := by decide +kernel

theorem witness_RuleWrite : (internalReg 0x45000008).any (fun r => isRule r.name && decide (r.index < 131072) &&
    ((up.tick 0).ruleWrite r (BitVec.ofNat 64 0xF0)).isSome) := by decide +kernel

theorem witness_Islands : islandAssigned 0x12 ∧ islandAssigned 0x3F = false ∧ (0x0F < 0x10 ∨ 0x13 < 0x0F) ∧
    (let t := ((up.fset Fld.WLD_ISLAND_pwr 0x10 3).fset Fld.WLD_ISLAND_req 0x10 1).fset Fld.WLD_ISLAND_rel 0x10 1
     (t.tick 0).fget Fld.WLD_ISLAND_pwr 0x10 = 3 ∧ (t.tick 0).islandHeld 0x10 = false ∧ (t.tick 0).fget Fld.WLD_ISLAND_req 0x10 ≠ 0 ∧ (t.tick 0).islandFree 0x10) ∧
    ((up.fset Fld.WLD_ISLAND_pwr 0x10 4).tick 0).fget Fld.WLD_ISLAND_pwr 0x10 = 4 ∧
    (((inWorld false 0 noG).tick 0).pairOf 0).world = false ∧ ((inWorld false 0 noG).tick 0).flag Fld.WLD_DBG_s_inv 0 = false := by decide +kernel

/-! ## Witnesses: boot, life cycle, firmware, modes and configuration -/

/-- The device in a boot phase. -/
def inBoot (n : Nat) : State := up.fset Fld.DEV_BOOT_STATUS_phase 0 n

theorem witness_IslandSelftest : 2 ≤ ((inBoot 4).tick 0).phase ∧ ((inBoot 4).tick 0).phase ≤ 5 ∧ testedIslands.contains 0x20 ∧
    ((inBoot 4).tick 0).boot.tested.contains 0x20 = false := by decide +kernel

/-- Every island has passed and both boot instances are ready. -/
def configured : State :=
  let s := (inBoot 5).fset Fld.RNG_STATUS_inst 0 0xF
  { s with boot := { s.boot with tested := testedIslands } }

theorem witness_FirmwarePhase : (configured.tick 0).phase = 5 ∧ (∀ i : Nat, testedIslands.contains i → (configured.tick 0).boot.tested.contains i) ∧
    (configured.tick 0).drbgReady 2 ∧ (configured.tick 0).drbgReady 3 ∧ (configured.tick 0).clearHeld = false :=
  ⟨by decide +kernel, fun _ h => h, by decide +kernel, by decide +kernel, by decide +kernel⟩

theorem witness_BootReady : (let s := ((inBoot 6).fset Fld.WLD_LOCK_assign_lock 0 1).fset Fld.GNT_LOCK_lock 0 1
      (s.tick 0).phase = 6 ∧ (s.tick 0).flag Fld.WLD_LOCK_assign_lock 0 ∧ (s.tick 0).flag Fld.GNT_LOCK_lock 0) ∧
    ((inBoot 6).tick 0).flag Fld.GNT_LOCK_lock 0 = false := by decide +kernel

/-- A valid image of a kind without code, whose content digest stands in its head. -/
def imgHead (kind : Nat) : Bytes := natLE 4 1 ++ natLE 1 kind ++ zeros 11

def image0 (kind : Nat) : Bytes := imgHead kind ++ sha384 [] ++ zeros 7475

theorem imgHead_length (kind : Nat) : (imgHead kind).length = 0x10 := by simp [imgHead]

theorem sha384_length (b : Bytes) : (sha384 b).length = 48 := fitLen_length _ _

theorem image0_length (kind : Nat) : (image0 kind).length = 7539 := by
  simp only [image0, List.length_append, imgHead_length, sha384_length, zeros_length]

/-- The signature checks and the vendor's key digest are outside values, left open. -/
theorem image0_ok (kind : Nat) (hk : kind = 1 ∨ kind = 2) (ha : ∀ (a : Config.Alg) (l : List Bytes), Config.accepts a l = true)
    (hv : sha384 (imageKeys (image0 kind)) = fitLen 48 (Config.vendorKeys 0)) : imageOk kind (image0 kind) = true := by
  have hh := imgHead_length kind
  have hf : ∀ off n, off + n ≤ 0x10 → field (image0 kind) off n = field (imgHead kind) off n := fun off n h => by
    unfold field image0
    rw [List.append_assoc, slice_append_of_le _ _ _ _ (by omega)]
  have f : field (image0 kind) 0 4 = 1 ∧ field (image0 kind) 4 1 = kind ∧ field (image0 kind) 5 1 = 0 ∧ field (image0 kind) 6 2 = 0 ∧
      field (image0 kind) 0x0C 4 = 0 := by
    rw [hf 0 4 (by decide), hf 4 1 (by decide), hf 5 1 (by decide), hf 6 2 (by decide), hf 0x0C 4 (by decide)]
    rcases hk with rfl | rfl <;> decide +kernel
  have hz : allZero (slice (image0 kind) 0xAC1 63) = true := by
    unfold image0
    rw [slice_append_of_ge _ _ _ _ (by rw [List.length_append, hh, sha384_length]; omega), List.length_append, hh, sha384_length]
    decide +kernel
  have hd : slice (image0 kind) 0x10 48 = sha384 [] := by
    unfold image0
    rw [List.append_assoc, slice_append_of_ge _ _ _ _ (by omega), hh, slice_append_of_le _ _ _ _ (by rw [sha384_length])]
    exact slice_all _ _ (sha384_length _)
  have hc : slice (image0 kind) 0xB00 0 = [] := by simp [slice]
  unfold imageOk
  simp only [f.1, f.2.1, f.2.2.1, f.2.2.2.1, f.2.2.2.2, hz, hd, hc, hv, ha, image0_length]
  rcases hk with rfl | rfl <;> simp [slotSize]

/-- Recovery with the length of that image. -/
def recovering : State := (inBoot 0xE).fset Fld.DEV_RCV_LEN_len 0 7539

theorem witness_Recovery (ha : ∀ (a : Config.Alg) (l : List Bytes), Config.accepts a l = true)
    (hv : sha384 (imageKeys (image0 1)) = fitLen 48 (Config.vendorKeys 0)) :
    (recovering.tick 0).phase = 0xE ∧ (recovering.tick 0).gnt.rpDue = false ∧
    imageOk 1 (fitLen (min ((recovering.tick 0).fget Fld.DEV_RCV_LEN_len 0) (slotSize 1)) (image0 1)) ∧
    (∀ (i : Nat) (x : Directory), (recovering.tick 0).flash.directory = some (i, x) → x.gen < 2 ^ 32 - 1) := by
  have h : min ((recovering.tick 0).fget Fld.DEV_RCV_LEN_len 0) (slotSize 1) = 7539 := by decide +kernel
  have hn : (recovering.tick 0).flash.directory = none := by decide +kernel
  refine ⟨by decide +kernel, by decide +kernel, ?_, fun i x e => by rw [hn] at e; cases e⟩
  rw [h, fitLen_of_length _ _ (image0_length 1)]
  exact image0_ok 1 (.inl rfl) ha hv

theorem witness_RecoveryRefused : imageOk 1 (fitLen (min ((recovering.tick 0).fget Fld.DEV_RCV_LEN_len 0) (slotSize 1)) []) = false := by decide +kernel

theorem witness_HostLinkUp : 2 ≤ (up.tick 0).fget Fld.DEV_BOOT_STATUS_phase 0 ∧ (up.tick 0).gnt.main := by decide +kernel

/-- A live device challenge under the policy of one officer, record 0 being current. -/
def challengeD (cls : Nat) (digest : Bytes) : Challenge := ⟨1, dqSlice, cls, 0, 0, 60000000000, digest, zeros 1832, ⟨[], []⟩, policy1⟩

def dqState (s : State) (cls : Nat) (digest : Bytes) : State :=
  { s with otp := s.otp.programDq 0 (zeros 48), vlt := { s.vlt with challenges := [challengeD cls digest] } }

theorem deviceQuorum_one (s : State) (cls : Nat) (digest : Bytes) (h : s.vlt.challenges = [challengeD cls digest]) (hd : s.otp.dqCurrent = some 0)
    (hn : s.now < 60000000000) (ha : Config.accepts .ed25519 [zeros 32, quorumLabel ++ zeros 1832, zeros 64] = true) :
    s.deviceQuorum cls digest oneToken [(zeros 32, zeros 64)] = some (s.endChallenge 1, tokenCharge oneToken) := by
  have h1 : tokenOk oneToken 1 = true ∧ tokenA oneToken = 1 ∧ field oneToken 8 8 = 1 := by decide +kernel
  have h2 : field policy1 1 1 = 1 ∧ field policy1 2 1 = 1 := by decide +kernel
  have hc : s.tokenChallenge oneToken dqSlice cls 0 digest = some (challengeD cls digest) := by
    unfold State.tokenChallenge
    rw [h, h1.2.2]
    simp [challengeD, Challenge.live, hn]
  unfold State.deviceQuorum
  rw [hd]
  dsimp only
  rw [hc]
  dsimp only
  rw [show (challengeD cls digest).block = policy1 from rfl, show (challengeD cls digest).body = zeros 1832 from rfl, h2.1, h2.2, h1.1, h1.2.1, entries_one ha]
  rfl

theorem dqState_challenges {t : State} (s : State) (cls : Nat) (digest : Bytes) (p : Packet) (d : PktData) (h : t = withPkt (dqState s cls digest) p) :
    (taken t d p).vlt.challenges = [challengeD cls digest] := by
  subst h
  have e := congrArg (fun t : State => t.vlt) ((withPkt (dqState s cls digest) p).take_frame 0 { p with data := { d with refused := d.refused || p.data.refused } })
  exact congrArg (fun v : VaultUnit => v.challenges) e

/-- The block of LC_TRANSITION: FACTORY to PROVISIONED, without consents. -/
def lcBlock : Bytes := natLE 4 1 ++ [2, 1, 0] ++ zeros 9

def lcPkt (inLen : Nat) : Packet := pktOf managerRing (entryOf 0x0F07 2 0 (blockAt 48) inLen 0)

def lcDigest : Bytes := sha384 ((inLc 1).deviceId ++ natLE 1 1 ++ natLE 1 2 ++ natLE 1 0)

def transiting : State := withPkt (dqState (inLc 1) qLc lcDigest) (lcPkt 16)

def lcData : PktData := ⟨oneToken, [], [], lcBlock, [(zeros 32, zeros 64)], false, none⟩


theorem lc_digest (t : State) (h : t.deviceId = (inLc 1).deviceId) : sha384 (t.deviceId ++ natLE 1 1 ++ natLE 1 2 ++ natLE 1 0) = lcDigest := by rw [h]; rfl

/-- The officer's signature check is outside, left open. -/
theorem witness_LcTransition (ha : Config.accepts .ed25519 [zeros 32, quorumLabel ++ zeros 1832, zeros 64] = true) :
    Meets transiting 0x0F07 lcData (fun t p => t.dqExecutes = false ∧ ∃ (u : State) (mu : Nat) (r : LcRun), t.askLc 0 p [] = .ok (u, mu, r)) := by
  refine meets (p := lcPkt 16) rfl ⟨by decide +kernel, by decide +kernel, by decide +kernel, ?_⟩
  have hc := dqState_challenges (t := transiting) (inLc 1) qLc lcDigest (lcPkt 16) lcData rfl
  have hd : (taken transiting lcData (lcPkt 16)).otp.dqCurrent = some 0 := by decide +kernel
  have hn : (taken transiting lcData (lcPkt 16)).now < 60000000000 := by decide +kernel
  have hi : (taken transiting lcData (lcPkt 16)).deviceId = (inLc 1).deviceId := by decide +kernel
  have hl : (taken transiting lcData (lcPkt 16)).lc = 1 ∧ (taken transiting lcData (lcPkt 16)).ep = 0 := by decide +kernel
  obtain ⟨k, hk⟩ := exists_of_ok (r := (taken transiting lcData (lcPkt 16)).handles 0 (begun transiting lcData (lcPkt 16))) (by decide +kernel)
  have hf : ((begun transiting lcData (lcPkt 16)).pind && (begun transiting lcData (lcPkt 16)).areasOk ioIn && lcForm (begun transiting lcData (lcPkt 16)).input [] &&
      field (begun transiting lcData (lcPkt 16)).input 5 1 == 1 && field (begun transiting lcData (lcPkt 16)).input 6 1 == 0) = true := by decide +kernel
  have ht : field (begun transiting lcData (lcPkt 16)).input 4 1 = 2 := by decide +kernel
  have hb : (begun transiting lcData (lcPkt 16)).block = oneToken := by decide +kernel
  have hp : (begun transiting lcData (lcPkt 16)).data.approvals = [(zeros 32, zeros 64)] := by decide +kernel
  have hr : (taken transiting lcData (lcPkt 16)).otp.freeRecord.isSome = true := by decide +kernel
  generalize taken transiting lcData (lcPkt 16) = t at *
  generalize begun transiting lcData (lcPkt 16) = p at *
  have hq := deviceQuorum_one t qLc lcDigest hc hd hn ha
  refine ⟨t.endChallenge 1, tokenCharge oneToken, ⟨t.otp.freeRecord, 1, 1, 2, 0, 0⟩, ?_⟩
  unfold State.askLc
  rw [hk]
  simp only [bind, Except.bind, hl.1, hl.2, hf, ht, hr, hb, hp, require, getOr, targetFlag, needsConsent, lc_digest t hi, hq, Bool.or_true, if_true]
  rfl

/-- From SCRAP, no transition is permitted. -/
theorem witness_LcRejected : Meets (mgr (inLc 6) 0x0F07 2 (blockAt 48) 16 0) 0x0F07 (dataOf [] lcBlock) (fun t p => ok (t.handles 0 p) ∧
    targetFlag t.lc (field p.input 4 1) t.ep = none) := meets rfl (by decide +kernel)

theorem witness_LcEnds : (∃ (t : State) (p : Packet), t.cmd.packets.get? 0 = some p ∧ t.boot.lcRun = none ∧ t.rpPrograms ∧ (t.othersStopped p ∨ 5 ≤ t.now)) ∧
    (∃ s : State, (s.tick 0).boot.lcRun.isSome ∧ (s.tick 0).fget Fld.DEV_BOOT_STATUS_phase 0 ≤ 1 ∧ (s.tick 0).gnt.rpDue = false ∧ (s.tick 0).rpPrograms ∧ (s.tick 0).islandHeld 0x05 = false) :=
  ⟨⟨withPkt bound (lcPkt 16), lcPkt 16, by decide +kernel⟩,
    { inBoot 1 with boot := { (inBoot 1).boot with lcRun := some ⟨some 0, 1, 1, 2, 0, 0⟩ } }, by decide +kernel⟩

theorem witness_Manufacturing : ((inBoot 1).tick 0).blankPath ∧ ((inBoot 1).tick 0).otp.freeRecord = some 0 := by decide +kernel

theorem witness_FwStage (ha : ∀ (a : Config.Alg) (l : List Bytes), Config.accepts a l = true)
    (hv : sha384 (imageKeys (image0 2)) = fitLen 48 (Config.vendorKeys 0)) :
    Meets (mgr bound 0x0F05 0 [2] 7539 0) 0x0F05 (dataOf [] (image0 2)) (fun t p => (ok (t.handles 0 p) ∧ p.areasOk ioIn ∧ p.inlineFrom 1 ∧
      (p.par 0 0 = 1 ∨ p.par 0 0 = 2) ∧ t.fw.act = none) ∧ imageOk (p.par 0 0) p.input) := by
  refine meets rfl ⟨by decide +kernel, by decide +kernel, by decide +kernel, ?_⟩
  have h1 : (begun (mgr bound 0x0F05 0 [2] 7539 0) (dataOf [] (image0 2)) (pktOf managerRing (entryOf 0x0F05 0 0 [2] 7539 0))).par 0 0 = 2 := by decide +kernel
  have h2 : (begun (mgr bound 0x0F05 0 [2] 7539 0) (dataOf [] (image0 2)) (pktOf managerRing (entryOf 0x0F05 0 0 [2] 7539 0))).input = image0 2 :=
    fitLen_of_length 7539 _ (image0_length 2)
  rw [h1, h2]
  exact image0_ok 2 (.inr rfl) ha hv

/-- FW_ACTIVATE's input: a steward image. -/
def actPkt : Packet := pktOf managerRing (entryOf 0x0F06 2 0 (blockAt 48) 8 4096)

def actDigest : Bytes := sha384 (bound.stagedMeas 2 ++ natLE 4 0)

def actData (kind secs : Nat) : PktData := ⟨oneToken, [], [], natLE 1 kind ++ zeros 3 ++ natLE 4 secs, [(zeros 32, zeros 64)], false, none⟩

def activating : State := withPkt (dqState (bound.fset Fld.DEV_FW_STATUS_stw_staged 0 1) qFw actDigest) actPkt

theorem staged_digest (t : State) (h : t.flash = bound.flash) : sha384 (t.stagedMeas 2 ++ natLE 4 0) = actDigest := by
  have e : ∀ s : State, s.stagedMeas 2 = imageMeasurement (s.imageIn 2 (s.spareSlot 2)) := fun _ => rfl
  have e2 : ∀ s u : State, s.flash = u.flash → s.imageIn 2 (s.spareSlot 2) = u.imageIn 2 (u.spareSlot 2) := fun s u h => by
    unfold State.imageIn State.spareSlot; rw [h]
  unfold actDigest
  rw [e, e, e2 t bound h]

theorem askActivate_ok {t u w : State} {p : Packet} {k : Option Key} {kind secs n mu : Nat} {digest : Bytes} (hk : t.handles 0 p = .ok k)
    (hf : (p.pind && p.readOk true && p.input.length == 8 && (kind == 1 || kind == 2) && allZero (slice p.input 1 3)) = true)
    (hs : (if kind = 1 then decide (secs ≤ 3600) else secs == 0) = true) (h0 : field p.input 0 1 = kind) (h4 : field p.input 4 4 = secs)
    (hr : t.staged kind = true) (hb : (t.fw.act.isNone && !t.configLoading) = true) (hg : sha384 (t.stagedMeas kind ++ natLE 4 secs) = digest)
    (hq : t.deviceQuorum qFw digest p.block p.data.approvals = some (u, mu))
    (hw : u.reserveClose kind = some (n, w)) (hv : (kind == 2 || u.seedValid) = true)
    (ho : (p.areasOk (if kind = 1 then ioBoth else ioIn) && (kind == 2 || p.fits t.fsealBytes)) = true) : t.askActivate 0 p = .ok (w, kind, secs, n, mu) := by
  unfold State.askActivate
  rw [hk]
  simp only [bind, Except.bind, h0, h4, hf, hs, hr, hb, hg, hq, hw, hv, ho, require, requireIn, getOr, getIn]
  rfl

theorem witness_FwActivate_steward (ha : Config.accepts .ed25519 [zeros 32, quorumLabel ++ zeros 1832, zeros 64] = true) :
    Meets activating 0x0F06 (actData 2 0) (fun t p => t.lcExecutes = false ∧ ∃ (u : State) (mu : Nat), t.askActivate 0 p = .ok (u, 2, 0, 0, mu)) := by
  refine meets (p := actPkt) rfl ⟨by decide +kernel, by decide +kernel, by decide +kernel, ?_⟩
  obtain ⟨k, hk⟩ := exists_of_ok (r := (taken activating (actData 2 0) actPkt).handles 0 (begun activating (actData 2 0) actPkt)) (by decide +kernel)
  have hb : (begun activating (actData 2 0) actPkt).block = oneToken ∧ (begun activating (actData 2 0) actPkt).data.approvals = [(zeros 32, zeros 64)] := by
    decide +kernel
  have hc := dqState_challenges (t := activating) (bound.fset Fld.DEV_FW_STATUS_stw_staged 0 1) qFw actDigest actPkt (actData 2 0) rfl
  have hq := deviceQuorum_one (taken activating (actData 2 0) actPkt) 0x11 actDigest hc (by decide +kernel) (by decide +kernel) ha
  rw [← hb.1, ← hb.2] at hq
  exact ⟨_, _, askActivate_ok hk (by decide +kernel) (by decide +kernel) (by decide +kernel) (by decide +kernel) (by decide +kernel)
    (by decide +kernel) (staged_digest _ (by decide +kernel)) hq rfl (by decide +kernel) (by decide +kernel)⟩

/-- A custody image is staged; slice 5's interval can be closed. -/
def custody : State := metered (((bound.fset Fld.KS_SUCC_CTRL_valid 0 1).fset Fld.KS_STATUS_seed_valid 0 1).fset Fld.KS_STATUS_ready 0 1)

def custodyDigest : Bytes := sha384 (zeros 48 ++ natLE 4 600)

def activating1 : State := withPkt (dqState custody 0x11 custodyDigest) actPkt

theorem witness_FwActivate_custody (ha : Config.accepts .ed25519 [zeros 32, quorumLabel ++ zeros 1832, zeros 64] = true) :
    Meets activating1 0x0F06 (actData 1 600) (fun t p => t.lcExecutes = false ∧ ∃ (u : State) (n mu : Nat), t.askActivate 0 p = .ok (u, 1, 600, n, mu)) := by
  refine meets (p := actPkt) rfl ⟨by decide +kernel, by decide +kernel, by decide +kernel, ?_⟩
  obtain ⟨k, hk⟩ := exists_of_ok (r := (taken activating1 (actData 1 600) actPkt).handles 0 (begun activating1 (actData 1 600) actPkt)) (by decide +kernel)
  have hb : (begun activating1 (actData 1 600) actPkt).block = oneToken ∧ (begun activating1 (actData 1 600) actPkt).data.approvals = [(zeros 32, zeros 64)] := by
    decide +kernel
  have hc := dqState_challenges (t := activating1) custody 0x11 custodyDigest actPkt (actData 1 600) rfl
  have hq := deviceQuorum_one (taken activating1 (actData 1 600) actPkt) 0x11 custodyDigest hc (by decide +kernel) (by decide +kernel) ha
  rw [← hb.1, ← hb.2] at hq
  have hm : (taken activating1 (actData 1 600) actPkt).stagedMeas 1 = zeros 48 := by decide +kernel
  obtain ⟨⟨n, w⟩, hw⟩ := Option.isSome_iff_exists.mp
    (show (((taken activating1 (actData 1 600) actPkt).endChallenge 1).reserveClose 1).isSome = true by decide +kernel)
  exact ⟨_, _, _, askActivate_ok hk (by decide +kernel) (by decide +kernel) (by decide +kernel) (by decide +kernel) (by decide +kernel)
    (by decide +kernel) (by rw [hm]; rfl) hq hw (by decide +kernel) (by decide +kernel)⟩

/-- A re-seal is running; slice 5 approves it with its root loaded. -/
def resealing : State :=
  let s := vaulted.fset Fld.KS_SUCC_CTRL_valid 0 1
  withPkt { s with bb := { s.bb with journal := ⟨1, zeros 48, 1, []⟩ } } (pktOf 5 (entryOf 0x0506 2 0 (blockAt 16) 0 4096))

theorem reseal_ok (t : State) (p : Packet) (k : Option Key) (hk : t.handles 0 p = .ok k) (hi : p.input = []) (ha : p.areasOk ioBoth = true)
    (hio : p.readOk true = true) (hr : p.ring = 5) (hw : t.wiping = false)
    (hv : t.vaultOf 5 = some (8300, zeros 32, policy0)) (hs : t.flag Fld.KS_SUCC_CTRL_valid 0 = true)
    (hq : t.vaultQuorum 5 qReseal false policy0 (sha384 (t.succMeas ++ [])) p.block p.data.approvals = some (t, 0, none))
    (hj : (t.bb.journal.state == 1) = true ∧ t.bb.journal.done.contains 5 = false ∧ t.seedValid = true) (hf : p.fits 280 = true) :
    ∃ r : Did, opResealApprove t 0 p = .ok r := by
  have hl : ∀ c, (t.fsealEntry 5 c (zeros 32) policy0).length = 280 := fun c => by
    have hp : policy0.length = 128 := by decide +kernel
    simp [State.fsealEntry, hp]
  have hn : t.vaultNow 5 = .ok (8300, zeros 32, policy0) := by
    unfold State.vaultNow
    rw [hw, hv]
    rfl
  unfold opResealApprove
  rw [hk]
  simp only [bind, Except.bind, hi, ha, hio, hr, hn, hs, hq, hj.1, hj.2.1, hj.2.2, require, requireIn, getOr, getIn, List.isEmpty_nil, Bool.true_or, Bool.and_self,
    Bool.not_true, if_true, List.nil_append, hl, hf]
  exact ⟨_, rfl⟩

theorem witness_ResealApprove : Meets resealing 0x0506 (dataOf nullToken []) (fun t p => ∃ r : Did, opResealApprove t 0 p = .ok r) := by
  refine meets (p := pktOf 5 (entryOf 0x0506 2 0 (blockAt 16) 0 4096)) rfl ⟨by decide +kernel, by decide +kernel, ?_⟩
  obtain ⟨k, hk⟩ := exists_of_ok (r := (taken resealing (dataOf nullToken []) (pktOf 5 (entryOf 0x0506 2 0 (blockAt 16) 0 4096))).handles 0
    (begun resealing (dataOf nullToken []) (pktOf 5 (entryOf 0x0506 2 0 (blockAt 16) 0 4096)))) (by decide +kernel)
  exact reseal_ok _ _ k hk (by decide +kernel) (by decide +kernel) (by decide +kernel) (by decide +kernel) (by decide +kernel) (by decide +kernel) (by decide +kernel)
    (vaultQuorum_null _ _ _ _ _ _ _ _ (by decide +kernel)) (by decide +kernel) (by decide +kernel)

/-- An activation in a phase. -/
def acting (kind phase fails : Nat) (loading : Option Nat) : State := { bound with fw := ⟨some ⟨0, kind, 0, 0, 0, 0, [], loading, fails, phase, 0⟩⟩ }

theorem witness_ResealDeadline : ((acting 1 1 0 none).tick 0).fw.act.any (fun a => a.kind == 1 && a.phase == 1 && decide (a.deadline ≤ ((acting 1 1 0 none).tick 0).now)) := by
  decide +kernel

theorem witness_PairSwitch : ((acting 2 2 0 none).tick 0).fw.act.any (fun a => a.phase == 2 && a.kind == 2 && (((acting 2 2 0 none).tick 0).loads a).any (fun n =>
      decide (n < 8) && ((acting 2 2 0 none).tick 0).islandHeld (8 + n) == false)) ∧
    ((acting 1 2 0 (some 3)).tick 0).fw.act.any (fun a => a.phase == 2 && a.kind == 1 && ((acting 1 2 0 (some 3)).tick 0).loads a == some 3 && a.fails == 0 &&
      ((((acting 1 2 0 (some 3)).tick 0).fence 0 3).nextPair { a with fails := 1, loading := none } 3).isSome) ∧
    ((acting 1 2 1 (some 3)).tick 0).fw.act.any (fun a => a.phase == 2 && ((acting 1 2 1 (some 3)).tick 0).loads a == some 3 && a.fails == 1) := by decide +kernel

/-- Every overlay is permitted, and mode 3 is in force. -/
def moded (s : State) : State := ((List.range 5).foldl (fun s n => s.fset Fld.CFG_OVL_permitted n 1) s).fset Fld.DEV_MODE_mode 0 3

theorem witness_ModeSwitch : Meets (mgr (moded bound) 0x0F04 0 [3] 0 0) 0x0F04 (dataOf [] []) (fun t p =>
      okAnd (t.askMode 0 p) (fun code => code == t.fget Fld.DEV_MODE_mode 0) ∧ ok (t.handles 0 p) ∧ p.areasOk ioNone ∧ p.inlineFrom 1 ∧ t.modePermitted (p.par 0 0) ∧
      t.modeSwitching = false ∧ t.configLoading = false) ∧
    Meets (mgr (moded bound) 0x0F04 0 [1] 0 0) 0x0F04 (dataOf [] []) (fun t p => okAnd (t.askMode 0 p) (fun code => code != t.fget Fld.DEV_MODE_mode 0)) :=
  ⟨meets rfl (by decide +kernel), meets rfl (by decide +kernel)⟩

/-- A section of a configuration image, padded. -/
def cfgSec (t : Nat) (c : Bytes) : Bytes := natLE 2 t ++ zeros 2 ++ natLE 4 c.length ++ c ++ zeros ((8 - c.length % 8) % 8)

/-- A configuration: one MACSEC pair, an empty map, every mode permitted. -/
def cfgBody : Bytes :=
  cfgSec 1 (zeros 8 ++ [1, 0, 0, 0] ++ zeros 28) ++ cfgSec 2 [] ++
  cfgSec 3 (zeros 8 ++ (List.range 256).flatMap (fun n => natLE 1 (irqDefaultWorld n) ++ [255])) ++ cfgSec 4 [0] ++ cfgSec 5 (zeros 16) ++
  cfgSec 6 (natLE 8 3 ++ (List.range 5).flatMap (fun n => natLE 1 (n + 1) ++ [0] ++ natLE 2 (if n = 1 then 100 else 0) ++ [1] ++ zeros 27))

def cfgImage : Bytes := natLE 4 1 ++ natLE 4 (64 + cfgBody.length) ++ zeros 24 ++ natLE 4 6 ++ zeros 28 ++ cfgBody

theorem cfgImage_length : cfgImage.length = 864 := by decide +kernel

def cfgPkt : Packet := pktOf managerRing (entryOf 0x0F0A 2 0 (blockAt 48) 864 0)

def cfgData : PktData := ⟨oneToken, [], [], cfgImage, [(zeros 32, zeros 64)], false, none⟩

def loadingCfg : State := withPkt (dqState (moded bound) qConfig (sha384 cfgImage)) cfgPkt

theorem askConfig_ok {t u : State} {p : Packet} {k : Option Key} {c : BaseCfg} {x : Bytes} {o : Overlay} {mu : Nat} (hk : t.handles 0 p = .ok k)
    (hf : (p.pind && p.areasOk ioIn) = true)
    (hi : p.input = x) (hp : parseCfg x = some c) (hb : (t.fw.act.isNone && !t.configLoading) = true)
    (hq : t.deviceQuorum qConfig (sha384 x) p.block p.data.approvals = some (u, mu))
    (hu : (!u.modeSwitching && !u.configLoading && !u.sealing) = true) (hm : (u.saKept c && u.tbl.pols.cells.all (fun e => u.policyKept c e.2)) = true)
    (ho : c.overlays[u.fget Fld.DEV_MODE_mode 0 - 1]? = some o) (hop : o.permitted = true) : t.askConfig 0 p = .ok (u, mu) := by
  unfold State.askConfig
  rw [hk]
  simp only [bind, Except.bind, hf, hi, hp, hb, hq, hu, hm, ho, hop, require, requireIn, getOr]
  rfl

theorem cfg_parsed : ∃ c o, parseCfg cfgImage = some c ∧ c.overlays[2]? = some o ∧ o.permitted = true := by
  have hp : (parseCfg cfgImage).any (fun c => (c.overlays[2]?).any (fun o => o.permitted)) = true := by decide +kernel
  cases e : parseCfg cfgImage with
  | none => rw [e] at hp; cases hp
  | some c =>
    rw [e] at hp
    change (c.overlays[2]?).any (fun o => o.permitted) = true at hp
    cases e2 : c.overlays[2]? with
    | none => rw [e2] at hp; cases hp
    | some o => rw [e2] at hp; exact ⟨c, o, rfl, e2, hp⟩

theorem witness_ConfigLoad (ha : Config.accepts .ed25519 [zeros 32, quorumLabel ++ zeros 1832, zeros 64] = true) :
    Meets loadingCfg 0x0F0A cfgData (fun t p => t.lcExecutes = false ∧ ∃ (u : State) (mu : Nat), t.askConfig 0 p = .ok (u, mu)) := by
  refine meets (p := cfgPkt) rfl ⟨by decide +kernel, by decide +kernel, by decide +kernel, ?_⟩
  obtain ⟨k, hk⟩ := exists_of_ok (r := (taken loadingCfg cfgData cfgPkt).handles 0 (begun loadingCfg cfgData cfgPkt)) (by decide +kernel)
  have hb : (begun loadingCfg cfgData cfgPkt).block = oneToken ∧ (begun loadingCfg cfgData cfgPkt).data.approvals = [(zeros 32, zeros 64)] := by decide +kernel
  have hc := dqState_challenges (t := loadingCfg) (moded bound) qConfig (sha384 cfgImage) cfgPkt cfgData rfl
  have hq := deviceQuorum_one (taken loadingCfg cfgData cfgPkt) qConfig (sha384 cfgImage) hc (by decide +kernel) (by decide +kernel) ha
  rw [← hb.1, ← hb.2] at hq
  have hi : (begun loadingCfg cfgData cfgPkt).input = cfgImage := fitLen_of_length 864 _ cfgImage_length
  have hm : (((taken loadingCfg cfgData cfgPkt).endChallenge 1).fget Fld.DEV_MODE_mode 0 = 3) ∧
      ((taken loadingCfg cfgData cfgPkt).endChallenge 1).tbl.sas.cells = [] ∧ ((taken loadingCfg cfgData cfgPkt).endChallenge 1).tbl.pols.cells = [] := by decide +kernel
  obtain ⟨c, o, hp, ho, hop⟩ := cfg_parsed
  refine ⟨_, _, askConfig_ok hk (by decide +kernel) hi hp (by decide +kernel) hq (by decide +kernel) ?_ (by rw [hm.1]; exact ho) hop⟩
  unfold State.saKept
  rw [hm.2.1, hm.2.2]
  rfl

theorem witness_ConfigStore : (∀ (i : Nat) (x : Directory), up.flash.directory = some (i, x) → x.gen < 2 ^ 32 - 1) ∧
    (∀ n : Nat, (0x15 : Nat).testBit n → n < 6 → (up.reg .DEV_IRQ_CAUSE 0).getLsbD n = false) := by
  have hn : up.flash.directory = none := by decide +kernel
  have hr : up.reg .DEV_IRQ_CAUSE 0 = 0 := by decide +kernel
  exact ⟨fun i x e => (by rw [hn] at e; cases e), fun n _ _ => by rw [hr]; simp⟩

/-! ## Witnesses: cards, the replicated units and the Gauntlet -/

/-- A card that is large enough, without RPMB key. -/
def card0 : Card := ⟨false, zeros 16, [], false, true, none, 0, zeros 512, 2 ^ 24, [], [], [], []⟩

def carded (query : Option Nat) (run : Option CardRun) (s : State) : State :=
  let s := (s.fset Fld.CRD_STATUS_ready 0 1).fset Fld.CRD_STATUS_present 0 1
  { s with crd := { s.crd with card := some card0, query := query, run := run } }

/-- A card command in a phase. -/
def run0 (ph : CardPhase) : CardRun := ⟨0, .backup, ph, 0, [], none⟩

theorem witness_CardSlot : (up.tick 0).crd.card = none ∧ (up.tick 0).perRuns ∧ ((carded (some 0) none up).tick 0).crd.card = some card0 ∧
    ((carded (some 0) none up).tick 0).crd.query = some 0 ∧ ((carded (some 0) none up).tick 0).islandHeld 0x07 = false ∧
    0 + 1000000000 ≤ (({ carded (some 0) none up with now := 1000000000 } : State).tick 0).now ∧
    ((carded none none up).tick 0).crd.run = none ∧ ((carded none (some (run0 .area)) up).tick 0).crd.run = some (run0 .area) ∧ writePhase (run0 .area).phase := by
  decide +kernel

/-- The packets of the four card commands. -/
def cardPkt (opc : Nat) (params : Bytes) (outLen : Nat) : State := mgr (carded none none bound) opc 0 params 0 outLen

theorem witness_CardStarts : ((cardPkt 0x0F0B [1] 0).tick 0).cmd.packets.any (fun n q => n == 0 && cardMode1 (dataOf [] []) q) ∧
    ((cardPkt 0x0F0B [] 0).tick 0).cmd.packets.any (fun n q => n == 0 && cardMode1 (dataOf [] []) q == false) ∧
    Meets (cardPkt 0x0F0B [1] 0) 0x0F0B (dataOf [] []) (fun t p => ok (t.handles 0 p) ∧ cardForm .init p) ∧
    Meets (cardPkt 0x0F0B [] 0) 0x0F0B (dataOf [] []) (fun t p => ok (t.handles 0 p) ∧ cardForm .backup p) ∧
    Meets (cardPkt 0x0F0C [] 64) 0x0F0C (dataOf [] []) (fun t p => ok (t.handles 0 p) ∧ cardForm .restore p) ∧
    Meets (cardPkt 0x0F0D [] 0) 0x0F0D (dataOf [] []) (fun t p => ok (t.handles 0 p) ∧ cardForm .evidence p) :=
  ⟨by decide +kernel, by decide +kernel, meets rfl (by decide +kernel), meets rfl (by decide +kernel), meets rfl (by decide +kernel), meets rfl (by decide +kernel)⟩

theorem witness_CardBusy : Meets (mgr (carded (some 0) none bound) 0x0F0D 0 [] 0 0) 0x0F0D (dataOf [] []) (fun t p => ok (t.handles 0 p) ∧ cardForm .evidence p ∧
    (t.crd.run.isSome ∨ t.crd.query.isSome)) := meets rfl (by decide +kernel)

/-- The slot is empty. -/
theorem witness_CardUnusable : Meets (mgr bound 0x0F0D 0 [] 0 0) 0x0F0D (dataOf [] []) (fun t p => ok (t.handles 0 p) ∧ cardForm .evidence p ∧ t.crd.run = none ∧
    t.crd.query = none ∧ t.cardUsable = none) := meets rfl (by decide +kernel)

theorem askCard_evidence (v : State) (q : Packet) (h : v.cardUsable = some card0) : ∃ (b : Bytes) (g : Nat), v.askCard .evidence q = .ok (b, g) := by
  refine ⟨v.evidenceBytes, v.evNext, ?_⟩
  unfold State.askCard
  rw [h]
  rfl

/-- EVIDENCE_EXPORT past its checks. -/
theorem witness_CardRuns : Meets (cardPkt 0x0F0D [] 0) 0x0F0D (dataOf [] []) (fun t p => ∃ v : State,
    v = ((t.countPid 0 false).setPacket 0 { p with start := (t.countPid 0 false).now, phase := .waiting }).setRun (some ⟨0, .evidence, .checks, 0, [], none⟩) ∧
    (t.crd.run = none ∧ t.crd.query = none ∧ v.cardUsable = some card0 ∧ v.cardHeld = false ∧ v.gnt.pfw = none) ∧
    ∃ (b : Bytes) (g : Nat), v.askCard .evidence { p with start := (t.countPid 0 false).now, phase := .waiting } = .ok (b, g)) := by
  exact meets rfl ⟨by decide +kernel, by decide +kernel, _, rfl, by decide +kernel, askCard_evidence _ _ (by decide +kernel)⟩

theorem witness_Units : (up.tick 0).role 3 71 ≤ 1 ∧ (up.tick 0).role 0 7 ≤ 1 ∧ (up.tick 0).role 2 15 = 0 ∧ islandAssigned 0x13 ∧ islandAssigned 0x20 ∧
    errAssigned (.handshakePacket 0x13 0x20 5) ∧ errAssigned (.handshakePacket 0x14 0x20 5) = false ∧ errAssigned .otp := by decide +kernel

/-- Cluster 3 drains or is under test. -/
def rotating (testing : Bool) : State :=
  { up with rot := { up.rot with draining := if testing then [] else [unitKey 2 3], testing := if testing then [unitKey 2 3] else [] } }

theorem witness_Rotation : (up.tick 0).rotPaused 2 = false ∧ (up.tick 0).visitRuns 2 0 = false ∧ (up.tick 0).visitDue 2 0 ∧ (up.tick 0).erasing = false ∧
    ((up.tick 0).nextUnit 2 0).any (fun u => (up.tick 0).islandHeld (unitIsland 2 u) == false) ∧
    ((rotating false).tick 0).rot.draining.contains (unitKey 2 3) ∧ ((rotating false).tick 0).drained 2 3 ∧ ((rotating false).tick 0).islandHeld (unitIsland 2 3) = false ∧
    ((rotating true).tick 0).rot.testing.contains (unitKey 2 3) ∧ ((rotating true).tick 0).islandHeld (unitIsland 2 3) = false ∧
    (up.fset Fld.BLK_CLUSTER_MAP_role 3 3).role 2 3 = 3 := by decide +kernel

theorem witness_Sensors : (up.tick 0).gnt.main ∧ (up.tick 0).gnt.ka ∧ ((680 : Nat) < (railLevels 0).2.1 ∧ (railLevels 0).1 ≤ 680) ∧
    ((railLevels 5).2.2.1 < 3700 ∧ 3700 ≤ (railLevels 5).2.2.2.1) ∧ (railLevels 3).2.2.2.2.1 < 101 ∧ islandAssigned 0x37 ∧
    (true ≠ bit ((up.tick 0).fget Fld.GNT_SWITCH_CFG_pol 0) 2 ∨ false ≠ bit ((up.tick 0).fget Fld.GNT_SWITCH_CFG_pol 0) 2) := by decide +kernel

/-- A condition of sensor 11 (VBAK low), present or ended. -/
def conditioned (ended : Option Nat) : State :=
  { up with gnt := { up.gnt with conds := ⟨[(condKey 11 0, ⟨1, 2, ended⟩)]⟩, seconds := ⟨[(condKey 21 0, ⟨2, 0, 0, 0⟩)]⟩, kaNs := 100000 } }

theorem witness_Responses : ((conditioned none).tick 0).gnt.seconds.get? (condKey 21 0) = some ⟨2, 0, 0, 0⟩ ∧
    ((conditioned none).tick 0).gnt.conds.get? (condKey 11 0) = some ⟨1, 2, none⟩ ∧ endsAt 11 0 2401 ∧
    ((conditioned (some 0)).tick 0).gnt.conds.get? (condKey 11 0) = some ⟨1, 2, some 0⟩ ∧ 0 + 100000 ≤ ((conditioned (some 0)).tick 0).gnt.kaNs ∧
    ((up.fset Fld.GNT_STATUS_erase_busy 0 1).tick 0).erasing ∧ ((up.fset Fld.GNT_STATUS_erase_busy 0 1).tick 0).clearHeld = false ∧
    (((up.fset Fld.GNT_STATUS_erase_busy 0 1).fset Fld.KS_STATUS_seed_valid 0 1).tick 0).erasing ∧
    (((up.fset Fld.GNT_STATUS_erase_busy 0 1).fset Fld.KS_STATUS_seed_valid 0 1).tick 0).flag Fld.KS_STATUS_seed_valid 0 := by decide +kernel

theorem witness_ClearHold : ∃ s : State, (s.tick 0).clearHeld ∧ (s.tick 0).class3 = false ∧ (s.tick 0).gnt.clearEnd + 1000000000 ≤ (s.tick 0).gnt.kaNs :=
  ⟨let s := up.fset Fld.GNT_STATUS_clear_held 0 1; { s with gnt := { s.gnt with kaNs := 1000000000 } }, by decide +kernel⟩

/-- A staged record, in a log that takes it or is full. -/
def staged (full : Bool) : State :=
  { up with gnt := { up.gnt with staged := [zeros 52], log := if full then ⟨(List.range 4096).map (fun n => (n, []))⟩ else .empty } }

theorem witness_EvidenceCommit : ((staged false).tick 0).gnt.staged = [zeros 52] ∧ ((staged false).tick 0).rpPrograms ∧
    2 ≤ ((staged false).tick 0).fget Fld.DEV_BOOT_STATUS_phase 0 ∧ ((staged false).tick 0).logTakes (zeros 52) ∧
    ((staged true).tick 0).logTakes (zeros 52) = false ∧ ((staged true).tick 0).gnt.pfw = none := by decide +kernel

theorem witness_SensorClass : sensorRow 2 = (2, 2, 3, false) ∧ up.flag Fld.GNT_LOCK_lock 0 = false ∧ (0x31 % 4 < 2 ∧ (2 : Nat) ≤ 3 % 4 ∧ 3 % 4 ≤ 3) ∧
    sensorRow 0 = (1, 1, 2, false) ∧ (2 : Nat) < 3 % 4 ∧ sensorRow 1 = (2, 2, 2, true) ∧ (up.fset Fld.GNT_LOCK_lock 0 1).flag Fld.GNT_LOCK_lock 0 ∧
    (up.tick 0).flag Fld.GNT_LOCK_lock 0 = false := by decide +kernel


/-! ## Witnesses: the dirty log, the recorder and meters, ports and links, management messages -/

/-- The host under privileged requests. -/
def hostP : Master := ⟨0, 3, none⟩

/-- Slice 5's dirty log on. -/
def logOn : State := bound.fset Fld.SLC_DLOG_CTRL_enable 5 1

/-- A write of 8 octets to SLC_DLOG_BUF0 of slice 5, and one of 4 octets to the upper half of SLC_DLOG_WIN. -/
theorem witness_DirtyLog : (bound.tick 0).flag Fld.SLC_DLOG_CTRL_enable 5 = false ∧ ((bound.tick 0).reg .SLC_DLOG_BUF0 5).toNat = 0 ∧
    (logOn.tick 0).flag Fld.SLC_DLOG_CTRL_enable 5 ∧
    (∀ k : Nat, k < (0x100548 % 4 + 8 + 3) / 4 → regAt .pf0 (0x100548 / 4 * 4 + 4 * k) = some ⟨.SLC_DLOG_BUF0, 5⟩) ∧
    (logOn.tick 0).accessCheck hostP .write .pf0 0x100548 8 = none ∧ (logOn.tick 0).windowClosed hostP 0x100548 = false ∧
    (logOn.tick 0).worldAllows hostP .write ⟨.SLC_DLOG_BUF0, 5⟩ ∧
    (∀ k : Nat, k < (0x100550 % 4 + 8 + 3) / 4 → regAt .pf0 (0x100550 / 4 * 4 + 4 * k) = some ⟨.SLC_DLOG_BUF1, 5⟩) ∧
    (∀ k : Nat, k < (0x10055C % 4 + 4 + 3) / 4 → regAt .pf0 (0x10055C / 4 * 4 + 4 * k) = some ⟨.SLC_DLOG_WIN, 5⟩) ∧
    (logOn.tick 0).accessCheck hostP .write .pf0 0x10055C 4 = none := by
  decide +kernel

/-- An evidence record is staged on an empty log. -/
def staged20 : State := { up with gnt := { up.gnt with staged := [zeros 20] } }

theorem witness_EvidenceChain : (staged20.tick 0).gnt.staged = [zeros 20] ∧ (staged20.tick 0).rpPrograms ∧
    2 ≤ (staged20.tick 0).fget Fld.DEV_BOOT_STATUS_phase 0 ∧ (staged20.tick 0).logTakes (zeros 20) ∧ (staged20.tick 0).LogDense ∧
    (zeros 20).length = 20 ∧ (staged20.tick 0).LogChained ∧
    (∃ (i : Nat) (r : Bytes), ({ up with gnt := { up.gnt with log := ⟨[(0, zeros 32)]⟩ } } : State).gnt.log.get? i = some r) := by
  refine ⟨by decide +kernel, by decide +kernel, by decide +kernel, by decide +kernel, by unfold State.LogDense; decide +kernel, by decide +kernel, ?_,
    0, zeros 32, by decide +kernel⟩
  intro i r h
  have e : (staged20.tick 0).gnt.log = .empty := by decide +kernel
  rw [e] at h
  cases h

/-- Meters and dumps enabled, at the common multiple of their intervals; the bases valid. -/
def metering (on : Bool) : State :=
  let s := (up.fset Fld.PMC_METER_CTRL_enable 0 (b2n on)).fset Fld.PMC_DUMP_CTRL_enable 0 (b2n on)
  let s := (s.fset Fld.PMC_METER_BASE_base 0 1).fset Fld.PMC_METER_BASE_log2 0 4
  { (s.fset Fld.PMC_DUMP_BASE_base 0 1).fset Fld.PMC_DUMP_BASE_log2 0 12 with now := 3600000000000 }

theorem witness_Meters : ((metering true).tick 0).flag Fld.PMC_METER_CTRL_enable 0 ∧
    ((metering true).tick 0).now % (((metering true).tick 0).met.period * 1000000000) = 0 ∧
    ((metering true).tick 0).flag Fld.PMC_DUMP_CTRL_enable 0 ∧ ((metering true).tick 0).now % (((metering true).tick 0).dumpMs * 1000000) = 0 ∧
    ((metering false).tick 0).flag Fld.PMC_METER_CTRL_enable 0 = false ∧ ((metering false).tick 0).meterBaseOk ∧
    ((metering false).tick 0).flag Fld.PMC_DUMP_CTRL_enable 0 = false ∧ ((metering false).tick 0).dumpBaseOk ∧
    (up.tick 0).meterBaseOk = false ∧ (up.tick 0).dumpBaseOk = false ∧ (0x10001 : Nat) % 2 ^ 16 ≠ 0 ∧ (0x10000 : Nat) % 2 ^ 16 = 0 ∧
    ((up.fset Fld.XSP_STATUS_cs1_ok 0 1).tick 0).flag Fld.XSP_STATUS_cs1_ok 0 ∧ (up.tick 0).flag Fld.XSP_STATUS_cs1_ok 0 = false := by
  decide +kernel

/-- Stream 0 of IDE is Secure: every sub-stream in both directions. -/
def secureIde : State :=
  { up with lnk := { up.lnk with ide := [⟨0, 0, 0, 0, [], true⟩, ⟨0, 0, 1, 0, [], true⟩, ⟨0, 1, 0, 0, [], true⟩, ⟨0, 1, 1, 0, [], true⟩,
    ⟨0, 2, 0, 0, [], true⟩, ⟨0, 2, 1, 0, [], true⟩] } }

theorem witness_Ports : ((up.fset Fld.DEV_MODE_mode 0 1).tick 0).portMayTrain 0 ∧ ((up.fset Fld.DEV_MODE_mode 0 1).tick 0).linkUp 0 = false ∧
    (((up.fset Fld.DEV_MODE_mode 0 1).fset Fld.NET_PORT_STATUS_up 0 1).tick 0).linkUp 0 ∧ ideSecure (secureIde.tick 0).lnk.ide 0 ∧
    (up.tick 0).accessCheck hostP .write .pf0 0x1F0FFC0 4 = some (0x04, 0xFFFF) ∧ (State.reset.tick 0).scanDrives ∧
    ((inLc 3).tick 0).scanDrives = false ∧
    ("PERST_N", true) ∈ [("PERST_N", true)] ∧ sampleOnly.contains "PERST_N" = false ∧ (15 : Nat) < 16 := by
  decide +kernel

/-- An MCTP target that answers: READY, no hold, with a dynamic address. -/
def target : State := { up with lnk := { up.lnk with i3c := some 0x20 } }

/-- A hold on PER. -/
def targetHeld : State := target.fset Fld.GNT_HOLD_islands 0 0x80

theorem witness_Management : (target.tick 0).mgmtReachable 0 ∧ (target.tick 0).mgmtReachable 1 ∧ (target.tick 0).mgmtReachable 2 ∧
    (target.tick 0).mgmtHeld 0 .getVersion = false ∧ (target.tick 0).mgmtHeld 2 (.setEid 9) = false ∧
    (target.tick 0).mgmtHeld (mctpBinding true) (.mctpOther 0 9) = false ∧ target.spdmBusy = false ∧ State.reset.spdmBusy ∧ isSpdm .getVersion ∧
    target.sessionOf 1 7 = none ∧ targetHeld.mgmtReachable 1 ∧ targetHeld.mgmtHeld 1 .getVersion ∧ targetHeld.mgmtRoom 1 ∧
    (up.tick 0).gnt.main ∧ 2 ≤ (up.tick 0).fget Fld.DEV_BOOT_STATUS_phase 0 ∧ (up.tick 0).fget Fld.DEV_BOOT_STATUS_phase 0 ≠ 0xF ∧
    (up.tick 0).lnk.i3c = none ∧ (127 : Nat) < 128 := by
  decide +kernel

/-! ## Ill-formed commands: each check refuses a term -/

/-- Host data with one range. -/
def rangeData (e : Nat × Nat × Nat) : PktData := ⟨[], [e], [], [], [], false, none⟩

theorem wf_pasid : (Instr.qpEnable 0 (some (2 ^ 20)) 0 0).wf = false ∧ (Instr.qpEnable 0 (some (2 ^ 20 - 1)) 0 0).wf := by decide +kernel
theorem wf_ring : (Instr.qpStop 0 none 4097 0).wf = false ∧ (Instr.qpStop 0 none 4096 7).wf := by decide +kernel
theorem wf_queue : (Instr.qpStopComplete 0 0 8).wf = false ∧ (Instr.qpStopComplete 0 0 7).wf := by decide +kernel
theorem wf_slice : (Instr.offerExpiry 0 4096).wf = false ∧ (Instr.offerExpiry 0 4095).wf := by decide +kernel
theorem wf_port : (Instr.portLinkDown 0 16).wf = false ∧ (Instr.portLinkDown 0 15).wf := by decide +kernel
theorem wf_lane : (Instr.netLaneCfgWrite 0 ⟨0, 3, none⟩ 16 0).wf = false ∧ (Instr.netLaneCfgWrite 0 ⟨0, 3, none⟩ 15 0).wf := by decide +kernel
theorem wf_pair : (Instr.lockstepMismatch 0 8).wf = false ∧ (Instr.lockstepMismatch 0 7).wf := by decide +kernel
theorem wf_core : (Instr.pkeCoreZero 0 72 0).wf = false ∧ (Instr.pkeCoreZero 0 71 0).wf := by decide +kernel
theorem wf_cluster : (Instr.keyFileKeyDelivered 0 16 0).wf = false ∧ (Instr.keyFileKeyDelivered 0 15 0).wf := by decide +kernel
theorem wf_bank : (Instr.sweeperVisit 0 4).wf = false ∧ (Instr.sweeperVisit 0 3).wf := by decide +kernel
theorem wf_island : (Instr.islandGated 0 64).wf = false ∧ (Instr.islandGated 0 63).wf := by decide +kernel
theorem wf_rail : okRail 6 = false ∧ okRail 5 := by decide +kernel
theorem wf_sensor : okSensor 23 = false ∧ okSensor 22 := by decide +kernel
theorem wf_switch : okSwitch 4 = false ∧ okSwitch 3 := by decide +kernel
theorem wf_clock : (Instr.referenceLost 0 4).wf = false ∧ (Instr.referenceLost 0 3).wf := by decide +kernel
theorem wf_instance : okInstance 4 = false ∧ okInstance 3 := by decide +kernel
theorem wf_timer : (Instr.deviceTimerExpiry 0 8).wf = false ∧ (Instr.deviceTimerExpiry 0 7).wf := by decide +kernel
theorem wf_kind : (Instr.oasisVisitStart 0 4 0).wf = false ∧ (Instr.oasisVisitStart 0 3 0x37).wf := by decide +kernel
theorem wf_unit : (Instr.oasisDrainDone 0 1 5).wf = false ∧ (Instr.oasisDrainDone 0 1 4).wf ∧ (Instr.oasisDrainDone 0 3 71).wf := by decide +kernel
theorem wf_transport : (Instr.getVersion 0 3).wf = false ∧ (Instr.getVersion 0 2).wf := by decide +kernel
theorem wf_range : (Instr.hash 0 0 (rangeData (0, 2 ^ 32, 0))).wf = false ∧ (Instr.hash 0 0 (rangeData (2 ^ 64, 0, 0))).wf = false ∧
    (Instr.hash 0 0 (rangeData (2 ^ 64 - 1, 2 ^ 32 - 1, 0))).wf := by decide +kernel
theorem wf_pind : okData ⟨List.replicate 4097 0, [], [], [], [], false, none⟩ = false ∧ okData ⟨List.replicate 4096 0, [], [], [], [], false, none⟩ := by
  simp only [okData, List.length_replicate]
  decide
theorem wf_master : (Instr.rngTestPattern 0 ⟨0, 6, none⟩).wf = false ∧ (Instr.rngTestPattern 0 ⟨256, 0, none⟩).wf = false ∧
    (Instr.rngTestPattern 0 ⟨0, 3, some (2 ^ 20)⟩).wf = false ∧ (Instr.rngTestPattern 0 ⟨0xFF, 2, none⟩).wf ∧
    (Instr.rngTestPattern 0 ⟨0xFF, 3, none⟩).wf = false ∧ (Instr.rngTestPattern 0 ⟨0x14, 0, none⟩).wf = false ∧ (Instr.rngTestPattern 0 ⟨0x13, 0, none⟩).wf := by decide +kernel
theorem wf_entry : (Instr.sqEntryFetch 0 0 0 (zeros 63) 0).wf = false ∧ (Instr.sqEntryFetch 0 0 0 (zeros 64) 63).wf ∧
    (Instr.sqEntryFetch 0 0 0 (zeros 64) 64).wf = false := by decide +kernel
theorem wf_dma : (Instr.dmaRefused 0 (.fetch 4097 0)).wf = false ∧ (Instr.dmaRefused 0 (.completion 0 8)).wf = false ∧
    (Instr.dmaRefused 0 (.dlog 4096)).wf = false ∧ (Instr.ideIntegrityFailure 0 0 (some (.dlog 4096))).wf = false ∧ (Instr.dmaRefused 0 .other).wf := by
  decide +kernel
theorem wf_samples : okSamples (2 ^ 1024) = false ∧ okSamples (2 ^ 1024 - 1) ∧ okFreqs (List.replicate 31 0) = false ∧ okFreqs (List.replicate 32 0) := by decide +kernel
theorem wf_word : (Instr.ksWipe 0 (2 ^ 32)).wf = false ∧ (Instr.ksWipe 0 (2 ^ 32 - 1)).wf := by decide +kernel
theorem wf_dword : (Instr.ruleWrite 0 ⟨1, 0, none⟩ 0 (2 ^ 64)).wf = false ∧ (Instr.ruleWrite 0 ⟨1, 0, none⟩ 0 (2 ^ 64 - 1)).wf := by decide +kernel
theorem wf_write : (Instr.registerWrite 0 ⟨0, 3, none⟩ .pf0 0 0 0).wf = false ∧ (Instr.registerWrite 0 ⟨0, 3, none⟩ .pf0 0 65 0).wf = false ∧
    (Instr.registerWrite 0 ⟨0, 3, none⟩ .pf0 0 1 256).wf = false ∧ (Instr.registerWrite 0 ⟨0, 3, none⟩ .pf0 0 64 0).wf := by decide +kernel
theorem wf_addr : (Instr.accessViolation 0 ⟨0, 3, none⟩ .read .internal (2 ^ 40) 4).wf = false ∧
    (Instr.accessViolation 0 ⟨0, 3, none⟩ .read .internal (2 ^ 40 - 1) 4).wf := by decide +kernel
theorem wf_busAddr : (Instr.entdaa 0 128).wf = false ∧ (Instr.entdaa 0 127).wf := by decide +kernel
theorem wf_check : (Instr.faultCheckFired 0 4 0x14 0 0x13).wf = false ∧ (Instr.faultCheckFired 0 4 0x13 0 0x20).wf ∧ (Instr.faultCheckFired 0 3 72 0 0).wf = false ∧
    (Instr.faultCheckFired 0 3 71 5 (2 ^ 512)).wf = false ∧ (Instr.faultCheckFired 0 3 71 5 (2 ^ 512 - 1)).wf := by decide +kernel
theorem wf_outFail : okData ⟨[], [], [], [], [], false, some (2 ^ 32)⟩ = false ∧ okData ⟨[], [], [], [], [], false, some (2 ^ 32 - 1)⟩ := by decide +kernel

/-! ## Tests against the spec's worked examples and tables -/

/-- Octets of numbers. -/
def octets (l : List Nat) : Bytes := l.map (BitVec.ofNat 8)

/-- The submission entry of the first worked packet (02_command_packets.md, Worked packets). -/
def sealEntry : Bytes := octets [0x01, 0x02, 0x00, 0x00, 0x2B, 0x1A, 0x00, 0x00, 0xC0, 0xA4, 0x03, 0x00, 0x10, 0x13, 0x50, 0x02,
  0x00, 0x00, 0x00, 0x00, 0x00, 0x00, 0x00, 0x00, 0x01, 0x10, 0x20, 0x00, 0x00, 0x00, 0x00, 0x2A,
  0x00, 0x00, 0x00, 0x00, 0x00, 0x01, 0x9F, 0x3C, 0x00, 0x00, 0x10, 0x00, 0x40, 0x7F, 0x00, 0x00,
  0x00, 0x00, 0x20, 0x00, 0x40, 0x7F, 0x00, 0x00, 0x20, 0x10, 0x00, 0x00, 0x10, 0x10, 0x00, 0x00]

/-- Its fields as the spec decodes them. -/
theorem test_worked_entry : (pktOf 37 sealEntry).opcode = 0x0201 ∧ (pktOf 37 sealEntry).flags = 0 ∧ (pktOf 37 sealEntry).tag = 0x00001A2B ∧
    (pktOf 37 sealEntry).khandle0 = 0x025013100003A4C0 ∧ (pktOf 37 sealEntry).par 0 0 = 1 ∧ (pktOf 37 sealEntry).par 1 1 = 0x10 ∧
    (pktOf 37 sealEntry).par 2 3 = 32 ∧ (pktOf 37 sealEntry).inAddr = 0x00007F4000100000 ∧ (pktOf 37 sealEntry).inLen = 4128 ∧
    (pktOf 37 sealEntry).outAddr = 0x00007F4000200000 ∧ (pktOf 37 sealEntry).outLen = 4112 := by decide +kernel

/-- The completion entry of that packet: 65 blocks, `sq_head` 0x42, phase 1. -/
theorem test_worked_completion : complEntry 0x1A2B 1 0x42 ⟨.done, .none, 0x00000A3F5C217E40, 4112, 2, 65, 0, 0⟩ =
    octets [0x2B, 0x1A, 0x00, 0x00, 0x00, 0x80, 0x42, 0x00, 0x10, 0x10, 0x00, 0x00, 0x41, 0x00, 0x00, 0x80,
      0x40, 0x7E, 0x21, 0x5C, 0x3F, 0x0A, 0x00, 0x00, 0x00, 0x00, 0x00, 0x00, 0x00, 0x00, 0x00, 0x00] := by decide +kernel

/-- The completion entry of the worked SIGN: class M, 80 MU, `sq_head` 0x45. -/
theorem test_worked_sign : complEntry 0x1A2D 1 0x45 ⟨.done, .m, 0x00000A3F5C314880, 64, 1, 80, 0, 0⟩ =
    octets [0x2D, 0x1A, 0x00, 0x00, 0x00, 0x81, 0x45, 0x00, 0x40, 0x00, 0x00, 0x00, 0x50, 0x00, 0x00, 0x40,
      0x80, 0x48, 0x31, 0x5C, 0x3F, 0x0A, 0x00, 0x00, 0x00, 0x00, 0x00, 0x00, 0x00, 0x00, 0x00, 0x00] := by decide +kernel

/-- The window of core 71 lies at 0x00_5047_0000, that of core 48 at 0x00_5030_0000 (01_islands_and_boundary.md, the example of R36). -/
theorem test_core_windows : (internalReg 0x0050470000).any (fun r => r.index == 71) ∧ (internalReg 0x0050300000).any (fun r => r.index == 48) := by
  decide +kernel

/-- A unit whose copies read 0x0000_03FF is in FIELD at field epoch 1 (13_life_cycle.md, Example). -/
theorem test_lifecycle_word : wordState 0x000003FF = 3 ∧ wordEpoch 0x000003FF = 1 ∧ wordValid 0x000003FF none := by decide +kernel

/-- The descriptor of slice 37's modular exponentiation: EXPM with dst 3, a 0, b 1, m 2. -/
def expm (imm : Nat) : WsInstr := ⟨0x0A, 0, 3, 0, 1, 2, imm, true⟩

/-- Its cycles are 393,536 and its budget 412 MU; slice 51's are 33,008 and 37 MU (06_pke_engine.md, the example of R197). -/
theorem test_workspace_budget : wsCycles [expm 2048] 32 = 393536 ∧ (wsFig 393536).b = 412 ∧ wsCycles [expm 256] 16 = 33008 ∧ (wsFig 33008).b = 37 := by
  decide +kernel

/-- The inbound tunnel SA of the example with W = 128 takes two contexts beside its head (09_inline_path.md, Example). -/
theorem test_sa_contexts : extCount espIn (2 ^ fTunnel) 128 = 2 := by decide +kernel

/-- The window of the example: h = 1,000, every bit from 1,000 down to 873 set except that of 990. -/
def sa1000 : SaCtx := { sa0 espIn .active with w := 128, flags := 2 ^ fReplay, seq := 1000, window := 2 ^ 128 - 1 - 2 ^ 10 }

/-- SN 870 lies below the window, 990 passes once, 1,005 moves the window to 878 (09_inline_path.md, Example). -/
theorem test_replay_window : sa1000.fresh 870 = false ∧ sa1000.lower = 873 ∧ sa1000.fresh 990 ∧ sa1000.fresh 991 = false ∧
    (sa1000.commit 1005).lower = 878 ∧ ((sa1000.commit 1005).fresh 990) ∧ (((sa1000.commit 1005).commit 990).fresh 990) = false ∧
    (sa1000.commit 1005).fresh 1004 := by decide +kernel

/-- Slice 37 at 10 Gbit/s with a level of -3,136 bytes at time 0. -/
def drained37 (now : Nat) : State :=
  let s := (up.fset Fld.SLC_BULK_SHARE_rate 37 100).fset Fld.SLC_BULK_SHARE_burst 37 16
  { s with now := now, slc := { s.slc with buckets := ⟨[(37, ⟨-3136 * 80, 0⟩)]⟩ } }

/-- The level reaches 0 after 2.509 us (03_slices.md, the example of R81). -/
theorem test_bucket : (drained37 2508).bucketLevel 37 < 0 ∧ 0 ≤ (drained37 2509).bucketLevel 37 ∧ (drained37 1000000).bucketLevel 37 = 16384 * 80 := by
  decide +kernel

/-- Officers 0 (algorithm 0x01) and 2 (algorithm 0x03) approve: 170 MU beside the opcode's 4 (05_vaults_and_quorum.md, Example). -/
theorem test_token_charge : tokenCharge (natLE 4 1 ++ natLE 2 2 ++ zeros 10 ++ (octets [0, 1] ++ zeros 30) ++ (octets [2, 3] ++ zeros 30)) = 170 := by
  decide +kernel

/-- In 8 x 200GbE port 2 (NET1, side A) is joined to port 6 (NET3, side B) (18_host_and_network_links.md, Example). -/
theorem test_port_pair : (up.fset Fld.TBL_INL_PD_mode 0 2).partner 2 = 6 ∧ (up.fset Fld.TBL_INL_PD_mode 0 2).portNets 2 = [1] ∧
    (up.fset Fld.TBL_INL_PD_mode 0 2).portNets 6 = [3] ∧ (up.fset Fld.TBL_INL_PD_mode 0 2).sideB 6 ∧
    (up.fset Fld.TBL_INL_PD_mode 0 2).sideB 2 = false := by decide +kernel

/-- A test of the state that a command answers. -/
def after (i : Instr) (s : State) (c : State → Bool) : Bool :=
  match exec i s with
  | .next t => c t
  | .fault _ => false
  | .refused _ => false

/-- A packet of an opcode that the table does not hold, fetched at time 0. -/
def unknownPkt (now : Nat) : State :=
  { withPkt bound { pktOf 5 (entryOf 0x0999 0 0 [] 0 0) with phase := .unknownOp } with now := now }

/-- Its release is fetch + 2,000 ns (R11). -/
theorem test_unknown_release : after (.unknownOpcodeRelease 0 0) (unknownPkt 1999) (fun t => t.cmd.packets.has 0) ∧
    after (.unknownOpcodeRelease 1 0) (unknownPkt 1999) (fun t => !t.cmd.packets.has 0) := by decide +kernel

/-- A write in the GNT window is discarded and reported with reason 0x07 (R33); one of an offset that nothing defines with 0x04. -/
theorem test_reports : after (.registerWrite 0 ⟨0, 3, none⟩ .pf0 0x800000 4 1) up (fun t => (up.accessCheck ⟨0, 3, none⟩ .write .pf0 0x800000 4 ==
      some (0x07, 0xFFFF)) && t.fget Fld.WLD_ASV_TOTAL_count 0 == 1 && t.regs == (up.report ⟨0, 3, none⟩ .write 0x800000 0x07 0xFFFF).regs) ∧
    up.accessCheck ⟨0, 3, none⟩ .write .pf0 0x00FFFC 4 = some (0x04, 0xFFFF) := by decide +kernel

/-- SOFTWARE_EVENT records the low 16 bits, and nothing for zero (R429). -/
theorem test_software_event : after (.softwareEvent 0 0x12345) up (fun t => t.rcd.entries.count (fun _ _ => true) == up.rcd.entries.count (fun _ _ => true) + 1) ∧
    after (.softwareEvent 0 0x10000) up (fun t => decide (t = up)) := by decide +kernel

/-- An empty queue: time does not pass (the model's choice). -/
theorem test_idle : (match step State.reset with
    | .next t => decide (t = State.reset)
    | .fault _ => false
    | .refused _ => false) = true := by decide +kernel

/-- The command at the front runs, and the rest of the queue stays. -/
theorem test_front : (match step { State.reset with pending := [.gntLock 5, .idcode 0] } with
    | .next t => t.now == 5 && t.flag Fld.GNT_LOCK_lock 0 && decide (t.pending = [.idcode 0])
    | .fault _ => false
    | .refused _ => false) = true := by decide +kernel

/-- Boundary scan: the pins that only sample are not driven (R468). -/
theorem test_extest : after (.extest 0 [("ZEROIZE_N", false), ("PWRGD", true)]) State.reset (fun t => t.out.length == 1 && t.lnk.tap == 0) := by decide +kernel

/-- DBG_LOCK sets its lock alone (`WLD_LOCK`). -/
theorem test_debug_lock : after (.dbgLock 0) up (fun t => t.flag Fld.WLD_LOCK_dbg_lock 0 && !t.flag Fld.WLD_LOCK_assign_lock 0) := by decide +kernel
end Sys2Proof.Tests
end

section
/-! PROOFS. The scope statements: every command answers, the state after reset, the start of a packet, and the links and the test port. -/

namespace Sys2Proof.Machine

/-! ## Every command answers -/

/-- A command answers a next state: no fault and no refusal. -/
def GivesNext (o : Host.Outcome State Fault Refusal) : Prop := ∃ t : State, o = .next t

theorem givesNext_next (t : State) : GivesNext (.next t) := ⟨t, rfl⟩

/-- A command with one precondition answers whether the state meets it or not. -/
theorem givesNext_guard (c : Prop) [Decidable c] (t u : State) : GivesNext (if c then .next t else .next u) := by
  split
  · exact givesNext_next t
  · exact givesNext_next u

/-- Every command answers: its arm ends in a next state on every branch of its preconditions. The first group of cases has one precondition,
the second looks something up or nests its preconditions, and what is left has none. -/
theorem exec_givesNext (c : Instr) (s : State) : GivesNext (exec c s) := by
  cases c
  case qpEnable | qpStop | sqTailDoorbell | cqHeadDoorbell | sqEntryFetch | remaskPassEnd | remaskLate | meterTick | challengeExpiry | dqPolicySet |
    wcallFromOpen | wcallFromSecure | yield | info | secureInterrupt | deviceTimerExpiry | pkeCoreZero | directedFlush | saQueryState | saQueryWait |
    macsecOutboundFrame | macsecInboundFrame | espOutboundFrame | espInboundFrame | dlogEnable | dlogDisable | dlogFlip | dlogFlipDone | sliceExport |
    sliceExportSizeQuery | sliceExportSignPending | sliceExportDiscardPending | railWarningExcursion | glitch | clockFrequency | shortCycle |
    referenceLost | meshCheck | tamperSwitch | temperature | vbakLow | vbakOver | clearHoldRelease | pfwNAsserted | entropyBlock | siroccoRestartDone
    | entropyTestModeExit | coldReset | rpReset | hostLinkUp | unannouncedPowerLoss | orderlyPowerLoss | overVoltage | kaSupplyLost | kaSupplyRestored
    | lcStepsRun | manufacturingProgramTrim | manufacturingTransitionScrap | bootPhaseRom | bootPhaseImages | bootPhaseFirmware | bootReady |
    oasisDrainDone | knownAnswerCheck | lockstepMismatch | fwActivate | configLoad | lcTransition | cardInserted | cardResponseTimeout |
    uncorrectableError | dumpTick | entdaa | qpStopComplete | wipeDone | netLaneCfgWrite | portLinkUp | portLinkDown | ideIntegrityFailure | extest =>
    exact givesNext_guard _ _ _
  case randomnessReady | randomnessHoldExpiry | completionIrqDelayExpiry | unknownOpcodeRelease | remaskLine | msgSend | msgRecv | ruleWrite |
    debugHaltRequest | meterReadInterim | meterReadStatement | pkeDispatch | yieldPoint | latticeQuantumBoundary | randomDrawTimeout |
    tokenBucketStart | learnInsert | stashReinsert | sweeperVisit | saQueryTimeout | inlineClusterDone | keyFileKeyDelivered | mirrorBuildDone |
    sliceImportOffer | offerExpiry | sliceImport | secondDecision | conditionEnd | evidenceCommit | drbgKatRepeat | rngRawRead |
    manufacturingTransitionFactory | bootPhaseKeys | recoveryGo | islandSelftestDone | oasisVisitStart | unitSelftestDone | faultCheckFired |
    accessViolation | resealDeadline | pairSwitchDone | activationPairFailure | cardOperatingConditionPoll | vaultBackupInit | vaultBackup |
    cardRemoved | cardBusyTimeout | mirrorRebuildDone | recorderFlush | islandGated =>
    dsimp only [exec, execRandomnessReady, execRandomnessHoldExpiry, execCompletionIrqDelayExpiry, execUnknownOpcodeRelease, execRemaskLine,
      execMsgSend, execMsgRecv, execRuleWrite, execDebugHaltRequest, execMeterReadInterim, execMeterReadStatement, execPkeDispatch, execYieldPoint,
      execLatticeQuantumBoundary, execRandomDrawTimeout, execTokenBucketStart, execLearnInsert, execStashReinsert, execSweeperVisit,
      execSaQueryTimeout, execInlineClusterDone, execKeyFileKeyDelivered, execMirrorBuildDone, execSliceImportOffer, execOfferExpiry, execSliceImport,
      execSecondDecision, execConditionEnd, execEvidenceCommit, execDrbgKatRepeat, execRngRawRead, execManufacturingTransitionFactory,
      execBootPhaseKeys, execRecoveryGo, execIslandSelftestDone, execOasisVisitStart, execUnitSelftestDone, execFaultCheckFired, execAccessViolation,
      execResealDeadline, execPairSwitchDone, execActivationPairFailure, execCardOperatingConditionPoll, execVaultBackupInit, execVaultBackup,
      execCardRemoved, execCardBusyTimeout, execMirrorRebuildDone, execRecorderFlush, execIslandGated]
    repeat' split
    all_goals exact givesNext_next _
  all_goals exact givesNext_next _

/-- Settles O3, by the arms of the dispatch. -/
theorem noCommandStops : Obligations.NoCommandStops := exec_givesNext

/-! ## The state after reset -/

/-- Settles O6: State.reset is the state with these values, and its empty register store reads every register at its reset value. -/
theorem resetStateValues : Obligations.ResetStateValues :=
  ⟨rfl, rfl, rfl, State.reg_reset, rfl, rfl, rfl, rfl, rfl, rfl, rfl, rfl, rfl, rfl⟩

/-! ## The start of a packet (R8, R54, R64, R65) -/

theorem State.startable_absent {s : State} {pid : Nat} (opc : Nat) (d : PktData) (h : s.cmd.packets.get? pid = none) :
    s.startable opc pid d = none := by
  unfold State.startable
  rw [h]

/-- The packet that may start is the fetched one with the data that the device read for it now. -/
theorem State.startable_packet {s : State} {opc pid : Nat} {d : PktData} {q : Packet} (h : s.startable opc pid d = some q) :
    ∃ p : Packet, s.cmd.packets.get? pid = some p ∧ q = { p with data := { d with refused := d.refused || p.data.refused } } := by
  cases hp : s.cmd.packets.get? pid with
  | none => rw [State.startable_absent opc d hp] at h; cases h
  | some p =>
    unfold State.startable at h
    rw [hp] at h
    exact ⟨p, rfl, (Option.some.inj (Option.ite_none_right_eq_some.mp h).2).symm⟩

/-- What readiness and randomness (R64, R65) can leave to start: the packet as it was, or the packet with its reservation. -/
theorem State.prepare_some {s u : State} {pid : Nat} {p r : Packet} (h : s.prepare pid p = (u, some r)) :
    (u = s ∧ r = p) ∨ (u = s.reserve pid p ∧ u.cmd.packets.get? pid = some r) := by
  unfold State.prepare at h
  dsimp only at h
  split at h
  · cases h
  split at h
  · split at h
    · split at h <;> cases h
    · split at h
      · obtain ⟨rfl, hr⟩ := Prod.mk.inj h
        exact .inr ⟨rfl, (Option.ite_none_right_eq_some.mp hr).2⟩
      · obtain ⟨rfl, hr⟩ := Prod.mk.inj h
        exact .inl ⟨rfl, (Option.some.inj (Option.ite_none_right_eq_some.mp hr).2).symm⟩
  · cases h
    exact .inl ⟨rfl, rfl⟩

/-- Before READY a packet completes with NOT_READY (R64). -/
theorem State.prepare_unbooted {s : State} (pid : Nat) (p : Packet) (hb : s.booted = false) :
    s.prepare pid p = (s.fail pid .notReady, none) := by
  simp [State.prepare, hb]

/-- A packet that needs no random words, or that has them and comes in its turn, goes on as it is (R65). -/
theorem State.prepare_ready {s : State} {pid : Nat} {p : Packet} (hb : s.booted = true)
    (h : needsRandom p p.data = false ∨ p.rnd.isSome ∧ s.turn pid p false) : s.prepare pid p = (s, some p) := by
  cases hn : needsRandom p p.data with
  | false => simp [State.prepare, hb, hn]
  | true =>
    obtain ⟨hr, ht⟩ : p.rnd.isSome ∧ s.turn pid p false := h.resolve_left (by simp [hn])
    have hr' : p.rnd.isNone = false := by rw [← Option.not_isSome, hr]; rfl
    simp [State.prepare, hb, hn, hr', ht]

/-- A reservation changes the packet's phase and gives it its random words (R65, R506). -/
theorem State.reserve_packet (s : State) (pid : Nat) (p : Packet) :
    ∃ n : Nat, (s.reserve pid p).cmd.packets.get? pid = some { p with phase := .ready, rnd := some n } :=
  ⟨_, NMap.get?_insert_self _ _ _⟩

/-- Readiness and randomness leave what was read for the packet. -/
theorem State.prepare_data {s u : State} {pid : Nat} {p r : Packet} (h : s.prepare pid p = (u, some r)) : r.data = p.data := by
  obtain ⟨-, rfl⟩ | ⟨rfl, hr⟩ := State.prepare_some h
  · rfl
  · obtain ⟨n, hn⟩ := s.reserve_packet pid p
    rw [hn] at hr
    cases hr
    rfl

/-- A caravan that starts to run leaves the packets. -/
@[simp] theorem State.runCaravan_packets (s : State) (p : Packet) (n : Nat) : (s.runCaravan p n).cmd.packets = s.cmd.packets := by
  unfold State.runCaravan
  split
  · split <;> rfl
  · rfl

/-- A packet that a command pair has taken up holds its start time and its pair (R54). -/
theorem State.take_packet (s : State) (pid : Nat) (p : Packet) :
    (s.take pid p).cmd.packets.get? pid = some { p with start := s.now, pair := s.pairFor p } := by
  unfold State.take
  simp [State.setPacket]

/-- A packet that starts is in the command unit, with the host's answer to its output as it was read. -/
theorem State.Starts.packet {s t : State} {opc pid : Nat} {d : PktData} {p : Packet} (h : s.Starts opc pid d t p) :
    t.cmd.packets.get? pid = some p ∧ p.data.outFail = d.outFail := by
  obtain ⟨q, r, u, hq, hr, rfl, rfl⟩ := h
  obtain ⟨p, -, rfl⟩ := State.startable_packet hq
  have ho := congrArg PktData.outFail (State.prepare_data hr)
  rw [State.take_packet]
  exact ⟨rfl, ho⟩

/-- A packet that starts is worked on in the state in which it was taken up. -/
theorem State.Starts.runPacket {s t : State} {opc pid : Nat} {d : PktData} {p : Packet} (h : s.Starts opc pid d t p)
    (work : State → Nat → Packet → State) : s.runPacket opc pid d work = work t pid p := by
  obtain ⟨q, r, u, hq, hr, rfl, rfl⟩ := h
  unfold State.runPacket
  rw [hq]
  dsimp only
  rw [hr]

/-- A packet that may start before READY completes with NOT_READY, whatever its opcode's work (R64). -/
theorem State.runPacket_unbooted {s : State} {opc pid : Nat} {d : PktData} {q : Packet} (hq : s.startable opc pid d = some q)
    (hb : s.booted = false) (work : State → Nat → Packet → State) : s.runPacket opc pid d work = s.fail pid .notReady := by
  unfold State.runPacket
  rw [hq]
  dsimp only
  rw [State.prepare_unbooted pid q hb]

/-- A packet that is not there is not worked on. -/
theorem State.runPacket_absent {s : State} {pid : Nat} (opc : Nat) (d : PktData) (h : s.cmd.packets.get? pid = none)
    (work : State → Nat → Packet → State) : s.runPacket opc pid d work = s := by
  unfold State.runPacket
  rw [State.startable_absent opc d h]

/-- An opcode that succeeds completes its packet where the host takes the output (R52). -/
theorem State.conclude_ok {t : State} {pid : Nat} {p : Packet} {r : Did} (hp : t.cmd.packets.get? pid = some p)
    (h : p.refusesOut r.out = none) : t.conclude pid (.ok r) = r.s.answers pid r.out r.mu r.result := by
  simp [State.conclude, hp, h, State.answers]

/-- An opcode that succeeds changes nothing but by its completion where the host refuses a write of the output (R49). -/
theorem State.conclude_refused {t : State} {pid n : Nat} {p : Packet} {r : Did} (hp : t.cmd.packets.get? pid = some p)
    (h : p.refusesOut r.out = some n) : t.conclude pid (.ok r) = t.answers pid r.out r.mu r.result := by
  simp [State.conclude, hp, h, State.answers]

theorem Packet.refusesOut_none {p : Packet} (h : p.data.outFail = none) (out : Bytes) : p.refusesOut out = none := by
  simp [Packet.refusesOut, h]

/-- Settles O18: a start is what State.startable, State.prepare and State.take make of a packet, and its packet stays in the command unit for the completion. -/
theorem packetStartConditions : Obligations.PacketStartConditions := by
  refine ⟨?_, ?_, ?_, ?_, ?_, ?_, ?_⟩
  · intro opc pid d s q op hq hb
    exact State.runPacket_unbooted hq hb _
  · intro opc pid d s q hq hb h
    exact ⟨q, q, s, hq, State.prepare_ready hb h, rfl, rfl⟩
  · intro opc pid d s t p op h
    exact h.runPacket _
  · intros
    rfl
  · intro opc pid d s t p r h
    obtain ⟨hs, hd⟩ := h
    obtain ⟨hp, ho⟩ := hs.packet
    exact State.conclude_ok hp (Packet.refusesOut_none (ho.trans hd) _)
  · intro opc pid n d s t p r h hn
    exact State.conclude_refused h.packet.1 hn
  · intro opc pid d s op h
    exact State.runPacket_absent opc d h _

/-! ## Links and the test port (R454, R460, R467, R468) -/

/-- An interrupt source that is asserted changes the worlds alone (R317). -/
theorem State.raiseIrq_frame (s : State) (n : Nat) : { s.raiseIrq n with wld := s.wld } = s := by
  unfold State.raiseIrq
  split
  · rfl
  · unfold State.pendOpen
    split
    · dsimp only
      split <;> rfl
    · rfl

@[simp] theorem State.raiseIrq_regs (s : State) (n : Nat) : (s.raiseIrq n).regs = s.regs := by
  have e := congrArg (fun t : State => t.regs) (s.raiseIrq_frame n)
  exact e

@[simp] theorem State.raiseIrq_tbl (s : State) (n : Nat) : (s.raiseIrq n).tbl = s.tbl := by
  have e := congrArg (fun t : State => t.tbl) (s.raiseIrq_frame n)
  exact e

@[simp] theorem State.raiseIrq_cmd (s : State) (n : Nat) : (s.raiseIrq n).cmd = s.cmd := by
  have e := congrArg (fun t : State => t.cmd) (s.raiseIrq_frame n)
  exact e

@[simp] theorem State.raiseIrq_fget (s : State) (n : Nat) (f : Fld) (i : Nat) : (s.raiseIrq n).fget f i = s.fget f i := by
  simp [State.fget, State.reg]

/-- An open interrupt that waits on a pair stays asserted. -/
@[simp] theorem State.pendOpen_irqs (s : State) (n : Nat) : (s.pendOpen n).wld.irqs = s.wld.irqs := by
  unfold State.pendOpen
  split
  · dsimp only
    split <;> rfl
  · rfl

/-- A raised interrupt source is asserted (R317). -/
theorem State.raiseIrq_asserts (s : State) (n : Nat) : (s.raiseIrq n).wld.irqs.contains n = true := by
  unfold State.raiseIrq
  split
  case isTrue h => exact h
  case isFalse => simp

/-- The device has at most 16 ports (R244). -/
theorem State.ports_le (s : State) : s.ports ≤ 16 := by
  have h : s.fget Fld.TBL_INL_PD_mode 0 < 4 := wordField_lt _ _ _
  exact Nat.pow_le_pow_right (by decide) (show s.fget Fld.TBL_INL_PD_mode 0 + 1 ≤ 4 by omega)

/-- The status of a port leaves the number of ports. -/
theorem State.ports_setReg_portStatus (s : State) {port : Nat} (hp : port < 131072) (w : Word) :
    (s.setReg .NET_PORT_STATUS port w).ports = s.ports := by
  unfold State.ports State.fget
  rw [State.reg_setReg_ne s w hp (by decide) (.inl (by decide))]

/-- The state after a port's link has come up (R460). -/
def State.portRises (s : State) (port : Nat) (c2m : Bool) : State :=
  let s := (s.setReg .NET_PORT_STATUS port 0).fset Fld.NET_PORT_STATUS_up port 1
  ((s.fset Fld.NET_PORT_STATUS_fec_lock port 1).fset Fld.NET_PORT_STATUS_c2m port (b2n c2m)).raiseIrq (0x80 + port)

/-- PORT_LINK_UP brings up a link that is down and may train (R460). -/
theorem exec_portLinkUp {s : State} {dt port : Nat} (c2m : Bool) (ht : (s.tick dt).portMayTrain port) (hd : (s.tick dt).linkUp port = false) :
    exec (.portLinkUp dt port c2m) s = .next ((s.tick dt).portRises port c2m) :=
  if_pos (by simp [ht, hd])

theorem State.portRises_ports (s : State) {port : Nat} (hp : port < 131072) (c2m : Bool) : (s.portRises port c2m).ports = s.ports := by
  unfold State.portRises State.fset
  have e : ∀ (u : State) (n : Nat), (u.raiseIrq n).ports = u.ports := fun u n => by simp [State.ports]
  simp only [e, State.ports_setReg_portStatus _ hp, Fld.NET_PORT_STATUS_up, Fld.NET_PORT_STATUS_fec_lock, Fld.NET_PORT_STATUS_c2m]

theorem State.portRises_up (s : State) (port : Nat) (c2m : Bool) : (s.portRises port c2m).fget Fld.NET_PORT_STATUS_up port = 1 := by
  unfold State.portRises
  rw [State.raiseIrq_fget, State.fget_fset_apart _ _ _ (by rfl) (by decide) (by decide) (by decide) (by decide),
    State.fget_fset_apart _ _ _ (by rfl) (by decide) (by decide) (by decide) (by decide), State.fget_fset _ _ _ _ (by decide) (by decide)]
  rfl

theorem State.portRises_c2m (s : State) (port : Nat) (c2m : Bool) :
    (s.portRises port c2m).fget Fld.NET_PORT_STATUS_c2m port = b2n c2m := by
  unfold State.portRises
  rw [State.raiseIrq_fget, State.fget_fset _ _ _ _ (by decide) (by decide)]
  cases c2m <;> rfl

theorem State.portRises_asserts (s : State) (port : Nat) (c2m : Bool) :
    (s.portRises port c2m).wld.irqs.contains (0x80 + port) = true :=
  State.raiseIrq_asserts _ _

@[simp] theorem State.portRises_tbl (s : State) (port : Nat) (c2m : Bool) : (s.portRises port c2m).tbl = s.tbl := by
  simp [State.portRises]

@[simp] theorem State.portRises_cmd (s : State) (port : Nat) (c2m : Bool) : (s.portRises port c2m).cmd = s.cmd := by
  simp [State.portRises]

theorem State.portRises_linkUp (s : State) {port : Nat} (hp : port < s.ports) (c2m : Bool) :
    (s.portRises port c2m).linkUp port = true := by
  have h := s.ports_le
  simp [State.linkUp, State.flag, State.portRises_up, State.portRises_ports s (show port < 131072 by omega), hp]

theorem State.lt_ports_of_portMayTrain {s : State} {port : Nat} (h : s.portMayTrain port = true) : port < s.ports := by
  simp only [State.portMayTrain, Bool.and_eq_true, decide_eq_true_eq] at h
  obtain ⟨⟨⟨hp, -⟩, -⟩, -⟩ := h
  exact hp

/-- A stream whose key sets are all put out of use is Insecure (R454). -/
theorem ideSecure_deactivated (l : List IdeSet) (stream : Nat) :
    ideSecure (l.map (fun e => if e.stream == stream then { e with active := false } else e)) stream = false := by
  rw [Bool.eq_false_iff]
  intro hs
  have hsub := List.all_eq_true.mp hs 0 (by decide)
  have hdir := List.all_eq_true.mp hsub 0 (by decide)
  obtain ⟨e, he, hact⟩ := List.any_eq_true.mp hdir
  obtain ⟨x, -, rfl⟩ := List.mem_map.mp he
  by_cases hx : x.stream = stream <;> simp [hx] at hact

/-- The key sets of the streams leave the count of failures. -/
theorem State.setIde_failures (s : State) (l : List IdeSet) :
    (s.setIde l).fget Fld.HLU_IDE_FAIL_count 0 = s.fget Fld.HLU_IDE_FAIL_count 0 := by
  unfold State.setIde
  rw [State.fget_fset_ne _ _ (by decide) (by decide) (.inl (by decide)), State.fget_fset_ne _ _ (by decide) (by decide) (.inl (by decide))]
  rfl

/-- A saturating count after it advances. -/
theorem State.fget_bumpSat (s : State) (f : Fld) (i n : Nat) (hh : f.hi < 64) (hl : f.lo ≤ f.hi) :
    (s.bumpSat f i n).fget f i = min (s.fget f i + n) f.max := by
  unfold State.bumpSat
  rw [State.fget_fset _ _ _ _ hh hl]
  have := Nat.two_pow_pos (f.hi - f.lo + 1)
  exact Nat.mod_eq_of_lt (by unfold Fld.max; omega)

/-- Boundary scan drives pins one after the other (R468). -/
def State.drivePins (s : State) (l : List (String × Bool)) : State := l.foldl (fun s e => s.emit (.pin e.1 e.2)) s

/-- EXTEST drives the pins of its list that do not only sample (R468). -/
theorem exec_extest {s : State} {dt : Nat} (drive : List (String × Bool)) (hd : (s.tick dt).scanDrives) : exec (.extest dt drive) s =
    .next (((s.tick dt).setTap 0).drivePins (drive.filter (fun e => !sampleOnly.contains e.1))) :=
  if_pos hd

theorem State.drivePins_lnk (s : State) (l : List (String × Bool)) : (s.drivePins l).lnk = s.lnk := by
  induction l generalizing s with
  | nil => rfl
  | cons e l ih => exact ih (s.emit (.pin e.1 e.2))

/-- What boundary scan sends out: the pins of its list. -/
theorem State.mem_drivePins_out {s : State} {l : List (String × Bool)} {n : String} {v : Bool} (h : .pin n v ∈ (s.drivePins l).out) :
    .pin n v ∈ s.out ∨ (n, v) ∈ l := by
  induction l generalizing s with
  | nil => exact .inl h
  | cons e l ih =>
    obtain h | h := ih (s := s.emit (.pin e.1 e.2)) h
    · obtain h | h := List.mem_cons.mp h
      · cases h
        exact .inr List.mem_cons_self
      · exact .inl h
    · exact .inr (List.mem_cons_of_mem _ h)

/-- CLAMP and HIGHZ select their registers where boundary scan drives, and otherwise act as BYPASS (R467). -/
theorem exec_clamp (dt : Nat) (s : State) : exec (.clamp dt) s = .next ((s.tick dt).setTap (if (s.tick dt).scanDrives then 4 else 31)) := rfl

theorem exec_highz (dt : Nat) (s : State) : exec (.highz dt) s = .next ((s.tick dt).setTap (if (s.tick dt).scanDrives then 5 else 31)) := rfl

/-- A violating access is reported and judged, and what is not a write reads zero (R5, R331). -/
theorem execAccessViolation_violates {s : State} {dt addr len reason page : Nat} {m : Master} {k : AccKind} {sp : AddrSpace}
    (h : (s.tick dt).accessCheck m k sp addr len = some (reason, page)) {u : State}
    (hu : u = ((s.tick dt).report m k addr reason page).judgeRecord m reason) :
    execAccessViolation dt m k sp addr len s = .next (if k = .write then u else u.emit (.readData addr 0)) := by
  subst hu
  unfold execAccessViolation
  dsimp only
  rw [h]
  dsimp only
  split <;> rfl

/-- Settles O59, clause by clause: the arms of the dispatch with their preconditions met, and the port, stream and pins that they leave. -/
theorem portsLinksAndTestPortComplete : Obligations.PortsLinksAndTestPortComplete := by
  refine ⟨?_, ?_, ?_, ?_, ?_, ?_, ?_, ?_, ?_, ?_, ?_, ?_⟩
  · rintro dt port c2m s t rfl ht hd
    have hp := State.lt_ports_of_portMayTrain ht
    refine ⟨(s.tick dt).portRises port c2m, exec_portLinkUp c2m ht hd, State.portRises_linkUp _ hp _, State.portRises_c2m _ _ _,
      State.portRises_asserts _ _ _, State.portRises_tbl _ _ _, State.portRises_cmd _ _ _⟩
  · rintro dt port s t rfl hu
    exact if_pos hu
  · intro dt u s
    exact ⟨rfl, rfl⟩
  · intros
    rfl
  · rintro dt stream s t rfl hs
    refine ⟨_, if_pos hs, ideSecure_deactivated _ _, ?_, rfl⟩
    exact (State.setIde_failures _ _).trans (State.fget_bumpSat _ _ _ _ (by decide) (by decide))
  · rintro dt addr len value m sp s t rfl
    rfl
  · intro dt lane value m s hl
    exact if_pos hl
  · rintro dt addr len reason page m k sp s t u rfl hc hu
    exact execAccessViolation_violates hc hu
  · rintro dt drive s t rfl hd
    refine ⟨_, exec_extest drive hd, congrArg LinkUnit.tap (State.drivePins_lnk _ _), ?_, ?_⟩
    · intro n v h
      obtain h | h := State.mem_drivePins_out h
      · exact .inl h
      · obtain ⟨hm, hn⟩ := List.mem_filter.mp h
        exact .inr ⟨hm, (Bool.not_eq_true' _).mp hn⟩
    · simp [exec_clamp, exec_highz, hd]
  · rintro dt drive s t rfl hd
    exact ⟨if_neg (by simp [hd]), by simp [exec_clamp, exec_highz, hd]⟩
  · intro dt s
    exact ⟨rfl, rfl, rfl⟩
  · intros
    rfl

end Sys2Proof.Machine
end

section
/-! PROOFS. The islands and the boundary: the slice page and its PASID. -/

namespace Sys2Proof.Machine

/-! ## The slice page (R34, R69, R331) -/

/-- A page is open to one PASID: that of the valid entry of a slice that is not UNBOUND (R34, R69). -/
theorem State.pageOpen_iff (s : State) (slice : Nat) (pasid : Option Nat) : s.pageOpen slice pasid = true ↔
    s.sliceState slice ≠ 0 ∧ s.flag Fld.SLC_PASID_valid slice = true ∧ pasid = some (s.fget Fld.SLC_PASID_pasid slice) := by
  simp [State.pageOpen, and_assoc]

/-- A queue pair of a slice is reached through the slice's page alone (R34). -/
theorem State.ringOpen_slice (s : State) {ring q : Nat} (hr : ring < managerRing) (hq : q < 8) (pasid : Option Nat) :
    s.ringOpen ring q pasid = s.pageOpen ring pasid := by
  simp [State.ringOpen, hr, hq, hr.ne]

/-- A refused write to a queue pair of a slice leaves the report of PF1, with the offset in the slice's page (R34, R37, R331). -/
theorem State.ringRefuse_slice (s : State) {ring q : Nat} (hr : ring < managerRing) (hq : q < 8) (off reason : Nat) (pasid : Option Nat) :
    s.ringRefuse ring q off reason pasid = s.report ⟨0x00, 4, pasid⟩ .write (ring * 0x4000 + 0x100 * q + off) reason ring := by
  simp [State.ringRefuse, ringMaster, ringOffset, hr, hq, hr.ne]

/-- A write that a closed page takes has no effect `t` of its own: only its report is left (R5, R34). -/
theorem State.ringWrite_closed (s t : State) {ring q : Nat} (hr : ring < managerRing) (hq : q < 8) {pasid : Option Nat}
    (hc : s.pageOpen ring pasid = false) {addr off : Nat} (ha : addr = ring * 0x4000 + 0x100 * q + off) (reason : Nat) :
    (if s.ringOpen ring q pasid then .next t else .next (s.ringRefuse ring q off reason pasid) : Host.Outcome State Fault Refusal) =
      .next (s.report ⟨0x00, 4, pasid⟩ .write addr reason ring) := by
  rw [s.ringOpen_slice hr hq, hc, s.ringRefuse_slice hr hq, ← ha]
  exact if_neg Bool.false_ne_true

/-- Settles O15: the four accesses share one guard, whose closed branch is the report, and an open page names its one PASID. -/
theorem slicePageAdmitsOnlyItsPasid : Obligations.SlicePageAdmitsOnlyItsPasid := by
  refine ⟨?_, ?_⟩
  · intro dt pasid ring q v s hr hq hc
    have control : ring * 0x4000 + 0x100 * q = ring * 0x4000 + 0x100 * q + 0x00 := (Nat.add_zero _).symm
    exact ⟨State.ringWrite_closed _ _ hr hq hc control 0x05, State.ringWrite_closed _ _ hr hq hc control 0x05,
      State.ringWrite_closed _ _ hr hq hc rfl 0x06, State.ringWrite_closed _ _ hr hq hc rfl 0x06⟩
  · intro slice pasid s h
    obtain ⟨-, hv, hp⟩ := (s.pageOpen_iff slice pasid).mp h
    exact ⟨s.fget Fld.SLC_PASID_pasid slice, hp, hv, rfl⟩

end Sys2Proof.Machine
end

section
/-! PROOFS. Command packets: the idle step, the queue pairs, the fetch and the timers of packets, the keys that packets make and unload, the acceptance of public-key packets, and the start of symmetric packets. -/

namespace Sys2Proof.Machine

/-! ## The idle step -/

/-- Settles O2: with no command at its front, the queue lets the machine idle. -/
theorem idleStepEndsDeferredWork : Obligations.IdleStepEndsDeferredWork := by
  intro s h
  unfold step
  rw [h]

/-! ## Registers at one index -/

/-- A write to a register leaves every other register at the same index, whatever the index. -/
theorem State.reg_setReg_apart (s : State) {r r' : RegName} (i : Nat) (w : Word) (h : r' ≠ r) :
    (s.setReg r i w).reg r' i = s.reg r' i := by
  have hk : regKey r' i ≠ regKey r i := fun e => h (RegName.idx_inj (by unfold regKey at e; omega))
  exact NMap.getD_setD_ne _ _ _ _ hk

theorem State.fget_setReg_apart (s : State) {r : RegName} {g : Fld} (i : Nat) (w : Word) (h : g.reg ≠ r) :
    (s.setReg r i w).fget g i = s.fget g i := by
  unfold State.fget
  rw [State.reg_setReg_apart s i w h]

theorem State.fget_setReg (s : State) {r : RegName} {g : Fld} (i : Nat) (w : Word) (h : g.reg = r) :
    (s.setReg r i w).fget g i = wordField w g.hi g.lo := by
  unfold State.fget
  rw [h, State.reg_setReg]

theorem State.fget_fset_reg_ne (s : State) {f g : Fld} (i v : Nat) (h : g.reg ≠ f.reg) : (s.fset f i v).fget g i = s.fget g i :=
  State.fget_setReg_apart s i _ h

/-- A read of a register does not see the command unit. -/
@[simp] theorem State.reg_setCmd (s : State) (u : CmdUnit) (r : RegName) (i : Nat) : ({ s with cmd := u } : State).reg r i = s.reg r i := rfl

@[simp] theorem State.fget_setCmd (s : State) (u : CmdUnit) (f : Fld) (i : Nat) : ({ s with cmd := u } : State).fget f i = s.fget f i := rfl

/-! ## The controls of a queue pair (R40, R41, R505) -/

theorem exec_qpEnable {s : State} {dt ring q : Nat} {pasid : Option Nat} (ho : (s.tick dt).ringOpen ring q pasid = true) :
    exec (.qpEnable dt pasid ring q) s = .next ((s.tick dt).enableQp ring q) :=
  if_pos ho

theorem exec_qpStop {s : State} {dt ring q : Nat} {pasid : Option Nat} (ho : (s.tick dt).ringOpen ring q pasid = true) :
    exec (.qpStop dt pasid ring q) s = .next ((s.tick dt).stopQp ring q) :=
  if_pos ho

theorem exec_qpStopComplete {s : State} {dt ring q : Nat} (h : (s.tick dt).stopEnded ring q = true) :
    exec (.qpStopComplete dt ring q) s = .next ((s.tick dt).clearQp ring q).settle :=
  if_pos h

theorem State.enableQp_busy {s : State} {ring q : Nat}
    (h : s.flag Fld.CMD_QP_STATUS_running (qpi ring q) = true ∨ s.flag Fld.CMD_QP_CTRL_stop (qpi ring q) = true) : s.enableQp ring q = s :=
  if_pos (by simpa using h)

section
variable {s : State} {ring q : Nat} (hr : s.flag Fld.CMD_QP_STATUS_running (qpi ring q) = false)
  (hs : s.flag Fld.CMD_QP_CTRL_stop (qpi ring q) = false)
include hr hs

theorem State.enableQp_valid (hc : s.qpConfigOk ring q = true) : s.enableQp ring q = s.startQp (qpi ring q) := by
  simp [State.enableQp, hr, hs, hc]

theorem State.enableQp_invalid (hc : s.qpConfigOk ring q = false) :
    s.enableQp ring q = s.fset Fld.CMD_QP_STATUS_cfgerr (qpi ring q) 1 := by
  simp [State.enableQp, hr, hs, hc]

end

/-- The indexes of a queue pair that starts: heads and tails 0, phase 1 (R40). -/
theorem State.startQp_indexes (s : State) (i : Nat) :
    (s.startQp i).fget Fld.CMD_SQ_TAIL_tail i = 0 ∧ (s.startQp i).fget Fld.CMD_SQ_HEAD_head i = 0 ∧
    (s.startQp i).fget Fld.CMD_CQ_HEAD_head i = 0 ∧ (s.startQp i).fget Fld.CMD_CQ_TAIL_tail i = 0 ∧
    (s.startQp i).fget Fld.CMD_CQ_TAIL_phase i = 1 := by
  unfold State.startQp
  simp (disch := decide) only [State.fget_setCmd, State.fget_fset_reg_ne, State.fget_setReg_apart, State.fget_setReg]
  decide

theorem State.startQp_running (s : State) (i : Nat) : (s.startQp i).flag Fld.CMD_QP_STATUS_running i = true := by
  unfold State.startQp State.flag
  simp (disch := decide) only [State.fget_setCmd, State.fget_fset_reg_ne, State.fget_fset]
  decide

theorem State.startQp_enabled (s : State) (i : Nat) : (s.startQp i).flag Fld.CMD_QP_CTRL_enable i = true := by
  unfold State.startQp State.flag
  simp (disch := decide) only [State.fget_setCmd, State.fget_fset]
  decide

/-- The start of a queue pair changes registers and its interrupt count alone (R40). -/
theorem State.startQp_frame (s : State) (i : Nat) :
    { s.startQp i with regs := s.regs, cmd := { (s.startQp i).cmd with irq := s.cmd.irq } } = s := by
  simp [State.startQp]

/-- The registers that the start of a queue pair writes, at its index. -/
def startRegs : List RegName := [.CMD_SQ_TAIL, .CMD_SQ_HEAD, .CMD_CQ_HEAD, .CMD_CQ_TAIL, .CMD_QP_STATUS, .CMD_QP_CTRL]

/-- The start of a queue pair leaves every other register. -/
theorem State.startQp_reg (s : State) {i j : Nat} {r : RegName} (hi : i < 131072) (hj : j < 131072) (h : ¬ (j = i ∧ r ∈ startRegs)) :
    (s.startQp i).reg r j = s.reg r j := by
  have apart : ∀ x ∈ startRegs, r ≠ x ∨ j ≠ i := by
    intro x hx
    by_contra hn
    obtain ⟨rfl, rfl⟩ : r = x ∧ j = i := by simpa [not_or] using hn
    exact h ⟨rfl, hx⟩
  simp only [startRegs, List.forall_mem_cons] at apart
  obtain ⟨h1, h2, h3, h4, h5, h6, -⟩ := apart
  unfold State.startQp
  rw [State.reg_setCmd, State.reg_fset_ne _ _ hi hj h6, State.reg_fset_ne _ _ hi hj h5, State.reg_setReg_ne _ _ hi hj h4, State.reg_setReg_ne _ _ hi hj h3, State.reg_setReg_ne _ _ hi hj h2, State.reg_setReg_ne _ _ hi hj h1]

/-- The checks of a configuration, one by one (R38, R40, R74). -/
theorem State.qpConfigOk_iff (s : State) (ring q : Nat) : s.qpConfigOk ring q = true ↔
    (ring = managerRing ∨ s.sliceState ring = 1) ∧
    s.fget Fld.CMD_SQ_BASE_base (qpi ring q) ≠ 0 ∧ s.fget Fld.CMD_CQ_BASE_base (qpi ring q) ≠ 0 ∧
    s.depthOk ring (s.fget Fld.CMD_QP_SIZE_sq_log2 (qpi ring q)) Fld.SLC_RING_LIMIT_sq_log2_max ∧
    s.depthOk ring (s.fget Fld.CMD_QP_SIZE_cq_log2 (qpi ring q)) Fld.SLC_RING_LIMIT_cq_log2_max ∧
    (ring = managerRing ∨ q < s.fget Fld.SLC_RING_LIMIT_qp_max ring) ∧
    (s.flag Fld.CMD_QP_IRQ_ien (qpi ring q) = false ∨ ring = managerRing ∨
      vecIn (s.fget Fld.CMD_QP_IRQ_vec (qpi ring q)) (s.fget Fld.SLC_MSIX_vec_base ring) (s.fget Fld.SLC_MSIX_vec_count ring)) := by
  simp [State.qpConfigOk, and_assoc, or_assoc]

/-- Settles O11: an open page leads to State.enableQp, whose branches are the configuration's checks. -/
theorem queuePairEnableChecksConfiguration : Obligations.QueuePairEnableChecksConfiguration := by
  refine ⟨?_, ?_, ?_, ?_⟩
  · intro dt pasid ring q s ho hr hs hc
    rw [exec_qpEnable ho, State.enableQp_valid hr hs hc]
  · rintro i s t hi rfl
    obtain ⟨h1, h2, h3, h4, h5⟩ := s.startQp_indexes i
    exact ⟨h1, h2, h3, h4, h5, s.startQp_running i, s.startQp_enabled i, s.startQp_frame i, fun r j hj h => s.startQp_reg hi hj h⟩
  · intro dt pasid ring q s ho hr hs hc
    rw [exec_qpEnable ho, State.enableQp_invalid hr hs hc]
  · intro ring q s
    exact s.qpConfigOk_iff ring q

theorem State.stopQp_idle {s : State} {ring q : Nat}
    (h : s.flag Fld.CMD_QP_STATUS_running (qpi ring q) = false ∨ s.flag Fld.CMD_QP_CTRL_stop (qpi ring q) = true) : s.stopQp ring q = s :=
  if_neg (by rcases h with h | h <;> simp [h])

/-- Settles O12: an open page leads to State.enableQp and State.stopQp, which leave a queue pair in these states alone. -/
theorem queuePairControlsWithoutEffect : Obligations.QueuePairControlsWithoutEffect := by
  refine ⟨?_, ?_⟩
  · intro dt pasid ring q s ho h
    rw [exec_qpEnable ho, State.enableQp_busy h]
  · intro dt pasid ring q s ho h
    rw [exec_qpStop ho, State.stopQp_idle h]

/-- A stop sequence begins on a running queue pair (R41). -/
theorem State.stopQp_running {s u : State} {ring q : Nat} (hr : s.flag Fld.CMD_QP_STATUS_running (qpi ring q) = true)
    (hs : s.flag Fld.CMD_QP_CTRL_stop (qpi ring q) = false) (hu : u = (s.fset Fld.CMD_QP_CTRL_stop (qpi ring q) 1).stopCaravans ring q) :
    s.stopQp ring q = (u.abortAll u.now ((u.qpPackets ring q).filter (fun e => u.stopAborts e.2))).stopQuery ring q := by
  subst hu
  exact if_pos (by simp [hr, hs])

/-- After a stop sequence the queue pair's three flags read 0 (R41). -/
theorem State.clearQp_flags (s : State) (ring q : Nat) : (s.clearQp ring q).flag Fld.CMD_QP_STATUS_running (qpi ring q) = false ∧
    (s.clearQp ring q).flag Fld.CMD_QP_CTRL_enable (qpi ring q) = false ∧
    (s.clearQp ring q).flag Fld.CMD_QP_CTRL_stop (qpi ring q) = false := by
  unfold State.clearQp State.flag
  simp (disch := decide) only [State.fget_setCmd, State.fget_fset, State.fget_fset_reg_ne, State.fget_fset_apart]
  decide

/-- Settles O13: State.stopQp and State.clearQp are the begin and the end of a stop sequence. -/
theorem queuePairStopSequence : Obligations.QueuePairStopSequence := by
  refine ⟨?_, ?_, ?_⟩
  · intro dt pasid ring q s ho hr hs
    refine ⟨_, rfl, ?_⟩
    rw [exec_qpStop ho, State.stopQp_running hr hs rfl]
  · intro dt ring q s h
    exact exec_qpStopComplete h
  · intro ring q s
    exact s.clearQp_flags ring q

/-! ## Doorbells (R34, R39) -/

theorem exec_sqTailDoorbell {s : State} {dt ring q : Nat} {pasid : Option Nat} (v : Nat) (ho : (s.tick dt).ringOpen ring q pasid = true) :
    exec (.sqTailDoorbell dt pasid ring q v) s = .next ((s.tick dt).sqDoorbell (qpi ring q) (v % 2 ^ 16)) :=
  if_pos ho

theorem exec_cqHeadDoorbell {s : State} {dt ring q : Nat} {pasid : Option Nat} (v : Nat) (ho : (s.tick dt).ringOpen ring q pasid = true) :
    exec (.cqHeadDoorbell dt pasid ring q v) s = .next ((s.tick dt).cqDoorbell (qpi ring q) (v % 2 ^ 16)) :=
  if_pos ho

theorem State.sqDoorbell_below {s : State} {i v : Nat} (h : v < 2 ^ s.fget Fld.CMD_QP_SIZE_sq_log2 i) :
    s.sqDoorbell i v = s.fset Fld.CMD_SQ_TAIL_tail i v :=
  if_pos (decide_eq_true h)

theorem State.sqDoorbell_beyond {s : State} {i v : Nat} (h : 2 ^ s.fget Fld.CMD_QP_SIZE_sq_log2 i ≤ v) :
    s.sqDoorbell i v = s.fset Fld.CMD_QP_STATUS_dberr i 1 :=
  if_neg (by simpa [State.sqIndexOk] using h)

/-- Distances in a ring compare as the remainders of R39. -/
theorem ringGap_le_iff {depth : Nat} (hd : 0 < depth) (h v t : Nat) :
    ringGap depth h v ≤ ringGap depth h t ↔ ((v : Int) - h) % depth ≤ ((t : Int) - h) % depth := by
  have hz : (depth : Int) ≠ 0 := by omega
  have h1 := Int.emod_nonneg ((v : Int) - h) hz
  have h2 := Int.emod_nonneg ((t : Int) - h) hz
  unfold ringGap
  omega

theorem State.cqHeadOk_iff (s : State) (i v : Nat) : s.cqHeadOk i v = true ↔
    v < 2 ^ s.fget Fld.CMD_QP_SIZE_cq_log2 i ∧
    ((v : Int) - s.fget Fld.CMD_CQ_HEAD_head i) % (2 ^ s.fget Fld.CMD_QP_SIZE_cq_log2 i : Nat) ≤
      ((s.fget Fld.CMD_CQ_TAIL_tail i : Int) - s.fget Fld.CMD_CQ_HEAD_head i) % (2 ^ s.fget Fld.CMD_QP_SIZE_cq_log2 i : Nat) := by
  rw [← ringGap_le_iff (Nat.two_pow_pos _)]
  simp [State.cqHeadOk]

/-- Settles O14: an open page leads to State.sqDoorbell and State.cqDoorbell, which test the index. -/
theorem doorbellsMoveIndexesOrSetDberr : Obligations.DoorbellsMoveIndexesOrSetDberr := by
  refine ⟨?_, ?_, ?_⟩
  · intro dt pasid ring q v s ho h
    rw [exec_sqTailDoorbell v ho, State.sqDoorbell_below h]
  · intro dt pasid ring q v s ho h
    rw [exec_sqTailDoorbell v ho, State.sqDoorbell_beyond h]
  · rintro dt pasid ring q v n depth h tl s ho rfl rfl rfl rfl
    rw [exec_cqHeadDoorbell v ho]
    exact congrArg _ (if_congr (State.cqHeadOk_iff _ _ _) rfl rfl)

/-! ## The fetch of an entry (R39, R43, R55) -/

/-- A counter of the performance monitor changes PMC_CNT and PMC_OVF alone (R438). -/
theorem State.pmcAdd_reg (s : State) {c n j : Nat} {r : RegName} (hc : c < 131072) (hj : j < 131072) (hr : r ≠ .PMC_CNT) (ho : r ≠ .PMC_OVF) :
    (s.pmcAdd c n).reg r j = s.reg r j := by
  have count : ∀ v : Nat, (s.fset Fld.PMC_CNT_value c v).reg r j = s.reg r j := fun v => State.reg_fset_ne s v hc hj (.inl hr)
  unfold State.pmcAdd
  dsimp only
  split
  · exact count _
  · exact (State.reg_fset_ne _ _ (by omega) hj (.inl ho)).trans (count _)

/-- An event of the performance monitor changes PMC_CNT and PMC_OVF alone (R438). -/
theorem State.pmc_reg (s : State) (ev n : Nat) {j : Nat} {r : RegName} (hj : j < 131072) (hr : r ≠ .PMC_CNT) (ho : r ≠ .PMC_OVF) :
    (s.pmc ev n).reg r j = s.reg r j := by
  refine List.foldlRecOn (s.countersOf ev) (fun (t : State) c => t.pmcAdd c n) (motive := fun t => t.reg r j = s.reg r j) rfl ?_
  intro t ht c hc
  have hc : c < 256 := List.mem_range.mp (List.mem_filter.mp hc).1
  exact (t.pmcAdd_reg (by omega) hj hr ho).trans ht

theorem State.pmc_fget (s : State) (ev n : Nat) {j : Nat} {f : Fld} (hj : j < 131072) (hr : f.reg ≠ .PMC_CNT) (ho : f.reg ≠ .PMC_OVF) :
    (s.pmc ev n).fget f j = s.fget f j := by
  unfold State.fget
  rw [State.pmc_reg s ev n hj hr ho]

/-- The indexes of the queue pairs lie in their register groups. -/
theorem qpi_lt {ring q : Nat} (hq : q < 8) (hr : ring ≤ managerRing) : qpi ring q < 131072 := by
  unfold managerRing at hr
  unfold qpi
  omega

theorem exec_sqEntryFetch {s : State} {dt ring q : Nat} (entry : Bytes) (ahead : Nat) (h : (s.tick dt).canFetch ring q = true) :
    exec (.sqEntryFetch dt ring q entry ahead) s = .next ((s.tick dt).fetchEntry ring q entry ahead) :=
  if_pos h

/-- Without a CQ entry to reserve there is no fetch (R43). -/
theorem exec_sqEntryFetch_full {s : State} {dt ring q : Nat} (entry : Bytes) (ahead : Nat) (h : (s.tick dt).cqRoom ring q = false) :
    exec (.sqEntryFetch dt ring q entry ahead) s = .next (s.tick dt) :=
  if_neg (by simp [State.canFetch, h])

/-- An entry outside a caravan that begins none belongs to none (R59). -/
theorem State.caravanOf_none {s : State} {i : Nat} (h : s.cmd.fetching.get? i = none) (ahead : Nat) : s.caravanOf i false ahead = none := by
  simp [State.caravanOf, h]

/-- The state after the copy of an entry as a packet outside a caravan, before the packet is looked at (R39, R43, R55). -/
def State.copyEntry (s : State) (i : Nat) (p : Packet) : State :=
  let t := (s.advanceSq i).setPacket s.cmd.nextPid p
  ({ t with cmd := { t.cmd with nextPid := s.cmd.nextPid + 1 } } : State).pmc 0x0F0 64

/-- A fetch outside a caravan copies the entry and looks at the packet. -/
theorem State.fetchEntry_plain {s : State} {ring q : Nat} {entry : Bytes} (ahead : Nat) (hf : s.cmd.fetching.get? (qpi ring q) = none)
    (hc : bit (field (fitLen 64 entry) 2 2) 0 = false) {p : Packet}
    (hp : p = mkPacket ring q (s.fget Fld.CMD_SQ_HEAD_head (qpi ring q)) s.now entry none) :
    s.fetchEntry ring q entry ahead = (s.copyEntry (qpi ring q) p).afterFetch s.cmd.nextPid p none := by
  unfold State.fetchEntry
  dsimp only
  rw [hc, State.caravanOf_none hf, Option.map_none, ← hp]
  rfl

/-- After boot a packet outside a caravan that decodes stays as it was copied. -/
theorem State.afterFetch_decodes {s : State} {p : Packet} (pid : Nat) (hd : p.decodes = true) (hb : s.booted = true) :
    s.afterFetch pid p none = s := by
  simp [State.afterFetch, hd, hb]

theorem State.copyEntry_packet (s : State) (i : Nat) (p : Packet) : (s.copyEntry i p).cmd.packets.get? s.cmd.nextPid = some p := by
  simp [State.copyEntry, State.setPacket]

theorem State.copyEntry_nextPid (s : State) (i : Nat) (p : Packet) : (s.copyEntry i p).cmd.nextPid = s.cmd.nextPid + 1 := by
  simp [State.copyEntry]

theorem State.copyEntry_fget (s : State) (i : Nat) (p : Packet) {j : Nat} {f : Fld} (hj : j < 131072) (hr : f.reg ≠ .PMC_CNT)
    (ho : f.reg ≠ .PMC_OVF) : (s.copyEntry i p).fget f j = (s.advanceSq i).fget f j :=
  State.pmc_fget _ _ _ hj hr ho

theorem State.copyEntry_booted (s : State) {i : Nat} (p : Packet) (hi : i < 131072) : (s.copyEntry i p).booted = s.booted := by
  unfold State.booted
  rw [State.copyEntry_fget s i p (by decide) (by decide) (by decide)]
  unfold State.advanceSq
  rw [State.fget_fset_ne s _ hi (by decide) (.inl (by decide))]

/-- The SQ head passes the entry, modulo the depth (R39). -/
theorem State.copyEntry_head (s : State) {i : Nat} (p : Packet) (hi : i < 131072) : (s.copyEntry i p).fget Fld.CMD_SQ_HEAD_head i =
    (s.fget Fld.CMD_SQ_HEAD_head i + 1) % 2 ^ s.fget Fld.CMD_QP_SIZE_sq_log2 i % 2 ^ 16 := by
  rw [State.copyEntry_fget s i p hi (by decide) (by decide)]
  exact State.fget_fset _ _ _ _ (by decide) (by decide)

/-- Settles O16: the premises are State.canFetch, and a plain entry is copied by State.copyEntry and left as it is. -/
theorem fetchNeedsReservedCompletion : Obligations.FetchNeedsReservedCompletion := by
  refine ⟨?_, ?_, ?_⟩
  · intro dt ring q entry ahead s hq hr hrun hup hheld hstop hne hroom
    exact exec_sqEntryFetch entry ahead (by simp [State.canFetch, State.cqRoom, hq, hr, hrun, hup, hheld, hstop, hne, hroom])
  · rintro ring q head entry ahead s t p hq hr hb hf hc rfl hp hd rfl
    have hi := qpi_lt hq hr
    rw [State.fetchEntry_plain ahead hf hc hp, State.afterFetch_decodes _ hd ((s.copyEntry_booted p hi).trans hb)]
    exact ⟨s.copyEntry_packet _ p, s.copyEntry_nextPid _ p, s.copyEntry_head p hi⟩
  · intro dt ring q entry ahead s h
    exact exec_sqEntryFetch_full entry ahead (decide_eq_false (by omega))

/-! ## Holds and timers (R37, R53, R65, R506) -/

/-- Settles O17: each timer's command finds its packet, or its queue pair's count, in the phase that it ends. -/
theorem packetTimersComplete : Obligations.PacketTimersComplete := by
  refine ⟨?_, ?_, ?_, ?_⟩
  · intro dt pid since p s hp hph ht hr
    have early : ¬ since + holdNs ≤ (s.tick dt).now := Nat.not_le.mpr ht
    simp only [exec, execRandomnessReady, hp, hph, early, hr, if_true, if_false]
  · intro dt pid since p s hp hph ht
    have late : since + holdNs ≤ (s.tick dt).now := ht
    simp only [exec, execRandomnessHoldExpiry, hp, hph, late, if_true]
  · intro dt pid p s hp hph ht hc
    have late : p.fetched + unknownNs ≤ (s.tick dt).now := ht
    simp only [exec, execUnknownOpcodeRelease, hp]
    exact if_pos (by simp [hph, late, hc])
  · intro dt ring q w s hw hi hd ht
    simp only [exec, execCompletionIrqDelayExpiry, hw]
    exact if_pos (by simp [hi, hd, ht])

/-! ## The checks of a packet (R8) -/

@[simp] theorem ok_bind {α β : Type} (a : α) (f : α → Except Stop β) : (Except.ok a >>= f) = f a := rfl

@[simp] theorem require_true (st : Status) : require true st = .ok () := rfl

@[simp] theorem requireIn_true (s : State) (st : Status) : requireIn s true st = .ok () := rfl

@[simp] theorem getOr_some {α : Type} (a : α) (st : Status) : getOr (some a) st = .ok a := rfl

@[simp] theorem getIn_some {α : Type} (s : State) (a : α) (st : Status) : getIn s (some a) st = .ok a := rfl

/-- An empty output meets no refused write (R49). -/
@[simp] theorem Packet.refusesOut_nil (p : Packet) : p.refusesOut [] = none := by
  simp [Packet.refusesOut]

/-- Areas that pass the checks can be read (R47, R49). -/
theorem Packet.readOk_of_areasOk {p : Packet} (h : p.areasOk ioIn = true) : p.readOk true = true := by
  simp only [Packet.areasOk, Packet.readOk, ioIn, Bool.and_eq_true] at h ⊢
  obtain ⟨⟨⟨⟨hd, -⟩, -⟩, hr⟩, hp⟩ := h
  exact ⟨⟨hd, hr⟩, hp⟩

/-- A started packet's opcode of time class none that succeeds answers it, where the host refuses none of the output. -/
theorem State.Serves.conclude {s t : State} {opc pid : Nat} {d : PktData} {p : Packet} {r : Except Stop Did} {w : State} {out : Bytes}
    {mu result : Nat} (h : s.Serves opc pid d t p) (hr : r = .ok ⟨w, out, mu, result⟩) : t.conclude pid r = w.answers pid out mu result := by
  obtain ⟨hs, hd⟩ := h
  obtain ⟨hp, ho⟩ := hs.packet
  rw [hr]
  exact State.conclude_ok hp (Packet.refusesOut_none (ho.trans hd) _)

/-- A started packet's opcode of time class none that succeeds without output answers it. -/
theorem State.Starts.conclude {s t : State} {opc pid : Nat} {d : PktData} {p : Packet} {r : Except Stop Did} {w : State} {mu result : Nat}
    (h : s.Starts opc pid d t p) (hr : r = .ok ⟨w, [], mu, result⟩) : t.conclude pid r = w.answers pid [] mu result := by
  rw [hr]
  exact State.conclude_ok h.packet.1 p.refusesOut_nil

/-! ## New keys (R67, R108, R123, R128 to R130, R510) -/

@[simp] theorem State.hwuLoad_vaultId (s : State) (key : Bytes) (sl : Nat) : (s.hwuLoad key).vaultId sl = s.vaultId sl := rfl

@[simp] theorem State.hwuLoad_oneRoot (s : State) (key : Bytes) (sl t : Nat) : (s.hwuLoad key).oneRoot sl t = s.oneRoot sl t := rfl

/-- A new key is entered and its mitten output where the vault root is loaded, the output has room and the cache has a place. -/
theorem State.deliver_ok {t w : State} {p : Packet} {k : NewKey} {line h : Nat} {root block : Bytes}
    (hv : t.vaultOf p.ring = some (line, root, block)) (hf : p.fits (96 + k.secret.length + k.pub.length) = true)
    (he : (t.hwuLoad root).enterKey p.ring (t.vaultId p.ring) k = some (h, w)) (nonce : Bytes) (mu : Nat) :
    t.deliver p k nonce mu = .ok ⟨w, mkMitten root (k.header (t.vaultId p.ring)) nonce k.secret k.pub, mu, h⟩ := by
  simp [State.deliver, hv, hf, he]

/-- KEY_GENERATE of class TRAFFIC comes to the delivery of a key of random material once its checks pass (R67). -/
theorem opGenTraffic_delivers {t : State} {pid : Nat} {p : Packet} {o : Option Key} {kt : KeyType} (ho : t.handles pid p = .ok o)
    (hw : t.wiping = false) (hq : t.quotaOk p.ring (p.par 1 1) = true) (ha : p.areasOk ioOut = true) (hi : p.inlineFrom 4 = true)
    (hk : keyType (p.par 1 1) = some kt) (hc : kt.classes.contains clsTraffic = true)
    (hu : usageOk (p.par 1 1) clsTraffic (p.par 2 3) = true) :
    opGenTraffic t pid p =
      t.deliver p ⟨clsTraffic, p.par 1 1, 1, p.par 2 3, leNat (p.random 0 8), 0, 0, p.random 2 kt.s, []⟩ (p.random 1 12) 4 := by
  simp only [opGenTraffic, ho, hw, hq, ha, hi, hk, hc, hu, ok_bind, require_true, getOr_some, Bool.not_false, Bool.and_true]

/-- KEY_DERIVE comes to the delivery of the derived key once its checks pass (R510). -/
theorem opKeyDerive_delivers {t : State} {pid : Nat} {p : Packet} {b : Key} {kt : KeyType} {secret : Bytes} (hb : t.keyOf pid p = .ok b)
    (hn : b.compat = false) (hd : bit b.usage useDerive = true)
    (hcls : p.par 1 1 = clsTraffic ∨ (p.par 1 1 = clsCustody ∧ b.cls = clsCustody)) (hw : t.wiping = false)
    (hq : t.quotaOk p.ring (p.par 4 4) = true) (ha : p.areasOk ioBoth = true) (hi : p.inlineFrom 5 = true) (hl : p.inTotal ≤ 65535)
    (hk : keyType (p.par 4 4) = some kt) (hc : kt.classes.contains (p.par 1 1) = true) (hp : kt.pub = 0)
    (hu : usageOk (p.par 4 4) (p.par 1 1) (p.par 2 3) = true) (hr : t.oneRoot p.ring (p.par 4 4) = true)
    (hs : derive (p.par 0 0) b.secret p.input kt.s = some secret) :
    opKeyDerive t pid p =
      t.deliver p ⟨p.par 1 1, p.par 4 4, 2, p.par 2 3, leNat (p.random 0 8), b.ident, 0, secret, []⟩ (p.random 1 12) 4 := by
  have permitted : (!(p.par 1 1 == clsCustody && b.cls != clsCustody)) = true := by
    obtain h | ⟨-, h⟩ := hcls
    · rw [h]; rfl
    · simp [h]
  have known : (p.par 1 1 == clsTraffic || p.par 1 1 == clsCustody) = true := by
    obtain h | ⟨h, -⟩ := hcls <;> simp [h]
  simp only [opKeyDerive, hb, hn, hd, permitted, known, hw, hq, ha, hi, hl, hk, hc, hp, hu, hr, hs, ok_bind, require_true, getOr_some,
    Bool.not_false, Bool.and_true, decide_true, beq_self_eq_true]

/-- KEY_LOAD of the form that the first input octet names, once its checks pass (R123). -/
theorem opKeyLoad_form {t : State} {pid : Nat} {p : Packet} {o : Option Key} (ho : t.handles pid p = .ok o) (ha : p.areasOk ioIn = true)
    (hf : field p.input 0 1 = 1 ∨ field p.input 0 1 = 3) (hw : t.wiping = false) :
    opKeyLoad t pid p = if field p.input 0 1 = 3 then opLoadCompat t p p.input else opLoadMitten t p p.input := by
  have form : (field p.input 0 1 == 1 || field p.input 0 1 == 3) = true := by
    obtain h | h := hf <;> simp [h]
  simp only [opKeyLoad, ho, p.readOk_of_areasOk ha, form, hw, ok_bind, require_true, Bool.not_false, beq_iff_eq]

/-- KEY_LOAD of a mitten that opens enters its key (R123). -/
theorem opLoadMitten_ok {t w : State} {p : Packet} {m secret pub root block : Bytes} {line l : Nat}
    (hq : t.quotaOk p.ring (field m 2 1) = true) (hi : p.inlineFrom 0 = true) (hv : t.vaultOf p.ring = some (line, root, block))
    (hm : openMitten root block (t.vaultId p.ring) m = some (secret, pub)) (hr : t.oneRoot p.ring (field m 2 1) = true)
    (he : (t.hwuLoad root).addRecord (recOfHeader p.ring (m.take 64) pub) secret = some (l, w)) :
    opLoadMitten t p m = .ok ⟨w, [], 2, w.handleOf p.ring (field m 1 1) l⟩ := by
  simp [opLoadMitten, hq, hi, hv, hm, hr, he]

/-- KEY_LOAD of an EVX-7200 record that the compatibility root opens fills a free slot (R128 to R130). -/
theorem opLoadCompat_ok {t u : State} {p : Packet} {r kek kf mask : Bytes} {line : Nat} {root : KeyRec} {c e : CompatSlot}
    (hmir : t.mirrors p.ring = false) (hline : t.freeSlotLine = some line) (hfit : t.kcFits p.ring 4 = true) (hi : p.inlineFrom 0 = true)
    (hlen : r.length = 176) (hroot : t.compatRoot p.ring = some root) (hkek : kek = root.copy.secret.take 32)
    (hkf : kf = fitLen 48 (Config.prim .evxUnwrap [kek, slice r 0x10 56]))
    (htag : fitLen 8 (Config.prim .hmacSha256 [kek, r.take 0xA8]) = slice r 0xA8 8)
    (hacc : Config.accepts .evxUnwrap [kek, slice r 0x10 56] = true) (hevx : evxOk r kf = true)
    (hmask : mask = fitLen 48 (Config.random t.free))
    (hc : c = ⟨t.regionOf line, p.ring, field r 5 1, false, r.take 16, mask, xorBytes kf mask, slice r 0x48 96, []⟩)
    (he : e = { c with check := t.slotCheck line c.head kf c.pub })
    (hu : u = ({ t with ks := { t.ks with slots := t.ks.slots.insert line e }, free := t.free + 1 }).kcAdd p.ring 4) :
    opLoadCompat t p r = .ok ⟨u, [], 2, u.handleOf p.ring (field r 5 1) line⟩ := by
  subst hu he hc hmask hkf hkek
  simp only [opLoadCompat, hmir, hline, hfit, hi, hlen, hroot, htag, hacc, hevx, ok_bind, require_true, getOr_some, Bool.not_false,
    Bool.and_true, beq_self_eq_true]

/-- Settles O20: each opcode's checks pass one after the other, and what is left is the entry of the key and its answer. -/
theorem keyCreationCompletes : Obligations.KeyCreationCompletes := by
  refine ⟨?_, ?_, ?_, ?_⟩
  · rintro dt pid h c line d s t w p kt k o root block hs hcls ho hw hq ha hi hk hc hu hv rfl hf he rfl
    have run : opGenTraffic t pid p = _ := (opGenTraffic_delivers ho hw hq ha hi hk hc hu).trans (State.deliver_ok hv hf he _ _)
    have traffic : t.keyGenerate pid p = t.conclude pid (opGenTraffic t pid p) := if_pos (beq_iff_eq.mpr hcls)
    exact congrArg _ ((hs.1.runPacket _).trans (traffic.trans (hs.conclude run)))
  · rintro dt pid h line d s t w p kt b k secret root block hs hb hn hd hcls hw hq ha hi hl hk hc hp hu hr hsec hv rfl hf he
    have run : opKeyDerive t pid p = _ :=
      (opKeyDerive_delivers hb hn hd hcls hw hq ha hi hl hk hc hp hu hr hsec).trans (State.deliver_ok hv hf he _ _)
    exact congrArg _ ((hs.1.runPacket _).trans (hs.conclude run))
  · rintro dt pid line l d s t w p o secret pub root block hs ho ha hform hw hq hi hv hm hr he
    have run : opKeyLoad t pid p = _ := (opKeyLoad_form ho ha (.inl hform) hw).trans
      ((if_neg (by simp [hform])).trans (opLoadMitten_ok hq hi hv hm hr he))
    exact congrArg _ ((hs.runPacket _).trans (hs.conclude run))
  · rintro dt pid line d s t u p o root kek kf mask c e hs ho ha hform hw hmir hline hfit hi hlen hroot hkek hkf htag hacc hevx hmask hc he hu
    have run : opKeyLoad t pid p = _ := (opKeyLoad_form ho ha (.inr hform) hw).trans
      ((if_pos hform).trans (opLoadCompat_ok hmir hline hfit hi hlen hroot hkek hkf htag hacc hevx hmask hc he hu))
    exact congrArg _ ((hs.runPacket _).trans (hs.conclude run))

/-! ## KEY_UNLOAD (R58) -/

theorem exec_keyUnload {s t : State} {dt pid : Nat} {d : PktData} {p : Packet} (h : (s.tick dt).Starts 0x0103 pid d t p) :
    exec (.keyUnload dt pid d) s = .next (t.keyUnload pid p) :=
  congrArg _ (h.runPacket _)

section
variable {t : State} {pid h : Nat} {p : Packet} {k : Key} (hk : t.keyOf pid p = .ok k) (hh : t.firstHandle pid p = some h)
  (hi : p.inlineFrom 0 = true)
include hk hh hi

/-- A key that no other started packet uses is freed at once. -/
theorem State.keyUnload_free (hr : t.references pid h = false) : t.keyUnload pid p = t.unloadNow pid h := by
  simp [State.keyUnload, hk, hh, hi, hr]

/-- A key in use keeps its packet as deferred work. -/
theorem State.keyUnload_waits (hr : t.references pid h = true) {u : State} (hu : u = t.setPacket pid { p with phase := .waiting }) :
    t.keyUnload pid p = { u with cmd := { u.cmd with deferred := u.cmd.deferred ++ [.unload pid h] } } := by
  subst hu
  simp [State.keyUnload, hk, hh, hi, hr]

end

theorem State.unloadNow_resolved {s : State} {pid h : Nat} {k : Key} (hk : s.resolve h = some k) :
    s.unloadNow pid h = (s.freeKey k.line).finish pid [] 0 0 := by
  simp [State.unloadNow, hk]

/-- Settles O21, by whether another started packet references the handle. -/
theorem keyUnloadFreesOrWaits : Obligations.KeyUnloadFreesOrWaits := by
  refine ⟨?_, ?_⟩
  · intro dt pid h d s t p k hs hk hh hi hr hres
    rw [exec_keyUnload hs, State.keyUnload_free hk hh hi hr, State.unloadNow_resolved hres]
  · intro dt pid h d s t u p k hs hk hh hi hr hu
    rw [exec_keyUnload hs, State.keyUnload_waits hk hh hi hr hu]

/-! ## The acceptance of public-key packets (R67, R74, R114, R161, R177, R192 to R210) -/

/-- The use of the first handle of a class M or class C packet: none where VERIFY takes its key from the input. -/
def askUse (opc : Nat) (p : Packet) : KeyUse :=
  if supplied opc p then .unused else match opInfo opc with | some o => o.key | none => .unused

/-- A packet whose handle checks pass goes on with its key. -/
theorem State.askKey_ok {t : State} {opc pid h : Nat} {p : Packet} {k : Option Key} (hh : t.firstHandle pid p = some h)
    (hk : t.checkHandles p (askUse opc p) h = .ok k) : t.askKey opc pid p = .ok (k.map (fun k => (h, k)), false) := by
  unfold State.askKey
  rw [hh]
  change (match t.checkHandles p (askUse opc p) h with
    | .ok k => Except.ok (k.map (fun k => (h, k)), false)
    | .error e => if e.st == Status.rejected then .ok (none, true) else .error e) = _
  rw [hk]

@[simp] theorem State.accepted_ok (s t : State) (pid : Nat) : s.accepted pid (.ok t) = t := rfl

/-- The job class of an asymmetric packet: C for a CUSTODY key, M otherwise (R67). -/
def asymKind (k : Option Key) : JobKind := if (match k with | some k => k.cls == clsCustody | none => false) then .c else .m

/-- The handle that an asymmetric job keeps: that of its key, or zero. -/
def asymHandle (h : Nat) (k : Option Key) : Nat := match k with | some _ => h | none => 0

/-- The key type of an asymmetric packet: that of the input for a supplied key, else its key's. -/
def asymType (opc : Nat) (p : Packet) (k : Option Key) : Nat :=
  if supplied opc p then p.par 3 3 else match k with | some k => k.typ | none => 0

/-- An asymmetric packet that passes its policy and quota is accepted with the figures of the operation that its key and parameters name. -/
theorem State.askAsym_ok {t : State} {opc pid h : Nat} {p : Packet} {k : Option Key} {f : Fig} (hh : t.firstHandle pid p = some h)
    (hk : t.checkHandles p (askUse opc p) h = .ok k) (hw : t.weight p.ring ≠ 0) (hp : keyPolicy opc p (k.map (fun k => (h, k))) = true)
    (hn : toNewKey opc p = true → t.wiping = false ∧ t.quotaOk p.ring (p.par 4 4) = true)
    (hf : opFig opc (asymType opc p k) (fun i => p.par i i) = some f) :
    t.askAsym opc pid p = .ok (t.accept pid p false (asymKind k) (if toNewKey opc p then f.toKey else f) false
      (asymHandle h k) 0 false (asymType opc p k)
      (if toNewKey opc p then t.quotaLines p.ring (typeLines (p.par 4 4)) else 0)) := by
  have weighted : (t.weight p.ring != 0) = true := bne_iff_ne.mpr hw
  have served : (!(toNewKey opc p && t.wiping)) = true := by
    cases hb : toNewKey opc p with
    | false => rfl
    | true => simp [(hn hb).1]
  have room : (!toNewKey opc p || t.quotaOk p.ring (p.par 4 4)) = true := by
    cases hb : toNewKey opc p with
    | false => rfl
    | true => simp [(hn hb).2]
  unfold asymType at hf ⊢
  unfold State.askAsym asymKind asymHandle
  rw [State.askKey_ok hh hk]
  cases k with
  | none =>
    have policy : keyPolicy opc p none = true := hp
    simp only [Option.map_none, ok_bind, weighted, policy, served, room, require_true, hf, Bool.false_and]
  | some k =>
    have policy : keyPolicy opc p (some (h, k)) = true := hp
    simp only [Option.map_some, ok_bind, weighted, policy, served, room, require_true, hf, Bool.false_and]

/-- The work of the asymmetric opcodes: acceptance, and for SIGN and VERIFY the hashing of a public message (R205, R206). -/
def State.asymWork (opc : Nat) (s : State) (pid : Nat) (p : Packet) : State :=
  if opc = 0x0301 ∨ opc = 0x0302 then (s.accepted pid (s.askAsym opc pid p)).hashMessage pid else s.accepted pid (s.askAsym opc pid p)

/-- Each asymmetric command runs its opcode's work on its packet. -/
theorem exec_asym {opc : Nat} {c : Nat → Nat → PktData → Instr} (h : (opc, c) ∈ asymTable) (dt pid : Nat) (d : PktData) (s : State) :
    exec (c dt pid d) s = .next ((s.tick dt).runPacket opc pid d (State.asymWork opc)) := by
  simp only [asymTable, List.mem_cons, Prod.mk.injEq, List.not_mem_nil, or_false] at h
  obtain ⟨rfl, rfl⟩ | ⟨rfl, rfl⟩ | ⟨rfl, rfl⟩ | ⟨rfl, rfl⟩ | ⟨rfl, rfl⟩ | ⟨rfl, rfl⟩ | ⟨rfl, rfl⟩ := h <;> rfl

/-- KEY_GENERATE of an ASYM or CUSTODY key whose type its class permits is accepted (R210). -/
theorem State.askGenerate_ok {t : State} {pid h : Nat} {p : Packet} {o : Option Key} {kt : KeyType} {f : Fig}
    (hh : t.firstHandle pid p = some h) (hk : t.checkHandles p .unused h = .ok o) (hw : t.weight p.ring ≠ 0) (hb : t.wiping = false)
    (hq : t.quotaOk p.ring (p.par 1 1) = true) (ht : keyType (p.par 1 1) = some kt) (hc : kt.classes.contains (p.par 0 0) = true)
    (hf : genFig (p.par 1 1) = some f) :
    t.askGenerate pid p = .ok (t.accept pid p false (if p.par 0 0 == clsCustody then .c else .m) f false 0 0 false (p.par 1 1)
      (t.quotaLines p.ring (typeLines (p.par 1 1)))) := by
  have weighted : (t.weight p.ring != 0) = true := bne_iff_ne.mpr hw
  unfold State.askGenerate
  rw [State.askKey_ok (opc := 0x0101) hh hk]
  simp only [ok_bind, weighted, hb, hq, ht, hc, hf, require_true, Bool.not_false]

/-- A class C packet without a key of its own is accepted; from the manager ring as a device job (R161, R171, R444). -/
theorem State.askDevice_ok {t : State} {pid h : Nat} {p : Packet} {o : Option Key} (hu : askUse p.opcode p = .unused)
    (hh : t.firstHandle pid p = some h) (hk : t.checkHandles p .unused h = .ok o) (hw : p.manager = true ∨ t.weight p.ring ≠ 0)
    (hs : t.switching = false) (hb : t.wiping = false) (f : Fig) :
    t.askDevice pid p f false =
      .ok (t.accept pid p p.manager .c f false 0 0 false (if p.opcode == 0x0801 then 0x3A else 0x11) 0) := by
  have weighted : (p.manager || t.weight p.ring != 0) = true := by simpa using hw
  unfold State.askDevice
  rw [State.askKey_ok hh (hu ▸ hk)]
  simp only [ok_bind, weighted, hs, hb, require_true, Bool.not_false, Bool.and_true, Bool.or_false]

/-- WS_EXEC on a workspace of its slice with a counted descriptor is accepted with the descriptor's figures (R192 to R196). -/
theorem State.askExec_ok {t : State} {pid h : Nat} {p : Packet} {o : Option Key} {x : Workspace} (hh : t.firstHandle pid p = some h)
    (hk : t.checkHandles p .unused h = .ok o) (hw : t.weight p.ring ≠ 0) (hx : t.spaceOf p (wsNamed p) = .ok x)
    (hc : wsCounted p.block = true) (ha : p.areasOk ioNone = true) :
    t.askExec pid p = .ok (t.accept pid p false .ws (wsFig (wsCycles (wsInstrs p.block) x.w)) (t.wsClosing p.ring (wsNamed p)) 0
      (wsNamed p) false 0 0) := by
  have weighted : (t.weight p.ring != 0) = true := bne_iff_ne.mpr hw
  unfold State.askExec
  rw [State.askKey_ok (opc := 0x0405) hh hk]
  simp only [ok_bind, weighted, hx, hc, ha, require_true, Bool.and_true, Bool.false_or]

theorem State.Starts.accepts {s t u : State} {opc pid : Nat} {d : PktData} {p : Packet} {ask : State → Nat → Packet → Except Stop State}
    (h : s.Starts opc pid d t p) (ha : ask t pid p = .ok u) :
    s.runPacket opc pid d (fun s pid p => s.accepted pid (ask s pid p)) = u := by
  rw [h.runPacket, ha, State.accepted_ok]

/-- METER_READ of the key statement outputs it (R444, R445). -/
theorem opMeterStatement_ok {t : State} {pid : Nat} {p : Packet} {o : Option Key} (ho : t.handles pid p = .ok o) (hs : t.switching = false)
    (hm : p.par 0 0 = 1) (hp : t.meterParams p = true) (hf : p.fits 12486 = true) :
    opMeterStatement t pid p = .ok ⟨t, fitLen 12486 t.met.statement, 0, 0⟩ := by
  simp only [opMeterStatement, ho, hs, hm, hp, hf, ok_bind, require_true, Bool.not_false, Bool.and_true, beq_self_eq_true]

theorem exec_meterReadInterim {s : State} {dt pid : Nat} {q : Packet} (d : PktData) (hq : (s.tick dt).cmd.packets.get? pid = some q)
    (h : q.par 0 0 = 0) : exec (.meterReadInterim dt pid d) s = .next ((s.tick dt).runPacket 0x0802 pid d State.meterInterim) := by
  simp only [exec, execMeterReadInterim, hq]
  exact if_pos (beq_iff_eq.mpr h)

theorem exec_meterReadStatement {s : State} {dt pid : Nat} {q : Packet} (d : PktData) (hq : (s.tick dt).cmd.packets.get? pid = some q)
    (h : q.par 0 0 ≠ 0) : exec (.meterReadStatement dt pid d) s = .next ((s.tick dt).runOp 0x0802 pid d opMeterStatement) := by
  simp only [exec, execMeterReadStatement, hq]
  exact if_neg (by simp [h])

/-- Settles O25: in each case the packet's checks pass one after the other, and State.accept makes its job. -/
theorem publicKeyPacketsAreAccepted : Obligations.PublicKeyPacketsAreAccepted := by
  refine ⟨?_, ?_, ?_, ?_, ?_, ?_⟩
  · rintro opc dt pid c d s t u p h k f typ hc hs hh hk hw hp hn rfl hf rfl
    rw [exec_asym hc, hs.runPacket, State.asymWork, State.askAsym_ok hh hk hw hp hn hf, State.accepted_ok]
    rfl
  · intro dt pid h d s t p o kt f hs hcls hh hk hw hb hq ht hc hf
    have generates : t.keyGenerate pid p = t.accepted pid (t.askGenerate pid p) := by
      obtain h | h := hcls <;> simp [State.keyGenerate, h, clsTraffic, clsCustody, clsAsym]
    refine congrArg _ ((hs.runPacket _).trans (generates.trans ?_))
    rw [State.askGenerate_ok hh hk hw hb hq ht hc hf, State.accepted_ok]
  · intro dt pid h d s t p o hs hopc hh hk hw hsw hb
    have ask := State.askDevice_ok (by rw [hopc]; rfl) hh hk hw hsw hb attestFig
    rw [hopc] at ask
    exact congrArg _ (hs.accepts (ask := fun s pid p => s.askDevice pid p attestFig false) ask)
  · intro dt pid h d s t p q o hq hq0 hs hopc hp0 hh hk hw hsw hb
    have ask := State.askDevice_ok (by rw [hopc]; rfl) hh hk hw hsw hb (mkFig 70 104 8 184 82500 1)
    have interim : t.meterInterim pid p = t.accepted pid (t.askDevice pid p (mkFig 70 104 8 184 82500 1) false) :=
      if_pos (beq_iff_eq.mpr hp0)
    rw [exec_meterReadInterim d hq hq0, hs.runPacket, interim, ask, State.accepted_ok, hopc]
    rfl
  · intro dt pid d s t p q o hq hq0 hs ho hsw hm hp hf
    rw [exec_meterReadStatement d hq hq0]
    exact congrArg _ ((hs.1.runPacket _).trans (hs.conclude (opMeterStatement_ok ho hsw hm hp hf)))
  · intro dt pid h d s t p o x hs hh hk hw hx hc ha
    exact congrArg _ (hs.accepts (State.askExec_ok hh hk hw hx hc ha))

/-! ## Symmetric packets and their tokens (R67, R74, R75, R229, R230) -/

/-- The handle that a symmetric packet waits with: that of its key, or zero. -/
def State.symWaits (t : State) (pid : Nat) (p : Packet) (k : Option Key) : Nat :=
  match k with | some _ => (t.firstHandle pid p).getD 0 | none => 0

/-- A symmetric packet that passes its checks waits for tokens (R74, R75, R114, R229). -/
theorem State.askSym_ok {t : State} {opc pid : Nat} {p : Packet} {k : Option Key} (hk : t.handles pid p = .ok k)
    (hr : t.fget Fld.SLC_BULK_SHARE_rate p.ring ≠ 0) (hu : ∀ x : Key, k = some x → bit x.usage (symUse opc) = true)
    (ha : p.areasOk (symUses opc) = true) (ho : symOk opc p k = true) :
    t.askSym opc pid p = .ok (t.setPacket pid { p with
      phase := .tokens t.now, keys := if t.symWaits pid p k = 0 then [] else [t.symWaits pid p k] }) := by
  have rated : (t.fget Fld.SLC_BULK_SHARE_rate p.ring != 0) = true := bne_iff_ne.mpr hr
  unfold State.askSym
  cases k with
  | none =>
    simp only [hk, ok_bind, rated, ha, ho, require_true, Bool.and_true]
    rfl
  | some x =>
    simp only [hk, ok_bind, rated, hu x rfl, ha, ho, require_true, Bool.and_true]
    rfl

/-- Each symmetric command runs its opcode on its packet. -/
theorem exec_sym {opc : Nat} {c : Nat → Nat → PktData → Instr} (h : (opc, c) ∈ symTable) (dt pid : Nat) (d : PktData) (s : State) :
    exec (c dt pid d) s = .next ((s.tick dt).runSym opc pid d) := by
  simp only [symTable, List.mem_cons, Prod.mk.injEq, List.not_mem_nil, or_false] at h
  obtain ⟨rfl, rfl⟩ | ⟨rfl, rfl⟩ | ⟨rfl, rfl⟩ | ⟨rfl, rfl⟩ | ⟨rfl, rfl⟩ | ⟨rfl, rfl⟩ | ⟨rfl, rfl⟩ | ⟨rfl, rfl⟩ | ⟨rfl, rfl⟩ | ⟨rfl, rfl⟩ |
    ⟨rfl, rfl⟩ | ⟨rfl, rfl⟩ := h <;> rfl

/-- TOKEN_BUCKET_START on a packet that waits for tokens: it starts in its turn at a level of zero or more (R75). -/
theorem exec_tokenBucketStart {s : State} {dt pid since : Nat} {p : Packet} (hp : (s.tick dt).cmd.packets.get? pid = some p)
    (h : p.phase = .tokens since) : exec (.tokenBucketStart dt pid) s =
      if (s.tick dt).tokensFirst pid p.ring since && decide (0 ≤ (s.tick dt).bucketLevel p.ring) then .next ((s.tick dt).startSym pid p)
      else .next (s.tick dt) := by
  have waits : p.tokensSince = some since := by simp [Packet.tokensSince, h]
  simp only [exec, execTokenBucketStart, hp, waits]

/-! ## What the clusters' queues change -/

/-- A step along a list keeps registers and the bulk unit the only things changed, where each of its steps does. -/
theorem State.foldl_bulk_frame {α : Type} (f : State → α → State) (h : ∀ (s : State) (a : α), { f s a with regs := s.regs, blk := s.blk } = s)
    (l : List α) (s : State) : { l.foldl f s with regs := s.regs, blk := s.blk } = s :=
  List.foldlRecOn l f (motive := fun t => { t with regs := s.regs, blk := s.blk } = s) rfl
    (fun t ht a _ => (congrArg (fun u : State => { u with regs := s.regs, blk := s.blk }) (h t a)).trans ht)

/-- The hold pool takes what waits for it by changing the bulk unit alone (R231). -/
theorem State.fillPool_frame (s : State) : { s.fillPool with regs := s.regs, blk := s.blk } = s := by
  unfold State.fillPool
  refine State.foldl_bulk_frame _ (fun t e => ?_) _ s
  dsimp only
  split <;> rfl

theorem State.touch_frame (s : State) (n : Nat) (t : KeyTag) : { s.touch n t with regs := s.regs, blk := s.blk } = s := by
  unfold State.touch
  split <;> rfl

theorem State.takeEntry_frame (s : State) (n : Nat) (t : KeyTag) : { s.takeEntry n t with regs := s.regs, blk := s.blk } = s := by
  unfold State.takeEntry
  dsimp only
  split
  · rfl
  · split <;> rfl

/-- Work that enters a cluster's queue changes the bulk unit and its count of evictions alone (R227). -/
theorem State.place_frame (s : State) (id : Nat) (j : BlkJob) (n : Nat) : { s.place id j n with regs := s.regs, blk := s.blk } = s := by
  unfold State.place
  dsimp only
  split
  · rfl
  · split
    · exact s.touch_frame n _
    · exact s.takeEntry_frame n _

/-- Steering changes the bulk unit and its count of evictions alone (R237, R273). -/
theorem State.steerWaiting_frame (s : State) : { s.steerWaiting with regs := s.regs, blk := s.blk } = s := by
  unfold State.steerWaiting
  refine State.foldl_bulk_frame _ (fun t e => ?_) _ s
  dsimp only
  split
  · exact t.place_frame _ _ _
  · rfl

@[simp] theorem State.fillPool_cmd (s : State) : s.fillPool.cmd = s.cmd := by
  have e := congrArg (fun t : State => t.cmd) s.fillPool_frame
  exact e

@[simp] theorem State.fillPool_slc (s : State) : s.fillPool.slc = s.slc := by
  have e := congrArg (fun t : State => t.slc) s.fillPool_frame
  exact e

@[simp] theorem State.steerWaiting_cmd (s : State) : s.steerWaiting.cmd = s.cmd := by
  have e := congrArg (fun t : State => t.cmd) s.steerWaiting_frame
  exact e

@[simp] theorem State.steerWaiting_slc (s : State) : s.steerWaiting.slc = s.slc := by
  have e := congrArg (fun t : State => t.slc) s.steerWaiting_frame
  exact e

/-- The count of a packet's start changes the performance monitor alone (R54, R438). -/
@[simp] theorem State.countStart_cmd (s : State) (p : Packet) : (s.countStart p false).cmd = s.cmd := State.pmc_cmd _ _ _

@[simp] theorem State.countStart_slc (s : State) (p : Packet) : (s.countStart p false).slc = s.slc := State.pmc_slc _ _ _

/-- A packet whose key is still to be had, or that has none, starts: its slice's bucket pays its blocks, and it is at the clusters (R58, R75, R138). -/
theorem State.startSym_starts {s : State} {p : Packet} (pid : Nat)
    (h : p.symHandle = 0 ∨ (s.wiping = false ∧ (s.resolve p.symHandle).isSome = true ∧ s.unloading p.symHandle = false)) :
    (s.startSym pid p).slc = (s.setBucket p.ring (s.bucketLevel p.ring - (p.blocks * 64 * 80 : Nat))).slc ∧
    (s.startSym pid p).cmd = (s.setPacket pid { p with phase := .cluster, start := s.now }).cmd := by
  have served : (p.symHandle != 0 && s.wiping) = false := by
    obtain h | ⟨h, -, -⟩ := h <;> simp [h]
  have had : (p.symHandle != 0 && ((s.resolve p.symHandle).isNone || s.unloading p.symHandle)) = false := by
    obtain h | ⟨-, hr, hu⟩ := h
    · simp [h]
    · simp [← Option.not_isSome, hr, hu]
  unfold State.startSym
  simp only [served, had, Bool.false_eq_true, if_false, State.steerWaiting_slc, State.steerWaiting_cmd, State.fillPool_slc, State.fillPool_cmd]
  split
  · exact ⟨State.countStart_slc _ _, State.countStart_cmd _ _⟩
  · exact ⟨State.countStart_slc _ _, State.countStart_cmd _ _⟩

/-- Settles O29: the checks lead to the wait, the level decides the start, and the start pays the bucket. -/
theorem symmetricPacketsWaitForTokens : Obligations.SymmetricPacketsWaitForTokens := by
  refine ⟨?_, ?_, ?_, ?_⟩
  · intro opc dt pid c d s t p k hc hs hk hr hu ha ho
    exact (exec_sym hc dt pid d s).trans (congrArg _ (hs.accepts (State.askSym_ok hk hr hu ha ho)))
  · intro dt pid since p s hp hph hfirst hlevel
    exact (exec_tokenBucketStart hp hph).trans (if_pos (by simp [hfirst, hlevel]))
  · intro dt pid since p s hp hph hlevel
    exact (exec_tokenBucketStart hp hph).trans (if_neg (by simp [hlevel]))
  · intro pid p s h
    obtain ⟨hslc, hcmd⟩ := State.startSym_starts pid h
    rw [hslc, hcmd]
    exact ⟨NMap.get?_insert_self _ _ _, NMap.get?_insert_self _ _ _⟩

end Sys2Proof.Machine
end

section
/-! PROOFS. Slices: their binding and their dirty log. -/

namespace Sys2Proof.Machine

/-! ## The registers of a slice that is bound (R70, R77) -/

/-- A read of a register sees the registers alone. -/
theorem State.reg_congr {s t : State} (h : s.regs = t.regs) (r : RegName) (i : Nat) : s.reg r i = t.reg r i := by
  unfold State.reg
  rw [h]

theorem State.fget_congr {s t : State} (h : s.regs = t.regs) (f : Fld) (i : Nat) : s.fget f i = t.fget f i := by
  unfold State.fget
  rw [State.reg_congr h]

@[simp] theorem State.reg_setSlc (s : State) (u : SliceUnit) (r : RegName) (i : Nat) : ({ s with slc := u } : State).reg r i = s.reg r i :=
  State.reg_congr rfl r i

@[simp] theorem State.fget_setSlc (s : State) (u : SliceUnit) (f : Fld) (i : Nat) : ({ s with slc := u } : State).fget f i = s.fget f i :=
  State.fget_congr rfl f i

@[simp] theorem State.reg_meterBegin (s : State) (sl : Nat) (r : RegName) (i : Nat) : (s.meterBegin sl).reg r i = s.reg r i :=
  State.reg_congr rfl r i

@[simp] theorem State.fget_meterBegin (s : State) (sl : Nat) (f : Fld) (i : Nat) : (s.meterBegin sl).fget f i = s.fget f i :=
  State.fget_congr rfl f i

@[simp] theorem State.reg_setBucket (s : State) (sl : Nat) (level : Int) (r : RegName) (i : Nat) :
    (s.setBucket sl level).reg r i = s.reg r i :=
  State.reg_congr rfl r i

@[simp] theorem State.fget_setBucket (s : State) (sl : Nat) (level : Int) (f : Fld) (i : Nat) :
    (s.setBucket sl level).fget f i = s.fget f i :=
  State.fget_congr rfl f i

/-- The count of enduring slices changes DEV_ENDURING alone. -/
theorem State.countEnduring_reg (s : State) {r : RegName} {i : Nat} (hi : i < 131072) (h : r ≠ .DEV_ENDURING) :
    s.countEnduring.reg r i = s.reg r i :=
  State.reg_fset_ne s _ (by decide) hi (.inl h)

theorem State.countEnduring_fget (s : State) {f : Fld} {i : Nat} (hi : i < 131072) (h : f.reg ≠ .DEV_ENDURING) :
    s.countEnduring.fget f i = s.fget f i :=
  State.fget_fset_ne s _ (by decide) hi (.inl h)

section
variable (s : State) {sl : Nat}

/-- A slice's share registers take a block's shares (R77). -/
theorem State.putShare_shares (b : Bytes) : (s.putShare sl b).fget Fld.SLC_PKE_SHARE_weight sl = shWeight b % 2 ^ 12 ∧
    (s.putShare sl b).fget Fld.SLC_BULK_SHARE_rate sl = shRate b % 2 ^ 16 ∧
    (s.putShare sl b).fget Fld.SLC_KC_QUOTA_quota sl = shKc b % 2 ^ 21 ∧
    (s.putShare sl b).fget Fld.SLC_SA_QUOTA_quota sl = shSa b % 2 ^ 21 := by
  unfold State.putShare
  simp (disch := decide) only [State.fget_fset, State.fget_fset_apart, State.fget_fset_reg_ne]
  exact ⟨rfl, rfl, rfl, rfl⟩

/-- The registers that take a block's shares. -/
def shareRegs : List RegName := [.SLC_PKE_SHARE, .SLC_BULK_SHARE, .SLC_KC_QUOTA, .SLC_SA_QUOTA, .SLC_RING_LIMIT, .SLC_MSIX]

theorem State.putShare_fget (b : Bytes) {f : Fld} (h : f.reg ∉ shareRegs) : (s.putShare sl b).fget f sl = s.fget f sl := by
  have leaves : ∀ (t : State) (g : Fld) (v : Nat), g.reg ∈ shareRegs → (t.fset g sl v).fget f sl = t.fget f sl :=
    fun t g v hg => State.fget_fset_reg_ne t sl v (fun e => h (e ▸ hg))
  unfold State.putShare
  simp (disch := decide) only [leaves]

/-- The registers of a slice's dirty log. -/
def dlogRegs : List RegName := [.SLC_DLOG_CTRL, .SLC_DLOG_BUF0, .SLC_DLOG_BUF1, .SLC_DLOG_WIN, .SLC_DLOG_PAGES]

theorem State.clearDlog_fget {f : Fld} (h : f.reg ∉ dlogRegs) : (s.clearDlog sl).fget f sl = s.fget f sl := by
  have leaves : ∀ (t : State) (r : RegName) (w : Word), r ∈ dlogRegs → (t.setReg r sl w).fget f sl = t.fget f sl :=
    fun t r w hr => State.fget_setReg_apart t sl w (fun e => h (e ▸ hr))
  unfold State.clearDlog
  simp (disch := decide) only [State.fget_setSlc, leaves]

/-- A field of SLC_STATE apart from the class stays when the class is set. -/
theorem State.setClass_fget_state (hsl : sl < 131072) (n : Nat) {f : Fld} (hr : f.reg = .SLC_STATE) (hl : f.lo ≤ f.hi)
    (h : f.hi < 4 ∨ 5 < f.lo) : (s.setClass sl n).fget f sl = s.fget f sl := by
  have mirrored : f.hi < Fld.SLC_STATE_mirrored.lo ∨ Fld.SLC_STATE_mirrored.hi < f.lo := h.imp (fun h => h.trans (by decide)) id
  have enduring : f.hi < Fld.SLC_STATE_enduring.lo ∨ Fld.SLC_STATE_enduring.hi < f.lo := h.imp id (fun h => lt_trans (by decide) h)
  unfold State.setClass
  rw [State.countEnduring_fget _ hsl (by rw [hr]; decide), State.fget_fset_apart _ _ _ hr (by decide) (by decide) hl mirrored,
    State.fget_fset_apart _ _ _ hr (by decide) (by decide) hl enduring]

theorem State.setClass_fget (hsl : sl < 131072) (n : Nat) {f : Fld} (hr : f.reg ≠ .SLC_STATE) (h : f.reg ≠ .DEV_ENDURING) :
    (s.setClass sl n).fget f sl = s.fget f sl := by
  unfold State.setClass
  rw [State.countEnduring_fget _ hsl h, State.fget_fset_reg_ne _ _ _ hr, State.fget_fset_reg_ne _ _ _ hr]

end

section
variable (s : State) {sl : Nat} (hsl : sl < 131072) (pasid : Nat) (b : Bytes)

/-- The binding of a slice leaves keys, tables, BBRAM and OTP (R70). -/
theorem State.bindSlice_kept (sl : Nat) : (s.bindSlice sl pasid b).ks = s.ks ∧ (s.bindSlice sl pasid b).tbl = s.tbl ∧
    (s.bindSlice sl pasid b).bb = s.bb ∧ (s.bindSlice sl pasid b).otp = s.otp := by
  simp [State.bindSlice, State.putShare, State.setSliceState, State.setClass, State.countEnduring, State.clearDlog, State.setBucket,
    State.meterBegin]

include hsl

/-- The binding of a slice leaves the registers of every other slice (R70). -/
theorem State.bindSlice_reg_elsewhere {r : RegName} {i : Nat} (hi : i < 131072) (hne : i ≠ sl) (hr : r ≠ .DEV_ENDURING) :
    (s.bindSlice sl pasid b).reg r i = s.reg r i := by
  have setReg : ∀ (t : State) (r' : RegName) (w : Word), (t.setReg r' sl w).reg r i = t.reg r i :=
    fun t r' w => State.reg_setReg_ne t w hsl hi (.inr hne)
  have fset : ∀ (t : State) (f : Fld) (v : Nat), (t.fset f sl v).reg r i = t.reg r i := fun t f v => setReg t _ _
  have putShare : ∀ t : State, (t.putShare sl b).reg r i = t.reg r i := fun t => by simp only [State.putShare, fset]
  have setClass : ∀ t : State, (t.setClass sl (shClass b)).reg r i = t.reg r i :=
    fun t => by simp only [State.setClass, State.countEnduring_reg _ hi hr, fset]
  have clearDlog : ∀ t : State, (t.clearDlog sl).reg r i = t.reg r i := fun t => by simp only [State.clearDlog, State.reg_setSlc, setReg]
  simp only [State.bindSlice, State.reg_meterBegin, State.reg_setBucket, State.setSliceState, clearDlog, setClass, putShare, fset]

/-- The identity that a slice is bound under: state BOUND, its PASID, generation 1 (R70). -/
theorem State.bindSlice_identity : (s.bindSlice sl pasid b).fget Fld.SLC_STATE_state sl = 1 ∧
    (s.bindSlice sl pasid b).fget Fld.SLC_PASID_valid sl = 1 ∧ (s.bindSlice sl pasid b).fget Fld.SLC_PASID_pasid sl = pasid % 2 ^ 20 ∧
    (s.bindSlice sl pasid b).fget Fld.SLC_STATE_share_gen sl = 1 := by
  unfold State.bindSlice State.setSliceState
  simp (disch := decide) only [State.fget_meterBegin, State.fget_setBucket, State.clearDlog_fget, State.setClass_fget _ hsl,
    State.setClass_fget_state _ hsl, State.putShare_fget, State.fget_fset, State.fget_fset_apart, State.fget_fset_reg_ne]
  exact ⟨rfl, rfl, rfl, rfl⟩

/-- The shares and the usage of a slice that is bound: those of its block, and zero (R70, R77). -/
theorem State.bindSlice_shares : (s.bindSlice sl pasid b).fget Fld.SLC_PKE_SHARE_weight sl = shWeight b % 2 ^ 12 ∧
    (s.bindSlice sl pasid b).fget Fld.SLC_BULK_SHARE_rate sl = shRate b % 2 ^ 16 ∧
    (s.bindSlice sl pasid b).fget Fld.SLC_KC_QUOTA_quota sl = shKc b % 2 ^ 21 ∧
    (s.bindSlice sl pasid b).fget Fld.SLC_SA_QUOTA_quota sl = shSa b % 2 ^ 21 ∧
    (s.bindSlice sl pasid b).fget Fld.SLC_KC_USED_used sl = 0 ∧ (s.bindSlice sl pasid b).fget Fld.SLC_SA_USED_used sl = 0 := by
  unfold State.bindSlice State.setSliceState
  simp (disch := decide) only [State.fget_meterBegin, State.fget_setBucket, State.clearDlog_fget, State.setClass_fget _ hsl,
    State.fget_fset, State.fget_fset_reg_ne]
  obtain ⟨hw, hr, hk, ha⟩ := State.putShare_shares ((s.fset Fld.SLC_PASID_pasid sl pasid).fset Fld.SLC_PASID_valid sl 1) (sl := sl) b
  exact ⟨hw, hr, hk, ha, rfl, rfl⟩

end

/-- The fields of a block that is in range fit those of the registers. -/
theorem bindBlockOk_bounds {b : Bytes} (h : bindBlockOk b = true) :
    shSlice b < 4096 ∧ shPasid b < 2 ^ 20 ∧ shWeight b < 2 ^ 12 ∧ shRate b < 2 ^ 16 ∧ shKc b < 2 ^ 21 ∧ shSa b < 2 ^ 21 := by
  simp only [bindBlockOk, shareRecordOk, Bool.and_eq_true, decide_eq_true_eq] at h
  omega

/-! ## SLICE_BIND (R70) -/

/-- An opcode that stops without effects of its own is counted as its status says and completes with it (R52). -/
theorem State.conclude_failWith (t : State) (pid : Nat) (st : Status) :
    t.conclude pid (failWith st) = (t.countPid pid st.unstarted).fail pid st := rfl

/-- SLICE_BIND of an UNBOUND slice under a free PASID, within the sums, binds it. -/
theorem opSliceBind_ok {t : State} {pid : Nat} {p : Packet} {o : Option Key} (ho : t.handles pid p = .ok o) (hp : p.pind = true)
    (ha : p.areasOk ioNone = true) (hb : bindBlockOk p.block = true) (hs : t.sliceState (shSlice p.block) = 0)
    (hf : t.pasidBound (shPasid p.block) = false) (hm : t.sumsOk (shSlice p.block) p.block = true) :
    opSliceBind t pid p = .ok ⟨t.bindSlice (shSlice p.block) (shPasid p.block) p.block, [], 0, 0⟩ := by
  simp only [opSliceBind, ho, hp, ha, hb, hs, hf, hm, slUnbound, ok_bind, require_true, Bool.not_false, Bool.and_true, beq_self_eq_true]

/-- SLICE_BIND of a slice that is not UNBOUND stops with REJECTED. -/
theorem opSliceBind_notUnbound {t : State} {pid : Nat} {p : Packet} {o : Option Key} (ho : t.handles pid p = .ok o) (hp : p.pind = true)
    (ha : p.areasOk ioNone = true) (hb : bindBlockOk p.block = true) (hs : t.sliceState (shSlice p.block) ≠ 0) :
    opSliceBind t pid p = failWith .rejected := by
  have taken : (t.sliceState (shSlice p.block) == slUnbound) = false := beq_eq_false_iff_ne.mpr hs
  simp only [opSliceBind, ho, hp, ha, hb, taken, ok_bind, require_true, Bool.false_and, Bool.and_true]
  rfl

/-- Settles O36: the checks of SLICE_BIND pass one after the other, and State.bindSlice writes the slice's registers from the block. -/
theorem sliceBindBindsItsPasid : Obligations.SliceBindBindsItsPasid := by
  refine ⟨?_, ?_, ?_⟩
  · intro dt pid d s t p o hs ho hp ha hb hu hf hm
    exact congrArg _ ((hs.runPacket _).trans (hs.conclude (opSliceBind_ok ho hp ha hb hu hf hm)))
  · intro dt pid d s t p o hs ho hp ha hb hu
    have rejects : t.conclude pid (opSliceBind t pid p) = (t.countPid pid false).fail pid .rejected := by
      rw [opSliceBind_notUnbound ho hp ha hb hu, State.conclude_failWith]
      rfl
    exact congrArg _ ((hs.runPacket _).trans rejects)
  · rintro b s t hb rfl
    obtain ⟨hsl, hpasid, hweight, hrate, hkc, hsa⟩ := bindBlockOk_bounds hb
    have hsl' : shSlice b < 131072 := by omega
    obtain ⟨hstate, hvalid, hid, hgen⟩ := s.bindSlice_identity hsl' (shPasid b) b
    obtain ⟨hw, hr, hk, ha, hku, hau⟩ := s.bindSlice_shares hsl' (shPasid b) b
    rw [Nat.mod_eq_of_lt hpasid] at hid
    rw [Nat.mod_eq_of_lt hweight] at hw
    rw [Nat.mod_eq_of_lt hrate] at hr
    rw [Nat.mod_eq_of_lt hkc] at hk
    rw [Nat.mod_eq_of_lt hsa] at ha
    obtain ⟨hks, htbl, hbb, hotp⟩ := s.bindSlice_kept (shPasid b) b (shSlice b)
    refine ⟨hstate, beq_iff_eq.mpr hvalid, hid, hgen, hw, hr, hk, ha, hku, hau, hks, htbl, hbb, hotp, ?_⟩
    intro r i hne hi hidx
    exact s.bindSlice_reg_elsewhere hsl' _ _ (by omega) hne (fun h => hidx (congrArg RegName.idx h))

/-! ## The controls of the dirty log (R85, R88, R89) -/

theorem exec_dlogEnable {s : State} {sl : Nat} (dt : Nat) (hsl : sl < 4096) :
    exec (.dlogEnable dt sl) s = .next ((s.tick dt).dlogEnable sl) :=
  if_pos hsl

theorem exec_dlogDisable {s : State} {sl : Nat} (dt : Nat) (hsl : sl < 4096) :
    exec (.dlogDisable dt sl) s = .next ((s.tick dt).dlogDisable sl) :=
  if_pos hsl

theorem exec_dlogFlip {s : State} {sl : Nat} (dt : Nat) (hsl : sl < 4096) :
    exec (.dlogFlip dt sl) s = .next ((s.tick dt).dlogFlip sl) :=
  if_pos hsl

/-- The configuration that R89 asks for. -/
theorem State.dlogOk_iff (t : State) (sl : Nat) : t.dlogOk sl = true ↔
    (t.reg .SLC_DLOG_BUF0 sl).toNat ≠ 0 ∧ (t.reg .SLC_DLOG_BUF1 sl).toNat ≠ 0 ∧
    (t.reg .SLC_DLOG_BUF0 sl).toNat % 64 = 0 ∧ (t.reg .SLC_DLOG_BUF1 sl).toNat % 64 = 0 ∧
    21 ≤ t.fget Fld.SLC_DLOG_WIN_win_log2 sl ∧ t.fget Fld.SLC_DLOG_WIN_win_log2 sl ≤ 44 := by
  simp only [State.dlogOk, Bool.and_eq_true, bne_iff_ne, beq_iff_eq, decide_eq_true_eq, and_assoc]

/-- A log that is off comes on where its configuration passes (R85, R89). -/
theorem State.dlogEnable_valid {t : State} {sl : Nat} (he : t.flag Fld.SLC_DLOG_CTRL_enable sl = false) (hc : t.dlogOk sl = true)
    {u : State} (hu : u = ((t.fset Fld.SLC_DLOG_CTRL_enable sl 1).fset Fld.SLC_DLOG_CTRL_active sl 0).setReg .SLC_DLOG_PAGES sl 0) :
    t.dlogEnable sl = { u with slc := { u.slc with marked := u.slc.marked.erase sl } } := by
  subst hu
  simp only [State.dlogEnable, he, hc, Bool.false_eq_true, if_true, if_false]

/-- A log that is off stays off with `err` set where its configuration does not pass (R89). -/
theorem State.dlogEnable_invalid {t : State} {sl : Nat} (he : t.flag Fld.SLC_DLOG_CTRL_enable sl = false) (hc : t.dlogOk sl = false) :
    t.dlogEnable sl = t.fset Fld.SLC_DLOG_CTRL_err sl 1 := by
  simp only [State.dlogEnable, he, hc, Bool.false_eq_true, if_false]

/-- A flip begins on a log that is on and has none pending (R88). -/
theorem State.dlogFlip_begins {t : State} {sl : Nat} (he : t.flag Fld.SLC_DLOG_CTRL_enable sl = true)
    (hf : t.flag Fld.SLC_DLOG_CTRL_flip sl = false) {u : State} (hu : u = t.fset Fld.SLC_DLOG_CTRL_flip sl 1) :
    t.dlogFlip sl = { u with slc := { u.slc with marked := u.slc.marked.erase sl } } := by
  subst hu
  exact if_pos (by simp [he, hf])

/-- Settles O39: the controls of a log are State.dlogEnable, State.dlogDisable and State.dlogFlip, by their branches. -/
theorem dirtyLogControlsComplete : Obligations.DirtyLogControlsComplete := by
  refine ⟨?_, ?_, ?_, ?_, ?_, ?_⟩
  · rintro dt sl s t u hsl rfl he hc hu
    rw [exec_dlogEnable dt hsl, State.dlogEnable_valid he hc hu]
  · rintro dt sl s t hsl rfl he hc
    rw [exec_dlogEnable dt hsl, State.dlogEnable_invalid he hc]
  · intro sl t
    exact t.dlogOk_iff sl
  · intro dt sl s hsl
    exact exec_dlogDisable dt hsl
  · rintro dt sl s t u hsl rfl he hf hu
    rw [exec_dlogFlip dt hsl, State.dlogFlip_begins he hf hu]
  · rintro dt sl s t hsl rfl hf
    exact if_pos (by simp [hsl, hf])

/-! ## Writes that a dirty log refuses (R89) -/

/-- `err` that is set reads 1, and `enable` stays as it was. -/
theorem State.setDlogErr_flags (t : State) (sl : Nat) : (t.fset Fld.SLC_DLOG_CTRL_err sl 1).flag Fld.SLC_DLOG_CTRL_err sl = true ∧
    (t.fset Fld.SLC_DLOG_CTRL_err sl 1).flag Fld.SLC_DLOG_CTRL_enable sl = t.flag Fld.SLC_DLOG_CTRL_enable sl := by
  unfold State.flag
  simp (disch := decide) only [State.fget_fset, State.fget_fset_apart]
  exact ⟨by decide, trivial⟩

/-- A state that differs from another in one slice's SLC_DLOG_CTRL alone, with the slice's log on in it. -/
structure State.DlogFixed (t : State) (sl : Nat) (u : State) : Prop where
  enabled : u.flag Fld.SLC_DLOG_CTRL_enable sl = true
  frame : { u with regs := t.regs } = t
  regs : ∀ (r : RegName) (i : Nat), i < 131072 → r ≠ .SLC_DLOG_CTRL ∨ i ≠ sl → u.reg r i = t.reg r i

/-- To set `err` of a log that is on keeps everything but its SLC_DLOG_CTRL. -/
theorem State.DlogFixed.setErr {t u : State} {sl : Nat} (hsl : sl < 4096) (h : t.DlogFixed sl u) :
    t.DlogFixed sl (u.fset Fld.SLC_DLOG_CTRL_err sl 1) where
  enabled := (u.setDlogErr_flags sl).2.trans h.enabled
  frame := h.frame
  regs r i hi hr := (State.reg_fset_ne u _ (by omega) hi hr).trans (h.regs r i hi hr)

/-- The registers that a log that is on holds fixed. -/
def dlogFixedRegs : List RegName := [.SLC_DLOG_BUF0, .SLC_DLOG_BUF1, .SLC_DLOG_WIN]

/-- A write to a fixed register of a log that is on sets `err` alone (R89). -/
theorem State.writeReg_dlogFixed {u : State} {n : RegName} {sl : Nat} (hn : n ∈ dlogFixedRegs)
    (he : u.flag Fld.SLC_DLOG_CTRL_enable sl = true) (m : Master) (a : Nat) (w : Written) :
    u.writeReg m a ⟨n, sl⟩ w = u.fset Fld.SLC_DLOG_CTRL_err sl 1 := by
  simp only [dlogFixedRegs, List.mem_cons, List.not_mem_nil, or_false] at hn
  obtain rfl | rfl | rfl := hn <;> exact if_pos he

/-- A piece of a write that lies in a register, outside the operand memories, is written there where the worlds allow it (R5). -/
theorem State.writePiece_reg {s : State} {m : Master} {sp : AddrSpace} {a : Nat} {r : RegRef} (addr len value : Nat)
    (hr : regAt sp a = some r) (ho : sp = .internal → opWord a = none) : s.writePiece m sp addr len value a =
      if s.worldAllows m .write r then s.writeReg m a r (Written.piece r a (pieceValue addr a value) (pieceMask addr len a)) else s := by
  unfold State.writePiece
  cases sp with
  | internal => simp only [hr, ho rfl]
  | pf0 => simp only [hr]
  | pf1 => simp only [hr]

/-- The pieces of a write, at the words of a list after its first one (R5). -/
def State.writePieces (s : State) (m : Master) (sp : AddrSpace) (addr len value : Nat) (l : List Nat) : State :=
  l.foldl (fun s k => s.writePiece m sp addr len value (addr / 4 * 4 + 4 * k)) s

theorem State.writePieces_cons (s : State) (m : Master) (sp : AddrSpace) (addr len value k : Nat) (l : List Nat) :
    s.writePieces m sp addr len value (k :: l) =
      (s.writePiece m sp addr len value (addr / 4 * 4 + 4 * k)).writePieces m sp addr len value l := rfl

theorem exec_registerWrite (dt : Nat) (m : Master) (sp : AddrSpace) (addr len value : Nat) (s : State) :
    exec (.registerWrite dt m sp addr len value) s = .next ((s.tick dt).registerWrite m sp addr len value) := rfl

/-- A write that every check passes is made in its pieces (R5). -/
theorem State.registerWrite_pieces {s : State} {m : Master} {sp : AddrSpace} {addr len : Nat} (value : Nat)
    (hc : s.accessCheck m .write sp addr len = none) (hw : sp = .pf0 → s.windowClosed m addr = false)
    (hg : sp = .internal → mpuGoverned addr = false) : s.registerWrite m sp addr len value =
      s.writePieces m sp addr len value (List.range ((addr % 4 + len + 3) / 4)) := by
  unfold State.registerWrite State.writePieces
  rw [hc]
  cases sp with
  | internal => simp [hg rfl]
  | pf0 => simp [hw rfl]
  | pf1 => rfl

/-- A piece in a fixed register of a log that is on changes its SLC_DLOG_CTRL alone and never clears `err`; it sets it where the worlds allow the piece. -/
theorem State.DlogFixed.writePiece {t u : State} {sl : Nat} {n : RegName} {sp : AddrSpace} {a : Nat} (m : Master) (addr len value : Nat)
    (hsl : sl < 4096) (hn : n ∈ dlogFixedRegs) (hr : regAt sp a = some ⟨n, sl⟩) (ho : sp = .internal → opWord a = none)
    (h : t.DlogFixed sl u) : t.DlogFixed sl (u.writePiece m sp addr len value a) ∧
      (u.flag Fld.SLC_DLOG_CTRL_err sl = true ∨ u.worldAllows m .write ⟨n, sl⟩ = true →
        (u.writePiece m sp addr len value a).flag Fld.SLC_DLOG_CTRL_err sl = true) := by
  rw [State.writePiece_reg addr len value hr ho]
  split
  case isTrue hw =>
    rw [State.writeReg_dlogFixed hn h.enabled]
    exact ⟨h.setErr hsl, fun _ => (u.setDlogErr_flags sl).1⟩
  case isFalse hw => exact ⟨h, fun he => he.resolve_right hw⟩

/-- Pieces that lie in a fixed register of a log that is on change its SLC_DLOG_CTRL alone and never clear `err`. -/
theorem State.DlogFixed.writePieces {t : State} {sl : Nat} {n : RegName} {sp : AddrSpace} (m : Master) (addr len value : Nat)
    (hsl : sl < 4096) (hn : n ∈ dlogFixedRegs) (l : List Nat)
    (hl : ∀ k ∈ l, regAt sp (addr / 4 * 4 + 4 * k) = some ⟨n, sl⟩ ∧ (sp = .internal → opWord (addr / 4 * 4 + 4 * k) = none))
    {u : State} (h : t.DlogFixed sl u) (he : u.flag Fld.SLC_DLOG_CTRL_err sl = true) :
    t.DlogFixed sl (u.writePieces m sp addr len value l) ∧
      (u.writePieces m sp addr len value l).flag Fld.SLC_DLOG_CTRL_err sl = true := by
  refine List.foldlRecOn l _ (motive := fun v => t.DlogFixed sl v ∧ v.flag Fld.SLC_DLOG_CTRL_err sl = true) ⟨h, he⟩ ?_
  intro v hv k hk
  obtain ⟨hr, ho⟩ := hl k hk
  obtain ⟨hfix, herr⟩ := hv.1.writePiece m addr len value hsl hn hr ho
  exact ⟨hfix, herr (.inl hv.2)⟩

/-- Settles O56: a bad configuration is the negation of State.dlogOk, and a write in a fixed register is made of pieces of which the first sets `err` and none changes more. -/
theorem dirtyLogRefusesBadConfiguration : Obligations.DirtyLogRefusesBadConfiguration := by
  refine ⟨?_, ?_⟩
  · rintro dt sl s t u hsl rfl he hbad rfl
    have hc : (s.tick dt).dlogOk sl = false := by
      rw [Bool.eq_false_iff, Ne, State.dlogOk_iff]
      omega
    obtain ⟨herr, hen⟩ := (s.tick dt).setDlogErr_flags sl
    exact ⟨by rw [exec_dlogEnable dt hsl, State.dlogEnable_invalid he hc], hen.trans he, herr⟩
  · rintro dt addr len value sl m sp n s t rfl hsl hn he hlen hreg hint hacc hwin hw
    have fixed : n ∈ dlogFixedRegs := by simpa [dlogFixedRegs] using hn
    obtain ⟨c, hc⟩ : ∃ c : Nat, (addr % 4 + len + 3) / 4 = c + 1 := ⟨(addr % 4 + len + 3) / 4 - 1, by omega⟩
    have inReg : ∀ k : Nat, k < c + 1 → regAt sp (addr / 4 * 4 + 4 * k) = some ⟨n, sl⟩ ∧
        (sp = .internal → opWord (addr / 4 * 4 + 4 * k) = none) :=
      fun k hk => ⟨hreg k (hc ▸ hk), fun h => (hint h).2 k (hc ▸ hk)⟩
    have start : (s.tick dt).DlogFixed sl (s.tick dt) := ⟨he, rfl, fun _ _ _ _ => rfl⟩
    obtain ⟨hr, ho⟩ := inReg 0 (by omega)
    obtain ⟨hfirst, herr⟩ := start.writePiece m addr len value hsl fixed hr ho
    obtain ⟨hlast, hlastErr⟩ := hfirst.writePieces m addr len value hsl fixed ((List.range c).map Nat.succ) (by
      intro k hk
      obtain ⟨j, hj, rfl⟩ := List.mem_map.mp hk
      exact inReg (j + 1) (by have := List.mem_range.mp hj; omega)) (herr (.inr hw))
    refine ⟨_, ?_, hlastErr, ?_, hlast.enabled, hlast.frame, hlast.regs⟩
    · rw [exec_registerWrite, State.registerWrite_pieces value hacc hwin (fun h => (hint h).1), hc, List.range_succ_eq_map,
        State.writePieces_cons]
    · exact hlast.regs n sl (by omega) (.inl (by obtain rfl | rfl | rfl := hn <;> decide))

end Sys2Proof.Machine
end

section
/-! PROOFS. Slices under change: share changes with their mirrors, unbinding, and migration. -/

namespace Sys2Proof.Machine

/-! ## SHARE_SET and its mirrors (R77 to R84, R417) -/

/-- The checks of a SHARE_SET, one by one (R78, R84). -/
theorem State.askShare_ok {t : State} {pid : Nat} {p : Packet} {o : Option Key} (ho : t.handles pid p = .ok o) (hp : p.pind = true)
    (ha : p.areasOk ioNone = true) (hb : setBlockOk p.block = true)
    (hc : ¬ (shClass p.block = 1 ∧ t.enduring (shSlice p.block) = false ∧ t.holdsCompat (shSlice p.block) = true))
    (hs : t.sliceState (shSlice p.block) = 1) (hn : t.slc.builds.has (shSlice p.block) = false)
    (hg : shGen p.block = t.fget Fld.SLC_STATE_share_gen (shSlice p.block)) (hm : t.sumsOk (shSlice p.block) p.block = true)
    (hv : t.vecLeft (shSlice p.block) p.block = false) : t.askShare pid p = .ok p.block := by
  have native : (!(shClass p.block == 1 && !t.enduring (shSlice p.block) && t.holdsCompat (shSlice p.block))) = true := by
    rw [Bool.not_eq_true', Bool.eq_false_iff]
    exact fun h => hc (by simpa [and_assoc] using h)
  simp only [State.askShare, ho, hp, ha, hb, native, hs, hn, hg, hm, hv, slBound, ok_bind, require_true, le_refl, decide_true, Bool.not_false,
    Bool.and_true, beq_self_eq_true]

/-- An accepted change that needs no mirrors switches at once (R79, R83). -/
theorem State.shareSet_switches {t : State} {pid : Nat} {p : Packet} {b : Bytes} (ha : t.askShare pid p = .ok b)
    (h : shClass b ≠ 1 ∨ t.enduring (shSlice b) = true) :
    t.shareSet pid p = t.conclude pid (.ok ⟨t.switchShare (shSlice b) b, [], 0, 0⟩) := by
  have atOnce : (shClass b == 1 && !t.enduring (shSlice b)) = false := by
    obtain h | h := h <;> simp [h]
  simp only [State.shareSet, ha, atOnce, Bool.false_eq_true, if_false]

/-- A slice that becomes enduring has its mirrors built first, with its packet waiting (R83). -/
theorem State.shareSet_builds {t u : State} {pid : Nat} {p : Packet} {b : Bytes} (ha : t.askShare pid p = .ok b) (hc : shClass b = 1)
    (he : t.enduring (shSlice b) = false) (hm : t.buildMirrors (shSlice b) = some u) (hq : u.withinQuota (shSlice b) b = true) :
    t.shareSet pid p = State.setPacket { u with slc := { u.slc with builds := u.slc.builds.insert (shSlice b) ⟨pid, b⟩ } }
      pid { p with start := t.now, phase := .waiting } := by
  simp only [State.shareSet, ha, hc, he, hm, hq, Bool.not_false, Bool.and_true, beq_self_eq_true, if_true]

/-- MIRROR_BUILD_DONE of a build whose mirrors are there, or have room, within the block's quotas (R83). -/
theorem exec_mirrorBuildDone {s t : State} {dt slice : Nat} {b : ShareBuild} (hb : (s.tick dt).slc.builds.get? slice = some b)
    (hm : (s.tick dt).buildMirrors slice = some t) (hq : t.withinQuota slice b.block = true) :
    exec (.mirrorBuildDone dt slice) s = .next
      ((State.switchShare { t with slc := { t.slc with builds := t.slc.builds.erase slice } } slice b.block).answers b.pid [] 0 0) := by
  simp only [exec, execMirrorBuildDone, hb, hm, hq, if_true, State.answers]

/-- MIRROR_REBUILD_DONE of a record that has lost a copy (R417). -/
theorem exec_mirrorRebuildDone_record {s u : State} {dt head : Nat} {r : KeyRec} (hr : (s.tick dt).ks.recs.get? head = some r)
    (he : (s.tick dt).enduring r.slice = true) (hm : r.mirror = none) (hu : (s.tick dt).rebuildRecord head r = some u) :
    exec (.mirrorRebuildDone dt true head) s = .next (u.rebuilt r.slice) := by
  simp only [exec, execMirrorRebuildDone, hr, he, hm, hu, Option.isNone_none, Bool.and_true, if_true, Option.getD_some]

/-- MIRROR_REBUILD_DONE of an SA that has lost a copy (R417). -/
theorem exec_mirrorRebuildDone_sa {s u : State} {dt head : Nat} {a : SaCtx} (ha : (s.tick dt).tbl.sas.get? head = some a)
    (he : (s.tick dt).enduring a.slice = true) (hm : a.mirror = none) (hu : (s.tick dt).rebuildSa head a = some u) :
    exec (.mirrorRebuildDone dt false head) s = .next (u.rebuilt a.slice) := by
  simp only [exec, execMirrorRebuildDone, ha, he, hm, hu, Option.isNone_none, Bool.and_true, if_true, Option.getD_some, Bool.false_eq_true,
    if_false]

/-! ## SLICE_UNBIND (R71, R443) -/

theorem exec_sliceUnbind (dt pid : Nat) (d : PktData) (s : State) :
    exec (.sliceUnbind dt pid d) s = .next ((s.tick dt).runPacket 0x0F02 pid d State.unbind) := rfl

/-- The checks of a SLICE_UNBIND, with its meter reservation. -/
theorem State.askUnbind_ok {t r : State} {pid sl : Nat} {p : Packet} {o : Option Key} (ho : t.handles pid p = .ok o) (hsl : sl = p.par 0 1)
    (ha : p.areasOk ioNone = true) (hi : p.inlineFrom 2 = true) (hle : sl ≤ 4095) (hs : t.sliceState sl = 1) (hw : t.sealing = false)
    (hr : t.meterReserve 1 = some r) : t.askUnbind pid p = .ok r := by
  subst hsl
  simp only [State.askUnbind, ho, ha, hi, hle, hs, hw, hr, slBound, ok_bind, require_true, getOr_some, le_refl, decide_true, Bool.not_false,
    Bool.and_true, beq_self_eq_true]

/-- An accepted SLICE_UNBIND makes its slice UNBINDING, waits as a deferred command and goes on as far as it can (R71). -/
theorem State.unbind_accepted {t r : State} {pid : Nat} {p : Packet} (ha : t.askUnbind pid p = .ok r) {u : State}
    (hu : u = ((((r.endBuild (p.par 0 1) .busyRetry).countPid pid false).setPacket pid { p with
      start := r.now, phase := .waiting }).setSliceState (p.par 0 1) 2).stopSlice (p.par 0 1)) :
    t.unbind pid p =
      State.unbindNow { u with cmd := { u.cmd with deferred := u.cmd.deferred ++ [.unbind pid (p.par 0 1)] } } pid (p.par 0 1) := by
  unfold State.unbind
  rw [ha]
  dsimp only [slUnbinding]
  rw [← hu]

/-- Settles O37: an accepted SHARE_SET goes one of two ways, a finished build or rebuild finds its mirrors, and an accepted SLICE_UNBIND defers itself. -/
theorem shareAndUnbindComplete : Obligations.ShareAndUnbindComplete := by
  refine ⟨?_, ?_, ?_, ?_, ?_, ?_, ?_⟩
  · intro dt pid d s t p b hs ha h
    exact congrArg _ ((hs.runPacket _).trans ((State.shareSet_switches ha h).trans (hs.conclude rfl)))
  · intro dt pid d s t u p b hs ha hc he hm hq
    exact congrArg _ ((hs.runPacket _).trans (State.shareSet_builds ha hc he hm hq))
  · intro pid t p o ho hp ha hb hc hs hn hg hm hv
    exact State.askShare_ok ho hp ha hb hc hs hn hg hm hv
  · intro dt slice b s t hb hm hq
    exact exec_mirrorBuildDone hb hm hq
  · intro dt head r s u hr he hm hu
    exact exec_mirrorRebuildDone_record hr he hm hu
  · intro dt head a s u ha he hm hu
    exact exec_mirrorRebuildDone_sa ha he hm hu
  · rintro dt pid sl d s t r u p o hs ho rfl ha hi hle hst hw hr hu
    rw [exec_sliceUnbind, hs.runPacket, State.unbind_accepted (State.askUnbind_ok ho rfl ha hi hle hst hw hr) hu]

/-! ## Offers (R90) -/

/-- SLICE_IMPORT in offer mode runs the offer's opcode. -/
theorem exec_sliceImportOffer {s : State} {dt pid : Nat} {q : Packet} (d : PktData) (hq : (s.tick dt).cmd.packets.get? pid = some q)
    (h : q.par 0 0 = 1) : exec (.sliceImportOffer dt pid d) s = .next ((s.tick dt).runOp 0x0F09 pid d opSliceOffer) := by
  simp only [exec, execSliceImportOffer, hq]
  exact if_pos (beq_iff_eq.mpr h)

/-- An offer of an UNBOUND slice for a PASID bound to none, once its form passes. -/
theorem opSliceOffer_ok {t u w : State} {pid sl pasid ident : Nat} {p : Packet} {o : Option Key} {body : Bytes} {f : Offer}
    (ho : t.handles pid p = .ok o) (hsl : sl = p.par 2 3) (hpasid : pasid = p.par 4 7) (ha : p.areasOk ioOut = true)
    (hi : p.inlineFrom 8 = true) (h1 : p.par 1 1 = 0) (hle : sl ≤ 4095) (hpl : pasid ≤ 0xFFFFF) (hs : t.sealing = false)
    (hw : t.wiping = false) (hu : u = t.endOffer sl) (hst : u.sliceState sl = 0) (hb : u.pasidBound pasid = false)
    (hfit : p.fits offerLen = true) (hid : ident = max 1 (leNat (p.random 0 8)))
    (hbody : body = u.offerBytes sl (p.random 1 32) (p.random 2 64))
    (hwu : w = ((u.setSliceState sl 4).fset Fld.SLC_PASID_pasid sl pasid).fset Fld.SLC_PASID_valid sl 1)
    (hf : f = ⟨ident, sl, pasid, p.random 1 32, Shares.make w.free (p.random 2 64), body, t.now + 600000000000⟩) :
    opSliceOffer t pid p =
      .ok ⟨{ w with slc := { w.slc with offers := w.slc.offers.insert sl f }, free := w.free + 1 }, body, 0, ident⟩ := by
  subst hsl hpasid hid
  have unbound : (u.sliceState (p.par 2 3) == slUnbound) = true := beq_iff_eq.mpr hst
  simp only [opSliceOffer, ho, hs, hw, ha, hi, h1, hle, hpl, ← hu, unbound, hb, hfit, ok_bind, require_true, decide_true, Bool.not_false,
    Bool.and_true, beq_self_eq_true, slImporting, offerNs, ← hbody, ← hwu, ← hf]

/-- OFFER_EXPIRY of an offer whose time has passed. -/
theorem exec_offerExpiry {s : State} {dt slice : Nat} {o : Offer} (ho : (s.tick dt).slc.offers.get? slice = some o)
    (h : o.expiry ≤ (s.tick dt).now) : exec (.offerExpiry dt slice) s = .next ((s.tick dt).endOffer slice) := by
  simp only [exec, execOfferExpiry, ho]
  exact if_pos h

/-! ## SLICE_EXPORT in its modes (R91, R92, R120) -/

/-- SLICE_EXPORT in mode 0x00. -/
theorem exec_sliceExport {s : State} (dt pid : Nat) {d : PktData} (h : exMode d.pind = 0) :
    exec (.sliceExport dt pid d) s = .next ((s.tick dt).runPacket 0x0F08 pid d State.exportSlice) :=
  if_neg (by simp [h])

theorem exec_sliceExportSizeQuery {s : State} (dt pid : Nat) {d : PktData} (h : exMode d.pind = 1) :
    exec (.sliceExportSizeQuery dt pid d) s = .next ((s.tick dt).runOp 0x0F08 pid d opExportSize) :=
  if_pos (beq_iff_eq.mpr h)

theorem exec_sliceExportSignPending {s : State} (dt pid : Nat) {d : PktData} (h : exMode d.pind = 2) :
    exec (.sliceExportSignPending dt pid d) s = .next ((s.tick dt).runOp 0x0F08 pid d opExportSign) :=
  if_pos (beq_iff_eq.mpr h)

theorem exec_sliceExportDiscardPending {s : State} (dt pid : Nat) {d : PktData} (h : exMode d.pind = 3) :
    exec (.sliceExportDiscardPending dt pid d) s = .next ((s.tick dt).runOp 0x0F08 pid d opExportDiscard) :=
  if_pos (beq_iff_eq.mpr h)

/-- An accepted SLICE_EXPORT freezes its slice, waits as a deferred command and goes on to the package as far as it can (R92). -/
theorem State.exportSlice_accepted {t r : State} {pid mu : Nat} {p : Packet} (ha : t.askExport pid p = .ok (r, mu)) {u : State}
    (hu : u = (((((r.endBuild (exSlice p.block) .busyRetry).countPid pid false).setPacket pid { p with
      start := r.now, phase := .waiting }).setSliceState (exSlice p.block) 3).freezeSas (exSlice p.block) true).stopSlice (exSlice p.block)) :
    t.exportSlice pid p = State.exportNow
      { u with cmd := { u.cmd with deferred := u.cmd.deferred ++
        [.sliceExport pid (exSlice p.block) (r.qpRunning (exSlice p.block)) mu] } }
      pid (exSlice p.block) (r.qpRunning (exSlice p.block)) mu := by
  unfold State.exportSlice
  rw [ha]
  dsimp only [slExporting]
  rw [← hu]

/-- The size query of a BOUND slice (R91). -/
theorem opExportSize_ok {t : State} {pid : Nat} {p : Packet} {o : Option Key} (ho : t.handles pid p = .ok o) (hp : p.pind = true)
    (hf : exForm p.block false = true) (ha : p.areasOk ioNone = true) (hs : t.sliceState (exSlice p.block) = 1) :
    opExportSize t pid p = .ok ⟨t, [], 0, t.packageLen (exSlice p.block)⟩ := by
  have free : (t.sliceState (exSlice p.block) != slUnbinding && t.sliceState (exSlice p.block) != slExporting) = true := by
    rw [hs]
    rfl
  have bound : (t.sliceState (exSlice p.block) == slBound) = true := beq_iff_eq.mpr hs
  simp only [opExportSize, ho, hp, hf, ha, free, bound, ok_bind, require_true, Bool.and_true]

/-- The pending record of a slice gives its digest (R91, R120). -/
theorem State.exportPends_some {t : State} {sl : Nat} {h : Bytes} (he : t.bb.exportRec = some (sl, h)) : t.exportPends sl = some h := by
  simp only [State.exportPends, he, if_true]

/-- The package whose digest the pending record holds is signed, and the record cleared (R91, R120). -/
theorem opExportSign_ok {t : State} {pid : Nat} {p : Packet} {o : Option Key} (ho : t.handles pid p = .ok o) (hp : p.pind = true)
    (hf : exForm p.block false = true) (ha : p.areasOk ioBoth = true) (he : t.bb.exportRec = some (exSlice p.block, sha384 p.input))
    (hfit : p.fits 4723 = true) : opExportSign t pid p =
      .ok ⟨{ t with bb := { t.bb with exportRec := none } }, t.attestSign p.input, 0, p.inTotal + 4723⟩ := by
  simp only [opExportSign, ho, hp, hf, ha, State.exportPends_some he, hfit, ok_bind, require_true, getOr_some, Bool.and_true, beq_self_eq_true]

/-- The pending record of a slice is cleared (R91, R120). -/
theorem opExportDiscard_ok {t : State} {pid : Nat} {p : Packet} {o : Option Key} {h : Bytes} (ho : t.handles pid p = .ok o)
    (hp : p.pind = true) (hf : exForm p.block false = true) (ha : p.areasOk ioNone = true)
    (he : t.bb.exportRec = some (exSlice p.block, h)) :
    opExportDiscard t pid p = .ok ⟨{ t with bb := { t.bb with exportRec := none } }, [], 0, 0⟩ := by
  simp only [opExportDiscard, ho, hp, hf, ha, State.exportPends_some he, ok_bind, require_true, getOr_some, Bool.and_true]

/-! ## SLICE_IMPORT (R95) -/

/-- SLICE_IMPORT in import mode runs the import's opcode. -/
theorem exec_sliceImport {s : State} {dt pid : Nat} {q : Packet} (d : PktData) (hq : (s.tick dt).cmd.packets.get? pid = some q)
    (h : q.par 0 0 ≠ 1) : exec (.sliceImport dt pid d) s = .next ((s.tick dt).runOp 0x0F09 pid d opSliceImport) := by
  simp only [exec, execSliceImport, hq]
  exact if_neg (by simp [h])

/-- SLICE_IMPORT under a live offer comes to the installation of its package (R95). -/
theorem opSliceImport_installs {t : State} {pid k : Nat} {p : Packet} {o : Option Key} {f : Offer} (ho : t.handles pid p = .ok o)
    (ha : p.areasOk ioBoth = true) (hp : p.pind = false) (h0 : p.par 0 0 = 2) (h1 : p.par 1 7 = 0) (hs : t.sealing = false)
    (hw : t.wiping = false)
    (hf : t.slc.offers.find? (fun _ o => o.ident == p.par 8 15 && decide (t.now < o.expiry)) = some (k, f)) :
    opSliceImport t pid p = t.importSlice f p := by
  simp only [opSliceImport, ho, ha, hp, h0, h1, hs, hw, hf, ok_bind, require_true, getOr_some, Bool.not_false, Bool.and_true,
    beq_self_eq_true]

/-- Settles O38: each mode's checks pass one after the other, and an accepted SLICE_EXPORT or SLICE_IMPORT hands over to its package. -/
theorem migrationCommandsComplete : Obligations.MigrationCommandsComplete := by
  refine ⟨?_, ?_, ?_, ?_, ?_, ?_, ?_⟩
  · intro dt pid sl pasid ident d s t u w p q o body f hq hq0 hs ho hsl hpasid ha hi h1 hle hpl hse hw hu hst hb hfit hid hbody hwu hf
    rw [exec_sliceImportOffer d hq hq0]
    exact congrArg _ ((hs.1.runPacket _).trans
      (hs.conclude (opSliceOffer_ok ho hsl hpasid ha hi h1 hle hpl hse hw hu hst hb hfit hid hbody hwu hf)))
  · intro dt slice o s ho h
    exact exec_offerExpiry ho h
  · rintro dt pid sl mu d s t r u p hm hs ha rfl hu
    rw [exec_sliceExport dt pid hm, hs.runPacket, State.exportSlice_accepted ha hu]
  · intro dt pid d s t p o hm hs ho hp hf ha hst
    rw [exec_sliceExportSizeQuery dt pid hm]
    exact congrArg _ ((hs.runPacket _).trans (hs.conclude (opExportSize_ok ho hp hf ha hst)))
  · intro dt pid d s t p o hm hs ho hp hf ha he hfit
    rw [exec_sliceExportSignPending dt pid hm]
    exact congrArg _ ((hs.1.runPacket _).trans (hs.conclude (opExportSign_ok ho hp hf ha he hfit)))
  · intro dt pid d s t p o h hm hs ho hp hf ha he
    rw [exec_sliceExportDiscardPending dt pid hm]
    exact congrArg _ ((hs.runPacket _).trans (hs.conclude (opExportDiscard_ok ho hp hf ha he)))
  · intro dt pid k d s t p q o f r hq hq0 hs ho ha hp h0 h1 hse hw hf hr
    rw [exec_sliceImport d hq hq0]
    exact congrArg _ ((hs.1.runPacket _).trans (hs.conclude ((opSliceImport_installs ho ha hp h0 h1 hse hw hf).trans hr)))

end Sys2Proof.Machine
end

section
/-! PROOFS. Key custody: keys read out, keys and vaults under a quorum, the key store's commands, and firmware images in service. -/

namespace Sys2Proof.Machine

/-! ## What a completion leaves of the key store (R50 to R53) -/

@[simp] theorem State.dlogPage_ks (s : State) (sl addr : Nat) : (s.dlogPage sl addr).ks = s.ks := by
  fun_cases State.dlogPage s sl addr <;> rfl

/-- The pages of a logged write, each in turn. The proof rewrites, for a definitional check would evaluate the window of the log. -/
theorem State.dlogPages_ks (s : State) (ring : Nat) (page : Nat → Nat) (l : List Nat) :
    (l.foldl (fun s k => s.dlogPage ring (page k)) s).ks = s.ks := by
  induction l generalizing s with
  | nil => rfl
  | cons k l ih => rw [List.foldl_cons, ih, State.dlogPage_ks]

@[simp] theorem State.dlog_ks (s : State) (ring addr len : Nat) : (s.dlog ring addr len).ks = s.ks := by
  rw [State.dlog]
  split
  · rw [State.dlogPages_ks]
  · rfl

@[simp] theorem State.hostWrite_ks (s : State) (ring addr : Nat) (data : Bytes) : (s.hostWrite ring addr data).ks = s.ks := by
  unfold State.hostWrite
  split
  · rfl
  · simp

@[simp] theorem State.writeRanges_ks (s : State) (ring : Nat) (l : List (Nat × Nat)) (data : Bytes) :
    (s.writeRanges ring l data).ks = s.ks := by
  induction l generalizing s data with
  | nil => rfl
  | cons r l ih => exact (ih _ _).trans (s.hostWrite_ks _ _ _)

@[simp] theorem State.writeOut_ks (s : State) (p : Packet) (data : Bytes) : (s.writeOut p data).ks = s.ks := by
  unfold State.writeOut
  split
  · rfl
  · exact s.writeRanges_ks _ _ _

@[simp] theorem State.sendMsix_ks (s : State) (fn vec : Nat) : (s.sendMsix fn vec).ks = s.ks := by
  simp [State.sendMsix]

@[simp] theorem State.countIrq_ks (s : State) (ring q : Nat) : (s.countIrq ring q).ks = s.ks := by
  unfold State.countIrq
  dsimp only
  split
  · split
    · simp [State.sendQpIrq]
    · rfl
  · rfl

@[simp] theorem State.advanceCq_ks (s : State) (i : Nat) : (s.advanceCq i).ks = s.ks := by
  unfold State.advanceCq
  dsimp only
  split <;> rfl

@[simp] theorem State.writeCompletion_ks (s : State) (p : Packet) (c : Compl) : (s.writeCompletion p c).ks = s.ks := by
  simp [State.writeCompletion]

@[simp] theorem State.meter_ks (s : State) (ring : Nat) (c : Compl) : (s.meter ring c).ks = s.ks := by
  unfold State.meter
  split
  · split <;> rfl
  · rfl

@[simp] theorem State.postOne_ks (s : State) (pid : Nat) (p : Packet) (c : Compl) : (s.postOne pid p c).ks = s.ks := by
  unfold State.postOne
  dsimp only
  split <;> simp

@[simp] theorem State.abortAll_ks (s : State) (release : Nat) (l : List (Nat × Packet)) : (s.abortAll release l).ks = s.ks := by
  induction l generalizing s with
  | nil => rfl
  | cons e l ih => exact (ih _).trans (s.postOne_ks _ _ _)

@[simp] theorem State.setCaravan_ks (s : State) (cid : Nat) (c : Caravan) : (s.setCaravan cid c).ks = s.ks := by
  unfold State.setCaravan
  split <;> rfl

@[simp] theorem State.caravanAfter_ks (s : State) (cid : Nat) (c : Compl) : (s.caravanAfter cid c).ks = s.ks := by
  unfold State.caravanAfter
  split
  · rfl
  · split
    · simp
    · split <;> simp

/-- A completion leaves the key store as it is. -/
@[simp] theorem State.complete_ks (s : State) (pid : Nat) (c : Compl) : (s.complete pid c).ks = s.ks := by
  unfold State.complete
  split
  · rfl
  · split <;> simp

@[simp] theorem State.fail_ks (s : State) (pid : Nat) (st : Status) : (s.fail pid st).ks = s.ks := s.complete_ks _ _

@[simp] theorem State.finish_ks (s : State) (pid : Nat) (out : Bytes) (mu result : Nat) : (s.finish pid out mu result).ks = s.ks := by
  unfold State.finish
  split
  · rfl
  · split
    · simp
    · split <;> simp [State.writeRefused]

/-- The count of a packet's start changes registers alone (R54, R438). -/
theorem State.countPid_frame (s : State) (pid : Nat) (skip : Bool) : { s.countPid pid skip with regs := s.regs } = s := by
  unfold State.countPid
  split
  · cases skip with
    | true => rfl
    | false => exact s.pmc_frame _ _
  · rfl

@[simp] theorem State.countPid_ks (s : State) (pid : Nat) (skip : Bool) : (s.countPid pid skip).ks = s.ks := by
  have e := congrArg (fun u : State => u.ks) (s.countPid_frame pid skip)
  exact e

@[simp] theorem State.countPid_bb (s : State) (pid : Nat) (skip : Bool) : (s.countPid pid skip).bb = s.bb := by
  have e := congrArg (fun u : State => u.bb) (s.countPid_frame pid skip)
  exact e

@[simp] theorem State.countPid_flash (s : State) (pid : Nat) (skip : Bool) : (s.countPid pid skip).flash = s.flash := by
  have e := congrArg (fun u : State => u.flash) (s.countPid_frame pid skip)
  exact e

@[simp] theorem State.countPid_now (s : State) (pid : Nat) (skip : Bool) : (s.countPid pid skip).now = s.now := by
  have e := congrArg (fun u : State => u.now) (s.countPid_frame pid skip)
  exact e

/-- A packet's answer leaves the key store as it is. -/
@[simp] theorem State.answers_ks (s : State) (pid : Nat) (out : Bytes) (mu result : Nat) : (s.answers pid out mu result).ks = s.ks := by
  simp [State.answers]

/-! ## Key readouts (R121, R509) -/

/-- KEY_ATTR outputs the header of its key. -/
theorem opKeyAttr_ok {t : State} {pid : Nat} {p : Packet} {k : Key} (hk : t.keyOf pid p = .ok k) (ha : p.areasOk ioOut = true)
    (hi : p.inlineFrom 0 = true) (hf : p.fits 64 = true) :
    opKeyAttr t pid p = .ok ⟨{ t with free := t.free + 1 }, t.headerOf k, 0, 0⟩ := by
  simp only [opKeyAttr, hk, ha, hi, hf, ok_bind, require_true, Bool.and_true]

/-- KEY_PUBLIC outputs the public part of its key in its boundary form, for 1 MU. -/
theorem opKeyPublic_ok {t : State} {pid : Nat} {p : Packet} {k : Key} (hk : t.keyOf pid p = .ok k) (ha : p.areasOk ioOut = true)
    (hi : p.inlineFrom 0 = true) (hp : k.pub ≠ []) (hf : p.fits (pubForm k.typ k.pub k.exponent).length = true) :
    opKeyPublic t pid p = .ok ⟨t, pubForm k.typ k.pub k.exponent, 1, 0⟩ := by
  have hasPublic : k.pub.isEmpty = false := List.isEmpty_eq_false_iff.mpr hp
  simp only [opKeyPublic, hk, ha, hi, hasPublic, hf, ok_bind, require_true, Bool.not_false, Bool.and_true]

/-- Settles O19: the checks of both opcodes pass one after the other, and a completion reaches no key. -/
theorem keyReadoutsComplete : Obligations.KeyReadoutsComplete := by
  refine ⟨?_, ?_, ?_⟩
  · intro dt pid d s t p k hs hk ha hi hf
    exact congrArg _ ((hs.1.runPacket _).trans (hs.conclude (opKeyAttr_ok hk ha hi hf)))
  · intro dt pid d s t p k hs hk ha hi hp hf
    exact congrArg _ ((hs.1.runPacket _).trans (hs.conclude (opKeyPublic_ok hk ha hi hp hf)))
  · intro pid mu result out s
    exact ⟨congrArg KsUnit.recs (s.answers_ks ..), congrArg KsUnit.slots (s.answers_ks ..)⟩

/-! ## Keys under a quorum token (R119, R146, R153, R154) -/

/-- Areas that pass the checks of an opcode can be read as far as it uses them (R47, R49). -/
theorem Packet.readOk_of_uses {p : Packet} {u : Uses} (h : p.areasOk u = true) : p.readOk u.input = true := by
  simp only [Packet.areasOk, Packet.readOk, Bool.and_eq_true] at h ⊢
  obtain ⟨⟨⟨⟨hd, -⟩, -⟩, hr⟩, hp⟩ := h
  exact ⟨⟨hd, hr⟩, hp⟩

/-- A loaded vault is there for an opcode that needs it while no wipe runs (R138, R146). -/
theorem State.vaultNow_ok {t : State} {sl : Nat} {v : Nat × Bytes × Bytes} (hw : t.wiping = false) (hv : t.vaultOf sl = some v) :
    t.vaultNow sl = .ok v := by
  simp only [State.vaultNow, hw, hv, ok_bind, require_true, getOr_some, Bool.not_false]

/-- KEY_EXPORT outputs the transfer form of its key with the attestation keys' signatures. -/
theorem opKeyExport_ok {t u : State} {pid mu line : Nat} {p : Packet} {k : Key} {ch : Option Challenge} {root block form : Bytes}
    (hk : t.keyOf pid p = .ok k) (ha : p.areasOk ioBoth = true) (hl : p.inTotal = 1665) (hv : t.vaultOf p.ring = some (line, root, block))
    (hn : k.compat = false) (hu : bit k.usage useExport = true)
    (hq : t.vaultQuorum p.ring qExport false block (sha384 (identBE k.ident ++ p.input)) p.block p.data.approvals = some (u, mu, ch))
    (hr : recipientOk p.input = true) (hf : p.fits (6539 + (k.secret.length + k.pub.length)) = true)
    (hform : form = mkTransfer (transferHead (t.headerOf k) p.input) p.input (p.random 0 32) keyTransferLabel (k.secret ++ k.pub)) :
    opKeyExport t pid p = .ok ⟨u.hwuLoad k.secret, form ++ t.attestSign form, 4 + mu, 0⟩ := by
  have readable : p.readOk true = true := Packet.readOk_of_uses ha
  subst hform
  simp only [opKeyExport, hk, readable, hl, hv, hn, hu, hq, ha, hr, hf, ok_bind, require_true, requireIn_true, getOr_some, Bool.not_false,
    Bool.and_true, beq_self_eq_true]

/-- KEY_IMPORT enters the key of a transfer form that the challenge's key opens, and outputs its mitten. -/
theorem opKeyImport_ok {t u w : State} {pid mu line h n : Nat} {p : Packet} {o : Option Key} {c : Challenge} {k : NewKey}
    {root block pt x : Bytes} (ho : t.handles pid p = .ok o) (ha : p.areasOk ioBoth = true) (hform : transferOk p.input = true)
    (hv : t.vaultOf p.ring = some (line, root, block)) (htraffic : field p.input 1 1 ≠ clsTraffic)
    (hq : t.vaultQuorum p.ring qImport false block (sha384 p.input) p.block p.data.approvals = some (u, mu, some c))
    (hw : t.wiping = false) (hquota : u.quotaOk p.ring (field p.input 2 1) = true)
    (hrecipient : slice p.input 0x40 48 = sha384 (slice c.body 0xA0 1665)) (hheader : headerOk (p.input.take 64) (t.vaultId p.ring) = true)
    (hcls : field p.input 1 1 = clsCustody ∨ field p.input 1 1 = clsAsym) (hdel : (deletedList block).contains (field p.input 8 8) = false)
    (hroot : u.oneRoot p.ring (field p.input 2 1) = true) (hn : n = field p.input 0x28 2)
    (hopen : openTransfer c.keys.value p.input keyTransferLabel (n + field p.input 0x2A 2) = some (pt, x))
    (hk : k = ⟨field p.input 1 1, field p.input 2 1, 3, field p.input 4 2, field p.input 8 8, 0, field p.input 0x2C 4, pt.take n, pt.drop n⟩)
    (hf : p.fits (96 + pt.length) = true) (he : u.enterKey p.ring (t.vaultId p.ring) k = some (h, w)) :
    opKeyImport t pid p =
      .ok ⟨w, mkMitten root (k.header (t.vaultId p.ring)) (p.random 1 12) k.secret k.pub, 4 + mu, h⟩ := by
  have readable : p.readOk true = true := Packet.readOk_of_uses ha
  have permitted : (field p.input 1 1 != clsTraffic) = true := bne_iff_ne.mpr htraffic
  have custodial : (field p.input 1 1 == clsCustody || field p.input 1 1 == clsAsym) = true := by
    obtain h | h := hcls <;> simp [h]
  subst hn hk
  simp only [opKeyImport, ho, readable, hform, State.vaultNow_ok hw hv, permitted, hq, hquota, ha, hrecipient, hheader, custodial, hdel,
    hroot, hopen, hf, he, ok_bind, require_true, requireIn_true, getOr_some, getIn_some, Bool.not_false, Bool.and_true, beq_self_eq_true]

/-- KEY_DELETE lists the identifier of its key, outputs the new seal and frees every key of that identifier. -/
theorem opKeyDelete_ok {t u w : State} {pid mu line : Nat} {p : Packet} {k : Key} {ch : Option Challenge} {root block new : Bytes}
    (hk : t.keyOf pid p = .ok k) (hv : t.vaultOf p.ring = some (line, root, block))
    (hq : t.vaultQuorum p.ring qDelete false block (sha384 (identBE k.ident)) p.block p.data.approvals = some (u, mu, ch))
    (hs : u.sealing = false) (hroom : field block 6 2 < maxDeleted block) (hseed : u.seedValid = true)
    (hre : u.reissue line p.ring root (addDeleted block k.ident) = some (w, new)) (ha : p.areasOk ioOut = true)
    (hf : p.fits new.length = true) :
    opKeyDelete t pid p = .ok ⟨(t.keysNamed p.ring k.ident).foldl State.freeKey w, new, 1 + mu, 0⟩ := by
  have readable : p.readOk false = true := Packet.readOk_of_uses ha
  simp only [opKeyDelete, hk, readable, hv, hq, hs, hroom, hseed, hre, ha, hf, ok_bind, require_true, requireIn_true, getOr_some, getIn_some,
    Bool.not_false, Bool.and_true, decide_true]

/-- Settles O22: each opcode's checks pass one after the other, on the state that the quorum check leaves. -/
theorem keyQuorumCommandsComplete : Obligations.KeyQuorumCommandsComplete := by
  refine ⟨?_, ?_, ?_⟩
  · intro dt pid mu line d s t u p k ch root block form hs hk ha hl hv hn hu hq hr hf hform
    exact congrArg _ ((hs.1.runPacket _).trans (hs.conclude (opKeyExport_ok hk ha hl hv hn hu hq hr hf hform)))
  · intro dt pid mu line h n d s t u w p o c k root block pt x hs ho ha hform hv ht hq hw hquota hr hh hcls hdel hroot hn hopen hk hf he
    exact congrArg _ ((hs.1.runPacket _).trans
      (hs.conclude (opKeyImport_ok ho ha hform hv ht hq hw hquota hr hh hcls hdel hroot hn hopen hk hf he)))
  · intro dt pid mu line d s t u w p k ch root block new hs hk hv hq hse hroom hseed hre ha hf
    exact congrArg _ ((hs.1.runPacket _).trans (hs.conclude (opKeyDelete_ok hk hv hq hse hroom hseed hre ha hf)))

/-! ## Vaults (R126, R149 to R151) -/

/-- VAULT_CREATE enters a vault root of random material and outputs its first seal. -/
theorem opVaultCreate_ok {t u w : State} {pid l : Nat} {p : Packet} {o : Option Key} {block new : Bytes} (ho : t.handles pid p = .ok o)
    (ha : p.areasOk ioBoth = true) (hi : p.inlineFrom 0 = true) (hpol : policyOk p.input false = true)
    (hz : allZero (slice p.input 0x10 16) = true) (hdel : field p.input 6 2 = 0) (hnone : t.vaultExists p.ring = false)
    (hroot : t.rootOf p.ring = none) (hs : t.sealing = false) (hw : t.wiping = false) (hfit : t.rootFits p.ring p.input.length = true)
    (hseed : t.seedValid = true) (hblock : block = setVault p.input (p.random 0 16))
    (hnew : t.issueSeal p.ring (p.random 0 16) (p.random 1 32) block = some (u, new)) (hf : p.fits new.length = true)
    (hadd : u.addRecord (rootRecord p.ring (p.random 0 16) block) (p.random 1 32) = some (l, w)) :
    opVaultCreate t pid p = .ok ⟨w, new, 4, t.vaultCounter p.ring + 1⟩ := by
  have readable : p.readOk true = true := Packet.readOk_of_uses ha
  subst hblock
  simp only [opVaultCreate, ho, readable, hpol, hz, hdel, hnone, hroot, hs, hw, hfit, hnew, hseed, ha, hi, hf, hadd, ok_bind, require_true,
    getOr_some, Option.isNone_none, Bool.not_false, Bool.and_true, beq_self_eq_true]

/-- VAULT_LOAD enters the vault root of a seal that opens. -/
theorem opVaultLoad_ok {t w : State} {pid l : Nat} {p : Packet} {o : Option Key} {root block : Bytes} (ho : t.handles pid p = .ok o)
    (ha : p.areasOk ioIn = true) (hi : p.inlineFrom 0 = true) (hlen : p.input.length = 144 + field p.input 2 2)
    (htot : field p.input 0x0C 4 = p.input.length) (hroot : t.rootOf p.ring = none) (hs : t.sealing = false) (hw : t.wiping = false)
    (hfit : t.rootFits p.ring (field p.input 2 2) = true) (hseed : t.seedValid = true)
    (hopen : t.openSeal p.ring p.input = some (root, block))
    (hadd : (t.hwuLoad (t.vaultKey p.ring (field p.input 8 4) (slice p.input 0x10 16) (t.mr 2))).addRecord
      (rootRecord p.ring (slice p.input 0x10 16) block) root = some (l, w)) :
    opVaultLoad t pid p = .ok ⟨w, [], 2, 0⟩ := by
  have form : (p.input.length == 144 + field p.input 2 2 && field p.input 0x0C 4 == p.input.length) = true := by simp [← hlen, htot]
  simp only [opVaultLoad, ho, p.readOk_of_areasOk ha, hi, Bool.and_assoc, form, hroot, hs, hw, hfit, hseed, hopen, hadd, ok_bind, require_true,
    getOr_some, Option.isNone_none, Bool.not_false, Bool.and_true]

/-- VAULT_POLICY_SET issues the seal of a policy block that continues the vault's. -/
theorem opVaultPolicySet_ok {t u w : State} {pid mu line : Nat} {p : Packet} {o : Option Key} {ch : Option Challenge}
    {root block new : Bytes} (ho : t.handles pid p = .ok o) (ha : p.areasOk ioBoth = true) (hpol : policyOk p.input false = true)
    (hw : t.wiping = false) (hv : t.vaultOf p.ring = some (line, root, block))
    (hq : t.vaultQuorum p.ring qPolicy true block (sha384 p.input) p.block p.data.approvals = some (u, mu, ch)) (hs : u.sealing = false)
    (hseed : u.seedValid = true) (hre : u.reissue line p.ring root p.input = some (w, new)) (hc : policyContinues block p.input = true)
    (hf : p.fits new.length = true) : opVaultPolicySet t pid p = .ok ⟨w, new, mu, 0⟩ := by
  have readable : p.readOk true = true := Packet.readOk_of_uses ha
  simp only [opVaultPolicySet, ho, readable, hpol, State.vaultNow_ok hw hv, hq, hs, hseed, hre, ha, hc, hf, ok_bind, require_true,
    requireIn_true, getOr_some, getIn_some, Bool.not_false, Bool.and_true]

/-- VAULT_DELETE advances the vault counter and frees the slice's keys. -/
theorem opVaultDelete_ok {t u w : State} {pid mu line : Nat} {p : Packet} {o : Option Key} {ch : Option Challenge} {root block : Bytes}
    (ho : t.handles pid p = .ok o) (ha : p.areasOk ioNone = true) (hw : t.wiping = false)
    (hv : t.vaultOf p.ring = some (line, root, block))
    (hq : t.vaultQuorum p.ring qDelete false block (sha384 (t.vaultId p.ring)) p.block p.data.approvals = some (u, mu, ch))
    (hs : u.sealing = false) (hadv : u.vaultAdvance p.ring false false = some w) :
    opVaultDelete t pid p = .ok ⟨w.freeSlice p.ring, [], mu, 0⟩ := by
  simp only [opVaultDelete, ho, ha, State.vaultNow_ok hw hv, hq, hs, hadv, ok_bind, require_true, requireIn_true, getOr_some, getIn_some,
    Bool.not_false]

/-- Settles O23: each opcode's checks pass one after the other, and what is left is the root, the seal or the counter with its answer. -/
theorem vaultCommandsComplete : Obligations.VaultCommandsComplete := by
  refine ⟨?_, ?_, ?_, ?_⟩
  · intro dt pid l d s t u w p o block new hs ho ha hi hpol hz hdel hnone hroot hse hw hfit hseed hblock hnew hf hadd
    exact congrArg _ ((hs.1.runPacket _).trans
      (hs.conclude (opVaultCreate_ok ho ha hi hpol hz hdel hnone hroot hse hw hfit hseed hblock hnew hf hadd)))
  · intro dt pid l d s t w p o root block hs ho ha hi hlen htot hroot hse hw hfit hseed hopen hadd
    exact congrArg _ ((hs.1.runPacket _).trans (hs.conclude (opVaultLoad_ok ho ha hi hlen htot hroot hse hw hfit hseed hopen hadd)))
  · intro dt pid line mu d s t u w p o ch root block new hs ho ha hpol hw hv hq hse hseed hre hc hf
    exact congrArg _ ((hs.1.runPacket _).trans (hs.conclude (opVaultPolicySet_ok ho ha hpol hw hv hq hse hseed hre hc hf)))
  · intro dt pid line mu d s t u w p o ch root block hs ho ha hw hv hq hse hadv
    exact congrArg _ ((hs.1.runPacket _).trans (hs.conclude (opVaultDelete_ok ho ha hw hv hq hse hadv)))

/-! ## The key store's own commands (R100 to R103, R127, R136 to R138) -/

section
variable {dt : Nat} {s u : State} {m : Bytes}

/-- On backup power REMASK_LINE re-masks the seed under KA's expander (R101). -/
theorem exec_remaskLine_backup (hb : (s.tick dt).onBackup = true) (hm : (s.tick dt).nextKaMask = (m, u)) (line word : Nat) :
    exec (.remaskLine dt true line word) s = .next (u.remaskSeed word m) := by
  simp only [exec, execRemaskLine, hb, hm, if_true]

/-! On main power, with KS not held, REMASK_LINE takes the expander's next mask to the object that the line names (R100, R101). -/

variable (hb : (s.tick dt).onBackup = false) (hh : (s.tick dt).islandHeld 0x02 = false) (hm : (s.tick dt).nextMask = (m, u))
include hb hh hm

theorem exec_remaskLine_seed (line word : Nat) : exec (.remaskLine dt true line word) s = .next (u.remaskSeed word m) := by
  simp only [exec, execRemaskLine, hb, hh, hm, Bool.false_eq_true, if_false, if_true]

theorem exec_remaskLine_device {line : Nat} (hl : line < nativeFirst) (word : Nat) :
    exec (.remaskLine dt false line word) s = .next (u.remaskDevice line word m) := by
  simp only [exec, execRemaskLine, hb, hh, hm, hl, Bool.false_eq_true, if_false, if_true]

theorem exec_remaskLine_slot {line : Nat} (hl : nativeFirst ≤ line) {c : CompatSlot} (hc : u.ks.slots.get? line = some c) (word : Nat) :
    exec (.remaskLine dt false line word) s = .next (u.remaskSlot line word c m) := by
  simp only [exec, execRemaskLine, hb, hh, hm, Nat.not_lt.mpr hl, hc, Bool.false_eq_true, if_false]

theorem exec_remaskLine_record {line : Nat} (hl : nativeFirst ≤ line) (hc : u.ks.slots.get? line = none) (word : Nat) :
    exec (.remaskLine dt false line word) s =
      .next { u with ks := { u.ks with recs := u.ks.recs.map (fun _ r => r.remaskLine line word m) } } := by
  simp only [exec, execRemaskLine, hb, hh, hm, Nat.not_lt.mpr hl, hc, Bool.false_eq_true, if_false]

end

theorem exec_wipeDone {s u : State} {dt : Nat} (hw : (s.tick dt).wiping = true) (he : (s.tick dt).erasing = false)
    (hu : u = (s.tick dt).fset Fld.KS_STATUS_wipe_busy 0 0) :
    exec (.wipeDone dt) s = .next (if u.seedValid && u.flag Fld.KS_STATUS_ready 0 then u.deriveKeys else u) := by
  subst hu
  exact if_pos (by simp [hw, he])

/-- Open regions are checked and locked (R105, R127). -/
theorem State.compatLock_open {t u : State} (hl : t.flag Fld.KS_COMPAT_LOCK_lock 0 = false)
    (hu : u = (if t.compatOk then t else t.fset Fld.KS_COMPAT_LOCK_invalid 0 1).fset Fld.KS_COMPAT_LOCK_lock 0 1) :
    t.compatLock = u.fset Fld.DEV_KC_CAP_lines 0 (1048576 - 8192 - u.compatLines) := by
  subst hu
  exact if_neg (by simp [hl])

/-- With no activation the journal and the successor are cleared (R136). -/
theorem State.succAbandon_idle {t : State} (h : t.fw.act = none) :
    t.succAbandon = (t.setJournal Journal.idle).fset Fld.KS_SUCC_CTRL_valid 0 0 := by
  simp only [State.succAbandon, h]

/-- Settles O42: each command finds its branch under the premises, and REMASK_LINE its object under the line's number. -/
theorem keyStoreCommandsComplete : Obligations.KeyStoreCommandsComplete := by
  refine ⟨?_, ?_, ?_, ?_, ?_, ?_, ?_, ?_, ?_, ?_, ?_, ?_, ?_⟩
  · intro dt line word s u m hb hh hm
    exact exec_remaskLine_seed hb hh hm line word
  · intro dt line word s u m c hb hh hm hl hc
    exact exec_remaskLine_slot hb hh hm hl hc word
  · intro dt line word s u m hb hh hm hl
    exact exec_remaskLine_device hb hh hm hl word
  · intro dt line word s u m hb hm
    exact exec_remaskLine_backup hb hm line word
  · intro dt line word s u m hb hh hm hl hc
    exact exec_remaskLine_record hb hh hm hl hc word
  · intro dt s hb
    exact if_pos hb
  · intro dt s hb
    exact if_neg (by simp [hb])
  · intro dt s
    rfl
  · intro dt v s hv
    exact congrArg _ (if_neg (by simpa using hv))
  · intro dt s u hw he hu
    exact exec_wipeDone hw he hu
  · intro dt s u hl hu
    exact congrArg _ (State.compatLock_open hl hu)
  · intro dt s hl
    exact congrArg _ (if_pos hl)
  · intro dt s ha
    exact congrArg _ (State.succAbandon_idle ha)

/-! ## A late pass (R103) -/

/-- REMASK_LATE records a pass that has run for 2 s, and does nothing before. -/
theorem exec_remaskLate (dt : Nat) (s : State) : exec (.remaskLate dt) s =
    if (s.tick dt).ks.passStart + passNs ≤ (s.tick dt).now then
      .next (((s.tick dt).fset Fld.KS_STATUS_remask_late 0 1).event 0x21 0x02 (((s.tick dt).now - (s.tick dt).ks.passStart) / 1000000))
    else .next (s.tick dt) := rfl

/-- Settles O43: the report is a register and an event, which reach no key, no packet and no job. -/
theorem latePassIsReported : Obligations.LatePassIsReported := by
  refine ⟨?_, ?_, ?_⟩
  · rintro dt s t rfl h
    exact if_pos h
  · intro dt s u h
    rw [exec_remaskLate] at h
    split at h
    · cases h
      simp
    · cases h
      simp
  · intro dt s h
    exact if_neg (Nat.not_le.mpr h)

/-! ## What the freeing of keys leaves (R71, R111) -/

@[simp] theorem State.kcSub_bb (s : State) (sl n : Nat) : (s.kcSub sl n).bb = s.bb := by
  simp [State.kcSub]

@[simp] theorem State.freeRecord_bb (s : State) (line : Nat) : (s.freeRecord line).bb = s.bb := by
  unfold State.freeRecord
  split
  · rfl
  · dsimp only
    split <;> simp [State.bumpGen, State.blkForget]

@[simp] theorem State.freeSlot_bb (s : State) (line : Nat) : (s.freeSlot line).bb = s.bb := by
  unfold State.freeSlot
  split
  · rfl
  · split
    · rfl
    · simp [State.bumpGen, State.blkForget]

@[simp] theorem State.freeKey_bb (s : State) (line : Nat) : (s.freeKey line).bb = s.bb := by
  simp [State.freeKey]

/-- The keys of a slice are freed without a change to the journal (R71, R137). -/
@[simp] theorem State.freeSlice_bb (s : State) (sl : Nat) : (s.freeSlice sl).bb = s.bb :=
  List.foldlRecOn _ State.freeKey (motive := fun t : State => t.bb = s.bb) rfl (fun t ht l _ => (t.freeKey_bb l).trans ht)

/-! ## The journal and the switches (R133) -/

/-- The switches begin with a journal that is COMPLETE and keeps its done bits, and with the loaded vaults not done withheld (R133). -/
theorem State.beginSwitch_effect (s : State) (a : Act) :
    (s.beginSwitch a).bb.journal.state = 3 ∧ (s.beginSwitch a).bb.journal.done = s.bb.journal.done ∧
    (s.beginSwitch a).fw.act =
      some { a with phase := 2, withheld := (s.loadedVaults.filter (fun sl => !s.bb.journal.done.contains sl)).length } := by
  have kept : ((s.loadedVaults.filter (fun sl => !s.bb.journal.done.contains sl)).foldl State.freeSlice s).bb = s.bb :=
    List.foldlRecOn _ State.freeSlice (motive := fun t : State => t.bb = s.bb) rfl (fun t ht sl _ => (t.freeSlice_bb sl).trans ht)
  have keepsDone := congrArg (fun b : Bbram => b.journal.done) kept
  exact ⟨rfl, keepsDone, rfl⟩

/-- The end of forward sealing keeps the done bits (R133). -/
@[simp] theorem State.sealingEnds_done (s : State) : s.sealingEnds.bb.journal.done = s.bb.journal.done := by
  unfold State.sealingEnds
  split
  · split
    · exact (s.beginSwitch_effect _).2.1
    · rfl
  · rfl

/-- RESEAL_DEADLINE at the deadline of a forward sealing begins the switches. -/
theorem exec_resealDeadline {s : State} {dt : Nat} {a : Act} (ha : (s.tick dt).fw.act = some a) (hk : a.kind = 1) (hp : a.phase = 1)
    (hd : a.deadline ≤ (s.tick dt).now) : exec (.resealDeadline dt) s = .next ((s.tick dt).beginSwitch a) := by
  simp only [exec, execResealDeadline, ha]
  exact if_pos (by simp [hk, hp, hd])

/-! ## Images in service (R155, R420 to R424) -/

/-- FW_STAGE of a valid image writes it to the spare slot and marks it staged (R420). -/
theorem opFwStage_ok {t : State} {pid : Nat} {p : Packet} {o : Option Key} (ho : t.handles pid p = .ok o) (ha : p.areasOk ioIn = true)
    (hi : p.inlineFrom 1 = true) (hk : p.par 0 0 = 1 ∨ p.par 0 0 = 2) (hn : t.fw.act = none) (hv : imageOk (p.par 0 0) p.input = true) :
    opFwStage t pid p = .ok ⟨(t.writeImage (p.par 0 0) p.input).noteStage (p.par 0 0) true p.input, [], 0, 0⟩ := by
  have known : (p.par 0 0 == 1 || p.par 0 0 == 2) = true := by simpa using hk
  simp only [opFwStage, ho, hn, ha, hi, known, hv, ok_bind, require_true, requireIn_true, Option.isNone_none, Bool.and_true]

theorem exec_fwActivate {s t : State} {dt pid : Nat} {d : PktData} {p : Packet} (hl : (s.tick dt).lcExecutes = false)
    (hs : (s.tick dt).Starts 0x0F06 pid d t p) : exec (.fwActivate dt pid d) s = .next (t.activate pid p) :=
  (if_neg (by simp [hl])).trans (congrArg _ (hs.runPacket _))

/-- An accepted FW_ACTIVATE waits, and begins forward sealing for a custody image, the switches for a steward image (R422, R423). -/
theorem State.activate_accepted {t u w : State} {pid kind secs n mu : Nat} {p : Packet}
    (ha : t.askActivate pid p = .ok (u, kind, secs, n, mu))
    (hw : w = (u.countPid pid false).setPacket pid { p with start := (u.countPid pid false).now, phase := .waiting }) :
    t.activate pid p =
      if kind = 1 then w.forwardSeal p ⟨pid, kind, w.now + 1000000000 * secs, 0, n, 0, [], none, 0, if kind = 1 then 1 else 2, mu⟩
      else w.setAct (some ⟨pid, kind, w.now + 1000000000 * secs, 0, n, 0, [], none, 0, if kind = 1 then 1 else 2, mu⟩) := by
  subst hw
  simp only [State.activate, ha, State.countPid_now]

/-- What comes before a bind that succeeds has succeeded. -/
theorem bind_eq_ok {α β : Type} {x : Except Stop α} {f : α → Except Stop β} {b : β} (h : (x >>= f) = .ok b) :
    ∃ a : α, x = .ok a ∧ f a = .ok b := by
  cases x with
  | error e => cases h
  | ok a => exact ⟨a, rfl, h⟩

/-- A RESEAL_APPROVE that succeeds leaves its slice among the journal's done bits (R155). -/
theorem opResealApprove_done {t : State} {pid : Nat} {p : Packet} {r : Did} (h : opResealApprove t pid p = .ok r) :
    r.s.bb.journal.done.contains p.ring = true := by
  unfold opResealApprove at h
  obtain ⟨-, -, h⟩ := bind_eq_ok h
  obtain ⟨-, -, h⟩ := bind_eq_ok h
  obtain ⟨⟨line, root, block⟩, -, h⟩ := bind_eq_ok h
  obtain ⟨-, -, h⟩ := bind_eq_ok h
  obtain ⟨⟨u, mu, ch⟩, -, h⟩ := bind_eq_ok h
  obtain ⟨-, -, h⟩ := bind_eq_ok h
  dsimp only at h
  split at h
  case isTrue hc =>
    cases h
    exact hc
  case isFalse =>
    split at h
    all_goals
      obtain ⟨⟨w, cur⟩, -, h⟩ := bind_eq_ok h
      obtain ⟨-, -, h⟩ := bind_eq_ok h
      obtain ⟨-, -, h⟩ := bind_eq_ok h
      obtain ⟨-, -, h⟩ := bind_eq_ok h
      cases h
      simp [State.setJournal]

section
variable {s : State} {dt pair : Nat} {a : Act}

/-- PAIR_SWITCH_DONE of the pair that loads moves the switches on (R422, R423). -/
theorem exec_pairSwitchDone (ha : (s.tick dt).fw.act = some a) (hh : (s.tick dt).islandHeld (8 + pair) = false) (hp : pair < 8)
    (hphase : a.phase = 2) (hl : (s.tick dt).loads a = some pair) (hw : a.kind = 2 ∨ ((s.tick dt).pairOf pair).world = false) :
    exec (.pairSwitchDone dt pair) s = .next ((s.tick dt).pairLoaded a pair) := by
  have switches : (decide (a.phase = 2) && decide ((s.tick dt).loads a = some pair) &&
      (decide (a.kind = 2) || !((s.tick dt).pairOf pair).world)) = true := by
    obtain h | h := hw <;> simp [hphase, hl, h]
  simp only [exec, execPairSwitchDone, ha]
  exact (if_neg (by simp [hh, hp])).trans (if_pos switches)

section
variable (ha : (s.tick dt).fw.act = some a) (hphase : a.phase = 2) (hl : (s.tick dt).loads a = some pair) (hp : pair < 8)
include ha hphase hl hp

/-- A first failure of a custody activation withdraws the next pair after the fenced one (R424). -/
theorem exec_activationPairFailure_first (hk : a.kind = 1) (hf : a.fails = 0) {m : Nat}
    (hm : ((s.tick dt).fence 0 pair).nextPair { a with fails := 1, loading := none } pair = some m) :
    exec (.activationPairFailure dt pair) s =
      .next ((((s.tick dt).fence 0 pair).withdrawPair m none).setAct (some { a with fails := 1, loading := some m })) := by
  have once : a.fails + 1 = 1 := by rw [hf]
  simp only [exec, execActivationPairFailure, ha]
  refine (if_pos (by simp [hphase, hl, hp])).trans ?_
  rw [once]
  refine (if_neg (by decide)).trans ?_
  rw [hm]
  exact if_neg (by simp [hk])

/-- A second failure abandons the activation (R424). -/
theorem exec_activationPairFailure_second (hf : a.fails = 1) : exec (.activationPairFailure dt pair) s =
    .next (((s.tick dt).fence 0 pair).beginAbandon { a with fails := 2, loading := none }) := by
  have twice : a.fails + 1 = 2 := by rw [hf]
  simp only [exec, execActivationPairFailure, ha]
  refine (if_pos (by simp [hphase, hl, hp])).trans ?_
  rw [twice]
  exact if_pos (le_refl 2)

end

end

/-- Settles O49: each command finds its branch under the premises; the switches begin by freeing keys, which leaves the journal. -/
theorem firmwareCommandsComplete : Obligations.FirmwareCommandsComplete := by
  refine ⟨?_, ?_, ?_, ?_, ?_, ?_, ?_, ?_⟩
  · intro dt pid d s t p o hs ho ha hi hk hn hv
    exact congrArg _ ((hs.runPacket _).trans (hs.conclude (opFwStage_ok ho ha hi hk hn hv)))
  · intro dt pid secs n mu d s t u p hl hs ha
    refine ⟨_, (exec_fwActivate hl hs).trans (congrArg _ ((State.activate_accepted ha rfl).trans (if_neg (by decide)))), ?_⟩
    simp [State.setAct]
  · intro dt pid secs n mu d s t u w p hl hs ha hw
    exact (exec_fwActivate hl hs).trans (congrArg _ ((State.activate_accepted ha hw).trans (if_pos rfl)))
  · intro dt pid d s t p r hs hr
    obtain ⟨w, out, mu, result⟩ := r
    exact ⟨congrArg _ ((hs.1.runPacket _).trans (hs.conclude hr)), opResealApprove_done hr⟩
  · rintro dt a s t rfl ha hk hp hd
    obtain ⟨hstate, hdone, hact⟩ := (s.tick dt).beginSwitch_effect a
    exact ⟨_, exec_resealDeadline ha hk hp hd, hstate, hdone, _, hact, rfl, rfl⟩
  · rintro dt pair a s t rfl ha hh hp hphase hl hw
    exact exec_pairSwitchDone ha hh hp hphase hl hw
  · rintro dt pair m a s t u rfl ha hphase hk hl hp hf rfl hm
    exact exec_activationPairFailure_first ha hphase hl hp hk hf hm
  · rintro dt pair a s t rfl ha hphase hl hp hf
    exact exec_activationPairFailure_second ha hphase hl hp hf

end Sys2Proof.Machine
end

section
/-! PROOFS. Vaults and quorum: challenges issued and expired, the device policy, and the measurements. -/

namespace Sys2Proof.Machine

/-! ## Challenges (R142 to R144, R158) -/

/-- QUORUM_CHALLENGE issues a challenge under the counter, the lifetime and the identifier of the slice's loaded vault, its input as the digest. -/
theorem opQuorumChallenge_ok {t u : State} {pid line : Nat} {p : Packet} {o : Option Key} {c : Challenge} {root block : Bytes}
    (ho : t.handles pid p = .ok o) (himp : ¬ (p.par 0 0 = qImport ∧ t.importsFull p.ring = true)) (ha : p.areasOk ioBoth = true)
    (hi : p.inlineFrom 1 = true) (hc : p.par 0 0 ≤ 6) (hl : p.inTotal = 48) (hw : t.wiping = false)
    (hv : t.vaultOf p.ring = some (line, root, block)) (hf : p.fits (if p.par 0 0 = qImport then 1832 else 160) = true)
    (hissue : t.issueChallenge p p.ring (p.par 0 0) (t.vaultCounter p.ring) (field block 8 4) (t.vaultId p.ring) p.input [] = (u, c)) :
    opQuorumChallenge t pid p = .ok ⟨u, c.body, 0, c.ident⟩ := by
  have readable : p.readOk true = true := Packet.readOk_of_uses ha
  have room : (!(p.par 0 0 == qImport && t.importsFull p.ring)) = true := by simpa [imp_iff_not_or] using himp
  simp only [opQuorumChallenge, ho, readable, hi, hc, hl, State.vaultNow_ok hw hv, room, ha, hf, hissue, ok_bind, require_true, Bool.and_true,
    decide_true, beq_self_eq_true]

/-- DQ_CHALLENGE issues a challenge under the current device policy record, whose block the input supplies before the digest. -/
theorem opDqChallenge_ok {t u : State} {pid r : Nat} {p : Packet} {o : Option Key} {c : Challenge} {block : Bytes}
    (ho : t.handles pid p = .ok o) (ha : p.areasOk ioBoth = true) (hi : p.inlineFrom 1 = true) (hmin : 0x10 ≤ p.par 0 0)
    (hmax : p.par 0 0 ≤ 0x13) (hl : 48 < p.inTotal) (hb : block = p.input.take (p.inTotal - 48)) (hr : t.otp.dqCurrent = some r)
    (hd : sha384 block = t.otp.dqDigest r) (hf : p.fits 160 = true)
    (hissue : t.issueChallenge p dqSlice (p.par 0 0) r (field block 8 4) (zeros 16) (p.input.drop (p.inTotal - 48)) block = (u, c)) :
    opDqChallenge t pid p = .ok ⟨u, c.body, 0, c.ident⟩ := by
  subst hb
  simp only [opDqChallenge, ho, ha, hi, hmin, hmax, hl, hr, hd, hf, hissue, ok_bind, require_true, getOr_some, Bool.and_true, decide_true,
    beq_self_eq_true]

/-- CHALLENGE_EXPIRY ends the challenge of an identifier once its expiry time has come (R144). -/
theorem exec_challengeExpiry {s : State} {dt : Nat} {c : Challenge} (hm : c ∈ s.vlt.challenges) (he : c.expiry ≤ s.now + dt) :
    exec (.challengeExpiry dt c.ident) s = .next ((s.tick dt).endChallenge c.ident) := by
  have expired : c.live (s.tick dt).now = false := by
    rw [(s.tick_times dt).1]
    exact decide_eq_false (Nat.not_lt.mpr he)
  refine if_pos (List.any_eq_true.mpr ⟨c, ?_, ?_⟩)
  · rw [State.tick_vlt]
    exact hm
  · rw [expired, beq_self_eq_true]
    rfl

/-! ## The device policy and the measurements (R157, R160, R353) -/

/-- DQ_POLICY_SET programs the digest of its block to the next record, on the state that its approval leaves. -/
theorem opDqPolicySet_ok {t u : State} {pid n mu : Nat} {p : Packet} {o : Option Key} (ho : t.handles pid p = .ok o)
    (ha : p.areasOk ioIn = true) (hpol : policyOk p.input true = true) (hlc : t.lc ≠ 0) (hq : t.dqPolicyQuorum p = some (u, mu))
    (hn : t.dqNext = some n) :
    opDqPolicySet t pid p = .ok ⟨{ u with otp := u.otp.programDq n (sha384 p.input) }, [], mu, 0⟩ := by
  have begun : (t.lc != 0) = true := bne_iff_ne.mpr hlc
  simp only [opDqPolicySet, ho, ha, hpol, begun, hq, hn, ok_bind, require_true, getOr_some, getIn_some, Bool.and_true]

/-- With no other command of the device quorum under way and the RP free to program, DQ_POLICY_SET is worked on (R147, R350, R400). -/
theorem exec_dqPolicySet {s t : State} {dt pid : Nat} {d : PktData} {p : Packet} (he : (s.tick dt).dqExecutes = false)
    (hr : (s.tick dt).rpPrograms = true) (hs : (s.tick dt).Starts 0x0581 pid d t p) :
    exec (.dqPolicySet dt pid d) s = .next (t.conclude pid (opDqPolicySet t pid p)) :=
  (if_neg (by simp [he, hr])).trans (congrArg _ (hs.runPacket _))

/-- MEASURE_READ outputs the measurement registers, the identity keys and the certificate where the output has room. -/
theorem opMeasureRead_ok {t : State} {pid : Nat} {p : Packet} {o : Option Key} (ho : t.handles pid p = .ok o)
    (ha : p.areasOk ioOut = true) (hi : p.inlineFrom 0 = true) (hf : p.fits 10660 = true) :
    opMeasureRead t pid p = .ok ⟨t, t.measures, 0, 0⟩ := by
  simp only [opMeasureRead, ho, ha, hi, hf, ok_bind, require_true, Bool.and_true]

/-- Settles O24: each opcode's checks pass one after the other, and an expiry keeps the challenges of every other identifier. -/
theorem challengesAndDeviceQuorumComplete : Obligations.ChallengesAndDeviceQuorumComplete := by
  refine ⟨?_, ?_, ?_, ?_, ?_⟩
  · intro dt pid line d s t u p o c root block hs ho himp ha hi hc hl hw hv hf hissue
    exact congrArg _ ((hs.1.runPacket _).trans (hs.conclude (opQuorumChallenge_ok ho himp ha hi hc hl hw hv hf hissue)))
  · intro dt pid r d s t u p o c block hs ho ha hi hmin hmax hl hb hr hd hf hissue
    exact congrArg _ ((hs.1.runPacket _).trans (hs.conclude (opDqChallenge_ok ho ha hi hmin hmax hl hb hr hd hf hissue)))
  · rintro dt _ c s hm rfl he
    refine ⟨_, exec_challengeExpiry hm he, ?_⟩
    rw [State.endChallenge, State.tick_vlt]
  · intro dt pid n mu d s t u p o he hrp hs ho ha hpol hlc hq hn
    exact (exec_dqPolicySet he hrp hs.1).trans (congrArg _ (hs.conclude (opDqPolicySet_ok ho ha hpol hlc hq hn)))
  · intro dt pid d s t p o hs ho ha hi hf
    exact congrArg _ ((hs.1.runPacket _).trans (hs.conclude (opMeasureRead_ok ho ha hi hf)))

end Sys2Proof.Machine
end

section
/-! PROOFS. The public-key engine: the release gate, the workspace commands, and the events that advance its jobs. -/

namespace Sys2Proof.Machine

/-! ## The release gate (R178, R179, R203, R216) -/

/-- A quotient rounded up is at most `k` where `k` divisors cover the dividend. -/
theorem ceilDiv_le_iff {b : Nat} (hb : 0 < b) (a k : Nat) : ceilDiv a b ≤ k ↔ a ≤ k * b := by
  rw [ceilDiv, Nat.div_le_iff_le_mul_add_pred hb, Nat.mul_comm k b]
  omega

/-- The budgets from a start to a release: the least number of at least 1 that reaches the time at which the result may leave (R178, R179). -/
def Job.budgets (j : Job) (since : Nat) : Nat := max 1 (ceilDiv (since - j.start) (1000 * j.fig.b))

theorem Job.due_fixed {j : Job} (hq : j.fig.quant = false) (since : Nat) :
    j.due since = (j.start + j.budgets since * (1000 * j.fig.b), j.budgets since) := by
  simp [Job.due, Job.budgets, hq]

/-- A number of at least 1 of budgets is no less than Job.budgets exactly where it reaches the time. -/
theorem Job.budgets_le_iff {j : Job} (hb : 0 < j.fig.b) {m : Nat} (hm : 1 ≤ m) (since : Nat) :
    j.budgets since ≤ m ↔ since ≤ j.start + m * (1000 * j.fig.b) := by
  rw [Job.budgets, Nat.max_le, ceilDiv_le_iff (by omega)]
  omega

theorem Job.one_le_budgets (j : Job) (since : Nat) : 1 ≤ j.budgets since := Nat.le_max_left 1 _

section
variable {t : State} {pid core since : Nat} {j : Job} {p : Packet}

/-- A class M or workspace job at the gate is released at its time, once this has come and no hold covers its path. -/
theorem State.releaseGate_due (hj : t.pke.jobs.get? pid = some j) (hp : t.cmd.packets.get? pid = some p) (ha : j.at_ = .gate core since)
    (hh : t.resultHeld p j core = false) (hk : j.kind ≠ .c) (hd : (j.due (max since (t.liftedAt p j core))).1 ≤ t.now) :
    t.releaseGate pid = (t.noteLate core (j.due (max since (t.liftedAt p j core))).2).releaseJob pid j
      (j.due (max since (t.liftedAt p j core))).1 := by
  simp [State.releaseGate, hj, hp, ha, hh, hk, hd]

/-- A class M or workspace job stays at the gate under a hold of its path, and before its time. -/
theorem State.releaseGate_stays (hj : t.pke.jobs.get? pid = some j) (hp : t.cmd.packets.get? pid = some p) (ha : j.at_ = .gate core since)
    (hk : j.kind ≠ .c) (hw : t.resultHeld p j core = true ∨ t.now < (j.due (max since (t.liftedAt p j core))).1) :
    t.releaseGate pid = t := by
  obtain hh | hd := hw
  · simp [State.releaseGate, hj, hp, ha, hh]
  · simp [State.releaseGate, hj, hp, ha, hk, Nat.not_le.mpr hd]

end

/-- Settles O28: the gate releases a job at its due time alone, which is its start and the least number of budgets that reaches the time at which its result may leave. -/
theorem releaseGateKeepsConstantTime : Obligations.ReleaseGateKeepsConstantTime := by
  refine ⟨?_, ?_, ?_⟩
  · rintro dt pid core since j p s t rfl hj hp ha hh hk hd
    exact congrArg (fun u : State => Host.Outcome.next u.settle) (State.releaseGate_due hj hp ha hh hk hd)
  · rintro dt pid core since j p s t rfl hj hp ha hk hw
    exact congrArg (fun u : State => Host.Outcome.next u.settle) (State.releaseGate_stays hj hp ha hk hw)
  · intro j since hq hb
    rw [Job.due_fixed hq]
    refine ⟨j.budgets since, j.one_le_budgets since, rfl, fun _ => ?_, fun m hm => (Job.budgets_le_iff hb hm since).mpr⟩
    exact (Job.budgets_le_iff hb (j.one_le_budgets since) since).mp le_rfl

/-! ## The workspace commands (R74, R189 to R191) -/

/-- The state in which a workspace packet is accepted, before it executes (R177, R191). -/
def State.acceptSlots (t : State) (pid : Nat) (p : Packet) : State :=
  t.accept pid p false .slots (slotsFig p.opcode) (wsNamed p != 0 && t.wsClosing p.ring (wsNamed p)) 0 (wsNamed p) (p.opcode == 0x0402) 0 0

/-- A workspace job at the gate, or through it, with its result (R178). -/
def Job.gated (j : Job) (now : Nat) (out : Bytes) (result : Nat) : Job :=
  { j with start := now, at_ := .gate 0 now, res := { JobRes.plain out with result := result } }

/-- A started workspace packet whose turn has come executes at once in the state that its acceptance leaves (R74, R191). -/
theorem State.askSlots_runs {t : State} {pid : Nat} {p : Packet} {j : Job} (hw : t.weight p.ring ≠ 0)
    (hj : (t.acceptSlots pid p).pke.jobs.get? pid = some j) (ht : (t.acceptSlots pid p).wsTurn j = true) :
    t.askSlots pid p = (t.acceptSlots pid p).runSlots pid j := by
  unfold State.acceptSlots at hj ht ⊢
  simp only [State.askSlots, if_neg hw, hj, if_pos ht]

/-- A workspace packet whose work succeeds has its result at the release gate (R178, R190); a WS_CLOSE passes the gate at once (R67). -/
theorem State.runSlots_ok {u : State} {pid : Nat} {r : Packet} {j : Job} {op : Op} {e : Did} (hr : j.reject = false)
    (hp : u.cmd.packets.get? pid = some r) (hop : wsOp r.opcode = op) (ho : op u pid r = .ok e) :
    u.runSlots pid j = if j.closes then (e.s.setPacket pid { r with phase := .running }).releaseJob pid (j.gated u.now e.out e.result) u.now
      else (e.s.setPacket pid { r with phase := .running }).setJob pid (j.gated u.now e.out e.result) := by
  subst hop
  have valid : ¬ j.reject = true := by simp [hr]
  simp only [State.runSlots, hp, if_neg valid, ho]
  rfl

/-- A started workspace command whose turn has come and whose work succeeds: acceptance, then its result at the gate or through it. -/
theorem State.Starts.slots {s t u : State} {opc pid : Nat} {d : PktData} {p r : Packet} {j : Job} {op : Op} {e : Did}
    (hs : s.Starts opc pid d t p) (hw : t.weight p.ring ≠ 0) (hu : u = t.acceptSlots pid p) (hj : u.pke.jobs.get? pid = some j)
    (hr : j.reject = false) (ht : u.wsTurn j = true) (hp : u.cmd.packets.get? pid = some r) (hop : wsOp r.opcode = op)
    (ho : op u pid r = .ok e) :
    s.runPacket opc pid d State.askSlots =
      if j.closes then (e.s.setPacket pid { r with phase := .running }).releaseJob pid (j.gated u.now e.out e.result) u.now
      else (e.s.setPacket pid { r with phase := .running }).setJob pid (j.gated u.now e.out e.result) := by
  subst hu
  rw [hs.runPacket, State.askSlots_runs hw hj ht, State.runSlots_ok hr hp hop ho]

section
variable {u : State} {pid : Nat} {r : Packet} {o : Option Key} {x : Workspace}

/-- WS_OPEN makes a workspace of the shape asked for, within the slice's and the device's bounds (R189). -/
theorem opWsOpen_ok (ho : u.handles pid r = .ok o) (hi : r.inlineFrom 4 = true) (hc : 1 ≤ r.par 0 1) (hmin : 4 ≤ r.par 2 3)
    (hmax : r.par 2 3 ≤ 256) (ha : r.par 0 1 * r.par 2 3 ≤ 7680) (hn : u.wsCount r.ring < 4)
    (hf : u.wsWords + r.par 0 1 * r.par 2 3 ≤ 524288) :
    opWsOpen u pid r = .ok ⟨State.setSpace { u with free := u.free + 1 } (u.wsIdent r.ring) ⟨r.ring, r.par 2 3, r.par 0 1, .empty⟩, [], 1,
      u.wsIdent r.ring⟩ := by
  have room : u.wsWords + r.par 0 1 * r.par 2 3 ≤ workspaceWords := hf
  simp only [opWsOpen, ho, hi, hc, hmin, hmax, ha, hn, room, ok_bind, require_true, Bool.and_true, decide_true]

/-- WS_WRITE fills a slot of the packet's workspace from big-endian input and marks it valid (R190). -/
theorem opWsWrite_ok (ho : u.handles pid r = .ok o) (hx : u.spaceOf r (r.par 0 7) = .ok x) (ha : r.areasOk ioIn = true)
    (hi : r.inlineFrom 10 = true) (hk : r.par 8 9 < x.c) (hmin : 1 ≤ r.inTotal) (hmax : r.inTotal ≤ 8 * x.w) :
    opWsWrite u pid r =
      .ok ⟨u.setSpace (r.par 0 7) { x with slots := x.slots.insert (r.par 8 9) ⟨beNat r.input, true⟩ }, [], 1, 0⟩ := by
  simp only [opWsWrite, ho, hx, ha, hi, hk, hmin, hmax, ok_bind, require_true, Bool.and_true, decide_true]

/-- WS_READ outputs a valid slot of the packet's workspace in its full length (R190). -/
theorem opWsRead_ok {v : WsSlot} (ho : u.handles pid r = .ok o) (hx : u.spaceOf r (r.par 0 7) = .ok x) (ha : r.areasOk ioOut = true)
    (hi : r.inlineFrom 10 = true) (hk : r.par 8 9 < x.c) (hv : x.slots.get? (r.par 8 9) = some v) (hval : v.valid = true)
    (hf : r.fits (8 * x.w) = true) : opWsRead u pid r = .ok ⟨u, natBE (8 * x.w) v.value, 1, 0⟩ := by
  have valid : x.valid (r.par 8 9) = true := by simp [Workspace.valid, hv, hval]
  simp only [opWsRead, ho, hx, ha, hi, hk, valid, hv, hf, ok_bind, require_true, Bool.and_true, decide_true]

/-- WS_CLOSE frees the workspace with its slots (R190). -/
theorem opWsClose_ok (ho : u.handles pid r = .ok o) (hx : u.spaceOf r (r.par 0 7) = .ok x) (hi : r.inlineFrom 8 = true) :
    opWsClose u pid r = .ok ⟨{ u with pke := { u.pke with spaces := u.pke.spaces.erase (r.par 0 7) } }, [], 0, 0⟩ := by
  simp only [opWsClose, ho, hx, hi, ok_bind, require_true]

end

/-- Settles O26: each opcode's checks pass one after the other in the state of acceptance, and its result goes to the gate, or through it for WS_CLOSE. -/
theorem workspaceCommandsComplete : Obligations.WorkspaceCommandsComplete := by
  refine ⟨?_, ?_, ?_, ?_⟩
  · intro dt pid d s t u p r o j hs hw hz hu hj hc hr ht hp hop ho hi h1 hmin hmax ha hn hf
    have accepted : u = t.acceptSlots pid p := by
      rw [hu, State.acceptSlots, hz]
      rfl
    have run := hs.slots hw accepted hj hr ht hp (congrArg wsOp hop) (opWsOpen_ok ho hi h1 hmin hmax ha hn hf)
    exact congrArg _ (run.trans (if_neg (by simp [hc])))
  · intro dt pid d s t u p r o j x hs hw hu hj hc hr ht hp hop ho hx ha hi hk hmin hmax
    have run := hs.slots hw hu hj hr ht hp (congrArg wsOp hop) (opWsWrite_ok ho hx ha hi hk hmin hmax)
    exact congrArg _ (run.trans (if_neg (by simp [hc])))
  · intro dt pid d s t u p r o j x v hs hw hu hj hc hr ht hp hop ho hx ha hi hk hv hval hf
    have run := hs.slots hw hu hj hr ht hp (congrArg wsOp hop) (opWsRead_ok ho hx ha hi hk hv hval hf)
    exact congrArg _ (run.trans (if_neg (by simp [hc])))
  · intro dt pid d s t u p r o j x hs hw hu hj hc hr ht hp hop ho hx hi
    have run := hs.slots hw hu hj hr ht hp (congrArg wsOp hop) (opWsClose_ok ho hx hi)
    exact congrArg _ (run.trans (if_pos hc))

/-! ## The events of the engine (R36, R163, R170 to R173, R181 to R188, R506) -/

section
variable {s u : State} {dt pid n : Nat} {j : Job}

/-- PKE_DISPATCH starts the job that scheduling chooses on the idle core that it chooses (R170 to R172). -/
theorem exec_pkeDispatch_starts (hu : u = (s.tick dt).serveVerify) (hn : u.nextJob = some (pid, j)) (hc : u.pickCore j.avoid = some n)
    (onto : Option Nat) : exec (.pkeDispatch dt onto) s = .next (u.startJob pid j n u.now) := by
  simp only [exec, execPkeDispatch, ← hu, hn, hc]

/-- With no idle core, PKE_DISPATCH makes a short job the waiting descriptor of a busy one (R163, R183). -/
theorem exec_pkeDispatch_assigns (hu : u = (s.tick dt).serveVerify) (hn : u.nextJob = some (pid, j)) (hc : u.pickCore j.avoid = none)
    (ht : u.coreTakes n = true) (hm : (u.mainOf n).isSome = true) (ha : u.assignedOf n = none) (hs : u.suspendedOf n = none)
    (hsh : j.short = true) (hav : j.avoid ≠ some n) :
    exec (.pkeDispatch dt (some n)) s = .next ((u.chargeDispatch j).setJob pid { j with at_ := .assigned n, charged := true }) := by
  have other : (j.avoid != some n) = true := bne_iff_ne.mpr hav
  simp only [exec, execPkeDispatch, ← hu, hn, hc]
  exact if_pos (by simp [ht, hm, ha, hs, hsh, other])

end

/-- A core without a job of its own keeps none waiting for a verification. -/
theorem State.pauseFor_idle {u : State} {n : Nat} (hm : u.mainOf n = none) (hs : u.suspendedOf n = none) (ev : Nat) :
    u.pauseFor n ev = u := by
  simp only [State.pauseFor, hm, hs]

/-- The slot area that a verification gets on a core (R165, R173). -/
def State.verifyArea (u : State) (n pid : Nat) (j : Job) : Area :=
  (u.placeArea n pid (slotShape 0x0302 j.typ)).getD ⟨512, (slotShape 0x0302 j.typ).1, (slotShape 0x0302 j.typ).2⟩

/-- A verification that waits begins at once on a core without another job (R173). -/
theorem State.placeVerify_idle {u : State} {pid f n : Nat} {j : Job} (hj : u.pke.jobs.get? pid = some j) (ha : j.at_ = .verifyQueue f)
    (hc : u.verifyCore f pid j = some n) (hm : u.mainOf n = none) (hs : u.suspendedOf n = none) :
    u.placeVerify pid = u.setJob pid { j with at_ := .verifying f n, since := u.now, area := u.verifyArea n pid j } := by
  simp only [State.placeVerify, hj, ha, hc, hm, State.pauseFor_idle hm hs]
  rfl

/-- At a yield point the main job of a core is suspended, and the waiting short job starts after the switch (R182, R183, R186). -/
theorem exec_yieldPoint {s u : State} {dt core cycle xp yp : Nat} {x y : Job} {p : Packet} (hu : u = s.tick dt)
    (hm : u.mainOf core = some (xp, x)) (ha : u.assignedOf core = some (yp, y)) (hp : u.cmd.packets.get? xp = some p)
    (ht : u.coreTakes core = true) (hs : u.mayStart y = true) (hy : u.atYield p x cycle = true) (hg : u.yields x yp y core = true) :
    exec (.yieldPoint dt core cycle) s = .next
      (((u.setJob xp { u.spend x (y.fig.e + cyc 512) with at_ := .suspended core, ran := u.executed x, since := u.now }).bumpSat
        Fld.PKE_PREEMPT_count 0 1).startJob yp y core (u.now + switchNs)) := by
  simp only [exec, execYieldPoint, ← hu, hm, ha, hp]
  exact if_pos (by simp [ht, hs, hy, hg])

/-- The main job of a core ends where its schedule has run (R188, R198). -/
theorem State.coreJobEnds_main {u : State} {core pid : Nat} {j : Job} (hm : u.mainOf core = some (pid, j)) (hd : u.mainDone j = true) :
    u.coreJobEnds core false = u.endMain pid j core (u.mainEnd j) := by
  simp [State.coreJobEnds, hm, hd]

/-- The verification on a core ends where it has run its length (R29, R173). -/
theorem State.coreJobEnds_verify {u : State} {core pid f n : Nat} {j : Job} (hv : u.verifyingOn core = some (pid, j))
    (ha : j.at_ = .verifying f n) (hd : u.verifyDone j = true) : u.coreJobEnds core true = u.verifyEnds pid j f := by
  simp [State.coreJobEnds, hv, ha, hd]

section
variable {s u : State} {dt pid n : Nat} {j : Job} {p : Packet}

/-- A quantum without success has ended: the job has not succeeded, and is of class C or has come to its boundary (R181, R214). -/
theorem boundaryGuard_false (hq : j.fig.quant = true) (ha : j.accepted = false) {now : Nat} (hb : j.kind = .c ∨ j.boundary ≤ now) :
    (!j.fig.quant || j.accepted || (j.kind != JobKind.c && decide (now < j.boundary))) = false := by
  obtain hk | hb := hb
  · simp [hq, ha, hk]
  · simp [hq, ha, Nat.not_lt.mpr hb]

/-- Below 64 quanta, the next quantum begins where its random words are to be had (R181, R215). -/
theorem exec_latticeQuantumBoundary_next (hu : u = s.tick dt) (hj : u.pke.jobs.get? pid = some j) (hp : u.cmd.packets.get? pid = some p)
    (hat : j.at_ = .main n) (hq : j.fig.quant = true) (ha : j.accepted = false) (hb : j.kind = .c ∨ j.boundary ≤ u.now)
    (hn : j.quanta < 64) (hd : drawsPerQuantum p = false ∨ u.drbgReady 1 = true) :
    exec (.latticeQuantumBoundary dt pid) s = .next (u.nextQuantum pid j p n) := by
  have below : ¬ kmax ≤ j.quanta := Nat.not_le.mpr hn
  have drawn : ¬ (drawsPerQuantum p && !u.drbgReady 1) = true := by
    obtain hd | hd := hd <;> simp [hd]
  simp only [exec, execLatticeQuantumBoundary, ← hu, hj, hp, hat, boundaryGuard_false hq ha hb, Bool.false_eq_true, if_false, if_neg below,
    if_neg drawn]

/-- After 64 quanta the job goes to the gate with BUSY_RETRY, counted for a class M signature (R181, R214). -/
theorem exec_latticeQuantumBoundary_capped (hu : u = s.tick dt) (hj : u.pke.jobs.get? pid = some j) (hp : u.cmd.packets.get? pid = some p)
    (hat : j.at_ = .main n) (hq : j.fig.quant = true) (ha : j.accepted = false) (hb : j.kind = .c ∨ j.boundary ≤ u.now)
    (hn : 64 ≤ j.quanta) {v : State} (hv : v = if p.opcode = 0x0301 ∧ j.kind = .m then u.bumpSat Fld.PKE_CAPPED_count 0 1 else u) :
    exec (.latticeQuantumBoundary dt pid) s = .next
      (((v.clearArea n j.area).passGate pid { j with res := JobRes.of .busyRetry, lines := 0 } n
        (if j.kind = .c then u.now else j.boundary)).coreNext n u.now) := by
  have capped : kmax ≤ j.quanta := hn
  have counted : (if p.opcode == 0x0301 && j.kind == JobKind.m then u.bumpSat Fld.PKE_CAPPED_count 0 1 else u) = v := by simp [hv]
  have now : v.now = u.now := by
    rw [hv]
    split <;> rfl
  simp only [exec, execLatticeQuantumBoundary, ← hu, hj, hp, hat, boundaryGuard_false hq ha hb, Bool.false_eq_true, if_false, if_pos capped, counted,
    now, beq_iff_eq]

/-- A main job whose draw has waited 250 ms without random words stops with NOT_READY (R506). -/
theorem exec_randomDrawTimeout_stops {since : Nat} (hu : u = s.tick dt) (hj : u.pke.jobs.get? pid = some j) (hd : j.draw = some since)
    (hr : u.drbgReady 1 = false) (ht : since + 250000000 ≤ u.now) (hat : j.at_ = .main n) :
    exec (.randomDrawTimeout dt pid) s = .next (u.jobStops pid j .notReady) := by
  have waited : ¬ (u.drbgReady 1 || decide (u.now < since + holdNs)) = true := by
    rw [hr, Bool.false_or, decide_eq_true_eq]
    exact Nat.not_lt.mpr ht
  simp only [exec, execRandomDrawTimeout, ← hu, hj, hd, hat, if_neg waited]

end

/-! ## The operand memories (R36, R186) -/

/-- Cells that a test keeps give no entry for a key that fails it with every value. -/
theorem cellsGet_filter_none {α : Type} {f : Nat → α → Bool} {k : Nat} (h : ∀ v : α, f k v = false) (m : List (Nat × α)) :
    cellsGet (m.filter (fun e => f e.1 e.2)) k = none := by
  induction m with
  | nil => rfl
  | cons e m ih =>
    obtain ⟨i, v⟩ := e
    rw [List.filter_cons]
    split
    case isTrue hk =>
      have other : k ≠ i := by
        rintro rfl
        rw [h v] at hk
        cases hk
      rw [cellsGet, if_neg other, ih]
    case isFalse => exact ih

theorem NMap.get?_filter_none {α : Type} {f : Nat → α → Bool} {k : Nat} (h : ∀ v : α, f k v = false) (m : NMap α) :
    (m.filter f).get? k = none := cellsGet_filter_none h m.cells

/-- A zeroized operand memory holds no word (R36). -/
theorem State.zeroCore_opmem (s : State) (core : Nat) {k : Nat} (hk : k < 8192) :
    (s.zeroCore core).pke.opmem.get? (8192 * core + k) = none := by
  have own : (8192 * core + k) / 8192 = core := by omega
  exact NMap.get?_filter_none (fun _ => by simp [own]) _

theorem exec_pkeCoreZero_zeroes {s : State} {dt core v : Nat} (hw : (s.tick dt).windowOpen core = true) (hv : v % 2 ^ 16 = 0x2E40) :
    exec (.pkeCoreZero dt core v) s = .next ((s.tick dt).zeroCore core) := if_pos (by rw [hw, hv]; rfl)

theorem exec_pkeCoreZero_discards {s : State} {dt core v : Nat} (hv : v % 2 ^ 16 ≠ 0x2E40) :
    exec (.pkeCoreZero dt core v) s = .next (s.tick dt) :=
  if_neg (by rw [beq_eq_false_iff_ne.mpr hv, Bool.and_false]; exact Bool.false_ne_true)

/-- Settles O27, event by event: with its preconditions met, each command's arm comes to the operation of the engine that the statement names. -/
theorem publicKeyEngineEventsComplete : Obligations.PublicKeyEngineEventsComplete := by
  refine ⟨?_, ?_, ?_, ?_, ?_, ?_, ?_, ?_, ?_, ?_, ?_, ?_⟩
  · intro dt pid n onto j s u hu hn hc
    exact exec_pkeDispatch_starts hu hn hc onto
  · intro dt pid n j s u hu hn hc ht hm ha hs hsh hav
    exact exec_pkeDispatch_assigns hu hn hc ht hm ha hs hsh hav
  · rintro dt pid f n j s u rfl hj ha hc hm hs
    exact congrArg _ (State.placeVerify_idle hj ha hc hm hs)
  · intro dt core cycle xp yp x y p s u hu hm ha hp ht hs hy hg
    exact exec_yieldPoint hu hm ha hp ht hs hy hg
  · rintro dt core pid j s u rfl hm hd
    exact congrArg (fun t : State => Host.Outcome.next t.settle) (State.coreJobEnds_main hm hd)
  · intro dt core pid f n j s hv ha hd
    exact congrArg (fun t : State => Host.Outcome.next t.settle) (State.coreJobEnds_verify hv ha hd)
  · intro dt pid n j p s u hu hj hp hat hq ha hb hn hd
    exact exec_latticeQuantumBoundary_next hu hj hp hat hq ha hb hn hd
  · intro dt pid n j p s u v hu hj hp hat hq ha hb hn hv
    exact exec_latticeQuantumBoundary_capped hu hj hp hat hq ha hb hn hv
  · intro dt pid n since j s hj hd hr ht hat
    exact exec_randomDrawTimeout_stops rfl hj hd hr ht hat
  · intro dt core v s hw hv
    exact exec_pkeCoreZero_zeroes hw hv
  · intro core k s hk
    exact s.zeroCore_opmem core hk
  · intro dt core v s hv
    exact exec_pkeCoreZero_discards hv

end Sys2Proof.Machine
end

section
/-! PROOFS. The bulk clusters: the AEAD modes, the end of a packet's work in a cluster, and the delivery of keys. -/

namespace Sys2Proof.Machine

/-! ## The AEAD modes (R229, R232, R240) -/

@[simp] theorem aeadCrypt_length (a : Config.Alg) (key nonce text : Bytes) : (aeadCrypt a key nonce text).length = text.length := by
  simp [aeadCrypt]

/-- The keystream depends on the text's length alone, so that what is encrypted twice is the text. -/
theorem aeadCrypt_twice (a : Config.Alg) (key nonce text : Bytes) : aeadCrypt a key nonce (aeadCrypt a key nonce text) = text := by
  rw [aeadCrypt, aeadCrypt_length]
  exact xorBytes_twice _ _ (by simp)

@[simp] theorem aeadTag_length (a : Config.Alg) (key nonce aad ct : Bytes) (n : Nat) : (aeadTag a key nonce aad ct n).length = n := by
  simp [aeadTag]

/-- The octets of ciphertext in the input of an opening packet: C of R232. -/
def Packet.cipherLen (p : Packet) : Nat := p.inTotal - p.aad - p.par 1 1

/-- The ciphertext in the input of an opening packet. -/
def Packet.cipher (p : Packet) : Bytes := slice p.input p.aad p.cipherLen

/-- The tag at the end of an opening packet's input is that of its associated data and ciphertext. -/
def Packet.tagPasses (p : Packet) (tg : Config.Alg) (key : Bytes) : Prop :=
  aeadTag tg key (slice p.params 4 12) (p.input.take p.aad) p.cipher (p.par 1 1) = p.input.drop (p.aad + p.cipherLen)

theorem workSeal_some {p : Packet} {key : Bytes} {r : SymRes} (h : workSeal p key = some r) :
    ∃ st tg ct, aeadAlgs (p.par 0 0) = some (st, tg) ∧ ct = aeadCrypt st key (slice p.params 4 12) (p.input.drop p.aad) ∧
      r.out = ct ++ aeadTag tg key (slice p.params 4 12) (p.input.take p.aad) ct (p.par 1 1) := by
  obtain ⟨⟨st, tg⟩, hm, rfl⟩ := Option.map_eq_some_iff.mp h
  exact ⟨st, tg, _, hm, rfl, rfl⟩

theorem workOpen_of_tagPasses {q : Packet} {key : Bytes} {st tg : Config.Alg} (hm : aeadAlgs (q.par 0 0) = some (st, tg))
    (ht : q.tagPasses tg key) : workOpen q key = some (.good (aeadCrypt st key (slice q.params 4 12) q.cipher)) := by
  rw [workOpen, hm]
  exact congrArg some (if_pos ht)

theorem workOpen_of_tagFails {q : Packet} {key : Bytes} {st tg : Config.Alg} (hm : aeadAlgs (q.par 0 0) = some (st, tg))
    (ht : ¬ q.tagPasses tg key) :
    workOpen q key = some ⟨.authFailed, aeadCrypt st key (slice q.params 4 12) q.cipher, q.cipherLen, 0⟩ := by
  rw [workOpen, hm]
  exact congrArg some (if_neg ht)

/-- An opening that is not DONE is a failed tag: AUTH_FAILED, with C octets to be zeroed (R232). -/
theorem workOpen_failed {q : Packet} {key : Bytes} {z : SymRes} (h : workOpen q key = some z) (hz : z.status ≠ .done) :
    z.status = .authFailed ∧ z.zero = q.cipherLen ∧ z.result = 0 := by
  obtain ⟨⟨st, tg⟩, hm, -⟩ := Option.map_eq_some_iff.mp h
  by_cases ht : q.tagPasses tg key
  · rw [workOpen_of_tagPasses hm ht] at h
    cases h
    exact absurd rfl hz
  · rw [workOpen_of_tagFails hm ht] at h
    cases h
    exact ⟨rfl, rfl, rfl⟩

/-- What an opening packet has written after its chunks: its plaintext so far where it is streamed, and nothing where it is held (R231). -/
theorem Packet.producedAt_open {q : Packet} (ho : q.opcode = 0x0202) (k : Nat) :
    q.producedAt k = if q.streamed then min (4096 * (k - ceilDiv q.headLen 4096)) q.cipherLen else 0 := by
  simp [Packet.producedAt, ho, Packet.cipherLen]

theorem Packet.producedAt_open_le {q : Packet} (ho : q.opcode = 0x0202) (k : Nat) : q.producedAt k ≤ q.cipherLen := by
  rw [Packet.producedAt_open ho]
  split
  · exact Nat.min_le_right _ _
  · exact Nat.zero_le _

section
variable {q : Packet} {head ct tag : Bytes} (hi : q.input = head ++ (ct ++ tag)) (ha : head.length = q.aad)
include hi ha

theorem Packet.input_take_aad : q.input.take q.aad = head := by
  rw [hi, ← ha, List.take_left]

variable (ht : tag.length = q.par 1 1) (hn : q.inTotal = q.input.length)
include ht hn

theorem Packet.cipherLen_eq : q.cipherLen = ct.length := by
  rw [Packet.cipherLen, hn, hi, List.length_append, List.length_append]
  omega

theorem Packet.cipher_eq : q.cipher = ct := by
  rw [Packet.cipher, Packet.cipherLen_eq hi ha ht hn, hi, slice_append_of_ge _ _ _ _ ha.le, ha, Nat.sub_self,
    slice_append_left _ _ _ le_rfl, List.take_length]

theorem Packet.input_drop_cipher : q.input.drop (q.aad + q.cipherLen) = tag := by
  rw [Packet.cipherLen_eq hi ha ht hn, hi, ← ha, ← List.drop_drop, List.drop_left, List.drop_left]

end

/-- Settles O31: the input of the opening packet is associated data, ciphertext and tag, the tag passes, and the keystream applied twice gives the text back; a failed tag leaves C octets to be zeroed, which bounds what a chunk has written. -/
theorem aeadOpenRecoversSealedText : Obligations.AeadOpenRecoversSealedText := by
  refine ⟨?_, ?_⟩
  · intro p q key r hseal hmode htag _ hnonce haad hle _ hn hi
    obtain ⟨st, tg, ct, hm, hct, hr⟩ := workSeal_some hseal
    rw [hr] at hi
    have headLen : (p.input.take p.aad).length = q.aad := by simp [haad, hle]
    have tagLen : (aeadTag tg key (slice p.params 4 12) (p.input.take p.aad) ct (p.par 1 1)).length = q.par 1 1 := by simp [htag]
    have cipher : q.cipher = ct := Packet.cipher_eq hi headLen tagLen hn
    have passes : q.tagPasses tg key := by
      rw [Packet.tagPasses, cipher, Packet.input_take_aad hi headLen, Packet.input_drop_cipher hi headLen tagLen hn, hnonce, htag]
    refine ⟨_, workOpen_of_tagPasses (hmode ▸ hm) passes, rfl, ?_, rfl⟩
    calc aeadCrypt st key (slice q.params 4 12) q.cipher
        = aeadCrypt st key (slice p.params 4 12) (aeadCrypt st key (slice p.params 4 12) (p.input.drop p.aad)) := by rw [hnonce, cipher, hct]
      _ = p.input.drop p.aad := aeadCrypt_twice _ _ _ _
  · intro q key z h hz
    obtain ⟨hs, hzero, hres⟩ := workOpen_failed h hz
    refine ⟨hs, hzero, hres, fun ho k => ?_⟩
    rw [hzero]
    exact Packet.producedAt_open_le ho k

/-! ## The end of a packet's work in a cluster (R49, R232, R238, R240) -/

section
variable {t u : State} {pid n typ : Nat} {j v : BlkJob} {p : Packet}

/-- Where no class 1 hold covers the cluster or the packet's path, the cluster works on the packet and ends its work. -/
theorem State.lookasideEnds_works (hj : t.blk.jobs.get? (2 * pid) = some j) (hp : t.cmd.packets.get? pid = some p) (hn : j.cluster = some n)
    (hc : t.clusterRuns n = true) (hg : t.gateHeld p = false) (hu : u = t.workOn n (2 * pid)) (hv : u.blk.jobs.get? (2 * pid) = some v) :
    t.lookasideEnds pid = u.blkEnds pid n v p := by
  subst hu
  simp [State.lookasideEnds, hj, hp, hn, hc, hg, hv]

/-- A packet of no public-key job, its chunks processed and its transfers taken, has its result decided (R232). -/
theorem State.blkEnds_decides {key : Bytes} {r : SymRes} (hk : u.pke.jobs.get? pid = none) (hd : v.chunks ≤ v.done)
    (hr : p.data.refused = false) (ho : p.outStopped v = false) (hb : u.blkKey n v = some (key, typ)) (hw : symWork p key = some r) :
    u.blkEnds pid n v p = ((u.pmc (0x030 + n) p.blocks).decideSym pid p typ v.written r).dropBlk (2 * pid) := by
  simp [State.blkEnds, hk, hd, hr, ho, hb, hw]

/-- A packet of no public-key job whose host refused a transfer is rejected (R49). -/
theorem State.blkEnds_rejects (hk : u.pke.jobs.get? pid = none) (hr : p.data.refused = true ∨ p.outStopped v = true) :
    u.blkEnds pid n v p = (u.rejectSym pid p v.written).dropBlk (2 * pid) := by
  simp [State.blkEnds, hk, hr]

end

/-! ## The delivery of a key (R131, R138, R227) -/

section
variable {s t : State} {dt n line : Nat} {tag : KeyTag} (ht : t = s.tick dt) (hm : t.missOn n line = some tag)
  (hh : t.islandHeld 0x02 = false)
include ht hm hh

theorem exec_keyFileKeyDelivered_wiping (hw : t.wiping = true) :
    exec (.keyFileKeyDelivered dt n line) s = .next (t.failWaiting n line .busyRetry) := by
  subst ht
  simp [exec, execKeyFileKeyDelivered, hm, hh, hw]

theorem exec_keyFileKeyDelivered_gone (hw : t.wiping = false) (hr : t.resolve (mkHandle tag.slice tag.gen clsTraffic line) = none) :
    exec (.keyFileKeyDelivered dt n line) s = .next ((t.failWaiting n line .rejected).loseWaiting n line) := by
  subst ht
  simp [exec, execKeyFileKeyDelivered, hm, hh, hw, hr]

theorem exec_keyFileKeyDelivered_loads {k : Key} (hw : t.wiping = false)
    (hr : t.resolve (mkHandle tag.slice tag.gen clsTraffic line) = some k) (hf : t.slotFails line = none) :
    exec (.keyFileKeyDelivered dt n line) s = .next ((t.loadEntry n tag k.typ k.secret).pmc 0x0D0 1) := by
  subst ht
  simp [exec, execKeyFileKeyDelivered, hm, hh, hw, hr, hf]

end

/-- A key that arrives is in the entry that its miss took, under the entry's tag (R227). -/
theorem State.loadEntry_entry {s : State} {n i : Nat} {tag : KeyTag} {e : BlkEntry} (h : s.slotOf n tag = some (i, e)) (typ : Nat)
    (key : Bytes) : ∃ x : BlkEntry, (s.loadEntry n tag typ key).blk.files.get? i = some x ∧ x.tag = e.tag ∧ x.key = key ∧
      x.typ = typ ∧ x.loaded = true := by
  unfold State.loadEntry
  rw [h]
  exact ⟨_, NMap.get?_insert_self _ _ _, rfl, rfl, rfl, rfl⟩

/-- Settles O30: the end of the packet's work is decided by the cluster's state after it has worked, and a key's delivery by the record that it finds. -/
theorem clusterWorkCompletes : Obligations.ClusterWorkCompletes := by
  refine ⟨?_, ?_, ?_, ?_, ?_, ?_⟩
  · rintro dt pid n typ j v p key r s t u rfl hj hp hn hc hg hu hk hv hd hr ho hb hw
    have ends := (State.lookasideEnds_works hj hp hn hc hg hu hv).trans (State.blkEnds_decides hk hd hr ho hb hw)
    exact congrArg (fun w : State => Host.Outcome.next w.settle) ends
  · rintro dt pid n j v p s t u rfl hj hp hn hc hg hu hk hv hr
    have ends := (State.lookasideEnds_works hj hp hn hc hg hu hv).trans (State.blkEnds_rejects hk hr)
    exact congrArg (fun w : State => Host.Outcome.next w.settle) ends
  · intro dt n line tag k s t ht hm hh hw hr hf
    exact exec_keyFileKeyDelivered_loads ht hm hh hw hr hf
  · intro n i typ tag e key s h
    exact State.loadEntry_entry h typ key
  · intro dt n line tag s t ht hm hh hw hr
    exact exec_keyFileKeyDelivered_gone ht hm hh hw hr
  · intro dt n line tag s t ht hm hh hw
    exact exec_keyFileKeyDelivered_wiping ht hm hh hw

end Sys2Proof.Machine
end

section
/-! PROOFS. The inline path: the commands on security associations, and the frames from their arrival to the tx pipeline. -/

namespace Sys2Proof.Machine

/-! ## SA_INSTALL and SA_REKEY (R249, R260, R265, R266) -/

/-- A new SA passes the checks that come after its form: key usage, ownership, mode, quota, identifier, and for MACsec outbound a binding whose active SA is at most the one it replaces (R265, R266). -/
theorem State.saJudge_ok {t : State} {k : Key} {a : SaCtx} {old : Option Nat} (hu : bit k.usage useInline = true)
    (ho : t.saOwned a.slice a.kind a.pair a.vlan = true) (hm : t.saAccepts = true)
    (hq : t.saFits a.slice (t.saNeed a.slice a.size) = true) (hi : t.saTaken (isMac a.kind) a.ident a.an = false)
    (hb : a.kind = macOut → t.tbl.sas.any (fun i b => some i != old && b.kind == macOut && b.slice == a.slice && b.pair == a.pair &&
      b.vlan == a.vlan && b.state == .active) = false) : t.saJudge k a old = .ok () := by
  have bindingFree : (a.kind != macOut || !t.tbl.sas.any (fun i b => some i != old && b.kind == macOut && b.slice == a.slice &&
      b.pair == a.pair && b.vlan == a.vlan && b.state == .active)) = true := by
    by_cases h : a.kind = macOut
    · rw [hb h]
      exact Bool.or_true _
    · exact Bool.or_eq_true_iff.mpr (.inl (bne_iff_ne.mpr h))
  simp only [State.saJudge, hu, ho, hm, hq, hi, bindingFree, ok_bind, require_true, Bool.not_false]

/-- SA_INSTALL of a valid block makes the SA that the block describes (R265). -/
theorem opSaInstall_ok {t u : State} {pid h : Nat} {p : Packet} {k : Key} {a : SaCtx} (hk : t.keyOf pid p = .ok k)
    (hr : p.areasOk ioNone = true) (hp : p.pind = true) (hf : saForm p.block = true) (ht : k.typ = suiteKey (field p.block 4 1))
    (hpair : t.pairOk (field p.block 8 4 % 8) = true) (ha : a = saOfBlock t.now p.ring k.line (t.lineGen k.line) p.block)
    (hj : t.saJudge k a none = .ok ()) (hadd : t.saAdd a = some (h, u)) : opSaInstall t pid p = .ok ⟨u, [], 1, u.saIdOf h⟩ := by
  subst ha
  simp only [opSaInstall, hk, hr, hp, hf, ht, hpair, hj, hadd, ok_bind, require_true, getOr_some, Bool.and_true, beq_self_eq_true]

/-- SA_REKEY of a valid block makes the new SA, to which the policies of the old one pass while the old one drains (R266). -/
theorem opSaRekey_ok {t u : State} {pid h oh : Nat} {p : Packet} {k : Key} {o a : SaCtx} (hk : t.keyOf pid p = .ok k)
    (hr : p.areasOk ioNone = true) (hp : p.pind = true) (ho : t.saOfId p.ring (field p.block 0 8) = some (oh, o))
    (hf : rekeyForm p.block o = true) (ht : k.typ = suiteKey o.suite) (ha : a = rekeyOf t.now k.line (t.lineGen k.line) p.block o)
    (hj : t.saJudge k a (some oh) = .ok ()) (hadd : t.saAdd a = some (h, u)) {w : State}
    (hw : w = (u.policiesRename (t.saIdOf oh) (u.saIdOf h)).saDrain oh none) : opSaRekey t pid p = .ok ⟨w, [], 1, w.saIdOf h⟩ := by
  subst ha hw
  simp only [opSaRekey, hk, hr, hp, ho, hf, ht, hj, hadd, ok_bind, require_true, getOr_some, Bool.and_true, beq_self_eq_true]

/-! ## SA_RETIRE and the end of a draining SA (R266, R267) -/

/-- SA_RETIRE of an SA that does not drain yet drains it, with the packet waiting (R267). -/
theorem State.askRetire_ok {t : State} {pid h : Nat} {p : Packet} {o : Option Key} {a : SaCtx} (ho : t.handles pid p = .ok o)
    (hi : p.inlineFrom 8 = true) (ha : t.saOfId p.ring (p.par 0 7) = some (h, a)) (hs : a.state ≠ .draining) :
    t.askRetire pid p = .ok ((t.setPacket pid { p with phase := .waiting }).saDrain h (some pid)) := by
  have live : (a.state != .draining) = true := bne_iff_ne.mpr hs
  simp only [State.askRetire, ho, hi, ha, live, ok_bind, require_true, getOr_some]

/-- A draining SA without frames in the device is freed. -/
theorem State.saDrained_free {s : State} {head : Nat} {a : SaCtx} (ha : s.tbl.sas.get? head = some a) (hd : a.state = .draining)
    (hf : s.saFrames head = false) : s.saDrained head = s.saFree head := by
  simp [State.saDrained, ha, hd, hf]

/-! ## SA_QUERY (R268) -/

theorem exec_saQueryState {s : State} {dt pid : Nat} (d : PktData) (h : (s.tick dt).queryMode pid ≠ 1) :
    exec (.saQueryState dt pid d) s = .next ((s.tick dt).runOp 0x0604 pid d opSaQueryState) :=
  if_neg (by simp [h])

/-- SA_QUERY in mode 0x00 outputs the status of the SA that it names. -/
theorem opSaQueryState_ok {t : State} {pid h : Nat} {p : Packet} {o : Option Key} {a : SaCtx} (ho : t.handles pid p = .ok o)
    (hr : p.areasOk ioOut = true) (hp : p.pind = false) (hm : p.par 0 7 = 0) (hf : p.fits 64 = true)
    (ha : t.saOfId p.ring (p.par 8 15) = some (h, a)) : opSaQueryState t pid p = .ok ⟨t, t.saStatus h a, 0, 0⟩ := by
  simp only [opSaQueryState, ho, hr, hp, hm, hf, ha, ok_bind, require_true, getOr_some, Bool.not_false, Bool.and_true, beq_self_eq_true]

theorem exec_saQueryWait {s : State} {dt pid : Nat} (d : PktData) (h : (s.tick dt).queryMode pid = 1) :
    exec (.saQueryWait dt pid d) s =
      .next ((s.tick dt).runPacket 0x0604 pid d (fun s pid p => s.accepted pid (s.askWait pid p))) :=
  if_pos (beq_iff_eq.mpr h)

/-- SA_QUERY in mode 0x01 reports where an event, or the loss of one, is pending, and else waits until its timeout. -/
theorem State.askWait_ok {t u : State} {pid : Nat} {p : Packet} {o : Option Key} (ho : t.handles pid p = .ok o)
    (hr : p.areasOk ioOut = true) (hp : p.pind = false) (h1 : p.par 1 3 = 0) (h8 : p.par 8 15 = 0) (hlo : 1 ≤ p.par 4 7)
    (hhi : p.par 4 7 ≤ 60000) (hw : t.tbl.waits.has p.ring = false) (hu : u = t.setPacket pid { p with phase := .waiting }) :
    t.askWait pid p = .ok (if (u.saEvents p.ring).lost = true ∨ (u.saEvents p.ring).list ≠ [] then u.saReport pid p.ring
      else { u with tbl := { u.tbl with waits := u.tbl.waits.insert p.ring ⟨pid, u.now + 1000000 * p.par 4 7⟩ } }) := by
  have pending : ((u.saEvents p.ring).lost || !(u.saEvents p.ring).list.isEmpty) = true ↔
      (u.saEvents p.ring).lost = true ∨ (u.saEvents p.ring).list ≠ [] := by simp
  simp only [State.askWait, ho, hr, hp, h1, h8, hlo, hhi, hw, ok_bind, require_true, Bool.not_false, Bool.and_true, beq_self_eq_true,
    decide_true, ← hu, pending]
  exact (apply_ite Except.ok _ _ _).symm

/-- SA_QUERY_TIMEOUT of a query whose deadline has come. -/
theorem exec_saQueryTimeout {s : State} {dt slice : Nat} {w : SaWait} (hw : (s.tick dt).tbl.waits.get? slice = some w)
    (h : w.deadline ≤ (s.tick dt).now) : exec (.saQueryTimeout dt slice) s = .next ((s.tick dt).saAnswer slice) := by
  simp only [exec, execSaQueryTimeout, hw, h, if_true]

/-- Settles O32: each command's checks pass one after the other, and what is left is the SA it makes, drains, frees or reports. -/
theorem saCommandsComplete : Obligations.SaCommandsComplete := by
  refine ⟨?_, ?_, ?_, ?_, ?_, ?_, ?_⟩
  · intro dt pid h d s t u p k a hs hk hr hp hf ht hpair ha hu ho hm hq hi hb hadd
    exact congrArg _ ((hs.runPacket _).trans
      (hs.conclude (opSaInstall_ok hk hr hp hf ht hpair ha (State.saJudge_ok hu ho hm hq hi hb) hadd)))
  · intro dt pid h oh d s t u w p k o a hs hk hr hp ho hf ht ha hu hown hm hq hi hb hadd hw
    exact congrArg _ ((hs.runPacket _).trans
      (hs.conclude (opSaRekey_ok hk hr hp ho hf ht ha (State.saJudge_ok hu hown hm hq hi hb) hadd hw)))
  · intro dt pid h d s t p o a hs ho hi ha hst
    exact congrArg _ (hs.accepts (State.askRetire_ok ho hi ha hst))
  · intro dt pid h d s t p o a hq hs ho hr hp hm hf ha
    rw [exec_saQueryState d hq]
    exact congrArg _ ((hs.1.runPacket _).trans (hs.conclude (opSaQueryState_ok ho hr hp hm hf ha)))
  · intro dt pid d s t u p o hq hs ho hr hp h1 h8 hlo hhi hw hu
    rw [exec_saQueryWait d hq]
    exact congrArg _ (hs.accepts (State.askWait_ok ho hr hp h1 h8 hlo hhi hw hu))
  · rintro dt head a s t rfl ha hd hf
    exact congrArg (fun u : State => Host.Outcome.next u.settle) (State.saDrained_free ha hd hf)
  · rintro dt slice w s t rfl hw h
    exact exec_saQueryTimeout hw h

/-! ## The arrival of a frame (R254 to R257, R272, R273, R458 to R460) -/

section
variable {s : State} {port : Nat} {b : Bytes}

/-- A frame with a bad FCS counts at its port alone (R458). -/
theorem State.arrive_badFcs (room : Bool) : s.arrive port b false room = s.bumpSat Fld.NET_FCS_ERR_count port 1 := rfl

/-- A frame of a bad size counts at its port alone (R458). -/
theorem State.arrive_badSize (h : b.length < 64 ∨ 9216 < b.length) (room : Bool) :
    s.arrive port b true room = s.bumpSat Fld.NET_SIZE_ERR_count port 1 := by
  simp [State.arrive, h]

variable (hlo : 64 ≤ b.length) (hhi : b.length ≤ 9216) (hc : fieldBE b 12 2 ≠ 0x8808) {t : State} (ht : t = s.pmc (0x0A0 + port) 1)
  (hl : t.linkUp (t.partner port) = true)
include hlo hhi hc ht hl

/-- A frame that nothing on its way holds takes the steps of its table. -/
theorem State.arrive_steps (hs : t.stages port = false) : s.arrive port b true true = t.frameSteps port b := by
  subst ht
  simp [State.arrive, hlo.not_gt, hhi.not_gt, hc, hl, hs]

/-- A frame behind a hold waits in the staging of its port-direction, where there is room (R273). -/
theorem State.arrive_staged (hs : t.stages port = true) (hr : t.stagedOctets port + b.length ≤ stagingSize) :
    s.arrive port b true true = { t with tbl := { t.tbl with staged := t.tbl.staged ++ [(port, b)] } } := by
  subst ht
  simp [State.arrive, hlo.not_gt, hhi.not_gt, hc, hl, hs, hr.not_gt]

end

/-- An event of the performance monitor leaves the ports on their sides. -/
@[simp] theorem State.pmc_sideB (s : State) (ev n port : Nat) : (s.pmc ev n).sideB port = s.sideB port := by
  unfold State.sideB State.ports
  rw [State.pmc_fget s ev n (by decide) (by decide) (by decide)]

/-- The table of a frame's steps is that of its pair's protocol and its port's side (R254 to R257). -/
theorem State.frameSteps_eq {s t : State} {port : Nat} {c : PairCfg} (b : Bytes) (hc : c = s.pairCfg (s.portPair port))
    (ht : t = s.pmc (0x090 + s.rxBank port) 1) : s.frameSteps port b =
      if c.esp then (if s.sideB port = c.clearB then t.espOutFrame port b else t.espInFrame port b)
      else (if s.sideB port = c.clearB then t.macOutFrame port b else t.macInFrame port b) := by
  subst hc ht
  simp only [← beq_iff_eq (a := s.sideB port)]
  cases he : (s.pairCfg (s.portPair port)).esp <;>
    cases hs : s.sideB port == (s.pairCfg (s.portPair port)).clearB <;> simp only [State.frameSteps, State.pmc_sideB, he, hs] <;> rfl

/-! ## The cluster operation of a frame (R28, R258, R259, R270) -/

/-- INLINE_CLUSTER_DONE in a cluster that holds the SA's key, is not held and has worked to the frame's last chunk. -/
theorem exec_inlineClusterDone {s t u : State} {dt fid n slot : Nat} {j : BlkJob} {f : Frame} {tag : KeyTag} {e : BlkEntry}
    (ht : t = s.tick dt) (hj : t.blk.jobs.get? (2 * fid + 1) = some j) (hf : t.tbl.frames.get? fid = some f) (hn : j.cluster = some n)
    (hg : j.tag = some tag) (he : t.entryOf n tag = some (slot, e)) (hu : u = t.workOn n (2 * fid + 1)) (hr : u.clusterRuns n = true)
    (hd : u.chunksDone (2 * fid + 1) = true) : exec (.inlineClusterDone dt fid) s = .next (u.clusterDone fid n f e.key) := by
  subst ht hu
  simp only [exec, execInlineClusterDone, hj, hf, hn, hg, he, hr, hd, Bool.and_true, if_true]

/-! ## The tx pipeline (R254 to R257, R272, R460) -/

section
variable {t : State} {fid : Nat} {f : Frame} (hf : t.tbl.frames.get? fid = some f) (ht : t.txTurn fid f = true)
include hf ht

/-- A frame whose operation is made is finished in its turn. -/
theorem State.txEnds_ready (ha : f.at_ = .ready) (room : Bool) : t.txEnds fid room =
    State.txFinish (t.pmc (0x090 + t.txBank f.port) 1) fid f (room && t.linkUp (t.partner f.port) && t.txServed f) := by
  simp [State.txEnds, hf, ht, ha]

/-- A bypassed frame that the egress queue takes leaves as it came, in its turn. -/
theorem State.txEnds_bypass (ha : f.at_ = .bypass) (hl : t.linkUp (t.partner f.port) = true) (hs : t.txServed f = true) :
    t.txEnds fid true = State.transmit (t.pmc (0x090 + t.txBank f.port) 1) fid f f.data true := by
  simp [State.txEnds, hf, ht, ha, hl, hs]

end

/-- Settles O34: a frame's port and pair choose its steps, and each later event finds its frame in the cluster or in its turn at the tx pipeline. -/
theorem inlineFramesComplete : Obligations.InlineFramesComplete := by
  refine ⟨?_, ?_, ?_, ?_, ?_, ?_, ?_, ?_, ?_⟩
  · intro dt port b fcs room s h
    exact if_pos h
  · intro dt port b fcs room s h
    exact if_pos h
  · intro dt port b fcs room s h
    exact if_pos h
  · intro dt port b fcs room s h
    exact if_pos h
  · intro s t port b room
    refine ⟨State.arrive_badFcs room, fun h => State.arrive_badSize h room, fun hlo hhi hc ht hl => ⟨fun hs => ?_, fun hs hr => ?_⟩⟩
    · exact State.arrive_steps hlo hhi hc ht hl hs
    · exact State.arrive_staged hlo hhi hc ht hl hs hr
  · intro s t port b c hc ht
    exact State.frameSteps_eq b hc ht
  · intro dt fid n slot j f tag e s t u ht hj hf hn hg he hu hr hd
    exact exec_inlineClusterDone ht hj hf hn hg he hu hr hd
  · rintro dt fid room f s t rfl hf ht ha
    exact congrArg (fun u : State => Host.Outcome.next u.settle) (State.txEnds_ready hf ht ha room)
  · rintro dt fid f s t rfl hf ht ha hl hs
    exact congrArg (fun u : State => Host.Outcome.next u.settle) (State.txEnds_bypass hf ht ha hl hs)

end Sys2Proof.Machine
end

section
/-! PROOFS. Lookup and learning: the policy and table commands, and the engines that learn, reinsert and age the entries of the banks. -/

namespace Sys2Proof.Machine

/-! ## POLICY_ADD and POLICY_DELETE (R279, R282 to R284, R419) -/

section
variable {t : State} {pid i k : Nat} {p : Packet} {o : Option Key} (ho : t.handles pid p = .ok o)
include ho

/-- POLICY_ADD of a valid entry, on a map entry that the slice owns and within the limits, enters the policy (R282, R283). -/
theorem opPolicyAdd_ok (hr : p.areasOk ioIn = true) (hi : p.inlineFrom 0 = true) (he : t.policyEntryOk p.ring p.input = true)
    (hz : allZero (slice p.input 0x20 8) = true) (hm : t.policyMap p.ring p.input = some i) (hroom : t.policyRoom i p.input = true) :
    opPolicyAdd t pid p = .ok ⟨(t.policyInsert p.ring i p.input).2, [], 1,
      (t.policyInsert p.ring i p.input).2.polId p.ring (t.policyInsert p.ring i p.input).1⟩ := by
  simp only [opPolicyAdd, ho, hr, hi, he, hz, hm, hroom, ok_bind, require_true, getOr_some, Bool.and_true]

/-- POLICY_DELETE of a policy in the table removes it, which can make its map entry whole again (R283, R419). -/
theorem opPolicyDelete_inTable {q : Policy} (hi : p.inlineFrom 8 = true) (hk : t.policyOfId p.ring (p.par 0 7) = some k)
    (hq : t.tbl.pols.get? k = some q) : opPolicyDelete t pid p = .ok ⟨(t.policyRemove k).mend q.index, [], 0, 0⟩ := by
  simp only [opPolicyDelete, ho, hi, hk, hq, ok_bind, require_true]

/-- POLICY_DELETE of a lost policy ends the loss, which can make its map entry whole again (R419). -/
theorem opPolicyDelete_lost (hi : p.inlineFrom 8 = true) (hn : t.policyOfId p.ring (p.par 0 7) = none)
    (hl : t.lostPolicy p.ring (p.par 0 7) = some i) :
    opPolicyDelete t pid p = .ok ⟨(t.dropLost i (p.par 0 7)).mend i, [], 0, 0⟩ := by
  simp only [opPolicyDelete, ho, hi, hn, hl, ok_bind, require_true, getOr_some]

end

/-! ## TBL_REHASH and TBL_FLUSH (R293) -/

theorem maskOk_of {p : Packet} (hi : p.inlineFrom 1 = true) (hne : p.par 0 0 ≠ 0) (hlt : p.par 0 0 < 16) : maskOk p = true := by
  simp [maskOk, hi, hne, hlt]

/-- TBL_REHASH of a valid mask empties and reseeds each bank of it, and counts the rehash at the bank. -/
theorem opTblRehash_ok {t : State} {pid : Nat} {p : Packet} {o : Option Key} (ho : t.handles pid p = .ok o) (hm : maskOk p = true) :
    opTblRehash t pid p = .ok ⟨(maskBanks p).foldl (fun s b =>
      ((s.bankFlush b).bankSeed b (p.random b 34)).bumpSat Fld.TBL_FC_STATUS_rehashes b 1) t, [], 0, 0⟩ := by
  simp only [opTblRehash, ho, hm, ok_bind, require_true]

theorem opTblFlush_ok {t : State} {pid : Nat} {p : Packet} {o : Option Key} (ho : t.handles pid p = .ok o) (hm : maskOk p = true) :
    opTblFlush t pid p = .ok ⟨(maskBanks p).foldl State.bankFlush t, [], 0, 0⟩ := by
  simp only [opTblFlush, ho, hm, ok_bind, require_true]

/-! ## The directed flush (R284, R294) -/

/-- An entry that cells give a key is among them. -/
theorem mem_of_cellsGet {α : Type} {m : List (Nat × α)} {k : Nat} {v : α} (h : cellsGet m k = some v) : (k, v) ∈ m := by
  induction m with
  | nil => cases h
  | cons e m ih =>
    obtain ⟨j, w⟩ := e
    rw [cellsGet] at h
    split at h
    next hk =>
      cases h
      subst hk
      exact List.mem_cons_self
    next => exact List.mem_cons_of_mem _ (ih h)

/-- An entry that a filtered table gives a key is one of the table's that passes the test. -/
theorem NMap.mem_of_get?_filter {α : Type} {m : NMap α} {f : Nat → α → Bool} {k : Nat} {v : α} (h : (m.filter f).get? k = some v) :
    (k, v) ∈ m.cells ∧ f k v = true := List.mem_filter.mp (mem_of_cellsGet h)

theorem NMap.has_of_get? {α : Type} {m : NMap α} {k : Nat} {v : α} (h : m.get? k = some v) : m.has k = true := by
  rw [NMap.has, h, Option.isSome_some]

theorem FlowEntry.ofMap_iff (e : FlowEntry) (i : Nat) : e.ofMap i = true ↔ e.kind = 1 ∧ e.mapIndex = i := by
  simp [FlowEntry.ofMap]

theorem State.epochOf_entry {s : State} {i : Nat} {m : MapEntry} (h : s.tbl.map.get? i = some m) : s.epochOf i = m.epoch := by
  rw [State.epochOf, h]

/-- A directed flush leaves of the banks' ways the entries that are not kind P entries of the map entry; its counts are registers. -/
theorem State.directedFlush_bank (s : State) (i : Nat) :
    (s.directedFlush i).tbl.bank = s.tbl.bank.filter (fun _ e => !e.ofMap i) := by
  have counts := State.foldl_frame _ (fun (t : State) b => t.bumpSat_frame Fld.TBL_FC_AGED_count b
    (s.tbl.bank.count (fun k e => k / 524288 == b && e.ofMap i) + s.tbl.stash.count (fun k e => k / 64 == b && e.ofMap i)))
    (List.range 4) { s with tbl := { s.tbl with
      bank := s.tbl.bank.filter (fun _ e => !e.ofMap i), stash := s.tbl.stash.filter (fun _ e => !e.ofMap i) } }
  exact congrArg (fun t : State => t.tbl.bank) counts

/-- DIRECTED_FLUSH of a map entry whose epoch is about to wrap. -/
theorem exec_directedFlush {s : State} {dt i : Nat} {m : MapEntry} (hm : (s.tick dt).tbl.map.get? i = some m) (he : m.epoch = 1023) :
    exec (.directedFlush dt i) s = .next ((s.tick dt).directedFlush i) := by
  have wraps : ((s.tick dt).epochOf i == 1023 && (s.tick dt).tbl.map.has i) = true := by
    rw [State.epochOf_entry hm, he, NMap.has_of_get? hm]
    rfl
  exact if_pos wraps

/-- Settles O33: each command's checks pass one after the other and leave its work, and a directed flush filters the banks. -/
theorem policyAndTableCommandsComplete : Obligations.PolicyAndTableCommandsComplete := by
  refine ⟨?_, ?_, ?_, ?_, ?_, ?_, ?_⟩
  · intro dt pid i d s t p o hs ho hr hi he hz hm hroom
    exact congrArg _ ((hs.runPacket _).trans (hs.conclude (opPolicyAdd_ok ho hr hi he hz hm hroom)))
  · intro dt pid k d s t p o q hs ho hi hk hq
    exact congrArg _ ((hs.runPacket _).trans (hs.conclude (opPolicyDelete_inTable ho hi hk hq)))
  · intro dt pid i d s t p o hs ho hi hn hl
    exact congrArg _ ((hs.runPacket _).trans (hs.conclude (opPolicyDelete_lost ho hi hn hl)))
  · intro dt pid d s t p o hs ho hi hne hlt
    exact congrArg _ ((hs.runPacket _).trans (hs.conclude (opTblRehash_ok ho (maskOk_of hi hne hlt))))
  · intro dt pid d s t p o hs ho hi hne hlt
    exact congrArg _ ((hs.runPacket _).trans (hs.conclude (opTblFlush_ok ho (maskOk_of hi hne hlt))))
  · intro dt i m s hm he
    exact exec_directedFlush hm he
  · intro i k e s h
    rw [State.directedFlush_bank] at h
    obtain ⟨hmem, hkept⟩ := NMap.mem_of_get?_filter h
    refine ⟨hmem, fun hof => ?_⟩
    rw [(e.ofMap_iff i).mpr hof] at hkept
    cases hkept

/-! ## The engines of the banks (R289 to R291, R294) -/

/-- LEARN_INSERT on a bank that runs takes the oldest learn request, and serves it while learning is on (R289). -/
theorem exec_learnInsert {s : State} {dt bank : Nat} {e : FlowEntry} {r : List FlowEntry} (hq : (s.tick dt).learnQueue bank = e :: r)
    (hr : (s.tick dt).bankRuns bank = true) :
    exec (.learnInsert dt bank) s = .next (if (s.tick dt).flag Fld.TBL_FC_CTRL_learn_en 0 = true
      then ((s.tick dt).setLearn bank r).learnServe bank e else (s.tick dt).setLearn bank r) := by
  simp only [exec, execLearnInsert, hq, hr, if_true]
  rfl

section
variable {s u : State} {dt bank k : Nat} {e : FlowEntry}
  (hf : (s.tick dt).tbl.stash.find? (fun k _ => k / 64 == bank) = some (k, e)) (hr : (s.tick dt).bankRuns bank = true)
  (hq : (s.tick dt).learnQueue bank = [])
include hf hr hq

/-- STASH_REINSERT of an entry that finds a slot in the ways empties its slot of the stash (R291). -/
theorem exec_stashReinsert_placed (hp : ((s.tick dt).dropEntry (.stash k)).placeEntry bank e = (none, u)) :
    exec (.stashReinsert dt bank) s = .next u := by
  simp only [exec, execStashReinsert, hf, hr, hq, hp, List.isEmpty_nil, Bool.and_true, if_true]

/-- STASH_REINSERT whose kick chain leaves an entry in hand returns that entry to the stash (R291). -/
theorem exec_stashReinsert_displaces {v : FlowEntry}
    (hp : ((s.tick dt).dropEntry (.stash k)).placeEntry bank e = (some v, u)) :
    exec (.stashReinsert dt bank) s = .next (u.putEntry (.stash k) v) := by
  simp only [exec, execStashReinsert, hf, hr, hq, hp, List.isEmpty_nil, Bool.and_true, if_true]

end

/-- The state in which a bank's sweeper has passed on to its next slot. -/
def State.sweepOn (s : State) (bank : Nat) : State :=
  { s with tbl := { s.tbl with sweep := s.tbl.sweep.setIfInBounds bank ((s.tbl.sweep.toList.getD bank 0 + 1) % sweepSlots) } }

section
variable {s t : State} {dt bank n : Nat} (ht : t = s.tick dt) (hr : t.bankRuns bank = true) (hn : n = t.tbl.sweep.toList.getD bank 0)
include ht hr hn

/-- A sweeper at a slot of the ways visits the entry there, if any (R294). -/
theorem exec_sweeperVisit_way (h : n < 524288) : exec (.sweeperVisit dt bank) s = .next
    ((t.tbl.bank.get? (524288 * bank + n)).elim (t.sweepOn bank) ((t.sweepOn bank).sweepEntry bank (.way (524288 * bank + n)))) := by
  subst ht hn
  simp only [exec, execSweeperVisit, hr, h, if_true]
  cases (s.tick dt).tbl.bank.get? (524288 * bank + (s.tick dt).tbl.sweep.toList.getD bank 0) <;> rfl

/-- A sweeper past the ways visits the entry in its slot of the stash, if any (R294). -/
theorem exec_sweeperVisit_stash (h : ¬ n < 524288) : exec (.sweeperVisit dt bank) s = .next
    ((t.tbl.stash.get? (64 * bank + (n - 524288))).elim (t.sweepOn bank)
      ((t.sweepOn bank).sweepEntry bank (.stash (64 * bank + (n - 524288))))) := by
  subst ht hn
  simp only [exec, execSweeperVisit, hr, h, if_true, if_false]
  cases (s.tick dt).tbl.stash.get? (64 * bank + ((s.tick dt).tbl.sweep.toList.getD bank 0 - 524288)) <;> rfl

end

/-- A visit ages an entry: a stale kind P entry goes, a hit is taken back, and without a hit the second visit removes it (R294). -/
theorem State.sweepEntry_eq (u : State) (bank : Nat) (pos : BankPos) (e : FlowEntry) : u.sweepEntry bank pos e =
    if e.kind = 1 ∧ e.epoch ≠ u.epochOf e.mapIndex then (u.dropEntry pos).bumpSat Fld.TBL_FC_AGED_count bank 1
    else if e.hit = true then u.putEntry pos { e with hit := false, strike := false }
    else if e.strike = true then (u.dropEntry pos).bumpSat Fld.TBL_FC_AGED_count bank 1
    else u.putEntry pos { e with strike := true } := by
  simp only [State.sweepEntry, Bool.and_eq_true, beq_iff_eq, bne_iff_ne, Bool.not_eq_true', ← Bool.not_eq_true, ite_not]

/-- Settles O35: each engine's conditions leave one action on its bank, and the sweeper's slot lies in the ways or in the stash. -/
theorem learnAndSweepComplete : Obligations.LearnAndSweepComplete := by
  refine ⟨?_, ?_, ?_, ?_⟩
  · rintro dt bank e r s t rfl hq hr
    exact exec_learnInsert hq hr
  · rintro dt bank k e s t rfl hf hr hq
    split
    next u hp => exact exec_stashReinsert_placed hf hr hq hp
    next v u hp => exact exec_stashReinsert_displaces hf hr hq hp
  · rintro dt bank n s t u ht hr hn rfl
    split
    next h =>
      rw [exec_sweeperVisit_way ht hr hn h, hn]
      cases t.tbl.bank.get? (524288 * bank + t.tbl.sweep.toList.getD bank 0) <;> rfl
    next h =>
      rw [exec_sweeperVisit_stash ht hr hn h, hn]
      cases t.tbl.stash.get? (64 * bank + (t.tbl.sweep.toList.getD bank 0 - 524288)) <;> rfl
  · intro bank pos e u
    exact u.sweepEntry_eq bank pos e

end Sys2Proof.Machine
end

section
/-! PROOFS. Entropy: blocks that fail, restarts, known-answer tests, and the entropy test mode. -/

namespace Sys2Proof.Machine

/-! ## The events of Sirocco and of the test mode (R300, R301, R309 to R311) -/

theorem exec_entropyBlock {s : State} {dt : Nat} (samples kat : Nat) (sampling sampled : List Nat) (h : (s.tick dt).siroccoRuns = true) :
    exec (.entropyBlock dt samples sampling sampled kat) s = .next ((s.tick dt).entropyBlock samples (ringsOf sampling sampled) kat) :=
  if_pos h

theorem exec_siroccoRestartDone {s : State} {dt : Nat} (h : (s.tick dt).siroccoRuns = true) (hd : (s.tick dt).rng.discard = 0)
    (hr : (s.tick dt).flag Fld.RNG_STATUS_running 0 = false) :
    exec (.siroccoRestartDone dt) s = .next (((s.tick dt).fset Fld.RNG_STATUS_running 0 1).fset Fld.RNG_CTRL_restart 0 0) :=
  if_pos (by simp only [h, hd, hr, decide_true, Bool.not_false, Bool.and_self])

/-- A restart that is asked for begins unless the fatal alarm stands (R301). -/
theorem State.askRestart_begins {t : State} (h : t.flag Fld.RNG_STATUS_fatal 0 = false) :
    t.askRestart = t.restartSirocco.fset Fld.RNG_CTRL_restart 0 1 :=
  if_neg (by simp [h])

/-- A known-answer test is repeated once the calls have come to 65,536, and its outcome decides (R309). -/
theorem exec_drbgKatRepeat {s t : State} {dt n : Nat} (ht : t = s.tick dt) (hn : n < 4) (hc : 65536 ≤ t.rng.calls.getD n 0) (pass : Bool) :
    exec (.drbgKatRepeat dt n pass) s =
      if pass then .next { t with rng := { t.rng with calls := t.rng.calls.erase n } } else .next (t.katFails n) := by
  subst ht
  exact if_pos (by simp only [hn, hc, decide_true, Bool.and_self])

section
variable {t : State} {m : Master} (hm : t.masterOpen m = false)
include hm

/-- The secure world enters the test mode where R310 permits it. -/
theorem State.askTest_enters (ha : t.testAllowed = true) (ht : t.flag Fld.RNG_STATUS_test 0 = false) : t.askTest m = t.enterTest := by
  simp [State.askTest, hm, ha, ht]

/-- Elsewhere its write is reported (R310). -/
theorem State.askTest_reported (ha : t.testAllowed = false) : t.askTest m = t.report m .write rngTestAddr 0x09 0xFFFF := by
  simp [State.askTest, hm, ha]

/-- In FACTORY, with the test mode asked for, the secure world sets the pattern, which begins with no half of a seed (R311). -/
theorem State.askPattern_sets (hl : t.lc = 1) (he : t.flag Fld.RNG_TEST_enable 0 = true) {u : State}
    (hu : u = (t.fset Fld.RNG_STATUS_pattern 0 1).fset Fld.RNG_TEST_pattern 0 1) :
    t.askPattern m = { u with rng := { u.rng with half := false, patterns := 0 } } := by
  subst hu
  simp [State.askPattern, hm, hl, he]

/-- Outside FACTORY its write is reported (R311). -/
theorem State.askPattern_reported (hl : t.lc ≠ 1) : t.askPattern m = t.report m .write rngTestAddr 0x09 0xFFFF := by
  simp [State.askPattern, hm, hl]

end

theorem exec_entropyTestModeExit {s : State} {dt : Nat} (h : (s.tick dt).flag Fld.RNG_STATUS_test 0 = true) :
    exec (.entropyTestModeExit dt) s = .next (s.tick dt).leaveTest :=
  if_pos h

section
variable {s t : State} {dt : Nat} (ht : t = s.tick dt)
include ht

/-- A read takes the oldest word of the FIFO in test mode (R310). -/
theorem exec_rngRawRead_word {w : Nat} {rest : List Nat} (hf : t.rng.fifo = w :: rest) (he : t.flag Fld.RNG_STATUS_test 0 = true) :
    exec (.rngRawRead dt) s = .next (State.emit { t with rng := { t.rng with fifo := rest } } (.readData 0x42000108 w)) := by
  subst ht
  simp only [exec, execRngRawRead, hf, he, if_true]

/-- An empty FIFO gives zero (R310). -/
theorem exec_rngRawRead_empty (hf : t.rng.fifo = []) : exec (.rngRawRead dt) s = .next (t.emit (.readData 0x42000108 0)) := by
  subst ht
  simp only [exec, execRngRawRead, hf]

end

/-- Settles O40, event by event: the premises lead each command to its operation, and a write to RNG_TEST to its effect or to its report. -/
theorem entropyEventsComplete : Obligations.EntropyEventsComplete := by
  refine ⟨?_, ?_, ?_, ?_, ?_, ?_, ?_, ?_, ?_, ?_, ?_⟩
  · intro dt samples kat sampling sampled s h
    exact exec_entropyBlock samples kat sampling sampled h
  · intro dt s h hd hr
    exact exec_siroccoRestartDone h hd hr
  · intro dt s h
    exact congrArg Host.Outcome.next (State.askRestart_begins h)
  · intro dt n s t ht hn hc
    exact ⟨exec_drbgKatRepeat ht hn hc true, exec_drbgKatRepeat ht hn hc false⟩
  · rintro dt m s t rfl hm ha ht
    exact congrArg Host.Outcome.next (State.askTest_enters hm ha ht)
  · rintro dt m s t rfl hm ha
    exact congrArg Host.Outcome.next (State.askTest_reported hm ha)
  · intro dt s h
    exact exec_entropyTestModeExit h
  · rintro dt m s t u rfl hm hl he hu
    exact congrArg Host.Outcome.next (State.askPattern_sets hm hl he hu)
  · rintro dt m s t rfl hm hl
    exact congrArg Host.Outcome.next (State.askPattern_reported hm hl)
  · intro dt w rest s t ht hf he
    exact exec_rngRawRead_word ht hf he
  · intro dt s t ht hf
    exact exec_rngRawRead_empty ht hf

/-! ## What events and records leave of the registers (R394, R397, R430 to R435) -/

/-- A read of a register does not see Sirocco's unit. -/
@[simp] theorem State.fget_setRng (s : State) (g : RngUnit) (f : Fld) (i : Nat) : ({ s with rng := g } : State).fget f i = s.fget f i := rfl

/-- A record of the recorder leaves the registers (R430 to R432). -/
theorem State.makeRecord_regs (s : State) (code island detail : Nat) : (s.makeRecord code island detail).regs = s.regs := by
  unfold State.makeRecord
  dsimp only
  repeat' split
  all_goals rfl

/-- An event may begin a flush, which REC_CTRL shows, and leaves every other register (R435). -/
theorem State.event_fget (s : State) (code island detail : Nat) {f : Fld} (h : f.reg ≠ .REC_CTRL) :
    (s.event code island detail).fget f 0 = s.fget f 0 := by
  have record := State.fget_congr (s.makeRecord_regs code island detail) f 0
  unfold State.event
  dsimp only
  split
  · split
    · exact (State.fget_fset_reg_ne _ _ _ h).trans record
    · exact record
  · rfl

/-- A staged record leaves every register but the count of the merged ones (R397). -/
theorem State.stage_fget (s : State) (b : Bytes) {f : Fld} (h : f.reg ≠ .GNT_STAGE) : (s.stage b).fget f 0 = s.fget f 0 := by
  unfold State.stage
  dsimp only
  split
  · rfl
  · split
    · rw [State.raiseIrq_fget, State.bumpSat, State.fget_fset_reg_ne _ _ _ h]
      rfl
    · rfl

/-- The registers that the making of a record of evidence writes (R394). -/
def evidenceRegs : List RegName := [.GNT_STAGE, .GNT_LAST, .REC_CTRL]

theorem State.evidence_fget (s : State) (typ cls detail : Nat) (union : Bool) {f : Fld} (h : f.reg ∉ evidenceRegs) :
    (s.evidence typ cls detail union).fget f 0 = s.fget f 0 := by
  obtain ⟨hs, hl, hr⟩ : f.reg ≠ .GNT_STAGE ∧ f.reg ≠ .GNT_LAST ∧ f.reg ≠ .REC_CTRL := by simpa [evidenceRegs] using h
  have shown : ∀ w : Word, ((s.stage (s.evidenceBody typ cls detail union)).setReg .GNT_LAST 0 w).fget f 0 = s.fget f 0 :=
    fun w => (State.fget_setReg_apart _ 0 w hl).trans (s.stage_fget _ hs)
  unfold State.evidence
  dsimp only
  split
  · split
    · rw [State.raiseIrq_fget, State.event_fget _ _ _ _ hr, shown]
    · rw [State.event_fget _ _ _ _ hr, shown]
  · exact shown _

/-! ## Zeroizing, the fatal alarm and the restart (R300, R301) -/

/-- Zeroizing takes every DRBG out of service and empties the seed buffer; of the other registers it writes RNG_DRBG alone. -/
theorem State.rngZeroize_fget (s : State) {f : Fld} (h : f.reg ≠ .RNG_DRBG) :
    s.rngZeroize.fget f 0 = ((s.fset Fld.RNG_STATUS_inst 0 0).fset Fld.RNG_SEEDS_avail 0 0).fget f 0 := by
  unfold State.rngZeroize
  rw [State.fget_setRng]
  refine List.foldlRecOn (List.range 4) (fun (t : State) n => t.setReg .RNG_DRBG n 0) 
    (motive := fun t => t.fget f 0 = ((s.fset Fld.RNG_STATUS_inst 0 0).fset Fld.RNG_SEEDS_avail 0 0).fget f 0) rfl ?_
  intro t ht n hn
  have hn : n < 4 := List.mem_range.mp hn
  exact (congrArg (wordField · f.hi f.lo) (t.reg_setReg_ne 0 (by omega) (by decide) (.inl h))).trans ht

/-- The registers that the fatal alarm writes beside RNG_STATUS and RNG_SEEDS. -/
def fatalRegs : List RegName := .RNG_DRBG :: .RNG_CTRL :: evidenceRegs

/-- The fatal alarm sets `fatal`, ends `running`, and leaves no DRBG in service and no seed (R301). -/
theorem State.entropyFatal_fget (s : State) {f : Fld} (h : f.reg ∉ fatalRegs) : s.entropyFatal.fget f 0 =
    ((((s.fset Fld.RNG_STATUS_fatal 0 1).fset Fld.RNG_STATUS_running 0 0).fset Fld.RNG_STATUS_inst 0 0).fset Fld.RNG_SEEDS_avail 0 0).fget f 0 := by
  obtain ⟨hd, hc, he⟩ : f.reg ≠ .RNG_DRBG ∧ f.reg ≠ .RNG_CTRL ∧ f.reg ∉ evidenceRegs := by simpa [fatalRegs] using h
  unfold State.entropyFatal
  rw [State.evidence_fget _ _ _ _ _ he, State.fget_fset_reg_ne _ _ _ hc, State.rngZeroize_fget _ hd]

theorem State.entropyFatal_status (s : State) : s.entropyFatal.fget Fld.RNG_STATUS_fatal 0 = 1 ∧
    s.entropyFatal.fget Fld.RNG_STATUS_running 0 = 0 ∧ s.entropyFatal.fget Fld.RNG_STATUS_inst 0 = 0 ∧
    s.entropyFatal.fget Fld.RNG_SEEDS_avail 0 = 0 := by
  simp (disch := decide) only [State.entropyFatal_fget, State.fget_fset, State.fget_fset_apart, State.fget_fset_reg_ne]
  decide

/-- A restart ends `running` and leaves the instances and the seeds (R300). -/
theorem State.restartSirocco_status (s : State) : s.restartSirocco.fget Fld.RNG_STATUS_running 0 = 0 ∧
    s.restartSirocco.fget Fld.RNG_STATUS_inst 0 = s.fget Fld.RNG_STATUS_inst 0 ∧
    s.restartSirocco.fget Fld.RNG_SEEDS_avail 0 = s.fget Fld.RNG_SEEDS_avail 0 := by
  unfold State.restartSirocco
  simp (disch := decide) only [State.fget_fset, State.fget_fset_apart, State.fget_fset_reg_ne, State.fget_setRng]
  decide

/-! ## A failed block (R299 to R301) -/

/-- Device times of the failed blocks of the last 10 s (R301). -/
def State.recentFails (s : State) : List Nat := s.rng.fails.filter (fun x => decide (s.now ≤ x + 10000000000))

/-- The state in which a failure has been reported, and its time has joined those of the last 10 s (R300, R301). -/
def State.noteFailure (s : State) (test : Nat) : State :=
  { s.entropyEvent test 0 with rng := { s.rng with fails := s.now :: s.recentFails } }

/-- A failed block ends in the fatal alarm where it is the fourth of the last 10 s, and in a restart elsewhere. -/
theorem State.blockFails_eq (s : State) (test : Nat) : s.blockFails test =
    if 3 ≤ s.recentFails.length then (s.noteFailure test).entropyFatal else (s.noteFailure test).restartSirocco := by
  simp [State.blockFails, State.noteFailure, State.recentFails, State.entropyEvent]

theorem State.noteFailure_fget (s : State) (test : Nat) {f : Fld} (h : f.reg ≠ .REC_CTRL) :
    (s.noteFailure test).fget f 0 = s.fget f 0 :=
  (State.fget_setRng _ _ f 0).trans (s.event_fget _ _ _ h)

section
variable {s : State} (test : Nat)

/-- The fourth failure within 10 s sets the fatal alarm, with no seed and no DRBG left (R301). -/
theorem State.blockFails_fourth (h : 3 ≤ s.recentFails.length) : (s.blockFails test).fget Fld.RNG_STATUS_fatal 0 = 1 ∧
    (s.blockFails test).fget Fld.RNG_STATUS_running 0 = 0 ∧ (s.blockFails test).fget Fld.RNG_STATUS_inst 0 = 0 ∧
    (s.blockFails test).fget Fld.RNG_SEEDS_avail 0 = 0 := by
  rw [State.blockFails_eq, if_pos h]
  exact State.entropyFatal_status _

/-- An earlier failure restarts Sirocco, with the instances and the seeds as they were (R300). -/
theorem State.blockFails_earlier (h : s.recentFails.length < 3) : (s.blockFails test).fget Fld.RNG_STATUS_running 0 = 0 ∧
    (s.blockFails test).fget Fld.RNG_STATUS_inst 0 = s.fget Fld.RNG_STATUS_inst 0 ∧
    (s.blockFails test).fget Fld.RNG_SEEDS_avail 0 = s.fget Fld.RNG_SEEDS_avail 0 := by
  rw [State.blockFails_eq, if_neg (by omega), ← s.noteFailure_fget test (f := Fld.RNG_STATUS_inst) (by decide),
    ← s.noteFailure_fget test (f := Fld.RNG_SEEDS_avail) (by decide)]
  exact State.restartSirocco_status _

/-- A restart asks for four warm-up blocks, forgets the passed half of a seed, and keeps the time of the failure (R300, R301). -/
theorem State.blockFails_earlier_rng (h : s.recentFails.length < 3) :
    (s.blockFails test).rng.discard = 4 ∧ (s.blockFails test).rng.half = false ∧
      (s.blockFails test).rng.fails = s.now :: s.recentFails := by
  rw [State.blockFails_eq, if_neg (by omega)]
  exact ⟨rfl, rfl, rfl⟩

/-- No failed block adds a seed (R300). -/
theorem State.blockFails_seeds : (s.blockFails test).fget Fld.RNG_SEEDS_avail 0 ≤ s.fget Fld.RNG_SEEDS_avail 0 := by
  obtain h | h := Nat.lt_or_ge s.recentFails.length 3
  · obtain ⟨-, -, seeds⟩ := State.blockFails_earlier test h
    exact seeds.le
  · obtain ⟨-, -, -, seeds⟩ := State.blockFails_fourth test h
    exact seeds.trans_le (Nat.zero_le _)

/-- No failed block instantiates a DRBG (R300, R308). -/
theorem State.blockFails_instances {n : Nat} (hn : bit ((s.blockFails test).fget Fld.RNG_STATUS_inst 0) n = true) :
    bit (s.fget Fld.RNG_STATUS_inst 0) n = true := by
  obtain h | h := Nat.lt_or_ge s.recentFails.length 3
  · obtain ⟨-, inst, -⟩ := State.blockFails_earlier test h
    rwa [inst] at hn
  · obtain ⟨-, -, inst, -⟩ := State.blockFails_fourth test h
    rw [inst, bit, Nat.zero_testBit] at hn
    cases hn

end

/-! ## The findings of a block (R299, R300) -/

/-- The failures of a block are counted in registers, which leaves the time and Sirocco's unit. -/
@[simp] theorem State.countTests_now (s : State) (r : Run) (samples dead locked : Nat) :
    (s.countTests r samples dead locked).now = s.now := by
  simp only [State.countTests, apply_ite State.now, State.bumpSat_now, ite_self]

@[simp] theorem State.countTests_rng (s : State) (r : Run) (samples dead locked : Nat) :
    (s.countTests r samples dead locked).rng = s.rng := by
  simp only [State.countTests, apply_ite State.rng, State.bumpSat_rng, ite_self]

/-- A count that advances on a condition leaves every other register. -/
theorem State.fget_bumpSat_if (s : State) (c : Prop) [Decidable c] {f g : Fld} (i n : Nat) (h : f.reg ≠ g.reg) :
    (if c then s.bumpSat g i n else s).fget f i = s.fget f i := by
  split
  · exact State.fget_fset_reg_ne _ _ _ h
  · rfl

theorem State.countTests_fget (s : State) (r : Run) (samples dead locked : Nat) {f : Fld} (h : f.reg ≠ .RNG_HEALTH) :
    (s.countTests r samples dead locked).fget f 0 = s.fget f 0 := by
  unfold State.countTests
  dsimp only
  rw [State.fget_bumpSat_if _ _ _ _ h, State.fget_bumpSat_if _ _ _ _ h, State.fget_bumpSat_if _ _ _ _ h, State.fget_bumpSat_if _ _ _ _ h]

theorem State.notePairs_fget (s : State) (dead locked : Nat) {f : Fld} (ha : f.reg ≠ .RNG_ALIVE) (hl : f.reg ≠ .RNG_LOCKED) :
    (s.notePairs dead locked).fget f 0 = s.fget f 0 := by
  unfold State.notePairs
  rw [State.fget_fset_reg_ne _ _ _ hl, State.fget_fset_reg_ne _ _ _ ha]

/-- The number of the first test that a block of these samples and frequencies fails, or 0. -/
def State.verdict (s : State) (samples : Nat) (freqs : List Nat) : Nat :=
  blockTest (runOver ⟨s.rng.runBit, s.rng.runLen, false⟩ samples) samples (deadPairs s.rng.ref freqs) (lockTest s.rng freqs).2

/-- The state in which a block's findings are noted, before its verdict has an effect. -/
def State.noteBlock (s : State) (samples : Nat) (freqs : List Nat) : State :=
  let r := runOver ⟨s.rng.runBit, s.rng.runLen, false⟩ samples
  let dead := deadPairs s.rng.ref freqs
  let l := lockTest s.rng freqs
  let s := { s with rng := { s.rng with runBit := r.bit, runLen := r.len, locks := l.1, turn := (s.rng.turn + 1) % 31 } }
  (s.notePairs dead l.2).countTests r samples dead l.2

/-- The registers that hold a block's findings. -/
def findingRegs : List RegName := [.RNG_HEALTH, .RNG_ALIVE, .RNG_LOCKED]

section
variable (s : State) (samples : Nat) (freqs : List Nat)

theorem State.noteBlock_fget {f : Fld} (h : f.reg ∉ findingRegs) : (s.noteBlock samples freqs).fget f 0 = s.fget f 0 := by
  obtain ⟨hh, ha, hl⟩ : f.reg ≠ .RNG_HEALTH ∧ f.reg ≠ .RNG_ALIVE ∧ f.reg ≠ .RNG_LOCKED := by simpa [findingRegs] using h
  unfold State.noteBlock
  rw [State.countTests_fget _ _ _ _ _ hh, State.notePairs_fget _ _ _ ha hl, State.fget_setRng]

/-- The findings of a block leave the time and the failures before it. -/
theorem State.noteBlock_frame : (s.noteBlock samples freqs).now = s.now ∧ (s.noteBlock samples freqs).rng.fails = s.rng.fails := by
  simp only [State.noteBlock, State.countTests_now, State.countTests_rng, State.notePairs, State.fset_now, State.fset_rng, and_self]

theorem State.noteBlock_recentFails : (s.noteBlock samples freqs).recentFails = s.recentFails := by
  obtain ⟨now, fails⟩ := s.noteBlock_frame samples freqs
  unfold State.recentFails
  rw [now, fails]

/-- A block in service that fails a test is never conditioned: its findings are noted and it is counted as a failure (R300). -/
theorem State.entropyBlock_fails (kat : Nat) (hp : s.flag Fld.RNG_STATUS_pattern 0 = false) (ht : s.flag Fld.RNG_STATUS_test 0 = false)
    (hv : s.verdict samples freqs ≠ 0) :
    s.entropyBlock samples freqs kat = (s.noteBlock samples freqs).blockFails (s.verdict samples freqs) := by
  have service : (s.noteBlock samples freqs).flag Fld.RNG_STATUS_test 0 = false := by
    rw [State.flag, State.noteBlock_fget _ _ _ (by decide)]
    exact ht
  have verdict : s.entropyBlock samples freqs kat =
      if (s.noteBlock samples freqs).flag Fld.RNG_STATUS_test 0 then (s.noteBlock samples freqs).rawBlock samples (s.verdict samples freqs)
      else if s.verdict samples freqs = 0 then ((s.noteBlock samples freqs).blockPasses kat).noteRef
        ((s.noteBlock samples freqs).flag Fld.RNG_STATUS_startup_done 0) freqs
      else (s.noteBlock samples freqs).blockFails (s.verdict samples freqs) := by
    unfold State.entropyBlock
    simp only [hp, Bool.false_eq_true, if_false]
    rfl
  rw [verdict, service, if_neg Bool.false_ne_true, if_neg hv]

end

/-! ## What makes a block fail (R299) -/

/-- A block passes where none of the four tests finds anything. -/
theorem blockTest_eq_zero_iff (r : Run) (samples dead locked : Nat) :
    blockTest r samples dead locked = 0 ↔ r.hit = false ∧ firstCount samples < 794 ∧ dead = 0 ∧ locked = 0 := by
  unfold blockTest
  split_ifs with hit apt hd hl
  · simp [hit]
  · simp [Nat.not_lt.mpr apt]
  · simp [bne_iff_ne.mp hd]
  · simp [bne_iff_ne.mp hl]
  · simp_all

/-- The bits of a mask that collects the members of a list that pass a test. -/
theorem testBit_foldl_mask (c : Nat → Bool) (l : List Nat) (a j : Nat) :
    (l.foldl (fun a p => if c p then a ||| 2 ^ p else a) a).testBit j = (a.testBit j || (l.contains j && c j)) := by
  induction l generalizing a with
  | nil => simp
  | cons p l ih =>
    rw [List.foldl_cons, ih]
    by_cases hp : j = p
    · subst hp
      cases c j <;> simp
    · have hne : p ≠ j := fun e => hp e.symm
      cases c p <;> simp [hp, hne]

/-- The mask of the dead pairs names a pair where one of its rings fails the liveness test against the reference (R299). -/
theorem testBit_deadPairs {ref freqs : List Nat} {pair : Nat} (hp : pair < 32) (hr : ref ≠ []) :
    (deadPairs ref freqs).testBit pair = (ringDead ref freqs pair 0 || ringDead ref freqs pair 1) := by
  unfold deadPairs
  rw [if_neg (by simpa using hr), testBit_foldl_mask (fun p => ringDead ref freqs p 0 || ringDead ref freqs p 1)]
  simp [hp]

theorem ringDead_iff {ref freqs : List Nat} {pair ring : Nat} : ringDead ref freqs pair ring = true ↔
    2 * ringFreq freqs pair ring < ringFreq ref pair ring ∨ 2 * ringFreq ref pair ring < ringFreq freqs pair ring := by
  simp [ringDead]

/-- One dead ring of a pair makes a mask of dead pairs that is not empty. -/
theorem deadPairs_ne_zero {ref freqs : List Nat} {pair ring : Nat} (hp : pair < 32) (hg : ring < 2) (hr : ref ≠ [])
    (hd : ringDead ref freqs pair ring = true) : deadPairs ref freqs ≠ 0 := by
  have named : (deadPairs ref freqs).testBit pair = true := by
    rw [testBit_deadPairs hp hr, Bool.or_eq_true]
    obtain rfl | rfl : ring = 0 ∨ ring = 1 := by omega
    · exact .inl hd
    · exact .inr hd
  intro e
  rw [e, Nat.zero_testBit] at named
  cases named

/-- Settles O41: a failed block goes to State.blockFails, which ends in the alarm or in a restart; the tests' findings are what State.verdict reads. -/
theorem failedEntropyBlockNeverConditioned : Obligations.FailedEntropyBlockNeverConditioned := by
  refine ⟨?_, ?_, ?_⟩
  · rintro s t samples kat freqs rfl hp ht hv
    have fget {f : Fld} := s.noteBlock_fget samples freqs (f := f)
    have recent := s.noteBlock_recentFails samples freqs
    obtain ⟨now, -⟩ := s.noteBlock_frame samples freqs
    rw [s.entropyBlock_fails samples freqs kat hp ht hv]
    refine ⟨?_, ?_, ?_, ?_⟩
    · exact (State.blockFails_seeds _).trans_eq (fget (by decide))
    · intro n _ hn
      have inst := State.blockFails_instances _ hn
      rwa [fget (by decide)] at inst
    · intro h
      have fourth : 3 ≤ (s.noteBlock samples freqs).recentFails.length := by rwa [recent]
      obtain ⟨fatal, running, -, -⟩ := State.blockFails_fourth (s.verdict samples freqs) fourth
      exact ⟨by rw [State.flag, fatal]; rfl, by rw [State.flag, running]; rfl⟩
    · intro h
      have earlier : (s.noteBlock samples freqs).recentFails.length < 3 := by rwa [recent]
      obtain ⟨running, -, -⟩ := State.blockFails_earlier (s.verdict samples freqs) earlier
      obtain ⟨discard, half, fails⟩ := State.blockFails_earlier_rng (s.verdict samples freqs) earlier
      rw [recent, now] at fails
      exact ⟨discard, by rw [State.flag, running]; rfl, half, fails⟩
  · intro r samples dead locked h e
    obtain ⟨hit, first, hd, hl⟩ := (blockTest_eq_zero_iff r samples dead locked).mp e
    obtain h | h | h | h := h
    · exact Bool.false_ne_true (hit.symm.trans h)
    · exact absurd h (Nat.not_le.mpr first)
    · exact h hd
    · exact h hl
  · intro ref freqs pair ring hp hg hr h
    exact deadPairs_ne_zero hp hg hr (ringDead_iff.mpr h)

end Sys2Proof.Machine
end

section
/-! PROOFS. The worlds of the command pairs, the assignment lock and the power of the islands (R313 to R336). -/

namespace Sys2Proof.Machine

/-! ## Rule writes and the assignment lock (R322, R333, R334) -/

theorem exec_ruleWrite_discards {s t : State} {dt addr value : Nat} {m : Master} {r : RegRef} (ht : t = s.tick dt)
    (ha : internalReg addr = some r) (hr : isRule r.name = true) (hm : t.masterOpen m = false)
    (hw : t.ruleWrite r (BitVec.ofNat 64 value) = none) :
    exec (.ruleWrite dt m addr value) s = .next (t.report m .write addr 0x0A 0xFFFF) := by
  subst ht
  simp only [exec, execRuleWrite, ha, hr, hm, hw, Bool.not_true, Bool.false_eq_true, if_false]

theorem exec_ruleWrite_acks {s t u : State} {dt addr value : Nat} {m : Master} {r : RegRef} (ht : t = s.tick dt)
    (ha : internalReg addr = some r) (hr : isRule r.name = true) (hm : t.masterOpen m = false)
    (hw : t.ruleWrite r (BitVec.ofNat 64 value) = some u) : exec (.ruleWrite dt m addr value) s = .next (u.emit (.ack addr)) := by
  subst ht
  simp only [exec, execRuleWrite, ha, hr, hm, hw, Bool.not_true, Bool.false_eq_true, if_false]

theorem wordField_ofNat_zero (value : Nat) : wordField (BitVec.ofNat 64 value) 0 0 = value % 2 := by
  simp only [wordField, bits, BitVec.toNat_ofNat, Nat.shiftRight_zero]
  omega

section
variable {s : State} {r : RegRef} {v : Word}

theorem State.ruleWrite_per_locked (hn : r.name = .WLD_PER) (hl : s.flag Fld.WLD_LOCK_assign_lock 0 = true) : s.ruleWrite r v = none := by
  simp [State.ruleWrite, hn, hl]

theorem State.ruleWrite_irq_locked (hn : r.name = .WLD_IRQ) (hl : s.flag Fld.WLD_LOCK_assign_lock 0 = true) : s.ruleWrite r v = none := by
  simp [State.ruleWrite, hn, hl]

theorem State.ruleWrite_island_locked (hn : r.name = .WLD_ISLAND) (hi : islandAssigned r.index = true)
    (hl : s.flag Fld.WLD_LOCK_assign_lock 0 = true) (hv : wordField v 0 0 ≠ s.fget Fld.WLD_ISLAND_world r.index) :
    s.ruleWrite r v = none := by
  simp [State.ruleWrite, hn, hi, hl, hv]

theorem State.ruleWrite_dbg_locked (hn : r.name = .WLD_DBG) (hl : s.flag Fld.WLD_LOCK_dbg_lock 0 = true) : s.ruleWrite r v = none := by
  simp [State.ruleWrite, hn, hl]

/-- A permitted rule write changes nothing, or one register, which is none of the locks. -/
theorem State.ruleWrite_some {t : State} (h : s.ruleWrite r v = some t) :
    t = s ∨ r.name ≠ .WLD_LOCK ∧ ∃ w : Word, t = s.setReg r.name r.index w := by
  obtain ⟨n, i⟩ := r
  unfold State.ruleWrite at h
  dsimp only at h
  split at h
  all_goals
    repeat' split at h
    all_goals cases h
  any_goals exact .inl rfl
  all_goals exact .inr ⟨nofun, _, rfl⟩

end

/-- Settles O45: under a lock State.ruleWrite answers none for the registers named, and a write that it permits changes one register, never
that of the locks. -/
theorem assignmentLockHolds : Obligations.AssignmentLockHolds := by
  refine ⟨fun dt s => ⟨rfl, rfl⟩, ?_, ?_, ?_, ?_⟩
  · intro dt addr value m r s t ht ha hm hl hr
    obtain hn | ⟨hn, -⟩ | ⟨hn, hi, hv⟩ := hr
    · exact exec_ruleWrite_discards ht ha (by rw [hn]; rfl) hm (State.ruleWrite_per_locked hn hl)
    · exact exec_ruleWrite_discards ht ha (by rw [hn]; rfl) hm (State.ruleWrite_irq_locked hn hl)
    · exact exec_ruleWrite_discards ht ha (by rw [hn]; rfl) hm
        (State.ruleWrite_island_locked hn hi hl (by rwa [wordField_ofNat_zero]))
  · intro dt addr value m r s t ht ha hm hl hn
    exact exec_ruleWrite_discards ht ha (by rw [hn]; rfl) hm (State.ruleWrite_dbg_locked hn hl)
  · intro dt addr value m r s t u ht ha hr hm hw
    exact exec_ruleWrite_acks ht ha hr hm hw
  · intro r v s t h hi
    obtain rfl | ⟨hn, w, rfl⟩ := State.ruleWrite_some h
    · rfl
    · exact State.reg_setReg_ne s w hi (by decide) (.inl (Ne.symm hn))

/-! ## World calls and the monitor functions (R313 to R318) -/

@[simp] theorem State.pairOf_setPair (s : State) (n : Nat) (w : PairWorld) : (s.setPair n w).pairOf n = w := by
  simp [State.pairOf, State.setPair]

theorem exec_wcallFromOpen {s t : State} {dt pair : Nat} (ht : t = s.tick dt) (hp : pair < 8) (hw : (t.pairOf pair).world = true)
    (imm nextPc : Nat) (g : List Nat) : exec (.wcallFromOpen dt pair imm nextPc g) s =
      .next (t.setPair pair { (t.pairOf pair).enter 0x01 nextPc with warg := imm % 2 ^ 16, g := gRegs g }) := by
  subst ht
  simp [exec, execWcallFromOpen, hp, hw]

theorem exec_wcallFromSecure {s t : State} {dt pair : Nat} {w : PairWorld} {g : List Nat} (ht : t = s.tick dt) (hp : pair < 8)
    (hw : (t.pairOf pair).world = false) (ho : t.openHere pair = true)
    (he : w = (t.pairOf pair).leave ((t.pairOf pair).results g)) : exec (.wcallFromSecure dt pair g) s =
      .next (((t.deliverIrqs (t.pairOf pair).irqPending).setPair pair
        { w with wcause := if (t.pairOf pair).halted then 0x03 else (t.pairOf pair).wcause }).resolveHalt pair) := by
  subst ht he
  simp [exec, execWcallFromSecure, hp, hw, ho]

/-- Without a pending halt request, the open world meets none (R336). -/
theorem State.resolveHalt_none {s : State} {pair : Nat} (h : (s.pairOf pair).haltPending = false) : s.resolveHalt pair = s := by
  simp [State.resolveHalt, h]

/-- The registers above g7 are cleared on the way to the open world (R314). -/
theorem gRegs_take_zero (g : List Nat) {i : Nat} (h : 8 ≤ i) : (gRegs (g.take 8)).getD i 0 = 0 := by
  have none : (g.take 8)[i]? = none := List.getElem?_eq_none (by rw [List.length_take]; omega)
  by_cases hi : i < 32
  · simp [gRegs, Vector.getD, hi, List.getD, none]
  · simp [Vector.getD, hi]

theorem exec_secureInterrupt {s t : State} {dt pair source : Nat} (ht : t = s.tick dt) (hp : pair < 8) (hw : (t.pairOf pair).world = true)
    (ha : irqAssigned source = true) (h0 : t.irqWorld source = 0) (hk : t.takesIrq source pair = true) (pc : Nat) :
    exec (.secureInterrupt dt pair source pc) s =
      .next { t.setPair pair ((t.pairOf pair).enter 0x02 pc) with
        wld := { (t.setPair pair ((t.pairOf pair).enter 0x02 pc)).wld with
          irqs := (t.setPair pair ((t.pairOf pair).enter 0x02 pc)).wld.irqs.filter (· != source) } } := by
  subst ht
  simp [exec, execSecureInterrupt, hp, hw, ha, h0, hk]

theorem exec_msgSend_queues {s t : State} {dt pair : Nat} (ht : t = s.tick dt) (hc : t.inCall pair 1 = true)
    (hb : t.bufferOk .read ((t.pairOf pair).getG 1) ((t.pairOf pair).getG 2) = true) (h1 : 1 ≤ (t.pairOf pair).getG 2)
    (h4 : (t.pairOf pair).getG 2 ≤ 4096) (hq : t.wld.toSecure.length < 64) (data : Bytes) : exec (.msgSend dt pair data) s =
      .next { t.setPair pair ((t.pairOf pair).setG 0 0) with
        wld := { (t.setPair pair ((t.pairOf pair).setG 0 0)).wld with
          toSecure := (t.setPair pair ((t.pairOf pair).setG 0 0)).wld.toSecure ++ [fitLen ((t.pairOf pair).getG 2) data] } } := by
  subst ht
  have len : ¬ ((((s.tick dt).pairOf pair).getG 2 = 0 || 4096 < ((s.tick dt).pairOf pair).getG 2) = true) := by simp; omega
  simp only [exec, execMsgSend]
  rw [if_pos hc, if_neg (by simp [hb]), if_neg len, if_neg (by omega)]

theorem exec_msgSend_noBuffer {s t : State} {dt pair : Nat} (ht : t = s.tick dt) (hc : t.inCall pair 1 = true)
    (hb : t.bufferOk .read ((t.pairOf pair).getG 1) ((t.pairOf pair).getG 2) = false) (data : Bytes) :
    exec (.msgSend dt pair data) s = .next (t.bufferFail pair .read ((t.pairOf pair).getG 1)) := by
  subst ht
  simp [exec, execMsgSend, hc, hb]

theorem exec_msgRecv_message {s t u : State} {dt pair : Nat} {msg : Bytes} {rest : List Bytes} (ht : t = s.tick dt)
    (hc : t.inCall pair 2 = true) (hb : t.bufferOk .write ((t.pairOf pair).getG 1) ((t.pairOf pair).getG 2) = true)
    (hm : t.wld.toOpen = msg :: rest)
    (hu : u = State.setPair { t with wld := { t.wld with toOpen := rest } } pair ((t.pairOf pair).setG 0 msg.length)) :
    exec (.msgRecv dt pair) s = .next (if msg.length ≤ (t.pairOf pair).getG 2 then
      u.memoryStore pair none ((t.pairOf pair).getG 1) msg else u) := by
  subst ht hu
  simp only [exec, execMsgRecv]
  rw [if_pos hc, if_neg (by simp [hb])]
  simp only [hm]

/-- Settles O44: each command finds its branch under the premises, and what it leaves is read off the pair that it writes. -/
theorem worldCallsSwitchWorld : Obligations.WorldCallsSwitchWorld := by
  refine ⟨?_, ?_, ?_, ?_, ?_, ?_, ?_, ?_, ?_⟩
  · intro dt pair imm nextPc g s hp hw
    refine ⟨_, exec_wcallFromOpen rfl hp hw imm nextPc g, ?_⟩
    rw [State.pairOf_setPair]
    exact ⟨rfl, rfl, rfl, rfl, rfl, rfl, rfl⟩
  · intro dt pair g s hp hw ho hh hd
    refine ⟨_, exec_wcallFromSecure rfl hp hw ho rfl, ?_⟩
    rw [State.resolveHalt_none (by rw [State.pairOf_setPair]; exact hh), State.pairOf_setPair]
    exact ⟨rfl, rfl, rfl, fun i h8 _ => gRegs_take_zero _ h8, rfl, rfl⟩
  · rintro dt pair source pc s t u ht hp hw ha h0 hk rfl
    exact exec_secureInterrupt ht hp hw ha h0 hk pc
  · rintro dt pair msgs s t u rfl hc rfl
    exact if_pos hc
  · rintro dt pair a len data s t u ht hc rfl rfl hb h1 h4 hq rfl
    exact exec_msgSend_queues ht hc hb h1 h4 hq data
  · intro dt pair data s t ht hc hb
    exact exec_msgSend_noBuffer ht hc hb data
  · intro dt pair msg rest s t u ht hc hb hm hu
    exact exec_msgRecv_message ht hc hb hm hu
  · rintro dt pair s t rfl hc
    exact if_pos hc
  · intro dt n s hn
    exact if_pos hn

/-! ## The power of the islands and the debug halt (R323 to R327, R331, R336) -/

theorem exec_islandGated {s t : State} {dt n : Nat} (ht : t = s.tick dt) (hp : t.fget Fld.WLD_ISLAND_pwr n = 3)
    (hh : t.islandHeld n = false) (hr : t.fget Fld.WLD_ISLAND_req n ≠ 0) (hf : t.islandFree n = true) :
    exec (.islandGated dt n) s = .next (if islandConfigurable n then
      t.netOff n (t.fget Fld.WLD_ISLAND_req n) else t.fset Fld.WLD_ISLAND_pwr n (t.fget Fld.WLD_ISLAND_req n)) := by
  subst ht
  simp only [exec, execIslandGated, hp, hh, hf, beq_self_eq_true, Bool.not_false, Bool.and_self, if_true, Bool.not_true, Bool.or_false,
    beq_iff_eq, hr, if_false]
  split <;> rfl

theorem islandConfigurable_iff (n : Nat) : islandConfigurable n = true ↔ 0x10 ≤ n ∧ n ≤ 0x13 := by
  simp [islandConfigurable]

/-- Settles O46: each command finds its branch under the premises. -/
theorem islandPowerAndAccessReports : Obligations.IslandPowerAndAccessReports := by
  refine ⟨?_, ?_, ?_, ?_, ?_, ?_, ?_, ?_, ?_⟩
  · intro dt n v m s ha hv
    have small : v % 4 = v := Nat.mod_eq_of_lt (by omega)
    have valid : v ≠ 3 := by omega
    simp only [exec, execDevPwrReq, State.powerRequest, small, ha, valid, Bool.not_true, Bool.false_eq_true, if_false]
  · intro dt n v m s ha
    simp only [exec, execDevPwrReq, State.powerRequest, ha, Bool.not_false, if_true]
  · intro dt n v s h1 h2
    exact congrArg _ (if_pos ((islandConfigurable_iff n).mpr ⟨h1, h2⟩))
  · intro dt n v s h
    exact congrArg _ (if_neg (fun e => by have := (islandConfigurable_iff n).mp e; omega))
  · intro dt n s t ht hp hh hr hf
    exact exec_islandGated ht hp hh hr hf
  · rintro dt n s t rfl hp
    simp [exec, execIslandPoweredUp, State.poweredUp, hp]
  · rintro dt s t rfl
    rfl
  · rintro dt pair s t rfl hp hw
    simp only [exec, execDebugHaltRequest, hw, if_neg (Nat.not_le.mpr hp), if_true]
  · rintro dt pair s t rfl hp hw hs
    simp only [exec, execDebugHaltRequest, hw, hs, if_neg (Nat.not_le.mpr hp), Bool.false_eq_true, if_false]

end Sys2Proof.Machine
end

section
/-! PROOFS. The queue's front command, the resets, the supplies and the first boot phases (R345, R356 to R358, R382, R392). -/

namespace Sys2Proof.Machine

/-- Settles O1: a step with a command in front is exec of that command on the rest. -/
theorem stepRunsFrontCommand : Obligations.StepRunsFrontCommand := fun _ _ _ => rfl

/-- Settles O5: the empty log has no index and no gap. -/
theorem resetLogDense : Obligations.ResetLogDense := rfl

/-! ## Device resets (R345, R356) -/

/-- What each application of an operation keeps, its application along a list keeps. -/
theorem State.foldl_keeps {α β : Type} (g : State → β) {f : State → α → State} (h : ∀ (s : State) (a : α), g (f s a) = g s)
    (l : List α) (s : State) : g (l.foldl f s) = g s := by
  induction l generalizing s with
  | nil => rfl
  | cons a l ih => exact (ih (f s a)).trans (h s a)

/-- The state with other registers and another public-key unit. -/
def State.withRegsPke (t : State) (r : NMap Word) (p : PkeUnit) : State := { t with regs := r, pke := p }

@[simp] theorem State.setReg_withRegsPke (s : State) (n : RegName) (i : Nat) (w : Word) (r : NMap Word) (p : PkeUnit) :
    (s.setReg n i w).withRegsPke r p = s.withRegsPke r p := rfl

@[simp] theorem State.fset_withRegsPke (s : State) (f : Fld) (i v : Nat) (r : NMap Word) (p : PkeUnit) :
    (s.fset f i v).withRegsPke r p = s.withRegsPke r p := rfl

@[simp] theorem State.noteLifted_withRegsPke (s : State) (before after : Nat) (r : NMap Word) (p : PkeUnit) :
    (s.noteLifted before after).withRegsPke r p = s.withRegsPke r p := rfl

theorem State.gntSync_withRegsPke (s : State) (r : NMap Word) (p : PkeUnit) : s.gntSync.withRegsPke r p = s.withRegsPke r p := by
  unfold State.gntSync
  extract_lets held s1 s2 s3 s4 s5
  refine (State.foldl_keeps (State.withRegsPke · r p) (fun _ _ => ?_) _ s5).trans ?_
  · exact State.fset_withRegsPke _ _ _ _ r p
  · calc s5.withRegsPke r p = s4.withRegsPke r p := State.fset_withRegsPke s4 _ _ _ r p
      _ = s3.withRegsPke r p := State.fset_withRegsPke s3 _ _ _ r p
      _ = s2.withRegsPke r p := State.fset_withRegsPke s2 _ _ _ r p
      _ = s1.withRegsPke r p := State.setReg_withRegsPke s1 _ _ _ r p
      _ = s.withRegsPke r p := State.noteLifted_withRegsPke s _ _ r p

theorem State.withRegsPke_self (s : State) : s.withRegsPke s.regs s.pke = s := rfl

/-- The views of the conditions are registers, and the lift times of the islands. -/
theorem State.gntSync_frame (s : State) : ∃ (r : NMap Word) (p : PkeUnit), s.gntSync = s.withRegsPke r p :=
  ⟨_, _, s.gntSync.withRegsPke_self.symm.trans (s.gntSync_withRegsPke _ _)⟩

/-- No island's hold lifts where none was held. -/
theorem State.noteLifted_none (s : State) (after : Nat) : s.noteLifted 0 after = s := by
  have same : ∀ (l : List Nat) (m : NMap Nat),
      l.foldl (fun m n => if bit 0 n && !bit after n then m.insert n s.now else m) m = m := by
    intro l m
    induction l with
    | nil => rfl
    | cons n l ih =>
      have clear : bit 0 n = false := by simp [bit]
      rw [List.foldl_cons, clear]
      exact ih
  have keeps := same (List.range 64) s.pke.lifted
  unfold State.noteLifted
  rw [keeps]

theorem State.gntSync_unheld {s : State} (h : s.reg .GNT_HOLD 0 = 0) : s.gntSync.pke = s.pke := by
  unfold State.gntSync
  extract_lets held s1 s2 s3 s4 s5
  have unlifted : s1 = s := by
    unfold s1
    rw [h]
    exact s.noteLifted_none _
  exact (State.foldl_keeps (·.pke) (fun _ _ => State.fset_pke _ _ _ _) _ s5).trans (congrArg (·.pke) unlifted)

/-- GNT_HOLD is none of the registers that a device reset keeps. -/
theorem reg_hold_filtered (m : NMap Word) : (m.filter (fun k _ => keptReg k)).getD (regKey .GNT_HOLD 0) (regReset .GNT_HOLD 0) = 0 := by
  rw [NMap.getD, NMap.get?_filter_none (fun _ => by decide)]
  rfl

/-- A device reset before the views of what was kept: the state after reset, with what KA, BBRAM, OTP, the flash and the queue keep. -/
def State.resetBase (s : State) (rp : Bool) : State :=
  { State.reset with
    pending := s.pending
    free := s.free + 1
    out := s.out
    regs := s.regs.filter (fun k _ => keptReg k)
    bb := s.bb
    otp := s.otp
    flash := s.flash
    crd := { CrdUnit.reset with left := s.cardAtReset }
    rcd := { Recorder.reset with region := s.rcd.region }
    gnt := s.gnt.kept
    boot := { BootUnit.reset with lcRun := if rp then s.boot.lcRun else none, resumed := rp && s.boot.resumed } }

theorem State.deviceReset_eq (s : State) (rp : Bool) : s.deviceReset rp = (s.resetBase rp).resetViews s := rfl

theorem State.resetViews_frame (s old : State) : ∃ (r : NMap Word) (p : PkeUnit), s.resetViews old = s.withRegsPke r p := by
  unfold State.resetViews
  extract_lets s1 s2 s3
  obtain ⟨r, p, views⟩ := s3.gntSync_frame
  refine ⟨r, p, views.trans ?_⟩
  calc s3.withRegsPke r p = s2.withRegsPke r p := State.fset_withRegsPke s2 _ _ _ r p
    _ = s1.withRegsPke r p := State.fset_withRegsPke s1 _ _ _ r p
    _ = s.withRegsPke r p := State.fset_withRegsPke s _ _ _ r p

theorem State.resetViews_pke {s : State} (h : s.reg .GNT_HOLD 0 = 0) (old : State) : (s.resetViews old).pke = s.pke := by
  have apart (t : State) (f : Fld) (v : Nat) (hf : RegName.GNT_HOLD ≠ f.reg) : (t.fset f 0 v).reg .GNT_HOLD 0 = t.reg .GNT_HOLD 0 :=
    State.reg_fset_ne t v (by decide) (by decide) (.inl hf)
  unfold State.resetViews
  extract_lets s1 s2 s3
  have unheld : s3.reg .GNT_HOLD 0 = 0 := by
    rw [apart s2 _ _ (by decide), apart s1 _ _ (by decide), apart s _ _ (by decide)]
    exact h
  exact State.gntSync_unheld unheld

theorem State.deviceReset_pke (s : State) (rp : Bool) : (s.deviceReset rp).pke = State.reset.pke :=
  State.resetViews_pke (s := s.resetBase rp) (reg_hold_filtered s.regs) s

/-- A reset that cuts no export commit and no step of a transition is the device reset. -/
theorem State.resetWith_whole {s : State} {rp : Bool} (h : rp = true ∨ s.lcRunning = false) : s.resetWith rp false = s.deviceReset rp := by
  obtain rfl | h := h
  · rfl
  · unfold State.resetWith
    simp [State.lcCut, h]

/-- Settles O7: the commands lead to State.resetWith, which without a cut is State.deviceReset. -/
theorem deviceResetsComplete : Obligations.DeviceResetsComplete := by
  refine ⟨fun dt cut s => ⟨_, rfl, rfl⟩, fun dt cut s h => if_pos h, ?_, ?_⟩
  · intro dt cut s hm hd he
    exact if_pos (by rw [hd, hm, he]; rfl)
  · rintro rp s t h rfl
    rw [State.resetWith_whole h]
    have pke := s.deviceReset_pke rp
    obtain ⟨r, p, views⟩ := (s.resetBase rp).resetViews_frame s
    rw [State.deviceReset_eq, views] at pke ⊢
    exact ⟨rfl, rfl, rfl, rfl, rfl, rfl, rfl, rfl, rfl, rfl, pke, rfl, rfl, rfl, rfl, rfl, rfl⟩

/-! ## Resets of the host link and of a function (R356, R357) -/

theorem State.clearQp_frame (s : State) (ring q : Nat) : ∃ (r : NMap Word) (c : CmdUnit),
    s.clearQp ring q = { s with regs := r, cmd := c } ∧ c.packets = s.cmd.packets := ⟨_, _, rfl, rfl⟩

/-- The ends of queue pairs change registers and the fetches of caravans. -/
theorem State.clearQps_frame (l : List Nat) (s : State) : ∃ (r : NMap Word) (c : CmdUnit),
    l.foldl (fun s i => s.clearQp (i / 8) (i % 8)) s = { s with regs := r, cmd := c } ∧ c.packets = s.cmd.packets := by
  induction l generalizing s with
  | nil => exact ⟨s.regs, s.cmd, rfl, rfl⟩
  | cons i l ih =>
    obtain ⟨r, c, first, packets⟩ := s.clearQp_frame (i / 8) (i % 8)
    obtain ⟨r', c', rest, packets'⟩ := ih { s with regs := r, cmd := c }
    rw [List.foldl_cons, first]
    exact ⟨r', c', rest, packets'.trans packets⟩

theorem State.cutQueues_frame (s : State) (hit : Nat → Bool) : ∃ (r : NMap Word) (c : CmdUnit),
    s.cutQueues hit = { s with regs := r, cmd := c } ∧ c.packets = s.cmd.packets :=
  State.clearQps_frame _ s

theorem State.fset_regs (s : State) (f : Fld) (i v : Nat) : ∃ r : NMap Word, s.fset f i v = { s with regs := r } := ⟨_, rfl⟩

theorem State.disableLogs_frame (l : List Nat) (s : State) : ∃ r : NMap Word,
    l.foldl (fun s i => s.fset Fld.SLC_DLOG_CTRL_enable i 0) s = { s with regs := r } := by
  induction l generalizing s with
  | nil => exact ⟨s.regs, rfl⟩
  | cons i l ih =>
    obtain ⟨r, first⟩ := s.fset_regs Fld.SLC_DLOG_CTRL_enable i 0
    rw [List.foldl_cons, first]
    exact ih { s with regs := r }

theorem State.cutManager_frame (s : State) : ∃ r : NMap Word, s.cutManager = { s with regs := r } := by
  unfold State.cutManager
  obtain ⟨r, frame⟩ := State.disableLogs_frame (s.listed .SLC_DLOG_CTRL 4096) s
  rw [frame]
  exact ⟨_, rfl⟩

/-- The rings that a reset of functions takes. -/
def cutRing (pf0 pf1 : Bool) (r : Nat) : Bool := if r = managerRing then pf0 else pf1

theorem State.cutPackets_frame (s : State) (hit : Nat → Bool) : ∃ (c : CmdUnit) (p : PkeUnit) (k : BlkUnit),
    s.cutPackets hit = { s with cmd := c, pke := p, blk := k } := ⟨_, _, _, rfl⟩

/-- A cut changes registers, commands and the jobs of the packets that are gone. -/
theorem State.cutHost_frame (s : State) (a b : Bool) : ∃ (r : NMap Word) (c : CmdUnit) (p : PkeUnit) (k : BlkUnit),
    s.cutHost a b = { s with regs := r, cmd := c, pke := p, blk := k } ∧ c.packets = (s.cutPackets (cutRing a b)).cmd.packets := by
  have cut : s.cutHost a b = if a then ((s.cutPackets (cutRing a b)).cutQueues (cutRing a b)).cutManager
    else (s.cutPackets (cutRing a b)).cutQueues (cutRing a b) := rfl
  obtain ⟨r, c, queues, packets⟩ := State.cutQueues_frame (s.cutPackets (cutRing a b)) (cutRing a b)
  obtain ⟨c', p, k, first⟩ := s.cutPackets_frame (cutRing a b)
  rw [cut, queues, first]
  rw [first] at packets
  cases a with
  | false => exact ⟨r, c, p, k, rfl, packets⟩
  | true =>
    obtain ⟨r', manager⟩ := State.cutManager_frame { s with regs := r, cmd := c, pke := p, blk := k }
    exact ⟨r', c, p, k, manager, packets⟩

/-- The end of another queue pair leaves a queue pair's flag. -/
theorem State.clearQp_running_ne (s : State) {i j : Nat} (hi : i < 131072) (hj : j < 131072) (h : j ≠ i) :
    (s.clearQp (i / 8) (i % 8)).fget Fld.CMD_QP_STATUS_running j = s.fget Fld.CMD_QP_STATUS_running j := by
  have apart (t : State) (f : Fld) : (t.fset f i 0).fget Fld.CMD_QP_STATUS_running j = t.fget Fld.CMD_QP_STATUS_running j :=
    State.fget_fset_ne t 0 hi hj (.inr h)
  have index : qpi (i / 8) (i % 8) = i := by unfold qpi; omega
  unfold State.clearQp
  dsimp only
  rw [State.fget_setCmd, index, apart, apart, apart]

theorem State.clearQp_running_self (s : State) (i : Nat) : (s.clearQp (i / 8) (i % 8)).flag Fld.CMD_QP_STATUS_running i = false := by
  have index : qpi (i / 8) (i % 8) = i := by unfold qpi; omega
  obtain ⟨running, -, -⟩ := s.clearQp_flags (i / 8) (i % 8)
  rwa [index] at running

/-- Ending the queue pairs of a list leaves none of them running, and starts no other. -/
theorem State.foldl_clearQp_running (l : List Nat) (hl : ∀ i ∈ l, i < 131072) {j : Nat} (hj : j < 131072) (s : State)
    (h : j ∈ l ∨ s.flag Fld.CMD_QP_STATUS_running j = false) :
    (l.foldl (fun s i => s.clearQp (i / 8) (i % 8)) s).flag Fld.CMD_QP_STATUS_running j = false := by
  induction l generalizing s with
  | nil => exact h.resolve_left List.not_mem_nil
  | cons i l ih =>
    refine ih (fun k hk => hl k (List.mem_cons_of_mem i hk)) _ ?_
    by_cases e : j = i
    · subst e
      exact .inr (s.clearQp_running_self j)
    · rw [State.flag, State.clearQp_running_ne s (hl i List.mem_cons_self) hj e]
      exact h.imp_left (fun m => (List.mem_cons.mp m).resolve_left e)

theorem regKey_eq (r : RegName) (i : Nat) : regKey r i = regKey r 0 + i := by
  unfold regKey
  omega

/-- A queue pair that the store does not list does not run. -/
theorem State.running_listed {s : State} {i : Nat} (hi : i < 32776) (h : s.flag Fld.CMD_QP_STATUS_running i ≠ false) :
    i ∈ s.listed .CMD_QP_STATUS 32776 := by
  cases hk : s.regs.get? (regKey .CMD_QP_STATUS i) with
  | none =>
    refine absurd ?_ h
    unfold State.flag State.fget State.reg
    rw [show Fld.CMD_QP_STATUS_running.reg = .CMD_QP_STATUS from rfl, NMap.getD, hk]
    rfl
  | some w =>
    refine List.mem_map.mpr ⟨_, List.mem_filter.mpr ⟨mem_of_cellsGet hk, ?_⟩, ?_⟩
    · rw [regKey_eq _ i, regKey_eq _ 32776, Bool.and_eq_true, decide_eq_true_eq, decide_eq_true_eq]
      omega
    · rw [regKey_eq]
      omega

theorem State.listed_lt {s : State} {r : RegName} {n i : Nat} (h : i ∈ s.listed r n) : i < n := by
  obtain ⟨e, he, rfl⟩ := List.mem_map.mp h
  have range := (List.mem_filter.mp he).2
  rw [regKey_eq r n, Bool.and_eq_true, decide_eq_true_eq, decide_eq_true_eq] at range
  omega

theorem State.cutQueues_running (s : State) {hit : Nat → Bool} {ring q : Nat} (hr : ring ≤ managerRing) (hq : q < 8) (hh : hit ring = true) :
    (s.cutQueues hit).flag Fld.CMD_QP_STATUS_running (qpi ring q) = false := by
  have small : qpi ring q < 32776 := by unfold qpi; unfold managerRing at hr; omega
  have own : qpi ring q / 8 = ring := by unfold qpi; omega
  refine State.foldl_clearQp_running _ (fun i hi => ?_) (by omega) s ?_
  · have := State.listed_lt (List.mem_filter.mp hi).1
    omega
  · by_cases h : s.flag Fld.CMD_QP_STATUS_running (qpi ring q) = false
    · exact .inr h
    · exact .inl (List.mem_filter.mpr ⟨State.running_listed small h, by rwa [own]⟩)

/-- The logs and rings that a reset of PF0 disables are none of the queue pairs' registers. -/
theorem State.cutManager_running (s : State) (i : Nat) (hi : i < 131072) :
    s.cutManager.flag Fld.CMD_QP_STATUS_running i = s.flag Fld.CMD_QP_STATUS_running i := by
  have logs : ∀ (l : List Nat) (t : State), (∀ k ∈ l, k < 131072) →
      (l.foldl (fun t k => t.fset Fld.SLC_DLOG_CTRL_enable k 0) t).fget Fld.CMD_QP_STATUS_running i = t.fget Fld.CMD_QP_STATUS_running i := by
    intro l t hl
    induction l generalizing t with
    | nil => rfl
    | cons k l ih =>
      exact (ih _ (fun j hj => hl j (List.mem_cons_of_mem k hj))).trans
        (State.fget_fset_ne t 0 (hl k List.mem_cons_self) hi (.inl (by decide)))
  have lt : ∀ k ∈ s.listed .SLC_DLOG_CTRL 4096, k < 131072 := fun k hk => by have := State.listed_lt hk; omega
  unfold State.cutManager State.flag
  exact congrArg (· == 1) ((State.fget_fset_ne _ 0 (by decide) hi (.inl (by decide))).trans
    ((State.fget_fset_ne _ 0 (by decide) hi (.inl (by decide))).trans (logs _ s lt)))

theorem State.cutHost_running (s : State) {a b : Bool} {ring q : Nat} (hr : ring ≤ managerRing) (hq : q < 8) (hh : cutRing a b ring = true) :
    (s.cutHost a b).flag Fld.CMD_QP_STATUS_running (qpi ring q) = false := by
  have queues := (s.cutPackets (cutRing a b)).cutQueues_running hr hq hh
  cases a with
  | false => exact queues
  | true => exact (State.cutManager_running _ _ (qpi_lt hq hr)).trans queues

/-- A packet that a cut leaves on a ring that it takes has started, and its writes are discarded. -/
theorem State.cutPackets_left {s : State} {hit : Nat → Bool} {pid : Nat} {p : Packet} (h : (s.cutPackets hit).cmd.packets.get? pid = some p)
    (hh : hit p.ring = true) : p.phase.started = true ∧ p.discard = true := by
  obtain ⟨q, hq, rfl⟩ := Option.map_eq_some_iff.mp ((NMap.get?_map _ _ _).symm.trans h)
  have kept := (NMap.mem_of_get?_filter hq).2
  by_cases ring : hit q.ring = true
  · simp only [ring, Bool.not_true, Bool.false_or] at kept
    simp only [ring, if_true]
    exact ⟨kept, trivial⟩
  · simp only [ring, Bool.false_eq_true, if_false] at hh

/-- Settles O8: a cut ends the listed queue pairs, an unlisted one does not run, and the frames say what both resets keep. -/
theorem hostResetsStopQueuePairs : Obligations.HostResetsStopQueuePairs := by
  refine ⟨fun dt s => rfl, fun dt pf1 s => rfl, ?_, ?_, ?_, ?_⟩
  · intro a b s
    obtain ⟨r, c, p, k, frame, -⟩ := s.cutHost_frame a b
    rw [frame]
    exact ⟨rfl, rfl, rfl, rfl, rfl, rfl, rfl, rfl, rfl⟩
  · intro s
    refine ⟨rfl, rfl, rfl, rfl, rfl, rfl, rfl, rfl, rfl, ?_, rfl, ?_⟩
    · have down : s.linkDrop.fget Fld.HLU_LINK_up 0 = 0 :=
        (State.fget_setReg_apart (s.setReg .HLU_LINK 0 0) 0 0 (by decide)).trans (State.fget_setReg s 0 0 rfl)
      rw [State.flag, down]
      rfl
    · intro x hx
      simpa using (List.mem_filter.mp hx).2
  · intro a b s ring q _ hr hq hh
    exact s.cutHost_running hr hq hh
  · intro a b s pid p h hh
    obtain ⟨r, c, j, k, frame, packets⟩ := s.cutHost_frame a b
    rw [frame, packets] at h
    exact State.cutPackets_left h ((apply_ite (· = true) _ a b).mpr hh)

/-! ## The supplies (R382, R392) -/

theorem exec_unannouncedPowerLoss {s : State} {dt rail mv : Nat} (hr : rail < 6) (hv : mv < (railLevels rail).1)
    (hm : (s.tick dt).gnt.main = true) (hw : (s.tick dt).warned = false) (gone cut : Bool) :
    exec (.unannouncedPowerLoss dt rail mv gone cut) s = .next
      ((((s.tick dt).fset Fld.GNT_RAIL_mv rail mv).condBegin 1 rail maskAll 0x02 (railDetail rail mv false)).railLoss gone cut) :=
  if_pos (by simp only [Bool.and_eq_true, decide_eq_true_eq, hw, Bool.not_false]; exact ⟨⟨⟨hr, hv⟩, hm⟩, trivial⟩)

theorem exec_orderlyPowerLoss {s : State} {dt rail mv : Nat} (hr : rail < 6) (hv : mv < (railLevels rail).1)
    (hm : (s.tick dt).gnt.main = true) (hw : (s.tick dt).warned = true) (gone cut : Bool) :
    exec (.orderlyPowerLoss dt rail mv gone cut) s = .next ((s.tick dt).railLoss gone cut) :=
  if_pos (by simp only [Bool.and_eq_true, decide_eq_true_eq]; exact ⟨⟨⟨hr, hv⟩, hm⟩, hw⟩)

theorem exec_overVoltage {s : State} {dt rail mv : Nat} (hr : rail < 6) (hv : (railLevels rail).2.2.2.1 < mv)
    (hm : (s.tick dt).gnt.main = true) (cut : Bool) : exec (.overVoltage dt rail mv cut) s = .next
      ((((s.tick dt).fset Fld.GNT_RAIL_mv rail mv).condBegin 2 rail maskAll 0x02 (railDetail rail mv true)).resetWith false cut) :=
  if_pos (by simp only [Bool.and_eq_true, decide_eq_true_eq]; exact ⟨⟨hr, hv⟩, hm⟩)

/-- Settles O9: each event finds its branch under the premises, and the views that follow KA's loss are registers. -/
theorem supplyEventsComplete : Obligations.SupplyEventsComplete := by
  refine ⟨?_, ?_, ?_, ?_, ?_⟩
  · intro dt rail mv gone cut s hr hv hm hw
    exact exec_unannouncedPowerLoss hr hv hm (by simpa using hw) gone cut
  · intro dt rail mv gone cut s hr hv hm hw
    exact exec_orderlyPowerLoss hr hv hm hw gone cut
  · intro dt rail mv cut s hr hv hm
    exact exec_overVoltage hr hv hm cut
  · intro dt s hm hk
    refine ⟨_, if_pos (by simpa [hk] using hm), ?_⟩
    generalize he : State.gntSync _ = t
    obtain ⟨r, p, views⟩ := State.gntSync_frame _
    rw [he] at views
    rw [views]
    exact ⟨rfl, rfl, rfl, s.tick_otp dt, congrArg (·.log) (s.tick_times dt).2⟩
  · intro dt s hm hk
    exact if_pos (by simpa [hm] using hk)

/-! ## The boot phases ROM, KEYS and IMAGES (R358) -/

/-- The key phase ends with a phase of IMAGES, beside its last mark. -/
theorem State.keysPhase_ends (s : State) : ∃ t : State, s.keysPhase = (t.fset Fld.KS_STATUS_ready 0 1).toPhase 4 := ⟨_, rfl⟩

/-- Settles O10: each phase's guard is its premises, and the key phase ends with KS ready in IMAGES. -/
theorem bootPhasesComplete : Obligations.BootPhasesComplete := by
  refine ⟨?_, ?_, ?_, ?_⟩
  · intro dt xsp s hp hr hl hd hj
    exact if_pos (by simp_all)
  · rintro dt s u rfl hp
    have phase : ((s.tick dt).phase = 2 || (s.tick dt).phase = 3) = true := by simpa using hp
    simp only [exec, execBootPhaseKeys, phase, if_true]
    rw [← apply_ite Host.Outcome.next]
    simp only [Bool.and_eq_true, Bool.not_eq_true', and_assoc]
  · intro dt s hp hh
    exact if_pos (by simp_all)
  · intro s
    obtain ⟨t, ht⟩ := s.keysPhase_ends
    rw [ht]
    refine ⟨State.fget_fset _ _ _ _ (by decide) (by decide), ?_⟩
    exact (State.fget_fset_ne _ 4 (by decide) (by decide) (.inl (by decide))).trans (State.fget_fset _ _ _ _ (by decide) (by decide))

end Sys2Proof.Machine
end

section
/-! PROOFS. The flash directory, the later boot phases and Recovery, life-cycle commands, mode switches and configuration loads (R342 to R350, R357 to R378). -/

namespace Sys2Proof.Machine

/-! ## The flash directory (R362) -/

/-- One shift of the CRC register. -/
def crcShift (c : Nat) : Nat := if c % 2 = 1 then c / 2 ^^^ 0xEDB88320 else c / 2

theorem crcShift_lt {c : Nat} (h : c < 2 ^ 32) : crcShift c < 2 ^ 32 := by
  unfold crcShift
  split
  · exact Nat.xor_lt_two_pow (by omega) (by decide)
  · omega

/-- The CRC register after one more octet. -/
def crcOctet (c : Nat) (x : Byte) : Nat := crcShift (crcShift (crcShift (crcShift (crcShift (crcShift (crcShift (crcShift (c ^^^ x.toNat))))))))

theorem crcOctet_lt {c : Nat} (h : c < 2 ^ 32) (x : Byte) : crcOctet c x < 2 ^ 32 := by
  have octet : x.toNat < 2 ^ 32 := by have := x.isLt; omega
  exact crcShift_lt (crcShift_lt (crcShift_lt (crcShift_lt (crcShift_lt (crcShift_lt (crcShift_lt (crcShift_lt (Nat.xor_lt_two_pow h octet))))))))

theorem crc32_lt (b : Bytes) : crc32 b < 2 ^ 32 := by
  have fold : ∀ (l : Bytes) (c : Nat), c < 2 ^ 32 → l.foldl crcOctet c < 2 ^ 32 := by
    intro l
    induction l with
    | nil => exact fun _ h => h
    | cons x l ih => exact fun c h => ih _ (crcOctet_lt h x)
  exact Nat.xor_lt_two_pow (fold b _ (by decide)) (by decide)

/-- The fields of a directory record fit their octets. -/
def Directory.Fits (d : Directory) : Prop := d.gen < 2 ^ 32 ∧ d.cus < 256 ∧ d.stw < 256 ∧ d.cfg < 256

/-- A stored directory record reads as it was. -/
theorem readDir_encode {d : Directory} (h : d.Fits) : readDir d.encode = some d := by
  obtain ⟨hg, hc, hs, hf⟩ := h
  have len : d.encode.length = 32 := rfl
  have format : field d.encode 0 4 = 1 := rfl
  have head : d.encode.take 28 = d.head := rfl
  have crc : field d.encode 0x1C 4 = crc32 d.head :=
    (show field d.encode 0x1C 4 = leNat (natLE 4 (crc32 d.head)) from rfl).trans
      ((leNat_natLE 4 _).trans (Nat.mod_eq_of_lt (crc32_lt d.head)))
  have gen : field d.encode 4 4 = d.gen :=
    (show field d.encode 4 4 = leNat (natLE 4 d.gen) from rfl).trans ((leNat_natLE 4 _).trans (Nat.mod_eq_of_lt hg))
  have cus : field d.encode 8 1 = d.cus :=
    (show field d.encode 8 1 = leNat (natLE 1 d.cus) from rfl).trans ((leNat_natLE 1 _).trans (Nat.mod_eq_of_lt hc))
  have stw : field d.encode 9 1 = d.stw :=
    (show field d.encode 9 1 = leNat (natLE 1 d.stw) from rfl).trans ((leNat_natLE 1 _).trans (Nat.mod_eq_of_lt hs))
  have cfg : field d.encode 10 1 = d.cfg :=
    (show field d.encode 10 1 = leNat (natLE 1 d.cfg) from rfl).trans ((leNat_natLE 1 _).trans (Nat.mod_eq_of_lt hf))
  unfold readDir
  rw [len, format, head, crc, gen, cus, stw, cfg]
  simp

theorem field_lt (b : Bytes) (off n : Nat) : field b off n < 256 ^ n :=
  (leNat_lt _).trans_le (Nat.pow_le_pow_right (by decide) (by simp [slice]))

theorem readDir_fits {b : Bytes} {d : Directory} (h : readDir b = some d) : d.Fits := by
  unfold readDir at h
  split at h
  · cases h
    exact ⟨field_lt b 4 4, field_lt b 8 1, field_lt b 9 1, field_lt b 10 1⟩
  · cases h

/-- The directory that is in force is a copy's record, and the other copy's is not newer. -/
theorem Flash.directory_some {f : Flash} {i : Nat} {d : Directory} (h : f.directory = some (i, d)) :
    i = 0 ∧ readDir f.dirs[0] = some d ∨ i = 1 ∧ readDir f.dirs[1] = some d := by
  unfold Flash.directory at h
  repeat' split at h
  all_goals cases h
  all_goals simp_all

theorem Flash.directory_none {f : Flash} (h : f.directory = none) : readDir f.dirs[1] = none := by
  unfold Flash.directory at h
  repeat' split at h
  all_goals simp_all

theorem Flash.directory_fits {f : Flash} {i : Nat} {d : Directory} (h : f.directory = some (i, d)) : d.Fits := by
  obtain ⟨-, h⟩ | ⟨-, h⟩ := Flash.directory_some h
  · exact readDir_fits h
  · exact readDir_fits h

theorem Flash.dir_fits (f : Flash) : f.dir.Fits := by
  unfold Flash.dir
  split
  next h => exact Flash.directory_fits h
  next => exact ⟨by decide, by decide, by decide, by decide⟩

theorem Flash.dir_first {f : Flash} {d : Directory} (h0 : readDir f.dirs[0] = some d)
    (h1 : readDir f.dirs[1] = none ∨ ∃ x, readDir f.dirs[1] = some x ∧ x.gen < d.gen) : f.dir = d := by
  unfold Flash.dir Flash.directory
  obtain h1 | ⟨x, h1, older⟩ := h1
  · rw [h0, h1]
  · rw [h0, h1]
    dsimp only
    rw [if_neg (by omega)]

theorem Flash.dir_second {f : Flash} {d x : Directory} (h0 : readDir f.dirs[0] = some x) (h1 : readDir f.dirs[1] = some d)
    (older : x.gen < d.gen) : f.dir = d := by
  unfold Flash.dir Flash.directory
  rw [h0, h1]
  dsimp only
  rw [if_pos older]

theorem Flash.writeDir_first {f : Flash} (h : f.directory = none) (d : Directory) :
    f.writeDir d = { f with dirs := slotSet f.dirs 0 { d with gen := 1 }.encode } := by
  unfold Flash.writeDir
  rw [h]

theorem Flash.writeDir_next {f : Flash} {i : Nat} {x : Directory} (h : f.directory = some (i, x)) (d : Directory) :
    f.writeDir d = { f with dirs := slotSet f.dirs (1 - i) { d with gen := (x.gen + 1) % 2 ^ 32 }.encode } := by
  unfold Flash.writeDir
  rw [h]

/-- A written record is the directory in force, while the generation does not wrap (R362). -/
theorem Flash.dir_writeDir {f : Flash} {d : Directory} (hd : d.Fits)
    (hg : ∀ (i : Nat) (x : Directory), f.directory = some (i, x) → x.gen < 2 ^ 32 - 1) :
    ∃ g : Nat, (f.writeDir d).dir = { d with gen := g } := by
  obtain ⟨-, hc, hs, hf⟩ := hd
  have reads (g : Nat) (h : g < 2 ^ 32) : readDir { d with gen := g }.encode = some { d with gen := g } := readDir_encode ⟨h, hc, hs, hf⟩
  cases h : f.directory with
  | none =>
    have other := Flash.directory_none h
    rw [Flash.writeDir_first h]
    exact ⟨1, Flash.dir_first (reads 1 (by decide)) (.inl other)⟩
  | some e =>
    obtain ⟨i, x⟩ := e
    have room := hg i x h
    have next : (x.gen + 1) % 2 ^ 32 = x.gen + 1 := Nat.mod_eq_of_lt (by omega)
    rw [Flash.writeDir_next h, next]
    obtain ⟨rfl, hr⟩ | ⟨rfl, hr⟩ := Flash.directory_some h
    · exact ⟨x.gen + 1, Flash.dir_second hr (reads _ (by omega)) (Nat.lt_succ_self _)⟩
    · exact ⟨x.gen + 1, Flash.dir_first (reads _ (by omega)) (.inr ⟨x, hr, Nat.lt_succ_self _⟩)⟩

theorem Flash.writeDir_cus (f : Flash) (d : Directory) : (f.writeDir d).cus = f.cus := by
  unfold Flash.writeDir
  split <;> rfl

/-! ## Self-tests, the firmware phase, READY and Recovery (R358, R367, R412) -/

theorem exec_islandSelftestDone {s t u : State} {dt island : Nat} {pass : Bool} (ht : t = s.tick dt) (h2 : 2 ≤ t.phase) (h5 : t.phase ≤ 5)
    (hi : testedIslands.contains island = true) (hn : t.boot.tested.contains island = false)
    (hu : u = { t with boot := { t.boot with tested := island :: t.boot.tested } }) :
    exec (.islandSelftestDone dt island pass) s = .next (if pass then u else u.islandFails island) := by
  subst ht hu
  simp only [exec, execIslandSelftestDone]
  rw [if_pos (by simp only [h2, h5, hi, hn, decide_true, Bool.and_self, Bool.not_false])]
  cases pass <;> rfl

theorem exec_bootPhaseFirmware {s t : State} {dt : Nat} (ht : t = s.tick dt) (hp : t.phase = 5)
    (hi : ∀ i : Nat, testedIslands.contains i → t.boot.tested.contains i) (h2 : t.drbgReady 2 = true) (h3 : t.drbgReady 3 = true)
    (hc : t.clearHeld = false) : exec (.bootPhaseFirmware dt) s = .next t.firmwarePhase := by
  subst ht
  have all : testedIslands.all (s.tick dt).boot.tested.contains = true :=
    List.all_eq_true.mpr fun i hm => hi i (List.contains_iff_mem.mpr hm)
  exact if_pos (by rw [hp, all, h2, h3, hc]; rfl)

theorem State.setReg_phase (s : State) {r : RegName} (w : Word) (h : r ≠ .DEV_BOOT_STATUS) : (s.setReg r 0 w).phase = s.phase :=
  State.fget_setReg_apart s 0 w (Ne.symm h)

theorem State.sendMsix_phase (s : State) (fn vec : Nat) : (s.sendMsix fn vec).phase = s.phase :=
  s.pmc_fget 0x0F2 1 (by decide) (by decide) (by decide)

/-- A cause of the device interrupt leaves the boot phase. -/
theorem State.deviceCause_phase (s : State) (n : Nat) : (s.deviceCause n).phase = s.phase := by
  unfold State.deviceCause
  extract_lets w u
  split
  · rfl
  · split
    · exact (u.sendMsix_phase _ _).trans (s.setReg_phase _ (by decide))
    · exact s.setReg_phase _ (by decide)

theorem State.readyPhase_phase (s : State) : s.readyPhase.phase = 7 := by
  have ready : ((s.toPhase 7).fset Fld.DEV_BOOT_TIME_ms 0 (s.now / 1000000 % 2 ^ 32)).phase = 7 :=
    (State.fget_fset_ne _ _ (by decide) (by decide) (.inl (by decide))).trans (State.fget_fset s _ 0 7 (by decide) (by decide))
  have event (t : State) (c i d : Nat) : (t.event c i d).phase = t.phase := t.event_fget c i d (by decide)
  unfold State.readyPhase
  extract_lets u v w
  have before : w.phase = 7 := (v.deviceCause_phase 0).trans ((event u _ _ _).trans ready)
  split
  · exact (w.deviceCause_phase 1).trans before
  · exact before

theorem exec_bootReady_unlocked {s t : State} {dt : Nat} (ht : t = s.tick dt) (hl : t.flag Fld.GNT_LOCK_lock 0 = false) :
    exec (.bootReady dt) s = .next t := by
  subst ht
  exact if_neg (by rw [hl, Bool.and_false]; exact Bool.false_ne_true)

theorem exec_recoveryGo {s t : State} {dt : Nat} (ht : t = s.tick dt) (hp : t.phase = 0xE) (hd : t.gnt.rpDue = false) (image : Bytes)
    (refused : Bool) : exec (.recoveryGo dt image refused) s = .next (t.recoveryGo image refused) := by
  subst ht
  simp only [exec, execRecoveryGo]
  rw [if_pos hp, if_neg (by rw [hd]; exact Bool.false_ne_true)]

theorem State.recoveryGo_invalid {t : State} {image : Bytes} {refused : Bool}
    (h : refused = true ∨ imageOk 1 (fitLen (min (t.fget Fld.DEV_RCV_LEN_len 0) (slotSize 1)) image) = false) :
    t.recoveryGo image refused = t.fset Fld.DEV_RCV_CTRL_status 0 2 :=
  if_pos (by simpa using h)

/-- The custody slot that Recovery writes: the one without a valid image first (R367). -/
def State.recoverySlot (t : State) : Nat := if imageOk 1 t.flash.cus[0] then 1 else 0

/-- The flash with a recovered image in its slot, which the directory names. -/
def State.recoveredFlash (t : State) (b : Bytes) : Flash :=
  ({ t.flash with cus := slotSet t.flash.cus t.recoverySlot b }).writeDir { t.flash.dir with cus := t.recoverySlot }

theorem State.recoveryGo_valid {t : State} {image b : Bytes} (hb : b = fitLen (min (t.fget Fld.DEV_RCV_LEN_len 0) (slotSize 1)) image)
    (hv : imageOk 1 b = true) : t.recoveryGo image false =
      { ({ t with flash := t.recoveredFlash b } : State).fset Fld.DEV_RCV_CTRL_status 0 3 with gnt := { t.gnt with rpDue := true } } := by
  subst hb
  exact if_neg (by rw [hv]; exact Bool.false_ne_true)

theorem State.recoverySlot_lt (t : State) : t.recoverySlot < 256 := by
  unfold State.recoverySlot
  split <;> decide

theorem State.recoveredFlash_dir {t : State} (hg : ∀ (i : Nat) (x : Directory), t.flash.directory = some (i, x) → x.gen < 2 ^ 32 - 1)
    (b : Bytes) : (t.recoveredFlash b).dir.cus = t.recoverySlot := by
  obtain ⟨-, -, hs, hf⟩ := t.flash.dir_fits
  have fits : ({ t.flash.dir with cus := t.recoverySlot } : Directory).Fits := ⟨t.flash.dir_fits.1, t.recoverySlot_lt, hs, hf⟩
  obtain ⟨g, e⟩ := Flash.dir_writeDir (f := { t.flash with cus := slotSet t.flash.cus t.recoverySlot b }) fits hg
  exact congrArg (·.cus) e

theorem State.recoveredFlash_slot (t : State) (b : Bytes) :
    (if imageOk 1 t.flash.cus[0] then (t.recoveredFlash b).cus[1] else (t.recoveredFlash b).cus[0]) = b := by
  unfold State.recoveredFlash
  rw [Flash.writeDir_cus]
  unfold State.recoverySlot
  split <;> rfl

/-- Settles O47: each command finds its branch under the premises; a recovered image is in the slot that the written directory names. -/
theorem bootEventsComplete : Obligations.BootEventsComplete := by
  refine ⟨?_, ?_, ?_, ?_, ?_, ?_, ?_⟩
  · intro dt island pass s t u ht h2 h5 hi hn hu
    exact exec_islandSelftestDone ht h2 h5 hi hn hu
  · intro dt s t ht hp hi h2 h3 hc
    exact exec_bootPhaseFirmware ht hp hi h2 h3 hc
  · rintro dt s t rfl hp ha hl
    refine ⟨if_pos (by rw [hp, ha, hl]; rfl), State.readyPhase_phase _, ?_⟩
    exact beq_iff_eq.mpr (State.readyPhase_phase _)
  · intro dt s t ht hl
    exact exec_bootReady_unlocked ht hl
  · intro dt image refused s t ht hp hd hi
    rw [exec_recoveryGo ht hp hd, State.recoveryGo_invalid hi]
  · intro dt image b s t ht hp hd hb hv hg
    have status := State.fget_fset { t with flash := t.recoveredFlash b } Fld.DEV_RCV_CTRL_status 0 3 (by decide) (by decide)
    obtain ⟨r, shown⟩ := State.fset_regs { t with flash := t.recoveredFlash b } Fld.DEV_RCV_CTRL_status 0 3
    rw [exec_recoveryGo ht hp hd, State.recoveryGo_valid hb hv]
    rw [shown] at status ⊢
    exact ⟨_, rfl, rfl, status, State.recoveredFlash_dir hg b, State.recoveredFlash_slot t b, rfl, rfl⟩
  · rintro dt speed width flit s t rfl hp hm
    exact if_pos (by rw [hm, decide_eq_true hp]; rfl)

/-! ## Life-cycle commands (R342 to R350) -/

theorem exec_lcTransition {s t : State} {dt pid : Nat} {d : PktData} {p : Packet} (he : (s.tick dt).dqExecutes = false)
    (h : (s.tick dt).Starts 0x0F07 pid d t p) (l : List (Bytes × List (Bytes × Bytes))) :
    exec (.lcTransition dt pid d l) s = .next (t.lcTransition pid p l) := by
  have work := h.runPacket (fun s pid p => s.lcTransition pid p l)
  exact (if_neg (by rw [he]; exact Bool.false_ne_true)).trans (congrArg _ work)

theorem State.lcTransition_accepted {t u : State} {pid mu : Nat} {p : Packet} {l : List (Bytes × List (Bytes × Bytes))} {r : LcRun}
    (h : t.askLc pid p l = .ok (u, mu, r)) : t.lcTransition pid p l =
      ((u.defer pid p (.lifeCycle pid r (u.now + 100000000) mu)).stopOthers (qpi p.ring p.qp)).lcNow pid r (u.now + 100000000) mu := by
  unfold State.lcTransition
  rw [h]

theorem getOr_none {α : Type} (st : Status) : (getOr (none : Option α) st) = .error ⟨st, none⟩ := rfl

/-- A target that the state does not permit is refused, whatever else the packet holds (R342). -/
theorem State.askLc_refused {t : State} {pid : Nat} {p : Packet} {o : Option Key} (ho : t.handles pid p = .ok o)
    (hf : targetFlag t.lc (field p.input 4 1) t.ep = none) (l : List (Bytes × List (Bytes × Bytes))) :
    t.askLc pid p l = .error ⟨.rejected, none⟩ := by
  simp only [State.askLc, ho, hf, ok_bind, require]
  split <;> rfl

theorem State.lcTransition_refused {t : State} {pid : Nat} {p : Packet} {l : List (Bytes × List (Bytes × Bytes))}
    (h : t.askLc pid p l = .error ⟨.rejected, none⟩) : t.lcTransition pid p l = (t.countPid pid false).fail pid .rejected := by
  unfold State.lcTransition
  rw [h]
  rfl

/-- An LC_TRANSITION that may go on makes the reset due and the transition run (R345). -/
theorem State.lcNow_goes {t : State} {pid deadline : Nat} {p : Packet} (hp : t.cmd.packets.get? pid = some p) (hl : t.boot.lcRun = none)
    (hr : t.rpPrograms = true) (hs : t.othersStopped p = true ∨ deadline ≤ t.now) (r : LcRun) (mu : Nat) :
    t.lcNow pid r deadline mu = t.lcEnd pid p r mu := by
  unfold State.lcNow
  rw [hp]
  exact if_pos (by rw [hl, hr]; simpa using hs)

theorem State.lcEnd_due (t : State) (pid : Nat) (p : Packet) (r : LcRun) (mu : Nat) :
    (t.lcEnd pid p r mu).gnt.rpDue = true ∧ (t.lcEnd pid p r mu).boot.lcRun = some r := ⟨rfl, rfl⟩

/-- Settles O48: each command finds its branch under the premises, and the end of LC_TRANSITION sets the reset due. -/
theorem lifeCycleCommandsComplete : Obligations.LifeCycleCommandsComplete := by
  refine ⟨?_, ?_, ?_, ?_, fun dt s => rfl, ?_, ?_, ?_⟩
  · rintro dt pid deadline mu d l s t u p r he h ha rfl
    rw [exec_lcTransition he h, State.lcTransition_accepted ha]
  · intro dt pid d l s t p o he h ho hf
    rw [exec_lcTransition he h, State.lcTransition_refused (State.askLc_refused ho hf l)]
  · intro pid deadline mu p r t hp hl hr hs
    rw [State.lcNow_goes hp hl hr hs]
    exact t.lcEnd_due pid p r mu
  · rintro dt steps s t rfl hr hp hd hg hh
    exact if_pos (by rw [hr, hd, hg, hh, decide_eq_true hp]; rfl)
  · rintro dt data s t rfl hb
    exact if_pos hb
  · rintro dt n s t rfl hb hf
    refine ⟨?_, rfl⟩
    simp only [exec, execManufacturingTransitionFactory, hf, hb, if_true]
  · rintro dt s t rfl hb
    exact if_pos hb

/-! ## Mode switches, configuration loads and the interrupt mask (R374 to R378) -/

theorem exec_modeSwitch {s t : State} {dt pid : Nat} {d : PktData} {p : Packet} (h : (s.tick dt).Starts 0x0F04 pid d t p) :
    exec (.modeSwitch dt pid d) s = .next (t.modeSwitch pid p) :=
  congrArg _ (h.runPacket State.modeSwitch)

theorem State.modeSwitch_same {t : State} {pid code : Nat} {p : Packet} (ha : t.askMode pid p = .ok code)
    (hc : code = t.fget Fld.DEV_MODE_mode 0) : t.modeSwitch pid p = t.conclude pid (.ok ⟨t, [], 0, 0⟩) := by
  unfold State.modeSwitch
  rw [ha]
  exact if_pos hc

theorem State.modeSwitch_other {t u : State} {pid code : Nat} {p : Packet} (ha : t.askMode pid p = .ok code)
    (hc : code ≠ t.fget Fld.DEV_MODE_mode 0) (hu : u = (t.defer pid p (.modeSwitch pid code)).fset Fld.DEV_MODE_switching 0 1) :
    t.modeSwitch pid p =
      (if modeDown (t.fget Fld.DEV_MODE_mode 0) && !modeDown code then u.netRelease false else u).modeNow pid code := by
  subst hu
  unfold State.modeSwitch
  rw [ha]
  exact if_neg hc

theorem State.askMode_ok {t : State} {pid : Nat} {p : Packet} {o : Option Key} (ho : t.handles pid p = .ok o)
    (ha : p.areasOk ioNone = true) (hi : p.inlineFrom 1 = true) (hm : t.modePermitted (p.par 0 0) = true)
    (hs : t.modeSwitching = false) (hc : t.configLoading = false) : t.askMode pid p = .ok (p.par 0 0) := by
  simp only [State.askMode, ho, ha, hi, hm, hs, hc, ok_bind, Bool.not_false, Bool.and_self, require_true]

theorem exec_configLoad {s t : State} {dt pid : Nat} {d : PktData} {p : Packet} (he : (s.tick dt).lcExecutes = false)
    (h : (s.tick dt).Starts 0x0F0A pid d t p) : exec (.configLoad dt pid d) s = .next (t.configLoad pid p) :=
  (if_neg (by rw [he]; exact Bool.false_ne_true)).trans (congrArg _ (h.runPacket State.configLoad))

theorem State.configLoad_accepted {t u v : State} {pid mu : Nat} {p : Packet} {seeds : Bytes} (ha : t.askConfig pid p = .ok (u, mu))
    (hs : seeds = (List.range 4).flatMap (fun b => p.random b 34))
    (hv : v = ((u.defer pid p (.configLoad pid p.input seeds mu)).storeConfig p.input).fset Fld.CFG_STATUS_busy 0 1) :
    t.configLoad pid p = v.configNow pid p.input seeds mu := by
  subst hs hv
  unfold State.configLoad
  rw [ha]

theorem State.spareCfg_ne (t : State) : t.spareCfg ≠ t.flash.dir.cfg := by
  unfold State.spareCfg
  split <;> omega

theorem State.spareCfg_lt (t : State) : t.spareCfg < 256 := by
  unfold State.spareCfg
  split <;> decide

theorem State.storeConfig_dir {t : State} (hg : ∀ (i : Nat) (x : Directory), t.flash.directory = some (i, x) → x.gen < 2 ^ 32 - 1)
    (image : Bytes) : (t.storeConfig image).flash.dir.cfg = t.spareCfg := by
  obtain ⟨hgen, hc, hs, -⟩ := t.flash.dir_fits
  have fits : ({ t.flash.dir with cfg := t.spareCfg } : Directory).Fits := ⟨hgen, hc, hs, t.spareCfg_lt⟩
  obtain ⟨g, e⟩ := Flash.dir_writeDir (f := { t.flash with
    ends := slotSet t.flash.ends t.spareCfg (t.endorse (t.cfg.gen + 1) image), cfgs := slotSet t.flash.cfgs t.spareCfg image }) fits hg
  exact congrArg (·.cfg) e

/-- A write of the mask that unmasks no pending cause sends no message (R378). -/
theorem State.maskWrite_quiet {s : State} {v : Nat} (h : ∀ n : Nat, v.testBit n → n < 6 → (s.reg .DEV_IRQ_CAUSE 0).getLsbD n = false) :
    s.maskWrite v = s.fset Fld.DEV_IRQ_MASK_mask 0 v := by
  refine if_neg fun pending => ?_
  obtain ⟨n, hn, hp⟩ := List.any_eq_true.mp pending
  simp only [Bool.and_eq_true, BitVec.testBit_toNat] at hp
  obtain ⟨⟨new, -⟩, cause⟩ := hp
  rw [h n new (List.mem_range.mp hn)] at cause
  cases cause

/-- Settles O50: the checks' outcome decides MODE_SWITCH and CONFIG_LOAD, the spare slot is the one that the directory
names afterwards, and a mask over no pending cause sends nothing. -/
theorem modeAndConfigurationComplete : Obligations.ModeAndConfigurationComplete := by
  refine ⟨?_, ?_, ?_, ?_, ?_, fun dt v s => rfl, fun v s h => State.maskWrite_quiet h⟩
  · intro dt pid code d s t p h ha hc
    rw [exec_modeSwitch h, State.modeSwitch_same ha hc, h.conclude rfl]
  · intro dt pid code d s t u p h ha hc hu
    rw [exec_modeSwitch h, State.modeSwitch_other ha hc hu]
  · intro pid t p o ho ha hi hm hs hc
    exact State.askMode_ok ho ha hi hm hs hc
  · intro dt pid mu d s t u v p seeds he h ha hs hv
    rw [exec_configLoad he h, State.configLoad_accepted ha hs hv]
  · intro t image hg
    exact ⟨State.storeConfig_dir hg image, t.spareCfg_ne, rfl, rfl⟩

end Sys2Proof.Machine
end

section
/-! PROOFS. The Gauntlet: the classes of the sensors, the chain of the evidence log, and the responses (R386 to R400). -/

namespace Sys2Proof.Machine

/-! ## The classes of the sensors (R386) -/

theorem sensorRow_range : ∀ n < 23, (sensorRow n).2.1 ≤ (sensorRow n).2.2.1 ∧ (sensorRow n).2.2.1 ≤ 3 := by decide

theorem State.writeSensor_closed {s : State} {n d f m : Nat} {x : Bool} (hr : sensorRow n = (d, f, m, x))
    (h : x = true ∨ s.flag Fld.GNT_LOCK_lock 0 = true) (v : Nat) : s.writeSensor n v = s := by
  unfold State.writeSensor
  rw [hr]
  exact if_pos (by simpa using h)

theorem State.writeSensor_open {s : State} {n d f m : Nat} (hr : sensorRow n = (d, f, m, false))
    (h : s.flag Fld.GNT_LOCK_lock 0 = false) (v : Nat) :
    s.writeSensor n v = s.fset Fld.GNT_SENSOR_class n (max f (min m (v % 4))) := by
  unfold State.writeSensor
  rw [hr]
  exact if_neg (by simp [h])

/-- A written class takes effect within the sensor's range. -/
theorem State.sensorClass_fset (s : State) (n : Nat) {c : Nat} (h : c ≤ 3) : (s.fset Fld.GNT_SENSOR_class n c).sensorClass n = c :=
  (State.fget_fset s Fld.GNT_SENSOR_class n c (by decide) (by decide)).trans (Nat.mod_eq_of_lt (Nat.lt_succ_of_le h))

/-- Settles O55: a write to the class of a sensor that is not fixed sets the class cut to its range, and no other write has an effect. -/
theorem sensorClassStaysInItsRange : Obligations.SensorClassStaysInItsRange := by
  refine ⟨?_, ?_, ?_, ?_⟩
  · rintro n v f m d s t hn hr hl rfl
    obtain ⟨hfm, hm⟩ := sensorRow_range n hn
    simp only [hr] at hfm hm
    rw [State.writeSensor_open hr hl]
    have cut : (s.fset Fld.GNT_SENSOR_class n (max f (min m (v % 4)))).sensorClass n = max f (min m (v % 4)) :=
      State.sensorClass_fset s n (by omega)
    refine ⟨fun h => cut.trans (by omega), fun h => cut.trans (by omega), fun h1 h2 => cut.trans (by omega), fun r i hi h => ?_⟩
    exact State.reg_fset_ne s _ (by omega) hi (h.imp_left fun e => fun er => e (congrArg RegName.idx er))
  · intro n v f m d s hr
    exact State.writeSensor_closed hr (.inl rfl) v
  · intro n v s hl
    exact State.writeSensor_closed rfl (.inr hl) v
  · intro dt s hl
    exact exec_bootReady_unlocked rfl hl

/-! ## The chain of the evidence log (R396) -/

/-- A cell with the greatest key is appended. -/
theorem cellsInsert_last {α : Type} {m : List (Nat × α)} {k : Nat} (h : ∀ e ∈ m, e.1 < k) (v : α) : cellsInsert m k v = m ++ [(k, v)] := by
  induction m with
  | nil => rfl
  | cons e m ih =>
    obtain ⟨j, w⟩ := e
    have below : j < k := h (j, w) List.mem_cons_self
    rw [cellsInsert, if_neg (by omega), if_neg (by omega), ih fun e he => h e (List.mem_cons_of_mem _ he)]
    rfl

/-- A table has no gap: its keys are 0, 1, 2 and so on. -/
def NMap.Dense {α : Type} (m : NMap α) : Prop := m.keys = List.range m.cells.length

theorem State.logDense_iff (s : State) : s.LogDense ↔ s.gnt.log.Dense := Iff.rfl

theorem NMap.Dense.lt {α : Type} {m : NMap α} (h : m.Dense) {e : Nat × α} (he : e ∈ m.cells) : e.1 < m.cells.length :=
  List.mem_range.mp (h ▸ List.mem_map_of_mem he)

theorem NMap.Dense.insert {α : Type} {m : NMap α} (h : m.Dense) (v : α) : (m.insert m.cells.length v).Dense := by
  have cells : (m.insert m.cells.length v).cells = m.cells ++ [(m.cells.length, v)] := cellsInsert_last (fun _ he => h.lt he) v
  unfold NMap.Dense NMap.keys
  rw [cells, List.map_append, List.length_append, List.length_singleton, List.range_succ]
  exact congrArg (· ++ [m.cells.length]) h

theorem NMap.get?_none_of_lt {α : Type} {m : NMap α} {k : Nat} (h : ∀ e ∈ m.cells, e.1 < k) : m.get? k = none := by
  cases hk : m.get? k with
  | none => rfl
  | some v => exact absurd (h _ (mem_of_cellsGet hk)) (Nat.lt_irrefl k)

/-- A table without gaps lists every number below its size. -/
theorem NMap.Dense.get?_isSome {α : Type} {m : NMap α} (h : m.Dense) {k : Nat} (hk : k < m.cells.length) : ∃ v, m.get? k = some v := by
  have listed : ∀ l : List (Nat × α), k ∈ l.map (·.1) → ∃ v, cellsGet l k = some v := by
    intro l
    induction l with
    | nil => exact fun hm => absurd hm List.not_mem_nil
    | cons e l ih =>
      obtain ⟨j, w⟩ := e
      intro hm
      rw [cellsGet]
      split
      · exact ⟨w, rfl⟩
      next hj => exact ih ((List.mem_cons.mp hm).resolve_left hj)
  exact listed m.cells (by rw [show m.cells.map (·.1) = _ from h]; exact List.mem_range.mpr hk)

/-- On a log without gaps, the last chain value is that before the next index. -/
theorem State.LogDense.chainLast {s : State} (h : s.LogDense) : s.chainLast = s.chainBefore s.evNext := by
  unfold State.chainLast
  cases hn : s.evNext with
  | zero =>
    rw [NMap.get?_none_of_lt fun e he => (NMap.Dense.lt h he).trans_le (by rw [show s.gnt.log.cells.length = 0 from hn])]
    rfl
  | succ n =>
    obtain ⟨r, hr⟩ := NMap.Dense.get?_isSome h (k := n) (by show n < s.evNext; omega)
    rw [Nat.add_sub_cancel, hr, State.chainBefore, NMap.getD, hr]
    rfl

/-- A record with its chain value. -/
def chained (c b : Bytes) : Bytes := b ++ (sha384 (c ++ b)).take 12

theorem chained_parts (c : Bytes) {b : Bytes} (h : b.length = 20) :
    (chained c b).length = 32 ∧ slice (chained c b) 0x14 12 = (sha384 (c ++ (chained c b).take 20)).take 12 := by
  have body : (chained c b).take 20 = b := by rw [chained, List.take_append_of_le_length (by omega), List.take_of_length_le (by omega)]
  have value : ((sha384 (c ++ b)).take 12).length = 12 := by rw [List.length_take, sha384, fitLen_length]; rfl
  constructor
  · rw [chained, List.length_append, h, value]
  · rw [body, chained, slice_append_right _ _ _ _ h, List.take_of_length_le (by omega)]

section
variable {s u : State} {r : Bytes}

/-- A record at a new index leaves the chain before it. -/
theorem State.chainBefore_insert (hl : u.gnt.log = s.gnt.log.insert s.evNext r) {i : Nat} (hi : i ≤ s.evNext) :
    u.chainBefore i = s.chainBefore i := by
  cases i with
  | zero => rfl
  | succ i => rw [State.chainBefore, State.chainBefore, hl, NMap.getD, NMap.getD, NMap.get?_insert_ne _ _ (by omega)]

theorem State.LogChained.insert (h : s.LogChained) (hd : s.LogDense) (hl : u.gnt.log = s.gnt.log.insert s.evNext r)
    (hr : r.length = 32 ∧ slice r 0x14 12 = (sha384 (s.chainBefore s.evNext ++ r.take 20)).take 12) : u.LogChained := by
  intro i x hx
  rw [hl, NMap.get?_insert] at hx
  split at hx
  next e =>
    cases hx
    rw [e, State.chainBefore_insert hl le_rfl]
    exact hr
  next =>
    have below : i < s.evNext := NMap.Dense.lt hd (mem_of_cellsGet hx)
    rw [State.chainBefore_insert hl below.le]
    exact h i x hx

end

theorem State.raiseIrq_world (s : State) (n : Nat) : ∃ w : WldUnit, s.raiseIrq n = { s with wld := w } :=
  ⟨_, congrArg (fun t : State => { t with wld := (s.raiseIrq n).wld }) (s.raiseIrq_frame n)⟩

theorem exec_evidenceCommit {s t : State} {dt : Nat} {b : Bytes} {rest : List Bytes} (ht : t = s.tick dt) (hs : t.gnt.staged = b :: rest)
    (hr : t.rpPrograms = true) (hp : 2 ≤ t.fget Fld.DEV_BOOT_STATUS_phase 0) : exec (.evidenceCommit dt) s = .next (t.commitRecord b rest) := by
  subst ht
  simp only [exec, execEvidenceCommit, hs, hr, hp, decide_true, Bool.and_self, if_true]

/-- A commit that the log takes changes the log, the stage and the interrupts (R396). -/
theorem State.commitRecord_takes {t : State} {b : Bytes} (hl : t.logTakes b = true) (rest : List Bytes) : ∃ w : WldUnit,
    t.commitRecord b rest =
      { t with wld := w, gnt := { t.gnt with log := t.gnt.log.insert t.evNext (chained t.chainLast b), staged := rest } } := by
  unfold State.commitRecord
  rw [if_pos hl]
  obtain ⟨w, first⟩ := State.raiseIrq_world
    { t with gnt := { t.gnt with log := t.gnt.log.insert t.evNext (chained t.chainLast b), staged := rest } } 0x05
  obtain ⟨w', second⟩ := State.raiseIrq_world
    { t with wld := w, gnt := { t.gnt with log := t.gnt.log.insert t.evNext (chained t.chainLast b), staged := rest } } 0x07
  unfold chained at first second ⊢
  dsimp only
  rw [first]
  split
  · exact ⟨w', second⟩
  · exact ⟨w, rfl⟩

theorem State.commitRecord_drops {t : State} {b : Bytes} (hl : t.logTakes b = false) (rest : List Bytes) :
    t.commitRecord b rest = State.bumpSat { t with gnt := { t.gnt with staged := rest } } Fld.GNT_EV_DROPPED_count 0 1 :=
  if_neg (by rw [hl]; exact Bool.false_ne_true)

/-- Settles O57: the commit inserts the chained record at the log's size, which extends a log without gaps and its chain. -/
theorem evidenceCommitExtendsTheChain : Obligations.EvidenceCommitExtendsTheChain := by
  refine ⟨?_, fun s => congrArg (fun l => (sha384 l).take 12) (by decide), ?_, ?_⟩
  · intro dt b rest s t ht hs hr hp hl hd hb hc
    obtain ⟨w, commit⟩ := State.commitRecord_takes hl rest
    rw [hd.chainLast] at commit
    refine ⟨_, (exec_evidenceCommit ht hs hr hp).trans (congrArg _ commit), NMap.Dense.insert hd _, ?_, NMap.get?_insert_self _ _ _⟩
    exact State.LogChained.insert hc hd rfl (chained_parts _ hb)
  · intro i r s hr
    rw [State.chainBefore, NMap.getD, hr]
    rfl
  · intro typ cls detail union s
    simp only [State.evidenceBody, List.length_append, natLE_length]

/-! ## Responses (R386 to R400) -/

theorem exec_secondDecision {s t : State} {dt sensor sub cls : Nat} {e : Second} (ht : t = s.tick dt)
    (he : t.gnt.seconds.get? (condKey sensor sub) = some e) (hc : cls < 4) (hs : sub < 256) :
    exec (.secondDecision dt sensor sub cls) s = .next (t.decide2 sensor (condKey sensor sub) cls e) := by
  subst ht
  simp only [exec, execSecondDecision, he, hc, hs, decide_true, Bool.and_self, if_true]

theorem exec_conditionEnd {s t : State} {dt sensor sub v : Nat} {c : Cond} (ht : t = s.tick dt)
    (hg : t.gnt.conds.get? (condKey sensor sub) = some c) (he : c.ended = none) (hs : sub < 256) (hv : endsAt sensor sub v = true) :
    exec (.conditionEnd dt sensor sub v) s = .next ((t.noteReading sensor sub v).condEnd (condKey sensor sub) c) := by
  subst ht
  simp only [exec, execConditionEnd, hg, Cond.present, he, hs, hv, Option.isNone_none, decide_true, Bool.and_self, if_true]

theorem State.holdLifts_due {t : State} {sensor sub at_ : Nat} {c : Cond} (hg : t.gnt.conds.get? (condKey sensor sub) = some c)
    (he : c.ended = some at_) (ha : at_ + 100000 ≤ t.gnt.kaNs) (hs : sub < 256) : t.holdLifts sensor sub = t.lift (condKey sensor sub) := by
  simp only [State.holdLifts, hg, he, ha, hs, decide_true, Bool.and_self, if_true]

/-- The erase flags of KS and GNT are apart from what the erase's end reads. -/
theorem State.eraseDone_reads (t : State) :
    ((t.fset Fld.GNT_STATUS_erase_busy 0 0).fset Fld.KS_STATUS_wipe_busy 0 0).clearHeld = t.clearHeld ∧
    ((t.fset Fld.GNT_STATUS_erase_busy 0 0).fset Fld.KS_STATUS_wipe_busy 0 0).flag Fld.KS_STATUS_seed_valid 0 =
      t.flag Fld.KS_STATUS_seed_valid 0 := by
  unfold State.clearHeld State.flag
  constructor
  · rw [State.fget_fset_reg_ne _ _ _ (by decide), State.fget_fset_apart t 0 0 (by decide) (by decide) (by decide) (by decide) (by decide)]
  · rw [State.fget_fset_apart _ 0 0 (by decide) (by decide) (by decide) (by decide) (by decide), State.fget_fset_reg_ne _ _ _ (by decide)]

theorem State.eraseEnds_seeded {t u : State} (he : t.erasing = true) (hc : t.clearHeld = false) (hs : t.flag Fld.KS_STATUS_seed_valid 0 = true)
    (hu : u = ((t.fset Fld.GNT_STATUS_erase_busy 0 0).fset Fld.KS_STATUS_wipe_busy 0 0).deriveKeys) :
    t.eraseEnds = ([0x10, 0x11, 0x12, 0x13].foldl State.islandUpdate u).gntSync := by
  subst hu
  obtain ⟨held, seed⟩ := t.eraseDone_reads
  unfold State.eraseEnds
  rw [if_pos he]
  dsimp only
  rw [held, seed, hc, hs]
  rfl

/-- Settles O54: each command finds its branch under the premises; a commit is State.commitRecord, which takes a record or drops it. -/
theorem gauntletResponsesComplete : Obligations.GauntletResponsesComplete := by
  refine ⟨?_, ?_, ?_, ?_, ?_, ?_, ?_, fun dt s => rfl, ?_, ?_⟩
  · intro dt sensor sub cls e s t ht he hc hs
    exact exec_secondDecision ht he hc hs
  · intro dt sensor sub v c s t ht hg he hs hv
    exact exec_conditionEnd ht hg he hs hv
  · rintro dt sensor sub at_ c s t rfl hg he ha hs
    exact congrArg (fun u : State => Host.Outcome.next u.settle) (State.holdLifts_due hg he ha hs)
  · rintro dt s t u rfl he hc hs hu
    exact congrArg (fun u : State => Host.Outcome.next u.settle) (State.eraseEnds_seeded he hc hs hu)
  · rintro dt s t rfl hc h3 ha
    exact if_pos (by rw [hc, h3, decide_eq_true ha]; rfl)
  · intro dt b rest s t ht hs hr hp hl
    obtain ⟨w, commit⟩ := State.commitRecord_takes hl rest
    exact ⟨_, (exec_evidenceCommit ht hs hr hp).trans (congrArg _ commit), rfl, rfl, rfl, rfl⟩
  · intro dt b rest s t ht hs hr hp hl
    exact (exec_evidenceCommit ht hs hr hp).trans (congrArg _ (State.commitRecord_drops hl rest))
  · rintro dt s t u rfl hm hp rfl
    exact if_pos (by rw [hm, hp]; rfl)
  · rintro dt s t rfl
    rfl

end Sys2Proof.Machine
end

section
/-! PROOFS. The replicated units and their memories (R404 to R419), the recorder and the meters (R429 to R446), management messages (R453 to R469) and the custody card (R471 to R483). -/

namespace Sys2Proof.Machine

/-! ## Checks, visits and self-tests of the replicated units (R404 to R413) -/

section
variable {s t : State} {dt kind unit : Nat}

theorem exec_faultCheckFired_unit (ht : t = s.tick dt) (hk : kind < 4) (hu : unit < unitCount kind) (hr : t.role kind unit ≤ 1) (cause info : Nat) :
    exec (.faultCheckFired dt kind unit cause info) s = .next (if kind = 3 && cause = 5 then t.giveDescriptor unit info
      else if kind = 3 && cause = 6 then t.bumpSat Fld.PKE_CORE_ECC_count unit 1 else (t.noteCheck kind unit cause info).fence kind unit) := by
  subst ht
  simp only [exec, execFaultCheckFired]
  rw [if_neg (by omega), if_pos (by simp only [hk, hu, hr, decide_true, Bool.and_self])]
  split
  · rfl
  · split <;> rfl

theorem exec_knownAnswerCheck (ht : t = s.tick dt) (hk : kind = 2 ∨ kind = 3) (hu : unit < unitCount kind) (hr : t.role kind unit = 0)
    (pass : Bool) : exec (.knownAnswerCheck dt kind unit pass) s = .next (if pass then t else t.fence kind unit) := by
  subst ht
  have test : ((kind = 2 || kind = 3) && unit < unitCount kind && (s.tick dt).role kind unit = 0 && !pass) = !pass := by
    simp only [hu, hr, decide_true, Bool.and_true]
    simpa using fun _ => hk
  simp only [exec, execKnownAnswerCheck, test]
  cases pass <;> rfl

theorem exec_oasisVisitStart {island base u : Nat} (ht : t = s.tick dt) (hk : kind < 4) (hi : island < 8)
    (hb : base = (if kind = 3 then 9 * island else 0)) (hp : t.rotPaused kind = false) (hv : t.visitRuns kind base = false)
    (hd : t.visitDue kind base = true) (he : t.erasing = false) (hn : t.nextUnit kind base = some u)
    (hh : t.islandHeld (unitIsland kind u) = false) : exec (.oasisVisitStart dt kind island) s = .next (t.visitBegin kind u) := by
  subst ht hb
  simp only [exec, execOasisVisitStart, hk, hi, hp, hv, hd, he, hn, hh, decide_true, Bool.not_false, Bool.and_self, if_true,
    Bool.false_eq_true, if_false]

theorem exec_oasisDrainDone (ht : t = s.tick dt) (hk : kind < 4) (hu : unit < unitCount kind)
    (hc : t.rot.draining.contains (unitKey kind unit) = true) (hd : t.drained kind unit = true) (hh : t.islandHeld (unitIsland kind unit) = false) :
    exec (.oasisDrainDone dt kind unit) s = .next ((t.closeUnit kind unit).toTest kind unit) := by
  subst ht
  exact if_pos (by simp only [hk, hu, hc, hd, hh, decide_true, Bool.not_false, Bool.and_self])

theorem exec_unitSelftestDone (ht : t = s.tick dt) (hk : kind < 4) (hu : unit < unitCount kind)
    (hc : t.rot.testing.contains (unitKey kind unit) = true) (hh : t.islandHeld (unitIsland kind unit) = false) (he : t.erasing = false)
    (pass : Bool) : exec (.unitSelftestDone dt kind unit pass) s = .next (if pass then
      (if t.role kind unit = 2 then t.unitReturns kind unit else t.visitEnds kind unit) else t.fence kind unit) := by
  subst ht
  simp only [exec, execUnitSelftestDone]
  rw [if_pos (by simp only [hk, hu, hc, hh, he, decide_true, Bool.not_false, Bool.and_self])]
  cases pass
  · rfl
  · simp only [Bool.not_true, Bool.false_eq_true, if_false, if_true]
    split <;> rfl

end

/-- Settles O52: each event finds its branch under the premises. -/
theorem replicatedUnitEventsComplete : Obligations.ReplicatedUnitEventsComplete := by
  refine ⟨?_, ?_, ?_, ?_, ?_, ?_, ?_, ?_, fun dt which s => rfl, ?_, ?_⟩
  · intro dt kind unit cause info s t ht hk hu hr hc
    rw [exec_faultCheckFired_unit ht hk hu hr, if_neg (by simp; omega), if_neg (by simp; omega)]
  · intro dt n info s t ht hn hr
    exact ⟨exec_faultCheckFired_unit ht (by decide) hn hr 5 info, exec_faultCheckFired_unit ht (by decide) hn hr 6 info⟩
  · intro dt src cause dst s hs hd
    exact if_pos (by rw [hs, hd]; rfl)
  · rintro dt pair s t rfl hp hr
    exact if_pos (by rw [decide_eq_true hp, decide_eq_true hr]; rfl)
  · intro dt kind unit s t ht hk hu hr
    exact ⟨exec_knownAnswerCheck ht hk hu hr false, exec_knownAnswerCheck ht hk hu hr true⟩
  · intro dt kind island base u s t ht hk hi hb hp hv hd he hn hh
    exact exec_oasisVisitStart ht hk hi hb hp hv hd he hn hh
  · intro dt kind unit s t ht hk hu hc hd hh
    exact exec_oasisDrainDone ht hk hu hc hd hh
  · intro dt kind unit s t ht hk hu hc hh he
    exact ⟨exec_unitSelftestDone ht hk hu hc hh he false, exec_unitSelftestDone ht hk hu hc hh he true⟩
  · intro dt e s he
    exact if_pos he
  · intro kind unit s _ _ hr
    exact if_pos hr

/-! ## The recorder and the meters (R429 to R446) -/

theorem State.enableMeter_valid {t u : State} (he : t.flag Fld.PMC_METER_CTRL_enable 0 = false) (hb : t.meterBaseOk = true)
    (hu : u = (t.fset Fld.PMC_METER_CTRL_enable 0 1).fset Fld.PMC_METER_PTR_tail 0 0) :
    t.enableMeter = State.meterDrain 4096 { u with met := { u.met with period := u.meterSeconds } } := by
  subst hu
  unfold State.enableMeter
  rw [if_neg (by rw [he]; exact Bool.false_ne_true), if_pos hb]

theorem State.enableMeter_invalid {t : State} (he : t.flag Fld.PMC_METER_CTRL_enable 0 = false) (hb : t.meterBaseOk = false) :
    t.enableMeter = t.fset Fld.PMC_METER_CTRL_err 0 1 := by
  unfold State.enableMeter
  rw [if_neg (by rw [he]; exact Bool.false_ne_true), if_neg (by rw [hb]; exact Bool.false_ne_true)]

theorem State.enableDump_valid {t u : State} (he : t.flag Fld.PMC_DUMP_CTRL_enable 0 = false) (hb : t.dumpBaseOk = true)
    (hu : u = (t.fset Fld.PMC_DUMP_CTRL_enable 0 1).fset Fld.PMC_DUMP_PTR_tail 0 0) :
    t.enableDump = { u with met := { u.met with dumpSeq := 0 } } := by
  subst hu
  unfold State.enableDump
  rw [if_neg (by rw [he]; exact Bool.false_ne_true), if_pos hb]

theorem State.enableDump_invalid {t : State} (he : t.flag Fld.PMC_DUMP_CTRL_enable 0 = false) (hb : t.dumpBaseOk = false) :
    t.enableDump = t.fset Fld.PMC_DUMP_CTRL_err 0 1 := by
  unfold State.enableDump
  rw [if_neg (by rw [he]; exact Bool.false_ne_true), if_neg (by rw [hb]; exact Bool.false_ne_true)]

theorem exec_recorderFlush {s t : State} {dt : Nat} (ht : t = s.tick dt) (hc : t.flag Fld.XSP_STATUS_cs1_ok 0 = true) :
    exec (.recorderFlush dt true) s = .next t.flush := by
  subst ht
  simp only [exec, execRecorderFlush, hc, Bool.not_true, Bool.false_eq_true, if_false, if_true]

theorem exec_recorderFlush_noChip {s t : State} {dt : Nat} (ht : t = s.tick dt) (hc : t.flag Fld.XSP_STATUS_cs1_ok 0 = false) (ok : Bool) :
    exec (.recorderFlush dt ok) s = .next ((t.fset Fld.REC_STATUS_nv_err 0 1).fset Fld.REC_CTRL_flush 0 0) := by
  subst ht
  exact if_pos (by rw [hc]; rfl)

theorem State.fget_setRcd (s : State) (r : Recorder) (f : Fld) (i : Nat) : ({ s with rcd := r } : State).fget f i = s.fget f i := rfl

theorem State.regionReset_empties (t : State) : t.regionReset.rcd.region = .empty ∧ t.regionReset.fget Fld.REC_NV_NEXT_next 0 = 0 ∧
    t.regionReset.flag Fld.REC_STATUS_stopped 0 = false ∧ t.regionReset.rcd.entries = t.rcd.entries := by
  unfold State.regionReset
  extract_lets u
  have next : u.fget Fld.REC_NV_NEXT_next 0 = 0 :=
    (State.fget_fset_reg_ne _ 0 0 (by decide)).trans (State.fget_fset t _ 0 0 (by decide) (by decide))
  have stopped : u.fget Fld.REC_STATUS_stopped 0 = 0 := State.fget_fset _ _ 0 0 (by decide) (by decide)
  refine ⟨rfl, (State.fget_setRcd u _ _ _).trans next, ?_, ?_⟩
  · rw [State.flag, State.fget_setRcd, stopped]
    rfl
  · have kept : u.rcd = t.rcd := by simp only [u, State.fset_rcd]
    have entries := congrArg Recorder.entries kept
    exact entries

/-- Settles O58: each command finds its branch under the premises. -/
theorem recorderAndMeterCommandsComplete : Obligations.RecorderAndMeterCommandsComplete := by
  refine ⟨?_, ?_, ?_, fun dt v s => rfl, ?_, ?_, ?_, ?_, ?_, ?_, ?_, ?_⟩
  · rintro dt s t rfl he hn
    exact if_pos (by rw [he, hn]; rfl)
  · rintro dt s t u rfl he hb hu
    exact congrArg _ (State.enableMeter_valid he hb hu)
  · rintro dt s t rfl he hb
    exact congrArg _ (State.enableMeter_invalid he hb)
  · rintro dt s t rfl he hn
    exact if_pos (by rw [he, hn]; rfl)
  · rintro dt s t u rfl he hb hu
    exact congrArg _ (State.enableDump_valid he hb hu)
  · rintro dt s t rfl he hb
    exact congrArg _ (State.enableDump_invalid he hb)
  · intro dt v s hv
    exact congrArg _ (if_neg hv)
  · intro dt v s hv
    exact congrArg _ (if_pos hv)
  · intro dt s t ht hc
    exact exec_recorderFlush ht hc
  · intro dt ok s t ht hc
    exact exec_recorderFlush_noChip ht hc ok
  · intro dt s
    obtain ⟨region, next, stopped, entries⟩ := (s.tick dt).regionReset_empties
    exact ⟨(s.tick dt).regionReset, rfl, region, next, stopped, entries.trans (by rw [State.tick_rcd])⟩

/-! ## Management messages (R453 to R469) -/

theorem State.mgmt_answers {s : State} {tr : Nat} {r : MgmtReq} (hr : s.mgmtReachable tr = true) (hh : s.mgmtHeld tr r = false) :
    s.mgmt tr r = s.answerMgmt tr r := by
  unfold State.mgmt
  rw [if_neg (by rw [hr]; exact Bool.false_ne_true), if_neg (by rw [hh]; exact Bool.false_ne_true)]

theorem State.mgmt_holds {s : State} {tr : Nat} {r : MgmtReq} (hr : s.mgmtReachable tr = true) (hh : s.mgmtHeld tr r = true)
    (hm : s.mgmtRoom tr = true) : s.mgmt tr r = { s with lnk := { s.lnk with held := s.lnk.held ++ [(tr, r)] } } := by
  unfold State.mgmt
  rw [if_neg (by rw [hr]; exact Bool.false_ne_true), if_pos hh, if_pos hm]

theorem State.answerMgmt_serves {s : State} {r : MgmtReq} (h : isSpdm r = false ∨ s.spdmBusy = false) (tr : Nat) :
    s.answerMgmt tr r = s.serveMgmt tr r :=
  if_neg (by obtain h | h := h <;> simp [h])

/-- Every command of the tables of requests hands its request to State.mgmt. -/
theorem exec_mgmtTable {dt tr a b c : Nat} {x y : Bytes} {f : Bool} {i : Instr} {r : MgmtReq} (h : (i, r) ∈ mgmtTable dt tr a b c x y f)
    (s : State) : exec i s = .next ((s.tick dt).mgmt tr r) := by
  simp only [mgmtTable, List.mem_cons, Prod.mk.injEq, List.not_mem_nil, or_false] at h
  rcases h with ⟨rfl, rfl⟩ | ⟨rfl, rfl⟩ | ⟨rfl, rfl⟩ | ⟨rfl, rfl⟩ | ⟨rfl, rfl⟩ | ⟨rfl, rfl⟩ | ⟨rfl, rfl⟩ |
    ⟨rfl, rfl⟩ | ⟨rfl, rfl⟩ | ⟨rfl, rfl⟩ | ⟨rfl, rfl⟩ | ⟨rfl, rfl⟩ | ⟨rfl, rfl⟩ | ⟨rfl, rfl⟩ | ⟨rfl, rfl⟩ <;> rfl

theorem exec_ideTable {dt tr a b c e n : Nat} {x : Bytes} {i : Instr} {r : MgmtReq} (h : (i, r) ∈ ideTable dt tr a b c e n x) (s : State) :
    exec i s = .next ((s.tick dt).mgmt tr r) := by
  simp only [ideTable, List.mem_cons, Prod.mk.injEq, List.not_mem_nil, or_false] at h
  rcases h with ⟨rfl, rfl⟩ | ⟨rfl, rfl⟩ | ⟨rfl, rfl⟩ | ⟨rfl, rfl⟩ <;> rfl

/-- MCTP control messages are no SPDM requests. -/
theorem exec_mctpTable {dt a : Nat} {i3c : Bool} {i : Instr} {r : MgmtReq} (h : (i, r) ∈ mctpTable dt i3c a) (s : State) :
    exec i s = .next ((s.tick dt).mgmt (mctpBinding i3c) r) ∧ isSpdm r = false := by
  simp only [mctpTable, List.mem_cons, Prod.mk.injEq, List.not_mem_nil, or_false] at h
  rcases h with ⟨rfl, rfl⟩ | ⟨rfl, rfl⟩ | ⟨rfl, rfl⟩ | ⟨rfl, rfl⟩ <;> exact ⟨rfl, rfl⟩

theorem State.inSession_none {s : State} {tr ident : Nat} (h : s.sessionOf tr ident = none) (f : State → Session → State) :
    s.inSession tr ident f = s.respondSpdm tr (spdmError 0x02 0) := by
  unfold State.inSession
  rw [h]
  rfl

theorem State.serveMgmt_mctpOther (s : State) (tr typ command : Nat) : s.serveMgmt tr (.mctpOther typ command) =
    if typ = 0 ∧ command ∉ [0x01, 0x02, 0x04, 0x05] then s.reply tr (mctpReply command 0x05 []) else s := by
  have test : (typ = 0 && !([0x01, 0x02, 0x04, 0x05].contains command)) = true ↔ typ = 0 ∧ command ∉ [0x01, 0x02, 0x04, 0x05] := by
    rw [Bool.and_eq_true, decide_eq_true_eq, Bool.not_eq_true', ← Bool.not_eq_true, List.contains_iff_mem]
  exact if_congr test rfl rfl

theorem exec_entdaa {s t : State} {dt addr : Nat} (ht : t = s.tick dt) (hm : t.gnt.main = true) (h2 : 2 ≤ t.fget Fld.DEV_BOOT_STATUS_phase 0)
    (hf : t.fget Fld.DEV_BOOT_STATUS_phase 0 ≠ 0xF) (hi : t.lnk.i3c = none) (ha : addr < 128) : exec (.entdaa dt addr) s =
      .next (State.reply { t with lnk := { t.lnk with i3c := some addr } } 2 (natBE 6 t.provisionedId)) := by
  subst ht
  exact if_pos (by simp only [hm, h2, hi, ha, bne_iff_ne.mpr hf, Option.isNone_none, decide_true, Bool.and_self])

/-- Settles O60: every request goes through State.mgmt, which under the premises answers it, holds it or finds SPDM busy. -/
theorem managementMessagesComplete : Obligations.ManagementMessagesComplete := by
  refine ⟨?_, ?_, ?_, ?_, ?_, ?_, fun tr code s => rfl, ?_, ?_, ?_⟩
  · intro dt tr a b c x y f s i r h hr hh
    rw [exec_mgmtTable h, State.mgmt_answers hr hh]
  · intro dt a b c e n x tr s i r h hr hh
    rw [exec_ideTable h, State.mgmt_answers hr hh]
  · intro dt a i3c s i r h hr hh
    obtain ⟨run, control⟩ := exec_mctpTable h s
    rw [run, State.mgmt_answers hr hh, State.answerMgmt_serves (.inl control)]
  · intro dt typ command i3c s hr hh
    have run : exec (.mctpUnsupportedMessage dt i3c typ command) s = .next ((s.tick dt).mgmt (mctpBinding i3c) (.mctpOther typ command)) := rfl
    rw [run, State.mgmt_answers hr hh, State.answerMgmt_serves (.inl rfl), State.serveMgmt_mctpOther]
  · intro tr r s hr hb
    exact if_pos (by rw [hr, hb]; rfl)
  · intro tr r s hb
    exact State.answerMgmt_serves (.inr hb) tr
  · intro tr ident s h
    have ended : s.spdmEnd tr ident = s.respondSpdm tr (spdmError 0x02 0) := State.inSession_none h _
    have beat : s.spdmHeartbeat tr ident = s.respondSpdm tr (spdmError 0x02 0) := State.inSession_none h _
    exact ⟨ended, beat⟩
  · intro tr r s hr hh hm
    exact State.mgmt_holds hr hh hm
  · intro dt addr s t ht hm h2 hf hi ha
    exact exec_entdaa ht hm h2 hf hi ha

/-! ## The custody card (R471 to R483) -/

theorem State.fget_setCrd (s : State) (r : CrdUnit) (f : Fld) (i : Nat) : ({ s with crd := r } : State).fget f i = s.fget f i := rfl

theorem exec_cardInserted {s t : State} {dt : Nat} (ht : t = s.tick dt) (hc : t.crd.card = none) (hp : t.perRuns = true) (c : Card) :
    ∃ u : State, exec (.cardInserted dt c) s = .next u ∧ u.crd.card = some c ∧ u.crd.query = some t.now ∧
      u.flag Fld.CRD_STATUS_present 0 ∧ u.flag Fld.CRD_STATUS_ident 0 ∧ u.cmd = t.cmd := by
  subst ht
  have run : exec (.cardInserted dt c) s = execCardInserted dt c s := rfl
  rw [run]
  unfold execCardInserted
  extract_lets t a u
  have present : u.fget Fld.CRD_STATUS_present 0 = 1 :=
    (State.fget_fset_apart _ 0 1 (by decide) (by decide) (by decide) (by decide) (by decide)).trans
      (State.fget_fset a _ 0 1 (by decide) (by decide))
  have ident : u.fget Fld.CRD_STATUS_ident 0 = 1 := State.fget_fset _ _ 0 1 (by decide) (by decide)
  have now : u.now = t.now := by simp only [u, a, State.fset_now, State.emit_now]
  have cmd : u.cmd = t.cmd := by simp only [u, a, State.fset_cmd, State.emit_cmd]
  exact ⟨_, if_pos (by rw [hc, hp]; rfl), rfl, congrArg some now, beq_iff_eq.mpr ((State.fget_setCrd u _ _ _).trans present),
    beq_iff_eq.mpr ((State.fget_setCrd u _ _ _).trans ident), cmd⟩

section
variable {s t : State} {dt tq : Nat} {c : Card}

theorem exec_cardPoll_ready (ht : t = s.tick dt) (hc : t.crd.card = some c) (hq : t.crd.query = some tq) (hh : t.islandHeld 0x07 = false) :
    exec (.cardOperatingConditionPoll dt true) s = .next (t.cardReady c) := by
  subst ht
  simp only [exec, execCardOperatingConditionPoll, hc, hq, hh, Bool.false_eq_true, if_false, if_true]

theorem exec_cardPoll_givesUp (ht : t = s.tick dt) (hc : t.crd.card = some c) (hq : t.crd.query = some tq) (hh : t.islandHeld 0x07 = false)
    (hd : tq + 1000000000 ≤ t.now) :
    exec (.cardOperatingConditionPoll dt false) s = .next (t.cardGivenUp.bumpSat Fld.CRD_ERR_timeout 0 1) := by
  subst ht
  simp only [exec, execCardOperatingConditionPoll, hc, hq, hh, hd, Bool.false_eq_true, if_false, if_true]

theorem exec_cardRemoved_idle (ht : t = s.tick dt) (hc : t.crd.card = some c) (hr : t.crd.run = none) :
    exec (.cardRemoved dt) s = .next t.cardGone := by
  subst ht
  simp only [exec, execCardRemoved, hc, hr, Option.isNone_some, Bool.false_eq_true, if_false]

theorem exec_cardRemoved_running {r : CardRun} (ht : t = s.tick dt) (hc : t.crd.card = some c) (hr : t.crd.run = some r) :
    exec (.cardRemoved dt) s = .next ((t.cardStops r (r.ends.getD .cardRemoved)).bumpSat Fld.CRD_ERR_removed 0 1).cardGone := by
  subst ht
  simp only [exec, execCardRemoved, hc, hr, Option.isNone_some, Bool.false_eq_true, if_false]

theorem exec_cardBusyTimeout {r : CardRun} (ht : t = s.tick dt) (hr : t.crd.run = some r) (hw : writePhase r.phase = true) :
    exec (.cardBusyTimeout dt) s = .next ((t.bumpSat Fld.CRD_ERR_timeout 0 1).cardStops r (r.ends.getD .rejected)) := by
  subst ht
  simp only [exec, execCardBusyTimeout, hr, hw, if_true]

end

theorem exec_vaultBackupInit {s t : State} {dt pid : Nat} {d : PktData} {stall : Option CardPhase} {p q : Packet}
    (hq : (s.tick dt).cmd.packets.get? pid = some q) (hm : cardMode1 d q = true) (h : (s.tick dt).Starts 0x0F0B pid d t p) :
    exec (.vaultBackupInit dt pid d stall) s = .next (State.cardCommand .init stall t pid p) := by
  have work := h.runPacket (State.cardCommand .init stall)
  simp only [exec, execVaultBackupInit, hq, hm, work, if_true]

theorem exec_vaultBackup {s t : State} {dt pid : Nat} {d : PktData} {stall : Option CardPhase} {p q : Packet}
    (hq : (s.tick dt).cmd.packets.get? pid = some q) (hm : cardMode1 d q = false) (h : (s.tick dt).Starts 0x0F0B pid d t p) :
    exec (.vaultBackup dt pid d stall) s = .next (State.cardCommand .backup stall t pid p) := by
  have work := h.runPacket (State.cardCommand .backup stall)
  simp only [exec, execVaultBackup, hq, hm, work, Bool.false_eq_true, if_false]

section
variable {t u : State} {pid : Nat} {p : Packet} {o : Option Key} {job : CardJob} {stall : Option CardPhase}

theorem State.cardCommand_busy (ho : t.handles pid p = .ok o) (hb : t.crd.run.isSome = true ∨ t.crd.query.isSome = true) :
    State.cardCommand job stall t pid p = (t.countPid pid true).fail pid .busyRetry := by
  unfold State.cardCommand
  rw [ho]
  exact if_pos (by simpa using hb)

/-- A card command that is neither beside another one nor malformed waits in its first phase. -/
theorem State.cardCommand_form (ho : t.handles pid p = .ok o) (hf : cardForm job p = true) (hr : t.crd.run = none) (hq : t.crd.query = none)
    (hu : u = ((t.countPid pid false).setPacket pid { p with start := (t.countPid pid false).now, phase := .waiting }).setRun
      (some ⟨pid, job, .checks, 0, [], none⟩)) : State.cardCommand job stall t pid p =
        if u.cardUsable.isNone then (u.setRun none).fail pid .rejected
        else if u.cardHeld || stall == some .checks then u else u.cardOn ⟨pid, job, .checks, 0, [], none⟩ stall := by
  subst hu
  unfold State.cardCommand
  rw [ho]
  dsimp only
  rw [if_neg (by rw [hr, hq]; exact Bool.false_ne_true), if_neg (by rw [hf]; exact Bool.false_ne_true), State.countPid_now]

theorem State.cardUsable_congr (hc : u.crd.card = t.crd.card) (hr : u.fget Fld.CRD_STATUS_ready 0 = t.fget Fld.CRD_STATUS_ready 0) :
    u.cardUsable = t.cardUsable := by
  unfold State.cardUsable State.flag
  rw [hc, hr]

theorem State.setPacket_cardUsable : (t.setPacket pid p).cardUsable = t.cardUsable := rfl

theorem State.countPid_cardUsable (skip : Bool) : (t.countPid pid skip).cardUsable = t.cardUsable := by
  have card : (t.countPid pid skip).crd.card = t.crd.card := by
    have e := congrArg (fun u : State => u.crd.card) (t.countPid_frame pid skip)
    exact e
  refine State.cardUsable_congr card ?_
  unfold State.countPid State.countStart
  split
  · split
    · rfl
    · exact State.pmc_fget t _ _ (by decide) (by decide) (by decide)
  · rfl

theorem State.setRun_cardUsable (r : Option CardRun) : (t.setRun r).cardUsable = t.cardUsable := by
  unfold State.setRun
  exact State.cardUsable_congr (by rw [State.fset_crd]) ((State.fget_fset_apart _ 0 _ (by decide) (by decide)
    (by decide) (by decide) (by decide)).trans (State.fget_setCrd t _ _ _))

theorem State.cardUsable_card {c : Card} (h : u.cardUsable = some c) : u.crd.card = some c := by
  unfold State.cardUsable at h
  split at h
  next hc =>
    split at h
    · rw [hc]
      exact h
    · cases h
  next => cases h

/-- A card command whose checks pass runs to its end where nothing stops or stalls it (R481, R483). -/
theorem State.cardOn_passes {g : Nat} {b : Bytes} {c : Card} (hp : u.cmd.packets.get? pid = some p) (hc : u.crd.card = some c)
    (ha : u.askCard job p = .ok (b, g)) (hw : u.gnt.pfw = none) :
    u.cardOn ⟨pid, job, .checks, 0, [], none⟩ none = u.cardEnds ⟨pid, job, .checks, 0, b, none⟩ c g := by
  unfold State.cardOn
  dsimp only
  rw [hp, hc]
  dsimp only
  rw [if_pos (by rfl), ha]
  dsimp only
  rw [if_neg (by rw [hw]; exact Bool.false_ne_true)]

end

/-- Settles O51: each event finds its branch under the premises, and State.cardCommand's outcome is decided check by check. -/
theorem cardCommandsComplete : Obligations.CardCommandsComplete := by
  refine ⟨?_, ?_, ?_, ?_, ?_, ?_, ?_, ?_, ?_, ?_, ?_⟩
  · intro dt c s t ht hc hp
    exact exec_cardInserted ht hc hp c
  · intro dt tq c s t ht hc hq hh
    exact exec_cardPoll_ready ht hc hq hh
  · intro dt tq c s t ht hc hq hh hd
    exact exec_cardPoll_givesUp ht hc hq hh hd
  · intro dt pid d stall s t p q i job opc hq hi h
    obtain ⟨e, hm⟩ | ⟨e, hm⟩ | e | e := hi <;> cases e
    · exact exec_vaultBackupInit hq hm h
    · exact exec_vaultBackup hq hm h
    · exact congrArg _ (h.runPacket (State.cardCommand .restore stall))
    · exact congrArg _ (h.runPacket (State.cardCommand .evidence stall))
  · rintro pid stall t u p o job ho hf hr hq hc rfl
    rw [State.cardCommand_form ho hf hr hq rfl]
    exact if_pos (by rw [State.setRun_cardUsable, State.setPacket_cardUsable, State.countPid_cardUsable, hc]; rfl)
  · intro pid stall t p o job ho hb
    exact State.cardCommand_busy ho hb
  · rintro pid g t u v p o job b c ho hf hr hq rfl rfl hc hh ha hw
    rw [State.cardCommand_form ho hf hr hq rfl, if_neg (by rw [hc]; exact Bool.false_ne_true), if_neg (by rw [hh]; exact Bool.false_ne_true)]
    exact State.cardOn_passes (NMap.get?_insert_self _ _ _) (State.cardUsable_card hc) ha hw
  · intro dt c s t ht hc hr
    exact exec_cardRemoved_idle ht hc hr
  · intro dt c r s t ht hc hr
    exact exec_cardRemoved_running ht hc hr
  · rintro dt e stall s t rfl hr
    exact if_pos (by rw [hr]; rfl)
  · intro dt r s t ht hr hw
    exact exec_cardBusyTimeout ht hr hw

end Sys2Proof.Machine
end

section
/-! PROOFS. What every step keeps (R338, R342, R348, R396, R398): the OTP bits, the committed records and the queue behind the command. -/

namespace Sys2Proof.Machine

/-! ## Programmed bits stay (R338, R348) -/

theorem bitsKept.refl {w : Nat} (a : BitVec w) : bitsKept a a := fun _ h => h

theorem bitsKept.trans {w : Nat} {a b c : BitVec w} (h : bitsKept a b) (h' : bitsKept b c) : bitsKept a c := fun i hi => h' i (h i hi)

theorem bitsKept.or {w : Nat} (a m : BitVec w) : bitsKept a (a ||| m) := fun i hi => by rw [BitVec.getLsbD_or, hi, Bool.true_or]

theorem bitsKept.allOnes {w : Nat} (a : BitVec w) : bitsKept a (BitVec.allOnes w) := fun i hi => by
  rw [BitVec.getLsbD_allOnes]
  exact decide_eq_true (BitVec.lt_of_getLsbD hi)

/-- Bits set in one element of a vector leave every element's bits. -/
theorem bitsKept.set! {w n : Nat} (v : Vector (BitVec w) n) (k : Nat) (m : BitVec w) (c : Fin n) :
    bitsKept v[c] (v.set! k (v.toList.getD k 0 ||| m))[c] := by
  have get : (v.set! k (v.toList.getD k 0 ||| m))[c] = if k = c then v.toList.getD k 0 ||| m else v[c] := by
    simp [Vector.set!_eq_setIfInBounds, Vector.getElem_setIfInBounds]
  rw [get]
  split
  next e =>
    have old : v.toList.getD k 0 = v[c] := by simp [e, List.getD_eq_getElem?_getD]
    rw [old]
    exact .or _ m
  next => exact .refl _

theorem bitsKept.setIfInBounds {w n : Nat} (v : Vector (BitVec w) n) (k : Nat) (m : BitVec w) (c : Fin n) :
    bitsKept v[c] (v.setIfInBounds k (v.getD k 0 ||| m))[c] := by
  have get : (v.setIfInBounds k (v.getD k 0 ||| m))[c] = if k = c then v.getD k 0 ||| m else v[c] := by
    simp [Vector.getElem_setIfInBounds]
  rw [get]
  split
  next e =>
    have old : v.getD k 0 = v[c] := by simp [e, Vector.getD]
    rw [old]
    exact .or _ m
  next => exact .refl _

/-- A resumed programming of copy A sets bits (R348). -/
theorem shareResume_keeps (a : BitVec 512) (fresh : BitVec 256) : bitsKept a (shareResume a fresh) :=
  List.foldlRecOn (List.range 256) _ (motive := fun v => bitsKept a v) (.refl a) fun v hv j _ => by
    split
    · exact hv.trans (.or v _)
    · exact hv

namespace Otp.Keeps

theorem refl (o : Otp) : o.Keeps o := ⟨fun _ => .refl _, fun _ _ => .refl _, fun _ => .refl _, fun _ _ => .refl _, .refl _⟩

theorem trans {a b c : Otp} (h : a.Keeps b) (h' : b.Keeps c) : a.Keeps c :=
  ⟨fun i => (h.word i).trans (h'.word i), fun i n => (h.journal i n).trans (h'.journal i n), fun i => (h.share i).trans (h'.share i),
    fun i n => (h.dq i n).trans (h'.dq i n), h.trim.trans h'.trim⟩

variable (o : Otp)

theorem setWord {v : Vector (BitVec 32) 3} (h : ∀ c : Fin 3, bitsKept o.word[c] v[c]) : o.Keeps { o with word := v } :=
  ⟨h, (refl o).journal, (refl o).share, (refl o).dq, (refl o).trim⟩

theorem setJournal {v : Vector (Vector (BitVec 64) 16) 3} (h : ∀ (c : Fin 3) (n : Fin 16), bitsKept o.journal[c][n] v[c][n]) :
    o.Keeps { o with journal := v } :=
  ⟨(refl o).word, h, (refl o).share, (refl o).dq, (refl o).trim⟩

theorem setShare {v : Vector (BitVec 512) 3} (h : ∀ c : Fin 3, bitsKept o.share[c] v[c]) : o.Keeps { o with share := v } :=
  ⟨(refl o).word, (refl o).journal, h, (refl o).dq, (refl o).trim⟩

theorem setDq {v : Vector (Vector (BitVec 386) 16) 3} (h : ∀ (c : Fin 3) (n : Fin 16), bitsKept o.dq[c][n] v[c][n]) :
    o.Keeps { o with dq := v } :=
  ⟨(refl o).word, (refl o).journal, (refl o).share, h, (refl o).trim⟩

theorem setTrim {v : BitVec 2048} (h : bitsKept o.trim v) : o.Keeps { o with trim := v } :=
  ⟨(refl o).word, (refl o).journal, (refl o).share, (refl o).dq, h⟩

theorem setFlag (i : Nat) : o.Keeps (o.setFlag i) := setWord o fun c => by
  have get : (o.word.map (fun w => w ||| pairMask 32 i))[c] = o.word[c] ||| pairMask 32 i := by simp
  rw [get]
  exact .or _ _

theorem setCopy (k flag : Nat) : o.Keeps (o.setCopy k flag) := setWord o fun c => .set! o.word k _ c

theorem markRecord (n : Nat) (m : BitVec 64) : o.Keeps (o.markRecord n m) := setJournal o fun c k => by
  have get : (o.journal.map (fun c => c.setIfInBounds n (c.getD n 0 ||| m)))[c] =
      o.journal[c].setIfInBounds n (o.journal[c].getD n 0 ||| m) := by simp
  rw [get]
  exact .setIfInBounds _ n m k

theorem markStep (n step : Nat) : o.Keeps (o.markStep n step) := markRecord o n _

theorem intend (n flag : Nat) : o.Keeps (o.intend n flag) := (markRecord o n _).trans (markStep _ n _)

theorem programDq (n : Nat) (b : Bytes) : o.Keeps (o.programDq n b) := setDq o fun c k => by
  have get (m : BitVec 386) : (o.dq.map (fun c => c.setIfInBounds n (c.getD n 0 ||| m)))[c] =
      o.dq[c].setIfInBounds n (o.dq[c].getD n 0 ||| m) := by simp
  rw [get]
  exact .setIfInBounds _ n _ k

/-- A fold whose steps keep the bits keeps them. -/
theorem foldl {α : Type} {f : Otp → α → Otp} (hf : ∀ (p : Otp) (a : α), p.Keeps (f p a)) (l : List α) : o.Keeps (l.foldl f o) :=
  List.foldlRecOn l f (motive := fun p => o.Keeps p) (refl o) fun _ hp a _ => hp.trans (hf _ a)

theorem voidRecords : o.Keeps o.voidRecords := foldl o (fun p n => by
  split
  · exact markStep p n _
  · exact refl p) _

theorem program (b : OtpBit) : o.Keeps (o.program b) := by
  cases b with
  | word k i => exact setWord o fun c => .set! o.word k _ c
  | share k i => exact setShare o fun c => .set! o.share k _ c
  | trim i => exact setTrim o (.or _ _)
  | journal k n i =>
    refine setJournal o fun c m => ?_
    have get (v : Vector (BitVec 64) 16) : (o.journal.set! k v)[c] = if k = c then v else o.journal[c] := by
      simp [Vector.set!_eq_setIfInBounds, Vector.getElem_setIfInBounds]
    rw [get]
    split
    next e =>
      have old : o.journal.toList.getD k (Vector.replicate 16 0) = o.journal[c] := by simp [e, List.getD_eq_getElem?_getD]
      rw [old]
      exact .set! _ n _ m
    next => exact .refl _

theorem burnShare : o.Keeps o.burnShare := setShare o fun c => by
  have get (v : BitVec 512) : (Vector.replicate 3 v)[c] = v := by simp
  rw [get]
  exact .allOnes _

theorem burnTrim : o.Keeps o.burnTrim := setTrim o (.allOnes _)

theorem setShares {a b c : BitVec 512} (ha : bitsKept o.share[0] a) (hb : bitsKept o.share[1] b) (hc : bitsKept o.share[2] c) :
    o.Keeps { o with share := #v[a, b, c] } := setShare o fun
  | 0 => ha
  | 1 => hb
  | 2 => hc

theorem programShare (fresh : BitVec 256) : o.Keeps (o.programShare fresh) :=
  setShares o (shareResume_keeps _ _) (.or _ _) (.or _ _)

end Otp.Keeps

/-! ## What a step keeps, and how a state's update keeps it -/

/-- An insertion at the size of a table without gaps keeps what the table holds. -/
theorem NMap.Dense.get?_insert_last {α : Type} {m : NMap α} (h : m.Dense) {n : Nat} {r : α} (e : m.get? n = some r) (v : α) :
    (m.insert m.cells.length v).get? n = some r :=
  (NMap.get?_insert_ne m v (Nat.ne_of_lt (h.lt (mem_of_cellsGet e)))).trans e

/-- What every command keeps from the state it starts in to a state it makes; the log's records while the log has no gap, where a commit finds
the next index free. -/
structure State.Keeps (s t : State) : Prop where
  otp : s.otp.Keeps t.otp
  log : s.LogDense → t.LogDense ∧ s.LogKept t
  queue : t.pending = s.pending

/-- Every state that an answer holds is a kept one, at the place that `P` says. -/
def Gives {α : Type} (P : α → Prop) (o : Option α) : Prop := ∀ a, o = some a → P a

/-- The work of a command ends in a value with `P`, or stops and leaves a kept state. -/
def State.Ends (s : State) {α : Type} (P : α → Prop) (x : Except Stop α) : Prop :=
  (∀ a, x = .ok a → P a) ∧ ∀ e u, x = .error e → e.s = some u → s.Keeps u

/-- A command goes on with a kept state. -/
def State.Runs (s : State) (o : Host.Outcome State Fault Refusal) : Prop := ∀ t, o = .next t → s.Keeps t

namespace State.Keeps

variable {s t u : State}

theorem refl (s : State) : s.Keeps s := ⟨.refl _, fun d => ⟨d, fun _ _ h => h⟩, rfl⟩

/-- An update that leaves the three parts alone. -/
theorem same (h : s.Keeps t) (ho : u.otp = t.otp) (hl : u.gnt.log = t.gnt.log) (hp : u.pending = t.pending) : s.Keeps u where
  otp := ho ▸ h.otp
  log d := by
    obtain ⟨dense, kept⟩ := h.log d
    exact ⟨(congrArg NMap.Dense hl).mpr dense, fun n r e => (congrArg (·.get? n) hl).trans (kept n r e)⟩
  queue := hp.trans h.queue

/-- An update of the OTP array that keeps the bits of the state at the start. -/
theorem setOtp (h : s.Keeps t) {o : Otp} (ho : s.otp.Keeps o) : s.Keeps { t with otp := o } := ⟨ho, h.log, h.queue⟩

/-- An update of the OTP array that sets bits. -/
theorem withOtp (h : s.Keeps t) {o : Otp} (ho : t.otp.Keeps o) : s.Keeps { t with otp := o } := h.setOtp (h.otp.trans ho)

theorem withBootOtp (h : s.Keeps t) {x : BootUnit} {o : Otp} (ho : t.otp.Keeps o) : s.Keeps { t with boot := x, otp := o } :=
  ⟨h.otp.trans ho, h.log, h.queue⟩

/-- An update of the Gauntlet's part that leaves the log. -/
theorem withGnt (h : s.Keeps t) {g : GntUnit} (e : g.log = t.gnt.log := by rfl) : s.Keeps { t with gnt := g } := h.same rfl e rfl

/-! One unit's update at a time, and the groups that the model updates at once: a step's proof is a chain of these. -/

theorem withFree (h : s.Keeps t) {x : Nat} : s.Keeps { t with free := x } := h.same rfl rfl rfl
theorem withOut (h : s.Keeps t) {x : List Out} : s.Keeps { t with out := x } := h.same rfl rfl rfl
theorem withRegs (h : s.Keeps t) {x : NMap Word} : s.Keeps { t with regs := x } := h.same rfl rfl rfl
theorem withCmd (h : s.Keeps t) {x : CmdUnit} : s.Keeps { t with cmd := x } := h.same rfl rfl rfl
theorem withSlc (h : s.Keeps t) {x : SliceUnit} : s.Keeps { t with slc := x } := h.same rfl rfl rfl
theorem withRcd (h : s.Keeps t) {x : Recorder} : s.Keeps { t with rcd := x } := h.same rfl rfl rfl
theorem withMet (h : s.Keeps t) {x : Meters} : s.Keeps { t with met := x } := h.same rfl rfl rfl
theorem withWld (h : s.Keeps t) {x : WldUnit} : s.Keeps { t with wld := x } := h.same rfl rfl rfl
theorem withKs (h : s.Keeps t) {x : KsUnit} : s.Keeps { t with ks := x } := h.same rfl rfl rfl
theorem withBb (h : s.Keeps t) {x : Bbram} : s.Keeps { t with bb := x } := h.same rfl rfl rfl
theorem withVlt (h : s.Keeps t) {x : VaultUnit} : s.Keeps { t with vlt := x } := h.same rfl rfl rfl
theorem withBoot (h : s.Keeps t) {x : BootUnit} : s.Keeps { t with boot := x } := h.same rfl rfl rfl
theorem withPke (h : s.Keeps t) {x : PkeUnit} : s.Keeps { t with pke := x } := h.same rfl rfl rfl
theorem withBlk (h : s.Keeps t) {x : BlkUnit} : s.Keeps { t with blk := x } := h.same rfl rfl rfl
theorem withRot (h : s.Keeps t) {x : RotUnit} : s.Keeps { t with rot := x } := h.same rfl rfl rfl
theorem withFab (h : s.Keeps t) {x : FabricUnit} : s.Keeps { t with fab := x } := h.same rfl rfl rfl
theorem withTbl (h : s.Keeps t) {x : TblUnit} : s.Keeps { t with tbl := x } := h.same rfl rfl rfl
theorem withRng (h : s.Keeps t) {x : RngUnit} : s.Keeps { t with rng := x } := h.same rfl rfl rfl
theorem withPairs (h : s.Keeps t) {x : NMap PairCfg} : s.Keeps { t with pairs := x } := h.same rfl rfl rfl
theorem withFlash (h : s.Keeps t) {x : Flash} : s.Keeps { t with flash := x } := h.same rfl rfl rfl
theorem withCfg (h : s.Keeps t) {x : CfgUnit} : s.Keeps { t with cfg := x } := h.same rfl rfl rfl
theorem withFw (h : s.Keeps t) {x : FwUnit} : s.Keeps { t with fw := x } := h.same rfl rfl rfl
theorem withCrd (h : s.Keeps t) {x : CrdUnit} : s.Keeps { t with crd := x } := h.same rfl rfl rfl
theorem withLnk (h : s.Keeps t) {x : LinkUnit} : s.Keeps { t with lnk := x } := h.same rfl rfl rfl

theorem withFreeKs (h : s.Keeps t) {x : Nat} {y : KsUnit} : s.Keeps { t with free := x, ks := y } := h.same rfl rfl rfl
theorem withBootGnt (h : s.Keeps t) {x : BootUnit} {y : GntUnit} (e : y.log = t.gnt.log := by rfl) :
    s.Keeps { t with boot := x, gnt := y } := h.same rfl e rfl
theorem withNowGnt (h : s.Keeps t) {x : Nat} {y : GntUnit} (e : y.log = t.gnt.log := by rfl) :
    s.Keeps { t with now := x, gnt := y } := h.same rfl e rfl
theorem withFreeVlt (h : s.Keeps t) {x : Nat} {y : VaultUnit} : s.Keeps { t with free := x, vlt := y } := h.same rfl rfl rfl
theorem withFreeCrd (h : s.Keeps t) {x : Nat} {y : CrdUnit} : s.Keeps { t with free := x, crd := y } := h.same rfl rfl rfl
theorem withPkeBlk (h : s.Keeps t) {x : PkeUnit} {y : BlkUnit} : s.Keeps { t with pke := x, blk := y } := h.same rfl rfl rfl
theorem withFreePke (h : s.Keeps t) {x : Nat} {y : PkeUnit} : s.Keeps { t with free := x, pke := y } := h.same rfl rfl rfl
theorem withFreeTbl (h : s.Keeps t) {x : Nat} {y : TblUnit} : s.Keeps { t with free := x, tbl := y } := h.same rfl rfl rfl
theorem withFreeSlc (h : s.Keeps t) {x : Nat} {y : SliceUnit} : s.Keeps { t with free := x, slc := y } := h.same rfl rfl rfl
theorem withBbFw (h : s.Keeps t) {x : Bbram} {y : FwUnit} : s.Keeps { t with bb := x, fw := y } := h.same rfl rfl rfl
theorem withMetBoot (h : s.Keeps t) {x : Meters} {y : BootUnit} : s.Keeps { t with met := x, boot := y } := h.same rfl rfl rfl
theorem withTblPairs (h : s.Keeps t) {x : TblUnit} {y : NMap PairCfg} : s.Keeps { t with tbl := x, pairs := y } := h.same rfl rfl rfl
theorem withFreeBb (h : s.Keeps t) {x : Nat} {y : Bbram} : s.Keeps { t with free := x, bb := y } := h.same rfl rfl rfl
theorem withFreeLnk (h : s.Keeps t) {x : Nat} {y : LinkUnit} : s.Keeps { t with free := x, lnk := y } := h.same rfl rfl rfl

theorem withCmdPkeBlk (h : s.Keeps t) {x : CmdUnit} {y : PkeUnit} {z : BlkUnit} : s.Keeps { t with cmd := x, pke := y, blk := z } :=
  h.same rfl rfl rfl
theorem withFreeMetKs (h : s.Keeps t) {x : Nat} {y : Meters} {z : KsUnit} : s.Keeps { t with free := x, met := y, ks := z } :=
  h.same rfl rfl rfl
theorem withMetKsBlk (h : s.Keeps t) {x : Meters} {y : KsUnit} {z : BlkUnit} : s.Keeps { t with met := x, ks := y, blk := z } :=
  h.same rfl rfl rfl
theorem withBbGnt (h : s.Keeps t) {x : Bbram} {y : GntUnit} (e : y.log = t.gnt.log := by rfl) : s.Keeps { t with bb := x, gnt := y } :=
  h.same rfl e rfl

theorem ite (h : s.Keeps t) (h' : s.Keeps u) {c : Prop} {d : Decidable c} : s.Keeps (if c then t else u) := by
  split
  · exact h
  · exact h'

/-- A fold of kept steps. -/
theorem foldl (h : s.Keeps t) {α : Type} {f : State → α → State} (hf : ∀ (v : State) (a : α), s.Keeps v → s.Keeps (f v a)) {l : List α} :
    s.Keeps (l.foldl f t) :=
  List.foldlRecOn l f (motive := fun v => s.Keeps v) h fun v hv a _ => hf v a hv

/-- The state of a pair written out. -/
theorem inFst (h : s.Keeps t) {α : Type} {a : α} : s.Keeps (t, a).1 := h

theorem inSnd (h : s.Keeps t) {α : Type} {a : α} : s.Keeps (a, t).2 := h

theorem iteFst {α : Type} {x y : State × α} (h : s.Keeps x.1) (h' : s.Keeps y.1) {c : Prop} {d : Decidable c} :
    s.Keeps (if c then x else y).1 := by
  split
  · exact h
  · exact h'

theorem iteSnd {α : Type} {x y : α × State} (h : s.Keeps x.2) (h' : s.Keeps y.2) {c : Prop} {d : Decidable c} :
    s.Keeps (if c then x else y).2 := by
  split
  · exact h
  · exact h'

/-- The state of a pair that an answer names. -/
theorem fst {α : Type} {x : State × α} (h : s.Keeps x.1) {a : α} (e : x = (u, a)) : s.Keeps u := by
  rw [e] at h
  exact h

theorem snd {α : Type} {x : α × State} (h : s.Keeps x.2) {a : α} (e : x = (a, u)) : s.Keeps u := by
  rw [e] at h
  exact h

end State.Keeps

section
variable {s t : State} {α β : Type} {P : α → Prop} {Q : β → Prop}

theorem Gives.none : Gives P none := fun _ e => nomatch e

theorem Gives.some {a : α} (h : P a) : Gives P (some a) := fun _ e => Option.some.inj e ▸ h

theorem Gives.someFst (h : s.Keeps t) {a : α} : Gives (fun x : State × α => s.Keeps x.1) (Option.some (t, a)) := .some h

theorem Gives.someSnd (h : s.Keeps t) {a : α} : Gives (fun x : α × State => s.Keeps x.2) (Option.some (a, t)) := .some h

theorem Gives.ite {o o' : Option α} (h : Gives P o) (h' : Gives P o') {c : Prop} {d : Decidable c} : Gives P (if c then o else o') := by
  split
  · exact h
  · exact h'

theorem Gives.bind {o : Option α} {f : α → Option β} (h : Gives P o) (hf : ∀ a, P a → Gives Q (f a)) : Gives Q (o.bind f) := by
  cases o with
  | none => exact .none
  | some a => exact hf a (h a rfl)

theorem Gives.map {o : Option α} {f : α → β} (h : Gives P o) (hf : ∀ a, P a → Q (f a)) : Gives Q (o.map f) := by
  cases o with
  | none => exact .none
  | some a => exact .some (hf a (h a rfl))

/-- A fold over answers, each from a kept one. -/
theorem Gives.foldl {o : Option α} (h : Gives P o) {f : Option α → β → Option α}
    (hf : ∀ (o : Option α) (b : β), Gives P o → Gives P (f o b)) {l : List β} : Gives P (l.foldl f o) :=
  List.foldlRecOn l f (motive := fun o => Gives P o) h fun o ho b _ => hf o b ho

theorem Gives.getD {o : Option α} (h : Gives P o) {a : α} (ha : P a) : P (o.getD a) := by
  cases o with
  | none => exact ha
  | some b => exact h b rfl

namespace State.Ends

theorem ok {a : α} (h : P a) : s.Ends P (.ok a) := ⟨fun _ e => Except.ok.inj e ▸ h, fun _ _ e => nomatch e⟩

theorem okFst (h : s.Keeps t) {a : α} : s.Ends (fun x : State × α => s.Keeps x.1) (.ok (t, a)) := ok h

theorem okDid (h : s.Keeps t) {b : Bytes} {n m : Nat} : s.Ends (fun x : Did => s.Keeps x.s) (.ok ⟨t, b, n, m⟩) := ok h

/-- A stop that leaves no state of its own. -/
theorem stop {st : Status} : s.Ends P (.error ⟨st, none⟩) := ⟨fun _ e => (nomatch e), fun _ _ e => by cases e; exact nofun⟩

theorem stopIn (h : s.Keeps t) {st : Status} : s.Ends P (.error ⟨st, some t⟩) :=
  ⟨fun _ e => (nomatch e), fun _ _ e hu => by cases e; cases hu; exact h⟩

theorem ite {x y : Except Stop α} (h : s.Ends P x) (h' : s.Ends P y) {c : Prop} {d : Decidable c} : s.Ends P (if c then x else y) := by
  split
  · exact h
  · exact h'

theorem bind {x : Except Stop α} {f : α → Except Stop β} (h : s.Ends P x) (hf : ∀ a, P a → s.Ends Q (f a)) : s.Ends Q (x >>= f) := by
  cases x with
  | ok a => exact hf a (h.1 a rfl)
  | error e => exact ⟨fun _ e => (nomatch e), fun e' u he hu => h.2 e' u (by cases he; rfl) hu⟩

/-- The stop of an answer, whatever its value. -/
theorem error {x : Except Stop α} (h : s.Ends P x) {e : Stop} (he : x = .error e) {Q : β → Prop} : s.Ends Q (.error e) :=
  ⟨fun _ hb => (nomatch hb), fun d u hd hu => h.2 d u (by rw [he]; cases hd; rfl) hu⟩

theorem foldlM {f : α → β → Except Stop α} (hf : ∀ (a : α) (b : β), P a → s.Ends P (f a b)) {l : List β} {a : α} (h : P a) :
    s.Ends P (l.foldlM f a) := by
  induction l generalizing a with
  | nil => exact ok h
  | cons b l ih => exact bind (hf a b h) fun _ h' => ih h'

theorem failWith {st : Status} : s.Ends P (failWith st) := stop

theorem getOr {o : Option α} {st : Status} (h : Gives P o) : s.Ends P (getOr o st) := by
  cases o with
  | none => exact stop
  | some a => exact ok (h a rfl)

theorem getIn (ht : s.Keeps t) {o : Option α} {st : Status} (h : Gives P o) : s.Ends P (getIn t o st) := by
  cases o with
  | none => exact stopIn ht
  | some a => exact ok (h a rfl)

theorem require {b : Bool} {st : Status} : s.Ends (fun _ => True) (require b st) := by
  cases b with
  | true => exact ok trivial
  | false => exact stop

theorem requireIn (ht : s.Keeps t) {b : Bool} {st : Status} : s.Ends (fun _ => True) (requireIn t b st) := by
  cases b with
  | true => exact ok trivial
  | false => exact stopIn ht

/-- A check before the rest of the work. -/
theorem req {b : Bool} {st : Status} {f : Unit → Except Stop β} (h : s.Ends Q (f ())) : s.Ends Q (Machine.require b st >>= f) :=
  require.bind fun _ _ => h

theorem reqIn (ht : s.Keeps t) {b : Bool} {st : Status} {f : Unit → Except Stop β} (h : s.Ends Q (f ())) :
    s.Ends Q (Machine.requireIn t b st >>= f) :=
  (requireIn ht).bind fun _ _ => h

/-- A value without a state that the rest of the work takes. -/
theorem got {o : Option α} {st : Status} {f : α → Except Stop β} (h : ∀ a, s.Ends Q (f a)) : s.Ends Q (Machine.getOr o st >>= f) :=
  (getOr (P := fun _ => True) fun _ _ => trivial).bind fun a _ => h a

theorem gotIn (ht : s.Keeps t) {o : Option α} {st : Status} {f : α → Except Stop β} (h : ∀ a, s.Ends Q (f a)) :
    s.Ends Q (Machine.getIn t o st >>= f) :=
  (getIn ht (P := fun _ => True) fun _ _ => trivial).bind fun a _ => h a

end State.Ends

/-- A value whose states do not matter. -/
theorem Gives.any {o : Option α} : Gives (fun _ => True) o := fun _ _ => trivial

namespace State.Runs

theorem next (h : s.Keeps t) : s.Runs (.next t) := fun _ e => by cases e; exact h

theorem ite {x y : Host.Outcome State Fault Refusal} (h : s.Runs x) (h' : s.Runs y) {c : Prop} {d : Decidable c} :
    s.Runs (if c then x else y) := by
  split
  · exact h
  · exact h'

end State.Runs

end

end Sys2Proof.Machine
end

section
/-! PROOFS. Every function of the model that makes a state keeps what a step keeps, in the model's order: `foo` for State.foo, `foo_runs` for a command, `foo_ends` for the work of an opcode, `foo_keeps` for another function. -/

namespace Sys2Proof.Machine

namespace State.Keeps

/-! ## Registers (R2 to R4) -/

section
variable {s t : State}

theorem setReg (h : s.Keeps t) {x : RegName} {n : Nat} {y : Word} : s.Keeps (t.setReg x n y) := h.withRegs

theorem fset (h : s.Keeps t) {x : Fld} {n m : Nat} : s.Keeps (t.fset x n m) := h.setReg

theorem bumpSat (h : s.Keeps t) {x : Fld} {n m : Nat} : s.Keeps (t.bumpSat x n m) := h.fset

theorem bumpWrap (h : s.Keeps t) {x : Fld} {n m : Nat} : s.Keeps (t.bumpWrap x n m) := h.fset

theorem emit (h : s.Keeps t) {x : Out} : s.Keeps (t.emit x) := h.withOut

end

/-! ## The event recorder and the counters (R429 to R438) -/

section
variable {s t : State}

theorem pmcAdd (h : s.Keeps t) {n m : Nat} : s.Keeps (t.pmcAdd n m) := h.fset.ite h.fset.fset

theorem pmc (h : s.Keeps t) {n m : Nat} : s.Keeps (t.pmc n m) := h.foldl fun _ _ hv => hv.pmcAdd

theorem timeCounter (h : s.Keeps t) {n m : Nat} : s.Keeps (timeCounter n t m) := (h.ite h.pmcAdd).ite h

theorem tick (h : s.Keeps t) {n : Nat} : s.Keeps (t.tick n) := h.withNowGnt.ite (h.withNowGnt.foldl (fun _ _ hv => hv.timeCounter))

theorem makeRecord (h : s.Keeps t) {n m k : Nat} : s.Keeps (t.makeRecord n m k) := h.withRcd.ite (h.withRcd.ite h.withRcd)

theorem event (h : s.Keeps t) {n m k : Nat} : s.Keeps (t.event n m k) := (h.makeRecord.fset.ite h.makeRecord).ite h

theorem flushEntry (h : s.Keeps t) {n : Nat} : s.Keeps (t.flushEntry n) := h.fset.withRcd

theorem flushLoop (h : s.Keeps t) {n : Nat} : s.Keeps (State.flushLoop n t) := by
  induction n generalizing t with
  | zero => exact h
  | succ n ih =>
    unfold State.flushLoop
    exact h.fset.ite (h.ite (ih h.flushEntry))

theorem flush (h : s.Keeps t) : s.Keeps t.flush := h.flushLoop.fset

end

/-! ## Access control (R328 to R332) -/

section
variable {s t : State}

theorem setPair (h : s.Keeps t) {n : Nat} {x : PairWorld} : s.Keeps (t.setPair n x) := h.withWld

theorem pendOpen (h : s.Keeps t) {n : Nat} : s.Keeps (t.pendOpen n) := by
  unfold State.pendOpen
  split
  · exact h.setPair.ite h
  · exact h

theorem raiseIrq (h : s.Keeps t) {n : Nat} : s.Keeps (t.raiseIrq n) := h.ite h.withWld.pendOpen

theorem asvQueue (h : s.Keeps t) {x : AsvRec} : s.Keeps (t.asvQueue x) := by
  unfold State.asvQueue
  extract_lets _
  split
  · exact h.withWld.ite (h.withWld.raiseIrq.ite h.bumpSat)
  · exact h.withWld.raiseIrq

theorem report (h : s.Keeps t) {x : Master} {y : AccKind} {n m k : Nat} : s.Keeps (t.report x y n m k) :=
  h.ite (h.asvQueue.ite h.asvQueue.bumpSat.pmc).event

end

/-! ## Packets and completions (R37 to R68) -/

section
variable {s t : State}

theorem dlogPage (h : s.Keeps t) {n m : Nat} : s.Keeps (t.dlogPage n m) := (h.ite (h.withSlc.emit.ite h.withSlc.emit.bumpSat)).ite h.fset

theorem dlog (h : s.Keeps t) {n m k : Nat} : s.Keeps (t.dlog n m k) := (h.foldl (fun _ _ hv => hv.dlogPage)).ite h

theorem hostWrite (h : s.Keeps t) {n m : Nat} {b : Bytes} : s.Keeps (t.hostWrite n m b) := h.ite h.dlog.pmc.emit

theorem writeRanges (h : s.Keeps t) {n : Nat} {x : List (Nat × Nat)} {b : Bytes} : s.Keeps (t.writeRanges n x b) := by
  induction x generalizing t b with
  | nil => exact h
  | cons a x ih => exact ih h.hostWrite

theorem writeOut (h : s.Keeps t) {p : Packet} {b : Bytes} : s.Keeps (t.writeOut p b) := h.ite h.writeRanges

theorem writePart (h : s.Keeps t) {p : Packet} {n : Nat} {b : Bytes} : s.Keeps (t.writePart p n b) := h.ite h.writeRanges

theorem writeRefused (h : s.Keeps t) {p : Packet} {b : Bytes} {n : Nat} : s.Keeps (t.writeRefused p b n) := h.writeOut.writeOut

theorem sendMsix (h : s.Keeps t) {n m : Nat} : s.Keeps (t.sendMsix n m) := h.pmc.emit

theorem deviceCause (h : s.Keeps t) {n : Nat} : s.Keeps (t.deviceCause n) := h.ite (h.setReg.sendMsix.ite h.setReg)

theorem sendQpIrq (h : s.Keeps t) {n m : Nat} : s.Keeps (t.sendQpIrq n m) := h.withCmd.sendMsix

theorem countIrq (h : s.Keeps t) {n m : Nat} : s.Keeps (t.countIrq n m) := (h.sendQpIrq.ite h.withCmd).ite h

theorem advanceCq (h : s.Keeps t) {n : Nat} : s.Keeps (t.advanceCq n) := h.fset.ite h.fset.fset

theorem writeCompletion (h : s.Keeps t) {p : Packet} {x : Compl} : s.Keeps (t.writeCompletion p x) := h.hostWrite.emit.advanceCq.countIrq

theorem meter (h : s.Keeps t) {n : Nat} {x : Compl} : s.Keeps (t.meter n x) := by
  unfold State.meter
  extract_lets _
  split
  · exact h.withMet.ite h
  · exact h

theorem postOne (h : s.Keeps t) {n : Nat} {p : Packet} {x : Compl} : s.Keeps (t.postOne n p x) :=
  (h.withCmd.ite h.withCmd.writeCompletion).pmc.pmc.meter

theorem abortAll (h : s.Keeps t) {n : Nat} {x : List (Nat × Packet)} : s.Keeps (t.abortAll n x) := by
  induction x generalizing t with
  | nil => exact h
  | cons a x ih => exact ih h.postOne

theorem setCaravan (h : s.Keeps t) {n : Nat} {x : Caravan} : s.Keeps (t.setCaravan n x) := h.withCmd.ite h.withCmd

theorem caravanAfter (h : s.Keeps t) {n : Nat} {x : Compl} : s.Keeps (t.caravanAfter n x) := by
  unfold State.caravanAfter
  split
  · exact h
  · exact h.abortAll.setCaravan.ite (h.abortAll.setCaravan.ite h.setCaravan)

theorem complete (h : s.Keeps t) {n : Nat} {x : Compl} : s.Keeps (t.complete n x) := by
  unfold State.complete
  split
  · exact h
  · extract_lets u
    have hu : s.Keeps u := h.postOne
    split
    · exact hu.caravanAfter
    · exact hu

theorem fail (h : s.Keeps t) {n : Nat} {x : Status} : s.Keeps (t.fail n x) := h.complete

theorem finish (h : s.Keeps t) {n : Nat} {b : Bytes} {m k : Nat} : s.Keeps (t.finish n b m k) := by
  unfold State.finish
  split
  · exact h
  · split
    · exact h.fail
    · split
      · exact h.writeRefused.fail
      · exact h.writeOut.complete

theorem setPacket (h : s.Keeps t) {n : Nat} {p : Packet} : s.Keeps (t.setPacket n p) := h.withCmd

theorem setSaEvents (h : s.Keeps t) {n : Nat} {x : SaEvents} : s.Keeps (t.setSaEvents n x) := h.withTbl

theorem saReport (h : s.Keeps t) {n m : Nat} : s.Keeps (t.saReport n m) := by
  unfold State.saReport
  split
  · exact h
  · exact h.setSaEvents.finish

theorem saAnswer (h : s.Keeps t) {n : Nat} : s.Keeps (t.saAnswer n) := by
  unfold State.saAnswer
  extract_lets _
  split
  · exact h
  · exact h.withTbl.saReport

end

/-! ## The checks of a command -/

section
variable {s t : State}

theorem reseed (h : s.Keeps t) {n : Nat} : s.Keeps (t.reseed n) := h.fset.setReg.bumpWrap

theorem drbgCall (h : s.Keeps t) {n : Nat} : s.Keeps (t.drbgCall n) := by
  unfold State.drbgCall
  extract_lets _ u1 _ u2 u3
  have hu1 : s.Keeps u1 := h.fset.pmc
  have hu2 : s.Keeps u2 := hu1.withRng
  have hu3 : s.Keeps u3 := hu2.fset
  exact hu2.ite (hu2.reseed.ite (hu3.fset.ite hu3))

theorem reserve (h : s.Keeps t) {n : Nat} {p : Packet} : s.Keeps (t.reserve n p) :=
  (h.foldl (fun _ _ hv => hv.drbgCall)).setPacket.withFree

theorem drawNow (h : s.Keeps t) {n m : Nat} : s.Keeps (t.drawNow n m).2 := h.drbgCall.withFree.inSnd

theorem choose (h : s.Keeps t) {n : Nat} : s.Keeps (t.choose n).2 := h.withFree.inSnd

end

/-! ## Queue pairs, fetch and waiting packets (R37 to R65) -/

section
variable {s t : State}

theorem ringRefuse (h : s.Keeps t) {n m k i : Nat} {x : Option Nat} : s.Keeps (t.ringRefuse n m k i x) := h.report.ite h

theorem startQp (h : s.Keeps t) {n : Nat} : s.Keeps (t.startQp n) := h.setReg.setReg.setReg.setReg.fset.fset.withCmd

theorem enableQp (h : s.Keeps t) {n m : Nat} : s.Keeps (t.enableQp n m) := h.ite (h.startQp.ite h.fset)

theorem execQpEnable_runs (h : s.Keeps t) {n : Nat} {x : Option Nat} {m k : Nat} : s.Runs (execQpEnable n x m k t) :=
  .ite (.next h.tick.enableQp) (.next h.tick.ringRefuse)

theorem stopCaravans (h : s.Keeps t) {n m : Nat} : s.Keeps (t.stopCaravans n m) := h.withCmd

theorem stopQuery (h : s.Keeps t) {n m : Nat} : s.Keeps (t.stopQuery n m) := by
  unfold State.stopQuery
  split
  · exact h.saAnswer.ite h
  · exact h

theorem stopQp (h : s.Keeps t) {n m : Nat} : s.Keeps (t.stopQp n m) := h.fset.stopCaravans.abortAll.stopQuery.ite h

theorem execQpStop_runs (h : s.Keeps t) {n : Nat} {x : Option Nat} {m k : Nat} : s.Runs (execQpStop n x m k t) :=
  .ite (.next h.tick.stopQp) (.next h.tick.ringRefuse)

theorem clearQp (h : s.Keeps t) {n m : Nat} : s.Keeps (t.clearQp n m) := h.fset.fset.fset.withCmd

theorem sqDoorbell (h : s.Keeps t) {n m : Nat} : s.Keeps (t.sqDoorbell n m) := h.fset.ite h.fset

theorem execSqTailDoorbell_runs (h : s.Keeps t) {n : Nat} {x : Option Nat} {m k i : Nat} : s.Runs (execSqTailDoorbell n x m k i t) :=
  .ite (.next h.tick.sqDoorbell) (.next h.tick.ringRefuse)

theorem cqDoorbell (h : s.Keeps t) {n m : Nat} : s.Keeps (t.cqDoorbell n m) := h.fset.ite h.fset

theorem execCqHeadDoorbell_runs (h : s.Keeps t) {n : Nat} {x : Option Nat} {m k i : Nat} : s.Runs (execCqHeadDoorbell n x m k i t) :=
  .ite (.next h.tick.cqDoorbell) (.next h.tick.ringRefuse)

theorem advanceSq (h : s.Keeps t) {n : Nat} : s.Keeps (t.advanceSq n) := h.fset

theorem noteCaravan (h : s.Keeps t) {n : Nat} {x : Option (Nat × Caravan)} : s.Keeps (t.noteCaravan n x) := by
  unfold State.noteCaravan
  extract_lets _
  split
  · exact h
  · exact h.withCmd

theorem refuseCaravan (h : s.Keeps t) {n : Nat} {x : Caravan} : s.Keeps (t.refuseCaravan n x) := by
  unfold State.refuseCaravan
  split
  · exact h.setCaravan
  · exact h.postOne.abortAll.setCaravan

theorem afterFetch (h : s.Keeps t) {n : Nat} {p : Packet} {x : Option (Nat × Caravan)} : s.Keeps (t.afterFetch n p x) := by
  unfold State.afterFetch
  split
  · split
    · exact h.postOne.setCaravan
    · split
      · exact h.postOne.setCaravan
      · exact h.refuseCaravan.ite (h.setPacket.ite (h.fail.ite h))
  · exact h.setPacket.ite (h.fail.ite h)

theorem fetchEntry (h : s.Keeps t) {n m : Nat} {b : Bytes} {k : Nat} : s.Keeps (t.fetchEntry n m b k) :=
  h.advanceSq.noteCaravan.setPacket.withCmd.pmc.afterFetch

theorem execSqEntryFetch_runs (h : s.Keeps t) {n m k : Nat} {b : Bytes} {i : Nat} : s.Runs (execSqEntryFetch n m k b i t) :=
  .ite (.next h.tick.fetchEntry) (.next h.tick)

theorem execRandomnessReady_runs (h : s.Keeps t) {n m : Nat} : s.Runs (execRandomnessReady n m t) := by
  unfold execRandomnessReady
  extract_lets u
  have hu : s.Keeps u := h.tick
  split
  · split
    · exact .ite (.next hu.fail) (.ite (.next hu.reserve) (.next hu))
    · exact .next hu
  · exact .next hu

theorem execRandomnessHoldExpiry_runs (h : s.Keeps t) {n m : Nat} : s.Runs (execRandomnessHoldExpiry n m t) := by
  unfold execRandomnessHoldExpiry
  extract_lets u
  have hu : s.Keeps u := h.tick
  split
  · split
    · exact .ite (.next hu.fail) (.next hu)
    · exact .next hu
  · exact .next hu

theorem execCompletionIrqDelayExpiry_runs (h : s.Keeps t) {n m k : Nat} : s.Runs (execCompletionIrqDelayExpiry n m k t) := by
  unfold execCompletionIrqDelayExpiry
  extract_lets u _ _
  have hu : s.Keeps u := h.tick
  split
  · exact .ite (.next hu.sendQpIrq) (.next hu)
  · exact .next hu

theorem execUnknownOpcodeRelease_runs (h : s.Keeps t) {n m : Nat} : s.Runs (execUnknownOpcodeRelease n m t) := by
  unfold execUnknownOpcodeRelease
  extract_lets u
  have hu : s.Keeps u := h.tick
  split
  · exact .ite (.next hu.complete) (.next hu)
  · exact .next hu

end

/-! ## Digests and signatures -/

section
variable {s t : State}

theorem hwuLoad (h : s.Keeps t) {b : Bytes} : s.Keeps (t.hwuLoad b) := h.withFreeKs

end

/-! ## The key cache (R104 to R131) -/

section
variable {s t : State}

theorem kcAdd (h : s.Keeps t) {n m : Nat} : s.Keeps (t.kcAdd n m) := h.fset.pmc

theorem kcSub (h : s.Keeps t) {n m : Nat} : s.Keeps (t.kcSub n m) := h.fset.pmc

theorem addRecord (h : s.Keeps t) {x : KeyRec} {b : Bytes} : Gives (s.Keeps ·.2) (t.addRecord x b) := by
  unfold State.addRecord
  extract_lets _ _ _ _ put
  have hput (l : List Nat) (m : Option KeyCopy) (k : Nat) : s.Keeps (put l m k).2 := h.withFreeKs.kcAdd.inSnd
  refine .ite (.map .any fun _ _ => ?_) (.map .any fun _ _ => ?_)
  · exact hput _ _ _
  · exact hput _ _ _

theorem bumpGen (h : s.Keeps t) {n : Nat} : s.Keeps (t.bumpGen n) := h.withKs

theorem blkForget (h : s.Keeps t) {n : Nat} : s.Keeps (t.blkForget n) := h.withBlk

theorem freeRecord (h : s.Keeps t) {n : Nat} : s.Keeps (t.freeRecord n) := by
  unfold State.freeRecord
  extract_lets _ u1
  have hu1 : s.Keeps u1 := h.withKs
  split
  · exact h
  · extract_lets _ u2
    have hu2 : s.Keeps u2 := hu1.blkForget.bumpGen.kcSub
    split
    · exact hu2.bumpGen
    · exact hu2

theorem freeSlot (h : s.Keeps t) {n : Nat} : s.Keeps (t.freeSlot n) := by
  unfold State.freeSlot
  extract_lets _
  split
  · exact h
  · exact h.ite h.withKs.blkForget.bumpGen.kcSub

theorem freeKey (h : s.Keeps t) {n : Nat} : s.Keeps (t.freeKey n) := h.freeRecord.freeSlot

theorem freeSlice (h : s.Keeps t) {n : Nat} : s.Keeps (t.freeSlice n) := h.foldl fun _ _ hv => hv.freeKey

theorem vaultAdvance (h : s.Keeps t) {n : Nat} {f g : Bool} : Gives s.Keeps (t.vaultAdvance n f g) :=
  .ite (.ite .none (.some h.withBb)) (.some h.withBb)

theorem slotBad (h : s.Keeps t) {n : Nat} {x : CompatSlot} : s.Keeps (t.slotBad n x) := h.withKs.blkForget.kcSub.bumpSat.event

theorem wipeCache (h : s.Keeps t) : s.Keeps t.wipeCache := (h.foldl (fun _ _ hv => hv.bumpGen)).withMetKsBlk.withVlt.withSlc.withRegs

theorem ksRefuse (h : s.Keeps t) {n m : Nat} : s.Keeps (t.ksRefuse n m) := h.bumpSat.report.event

end

/-! ## The checks before an opcode and its result (R54 to R65) -/

section
variable {s t : State}

theorem runCaravan (h : s.Keeps t) {p : Packet} {n : Nat} : s.Keeps (t.runCaravan p n) := by
  unfold State.runCaravan
  extract_lets _
  split
  · split
    · exact h.withCmd
    · exact h
  · exact h

theorem take (h : s.Keeps t) {n : Nat} {p : Packet} : s.Keeps (t.take n p) := h.setPacket.runCaravan.pmc.withFree

theorem countStart (h : s.Keeps t) {p : Packet} {f : Bool} : s.Keeps (t.countStart p f) := h.ite h.pmc

theorem countPid (h : s.Keeps t) {n : Nat} {f : Bool} : s.Keeps (t.countPid n f) := by
  unfold State.countPid
  split
  · exact h.countStart
  · exact h

theorem conclude (h : s.Keeps t) {n : Nat} {x : Except Stop Did} (hx : s.Ends (s.Keeps ·.s) x) : s.Keeps (t.conclude n x) := by
  unfold State.conclude
  cases x with
  | error e =>
    have left : s.Keeps (e.s.getD t) := Gives.getD (fun u hu => hx.2 e u rfl hu) h
    exact left.countPid.fail
  | ok d =>
    dsimp only
    split
    · exact h.countPid.finish
    · exact (hx.1 d rfl).countPid.finish

theorem prepare (h : s.Keeps t) {n : Nat} {p : Packet} : s.Keeps (t.prepare n p).1 := by
  unfold State.prepare
  extract_lets u
  have hu : s.Keeps u := h.reserve
  exact h.fail.inFst.iteFst (((h.fail.inFst.iteFst h.setPacket.inFst).iteFst (hu.inFst.iteFst h.inFst)).iteFst h.inFst)

theorem runPacket (h : s.Keeps t) {n m : Nat} {x : PktData} {y : State → Nat → Packet → State}
    (hy : ∀ (v : State) (a2 : Nat) (a3 : Packet), s.Keeps v → s.Keeps (y v a2 a3)) :
    s.Keeps (t.runPacket n m x y) := by
  unfold State.runPacket
  split
  · exact h
  · split
    next e1 => exact (h.prepare.fst e1)
    next e2 => exact hy _ _ _ (h.prepare.fst e2).take

theorem runOp (h : s.Keeps t) {n m : Nat} {x : PktData} {y : Op}
    (hy : ∀ (v : State) (a2 : Nat) (a3 : Packet), s.Keeps v → s.Ends (s.Keeps ·.s) (y v a2 a3)) :
    s.Keeps (t.runOp n m x y) := h.runPacket (fun _ _ _ hv => hv.conclude (hy _ _ _ hv))

theorem vaultNow (_h : s.Keeps t) {n : Nat} : s.Ends (fun _ => True) (t.vaultNow n) := .req <| .getOr .any

theorem checkHandles (_h : s.Keeps t) {p : Packet} {x : KeyUse} {n : Nat} : s.Ends (fun _ => True) (t.checkHandles p x n) := by
  unfold State.checkHandles
  extract_lets _ _ rest
  have hrest (k : Option Key) : s.Ends (fun _ => True) (rest k) := .req <| .req <| .ok trivial
  refine .req <| .req <| .req <| .req <| .req <|
    .req <| .ite (.bind (P := fun _ => True) ?_ fun _ _ => hrest _) (.bind (P := fun _ => True) (.ok trivial) fun _ _ => hrest _)
  split
  · exact .ite .failWith (.ok trivial)
  · exact .failWith

theorem handles (h : s.Keeps t) {n : Nat} {p : Packet} : s.Ends (fun _ => True) (t.handles n p) :=
  .got fun _ => h.checkHandles

theorem keyOf (h : s.Keeps t) {n : Nat} {p : Packet} : s.Ends (fun _ => True) (t.keyOf n p) := .bind h.handles fun _ _ => .getOr .any

end

/-! ## Challenges and quorums (R142 to R148) -/

section
variable {s t : State}

theorem endChallenge (h : s.Keeps t) {n : Nat} : s.Keeps (t.endChallenge n) := h.withVlt

theorem setV (h : s.Keeps t) {n m : Nat} : s.Keeps (t.setV n m) := h.withPke

theorem charge (h : s.Keeps t) {n m : Nat} : s.Keeps (t.charge n m) := h.setV

theorem vaultQuorum (h : s.Keeps t) {n m : Nat} {f : Bool} {b c d : Bytes} {x : List (Bytes × Bytes)} :
    Gives (s.Keeps ·.1) (t.vaultQuorum n m f b c d x) := by
  unfold State.vaultQuorum
  extract_lets _
  split
  · exact .none
  · split
    · exact .someFst h
    · split
      · exact .none
      · exact .ite (.someFst h.endChallenge.charge) .none

theorem deviceQuorum (h : s.Keeps t) {n : Nat} {b c : Bytes} {x : List (Bytes × Bytes)} : Gives (s.Keeps ·.1) (t.deviceQuorum n b c x) := by
  unfold State.deviceQuorum
  split
  · exact .none
  · split
    · exact .none
    · exact .ite (.someFst h.endChallenge) .none

end

/-! ## Key management (R119 to R132) -/

section
variable {s t : State}

theorem enterKey (h : s.Keeps t) {n : Nat} {b : Bytes} {x : NewKey} : Gives (s.Keeps ·.2) (t.enterKey n b x) := by
  unfold State.enterKey
  split
  next e => exact .someSnd (h.addRecord _ e)
  · exact .none

theorem deliver (h : s.Keeps t) {p : Packet} {x : NewKey} {b : Bytes} {n : Nat} : s.Ends (s.Keeps ·.s) (t.deliver p x b n) := by
  unfold State.deliver
  refine .gotIn h fun _ => ?_
  exact .reqIn h.hwuLoad <| .bind (.getIn h.hwuLoad h.hwuLoad.enterKey) fun _ hx => .okDid hx

theorem opKeyDerive_ends (h : s.Keeps t) {n : Nat} {p : Packet} : s.Ends (s.Keeps ·.s) (opKeyDerive t n p) := by
  unfold opKeyDerive
  extract_lets _ _
  exact .bind h.keyOf fun _ _ => .req <| .req <| .req <| .req <| .req <| .req <| .got fun _ => .req <| .got fun _ => h.deliver

theorem execKeyDerive_runs (h : s.Keeps t) {n m : Nat} {x : PktData} : s.Runs (execKeyDerive n m x t) :=
  .next (h.tick.runOp (fun _ _ _ hv => hv.opKeyDerive_ends))

theorem opGenTraffic_ends (h : s.Keeps t) {n : Nat} {p : Packet} : s.Ends (s.Keeps ·.s) (opGenTraffic t n p) := by
  unfold opGenTraffic
  extract_lets _
  exact .bind h.handles fun _ _ => .req <| .req <| .req <| .got fun _ => .req <| h.deliver

theorem opLoadMitten_ends (h : s.Keeps t) {p : Packet} {b : Bytes} : s.Ends (s.Keeps ·.s) (opLoadMitten t p b) := by
  unfold opLoadMitten
  extract_lets _
  exact .req <| .req <| .got fun _ => .got fun _ => .req <| .bind (.getOr h.hwuLoad.addRecord) fun _ hx => .okDid hx

theorem opLoadCompat_ends (h : s.Keeps t) {p : Packet} {b : Bytes} : s.Ends (s.Keeps ·.s) (opLoadCompat t p b) := by
  unfold opLoadCompat
  extract_lets _ _ _ _
  exact .req <| .got fun _ => .req <| .req <| .got fun _ => .req <| .req <| .okDid h.withFreeKs.kcAdd

theorem opKeyLoad_ends (h : s.Keeps t) {n : Nat} {p : Packet} : s.Ends (s.Keeps ·.s) (opKeyLoad t n p) := by
  unfold opKeyLoad
  extract_lets _
  exact .bind h.handles fun _ _ => .req <| .req <| .req <| .ite h.opLoadCompat_ends h.opLoadMitten_ends

theorem execKeyLoad_runs (h : s.Keeps t) {n m : Nat} {x : PktData} : s.Runs (execKeyLoad n m x t) :=
  .next (h.tick.runOp (fun _ _ _ hv => hv.opKeyLoad_ends))

theorem unloadNow (h : s.Keeps t) {n m : Nat} : s.Keeps (t.unloadNow n m) := by
  unfold State.unloadNow
  split
  · exact h.freeKey.finish
  · exact h.finish

theorem keyUnload (h : s.Keeps t) {n : Nat} {p : Packet} : s.Keeps (t.keyUnload n p) := by
  unfold State.keyUnload
  extract_lets u _
  have hu : s.Keeps u := h.setPacket
  split
  · exact h.fail.ite (hu.withCmd.ite h.unloadNow)
  · exact h.fail
  · exact h.fail

theorem execKeyUnload_runs (h : s.Keeps t) {n m : Nat} {x : PktData} : s.Runs (execKeyUnload n m x t) :=
  .next (h.tick.runPacket (fun _ _ _ hv => hv.keyUnload))

theorem opKeyPublic_ends (h : s.Keeps t) {n : Nat} {p : Packet} : s.Ends (s.Keeps ·.s) (opKeyPublic t n p) :=
  .bind h.keyOf fun _ _ => .req <| .okDid h

theorem execKeyPublic_runs (h : s.Keeps t) {n m : Nat} {x : PktData} : s.Runs (execKeyPublic n m x t) :=
  .next (h.tick.runOp (fun _ _ _ hv => hv.opKeyPublic_ends))

theorem opKeyAttr_ends (h : s.Keeps t) {n : Nat} {p : Packet} : s.Ends (s.Keeps ·.s) (opKeyAttr t n p) :=
  .bind h.keyOf fun _ _ => .req <| .okDid h.withFree

theorem execKeyAttr_runs (h : s.Keeps t) {n m : Nat} {x : PktData} : s.Runs (execKeyAttr n m x t) :=
  .next (h.tick.runOp (fun _ _ _ hv => hv.opKeyAttr_ends))

theorem opKeyExport_ends (h : s.Keeps t) {n : Nat} {p : Packet} : s.Ends (s.Keeps ·.s) (opKeyExport t n p) := by
  unfold opKeyExport
  refine .bind h.keyOf fun _ _ => ?_
  extract_lets _ _
  exact .req <| .got fun _ => .req <| .bind (.getOr h.vaultQuorum) fun _ hx => .reqIn hx <| .okDid hx.hwuLoad

theorem execKeyExport_runs (h : s.Keeps t) {n m : Nat} {x : PktData} : s.Runs (execKeyExport n m x t) :=
  .next (h.tick.runOp (fun _ _ _ hv => hv.opKeyExport_ends))

theorem opKeyImport_ends (h : s.Keeps t) {n : Nat} {p : Packet} : s.Ends (s.Keeps ·.s) (opKeyImport t n p) := by
  unfold opKeyImport
  extract_lets _ _ _ _ _
  exact .bind h.handles fun _ _ => .req <| .bind h.vaultNow fun _ _ => .req <| .bind (.getOr h.vaultQuorum) fun _ hx1 => .reqIn hx1 <|
    .reqIn hx1 <| .gotIn hx1 fun _ => .reqIn hx1 <| .gotIn hx1 fun _ => .reqIn hx1 <| .bind (.getIn hx1 hx1.enterKey) fun _ hx2 =>
    .okDid hx2

theorem execKeyImport_runs (h : s.Keeps t) {n m : Nat} {x : PktData} : s.Runs (execKeyImport n m x t) :=
  .next (h.tick.runOp (fun _ _ _ hv => hv.opKeyImport_ends))

theorem setRootBlock (h : s.Keeps t) {n : Nat} {b : Bytes} : Gives s.Keeps (t.setRootBlock n b) := by
  unfold State.setRootBlock
  extract_lets _ _ _
  split
  · exact .none
  · extract_lets _ _
    split
    · exact .some h.withKs.kcSub
    · split
      · split
        · exact .none
        · extract_lets _ u
          have hu : s.Keeps u := h.withKs
          split
          · exact .some hu.withFree.kcAdd
          · split
            · exact .none
            · exact .some h.withKs.withFree.kcAdd
      · exact .none

theorem reissue (h : s.Keeps t) {n m : Nat} {b c : Bytes} : Gives (s.Keeps ·.1) (t.reissue n m b c) := by
  unfold State.reissue
  extract_lets _
  split
  · exact .none
  next e1 =>
    split
    · exact .none
    next e2 => exact .someFst ((h.setRootBlock _ e1).vaultAdvance _ e2).hwuLoad

theorem opKeyDelete_ends (h : s.Keeps t) {n : Nat} {p : Packet} : s.Ends (s.Keeps ·.s) (opKeyDelete t n p) := by
  unfold opKeyDelete
  refine .bind h.keyOf fun _ _ => ?_
  refine .req ?_
  refine .got fun _ => ?_
  split
  · extract_lets _
    exact .bind (.getOr h.vaultQuorum) fun _ hx1 => .reqIn hx1 <| .reqIn hx1 <| .bind (.getIn hx1 hx1.reissue) fun _ hx2 => .reqIn hx1 <|
      .reqIn hx1 <| .okDid (hx2.foldl (fun _ _ hv => hv.freeKey))

theorem execKeyDelete_runs (h : s.Keeps t) {n m : Nat} {x : PktData} : s.Runs (execKeyDelete n m x t) :=
  .next (h.tick.runOp (fun _ _ _ hv => hv.opKeyDelete_ends))

end

/-! ## Re-masking (R99 to R103) -/

section
variable {s t : State}

theorem nextMask (h : s.Keeps t) : s.Keeps t.nextMask.2 := h.withKs.inSnd

theorem remaskSlot (h : s.Keeps t) {n m : Nat} {x : CompatSlot} {b : Bytes} : s.Keeps (t.remaskSlot n m x b) :=
  h.ite (h.slotBad.ite h.withKs)

theorem remaskDevice (h : s.Keeps t) {n m : Nat} {b : Bytes} : s.Keeps (t.remaskDevice n m b) := by
  unfold State.remaskDevice
  extract_lets _ _ _ _ _ _
  split
  · exact h.withKs
  · exact h.withKs
  · exact h.withKs
  · exact h.withMet
  · exact h.withKs
  · split
    · exact h
    · split
      · exact h.withVlt
      · split
        · exact h.withSlc
        · exact h

theorem remaskSeed (h : s.Keeps t) {n : Nat} {b : Bytes} : s.Keeps (t.remaskSeed n b) := h.withBb

theorem execRemaskLine_runs (h : s.Keeps t) {n : Nat} {f : Bool} {m k : Nat} : s.Runs (execRemaskLine n f m k t) := by
  unfold execRemaskLine
  extract_lets u
  have hu : s.Keeps u := h.tick
  split
  · exact .ite (.next hu.withBb.remaskSeed) (.next hu)
  · split
    · exact .next hu
    · split
      next e =>
        extract_lets _
        split
        · exact .next (hu.nextMask.snd e).remaskSeed
        · split
          · exact .next (hu.nextMask.snd e).remaskDevice
          · split
            · exact .next (hu.nextMask.snd e).remaskSlot
            · exact .next (hu.nextMask.snd e).withKs

theorem ksRandom (h : s.Keeps t) {n : Nat} : Gives (s.Keeps ·.2) (t.ksRandom n) := by
  unfold State.ksRandom
  split
  · exact .some h.drawNow
  · exact .none

theorem seedLfsrs (h : s.Keeps t) : s.Keeps t.seedLfsrs := by
  unfold State.seedLfsrs
  split
  next e => exact (h.ksRandom _ e).withGnt
  · exact h

theorem passBegin (h : s.Keeps t) : s.Keeps t.passBegin := by
  unfold State.passBegin
  extract_lets _ u
  have hu : s.Keeps u := h.withKs
  split
  next e => exact (hu.ksRandom _ e).withKs.seedLfsrs
  · exact hu

theorem backupKey (h : s.Keeps t) : s.Keeps t.backupKey := by
  unfold State.backupKey
  extract_lets _
  split
  next e => exact (h.ksRandom _ e).withBb
  · exact h.withBb

theorem backupPassEnd (h : s.Keeps t) : s.Keeps t.backupPassEnd := h.withBb

theorem execRemaskPassEnd_runs (h : s.Keeps t) {n : Nat} : s.Runs (execRemaskPassEnd n t) :=
  .ite (.next h.tick.backupPassEnd) (.next h.tick.fset.bumpWrap.backupKey.passBegin)

theorem execRemaskLate_runs (h : s.Keeps t) {n : Nat} : s.Runs (execRemaskLate n t) := .ite (.next h.tick.fset.event) (.next h.tick)

theorem compatLock (h : s.Keeps t) : s.Keeps t.compatLock := h.ite (h.ite h.fset).fset.fset

theorem execKsCompatLock_runs (h : s.Keeps t) {n : Nat} : s.Runs (execKsCompatLock n t) := .next h.tick.compatLock

end

/-! ## The card in an interruption (R481) -/

section
variable {s t : State}

theorem cutRun (h : s.Keeps t) {x : CardRun} : s.Keeps (t.cutRun x) := h.withFreeCrd.fset.ite h.withFreeCrd

theorem endCard (h : s.Keeps t) {x : Status} : s.Keeps (t.endCard x) := h.withCrd

end

/-! ## Meters (R440 to R447) -/

section
variable {s t : State}

theorem meterWrite (h : s.Keeps t) {b : Bytes} : s.Keeps (t.meterWrite b) := h.hostWrite.fset

theorem meterReserve (h : s.Keeps t) {n : Nat} : Gives s.Keeps (t.meterReserve n) := .ite (.some h.fset) .none

theorem meterRelease (h : s.Keeps t) : s.Keeps t.meterRelease := h.fset

theorem meterPlace (h : s.Keeps t) {b : Bytes} : s.Keeps (t.meterPlace b) := h.meterWrite.meterRelease.ite h.withMet

theorem meterDrain (h : s.Keeps t) {n : Nat} : s.Keeps (State.meterDrain n t) := by
  induction n generalizing t with
  | zero => exact h
  | succ n ih =>
    unfold State.meterDrain
    split
    · exact h
    · exact (ih h.withMet.meterWrite.meterRelease).ite h

theorem closeInterval (h : s.Keeps t) {n m : Nat} {x : MeterAcc} : s.Keeps (t.closeInterval n m x).2 := h.withMet.inSnd

theorem meterSign (h : s.Keeps t) {b : Bytes} : s.Keeps (t.meterSign b) := h.withMet.ite h.meterWrite

theorem settleMeter (h : s.Keeps t) : s.Keeps t.settleMeter := h.ite (h.withMet.foldl (fun _ _ hv => hv.meterWrite))

theorem finalRecord (h : s.Keeps t) {n m : Nat} : s.Keeps (t.finalRecord n m) := by
  unfold State.finalRecord
  extract_lets _
  split
  · exact h.meterRelease
  · exact h.withMet.meterPlace

theorem meterBegin (h : s.Keeps t) {n : Nat} : s.Keeps (t.meterBegin n) := h.withMet

theorem meterTickSlice (h : s.Keeps t) {x : Nat × MeterAcc} : s.Keeps (t.meterTickSlice x) := (h.withMet.meterSign.ite h.fset).ite h

theorem meterTick (h : s.Keeps t) : s.Keeps t.meterTick := by
  unfold State.meterTick
  extract_lets u1 u2 _ u3 _ u4
  have hu1 : s.Keeps u1 := h.fset
  have hu2 : s.Keeps u2 := hu1.foldl fun _ _ hv => hv.meterTickSlice
  have hu3 : s.Keeps u3 := hu2.ite hu2.event
  have hu4 : s.Keeps u4 := hu3.withMet
  exact hu4.sendMsix.ite hu4

theorem execMeterTick_runs (h : s.Keeps t) {n : Nat} : s.Runs (execMeterTick n t) := .ite (.next h.tick.meterTick) (.next h.tick)

theorem enableMeter (h : s.Keeps t) : s.Keeps t.enableMeter := h.ite (h.fset.fset.withMet.meterDrain.ite h.fset)

theorem execMeterEnable_runs (h : s.Keeps t) {n : Nat} : s.Runs (execMeterEnable n t) := .next h.tick.enableMeter

theorem meterHead (h : s.Keeps t) {n : Nat} : s.Keeps (t.meterHead n) := h.fset.meterDrain

theorem execMeterHeadWrite_runs (h : s.Keeps t) {n m : Nat} : s.Runs (execMeterHeadWrite n m t) := .next h.tick.meterHead

end

/-! ## Vaults and quorums (R139 to R160) -/

section
variable {s t : State}

theorem issueSeal (h : s.Keeps t) {n : Nat} {b c d : Bytes} : Gives (s.Keeps ·.1) (t.issueSeal n b c d) :=
  .map h.vaultAdvance fun _ hx => hx.hwuLoad

theorem opVaultCreate_ends (h : s.Keeps t) {n : Nat} {p : Packet} : s.Ends (s.Keeps ·.s) (opVaultCreate t n p) := by
  unfold opVaultCreate
  extract_lets _ _ _ _
  exact .bind h.handles fun _ _ => .req <| .req <| .req <| .req <| .bind (.getOr h.issueSeal) fun _ hx1 => .req <| .req <|
    .bind (.getOr hx1.addRecord) fun _ hx2 => .okDid hx2

theorem execVaultCreate_runs (h : s.Keeps t) {n m : Nat} {x : PktData} : s.Runs (execVaultCreate n m x t) :=
  .next (h.tick.runOp (fun _ _ _ hv => hv.opVaultCreate_ends))

theorem opVaultLoad_ends (h : s.Keeps t) {n : Nat} {p : Packet} : s.Ends (s.Keeps ·.s) (opVaultLoad t n p) := by
  unfold opVaultLoad
  extract_lets _ u
  have hu : s.Keeps u := h.hwuLoad
  exact .bind h.handles fun _ _ => .req <| .req <| .req <| .req <| .req <| .req <| .got fun _ => .bind (.getOr hu.addRecord) fun _ hx =>
    .okDid hx

theorem execVaultLoad_runs (h : s.Keeps t) {n m : Nat} {x : PktData} : s.Runs (execVaultLoad n m x t) :=
  .next (h.tick.runOp (fun _ _ _ hv => hv.opVaultLoad_ends))

theorem opVaultPolicySet_ends (h : s.Keeps t) {n : Nat} {p : Packet} : s.Ends (s.Keeps ·.s) (opVaultPolicySet t n p) :=
  .bind h.handles fun _ _ => .req <| .bind h.vaultNow fun _ _ => .bind (.getOr h.vaultQuorum) fun _ hx1 => .reqIn hx1 <|
    .bind (.getIn hx1 hx1.reissue) fun _ hx2 => .reqIn hx1 <| .reqIn hx1 <| .okDid hx2

theorem execVaultPolicySet_runs (h : s.Keeps t) {n m : Nat} {x : PktData} : s.Runs (execVaultPolicySet n m x t) :=
  .next (h.tick.runOp (fun _ _ _ hv => hv.opVaultPolicySet_ends))

theorem opVaultDelete_ends (h : s.Keeps t) {n : Nat} {p : Packet} : s.Ends (s.Keeps ·.s) (opVaultDelete t n p) :=
  .bind h.handles fun _ _ => .req <| .bind h.vaultNow fun _ _ => .bind (.getOr h.vaultQuorum) fun _ hx1 => .reqIn hx1 <|
    .bind (.getIn hx1 hx1.vaultAdvance) fun _ hx2 => .okDid hx2.freeSlice

theorem execVaultDelete_runs (h : s.Keeps t) {n m : Nat} {x : PktData} : s.Runs (execVaultDelete n m x t) :=
  .next (h.tick.runOp (fun _ _ _ hv => hv.opVaultDelete_ends))

theorem endOldest (h : s.Keeps t) {x : List Challenge} {n : Nat} : s.Keeps (t.endOldest x n) := by
  unfold State.endOldest
  split
  · exact h.endChallenge.ite h
  · exact h

theorem makeRoom (h : s.Keeps t) {n m : Nat} : s.Keeps (t.makeRoom n m) := (h.endOldest.ite h).endOldest

theorem opQuorumChallenge_ends (h : s.Keeps t) {n : Nat} {p : Packet} : s.Ends (s.Keeps ·.s) (opQuorumChallenge t n p) := by
  unfold opQuorumChallenge
  extract_lets _
  exact .bind h.handles fun _ _ => .req <| .bind h.vaultNow fun _ _ => .req <| .req <| .okDid h.makeRoom.withFreeVlt

theorem execQuorumChallenge_runs (h : s.Keeps t) {n m : Nat} {x : PktData} : s.Runs (execQuorumChallenge n m x t) :=
  .next (h.tick.runOp (fun _ _ _ hv => hv.opQuorumChallenge_ends))

theorem execChallengeExpiry_runs (h : s.Keeps t) {n m : Nat} : s.Runs (execChallengeExpiry n m t) :=
  .ite (.next h.tick.endChallenge) (.next h.tick)

theorem opDqChallenge_ends (h : s.Keeps t) {n : Nat} {p : Packet} : s.Ends (s.Keeps ·.s) (opDqChallenge t n p) := by
  unfold opDqChallenge
  extract_lets _ _
  exact .bind h.handles fun _ _ => .req <| .got fun _ => .req <| .okDid h.makeRoom.withFreeVlt

theorem execDqChallenge_runs (h : s.Keeps t) {n m : Nat} {x : PktData} : s.Runs (execDqChallenge n m x t) :=
  .next (h.tick.runOp (fun _ _ _ hv => hv.opDqChallenge_ends))

theorem dqPolicyQuorum (h : s.Keeps t) {p : Packet} : Gives (s.Keeps ·.1) (t.dqPolicyQuorum p) := by
  unfold State.dqPolicyQuorum
  split
  · exact .ite (.someFst h) .none
  · exact h.deviceQuorum

theorem opDqPolicySet_ends (h : s.Keeps t) {n : Nat} {p : Packet} : s.Ends (s.Keeps ·.s) (opDqPolicySet t n p) :=
  .bind h.handles fun _ _ => .req <| .req <| .bind (.getOr h.dqPolicyQuorum) fun _ hx => .gotIn hx fun _ =>
    .okDid (hx.withOtp (.programDq ..))

theorem execDqPolicySet_runs (h : s.Keeps t) {n m : Nat} {x : PktData} : s.Runs (execDqPolicySet n m x t) :=
  .ite (.next h.tick) (.next (h.tick.runOp (fun _ _ _ hv => hv.opDqPolicySet_ends)))

theorem opMeasureRead_ends (h : s.Keeps t) {n : Nat} {p : Packet} : s.Ends (s.Keeps ·.s) (opMeasureRead t n p) :=
  .bind h.handles fun _ _ => .req <| .okDid h

theorem execMeasureRead_runs (h : s.Keeps t) {n m : Nat} {x : PktData} : s.Runs (execMeasureRead n m x t) :=
  .next (h.tick.runOp (fun _ _ _ hv => hv.opMeasureRead_ends))

end

/-! ## Worlds and access (R313 to R336) -/

section
variable {s t : State}

theorem execWcallFromOpen_runs (h : s.Keeps t) {n m k i : Nat} {x : List Nat} : s.Runs (execWcallFromOpen n m k i x t) :=
  .ite (.next h.tick.setPair) (.next h.tick)

theorem resolveHalt (h : s.Keeps t) {n : Nat} : s.Keeps (t.resolveHalt n) := (h.setPair.ite h.setPair.report).ite h

theorem deliverIrqs (h : s.Keeps t) {x : List Nat} : s.Keeps (t.deliverIrqs x) := h.withWld

theorem execWcallFromSecure_runs (h : s.Keeps t) {n m : Nat} {x : List Nat} : s.Runs (execWcallFromSecure n m x t) :=
  .ite (.next h.tick.deliverIrqs.setPair.resolveHalt) (.next h.tick)

theorem callIn (h : s.Keeps t) {n : Nat} : s.Keeps (t.callIn n) := h.withFree.setPair.ite h

theorem openStops (h : s.Keeps t) : s.Keeps t.openStops := h.foldl fun _ _ hv => hv.callIn

theorem execYield_runs (h : s.Keeps t) {n m : Nat} {x : List Bytes} : s.Runs (execYield n m x t) :=
  .ite (.next h.tick.setPair.withWld) (.next h.tick)

theorem bufferFail (h : s.Keeps t) {n : Nat} {x : AccKind} {m : Nat} : s.Keeps (t.bufferFail n x m) := h.setPair.report

theorem execMsgSend_runs (h : s.Keeps t) {n m : Nat} {b : Bytes} : s.Runs (execMsgSend n m b t) := by
  unfold execMsgSend
  extract_lets u1 _ _ u2 u3 _
  have hu1 : s.Keeps u1 := h.tick
  have hu2 : s.Keeps u2 := hu1.setPair
  have hu3 : s.Keeps u3 := hu1.setPair
  exact .ite (.ite (.next hu1.bufferFail) (.ite (.next hu2.withFree) (.ite (.next hu1.setPair) (.next hu3.withWld)))) (.next hu1)

theorem memoryStore (h : s.Keeps t) {n : Nat} {x : Option Nat} {m : Nat} {b : Bytes} : s.Keeps (t.memoryStore n x m b) :=
  h.emit.ite h.setPair

theorem execMsgRecv_runs (h : s.Keeps t) {n m : Nat} : s.Runs (execMsgRecv n m t) := by
  unfold execMsgRecv
  extract_lets u _ _ _
  have hu : s.Keeps u := h.tick
  split
  · split
    · exact .next hu.bufferFail
    · split
      · exact .next hu.setPair
      · exact .next (hu.withWld.setPair.memoryStore.ite hu.withWld.setPair)
  · exact .next hu

theorem execInfo_runs (h : s.Keeps t) {n m : Nat} : s.Runs (execInfo n m t) := .ite (.next h.tick.setPair) (.next h.tick)

theorem execSecureInterrupt_runs (h : s.Keeps t) {n m k i : Nat} : s.Runs (execSecureInterrupt n m k i t) :=
  .ite (.next h.tick.setPair.withWld) (.next h.tick)

theorem execDeviceTimerExpiry_runs (h : s.Keeps t) {n m : Nat} : s.Runs (execDeviceTimerExpiry n m t) :=
  .ite (.next h.tick.raiseIrq) (.next h.tick)

theorem ruleWrite (h : s.Keeps t) {x : RegRef} {y : Word} : Gives s.Keeps (t.ruleWrite x y) := by
  unfold State.ruleWrite
  extract_lets _ _
  split
  · exact .ite .none (.some h.setReg)
  · exact .ite .none (.some h.setReg)
  · exact .ite .none (.some h.setReg)
  · exact .ite .none (.ite (.some h) (.ite .none (.some h.setReg)))
  · exact .ite (.some h) (.ite .none (.some h.fset))
  · exact .ite .none (.ite .none (.ite (.some h) (.some h.setReg)))
  · exact .some h

theorem execRuleWrite_runs (h : s.Keeps t) {n : Nat} {x : Master} {m k : Nat} : s.Runs (execRuleWrite n x m k t) := by
  unfold execRuleWrite
  extract_lets u
  have hu : s.Keeps u := h.tick
  split
  · exact .next hu
  · split
    · exact .next hu
    · split
      · exact .next hu.report
      · split
        next e => exact .next (hu.ruleWrite _ e).emit
        · exact .next hu.report

theorem execAssignLock_runs (h : s.Keeps t) {n : Nat} : s.Runs (execAssignLock n t) := .next h.tick.fset

theorem execDbgLock_runs (h : s.Keeps t) {n : Nat} : s.Runs (execDbgLock n t) := .next h.tick.fset

theorem islandUpdate (h : s.Keeps t) {n : Nat} : s.Keeps (t.islandUpdate n) :=
  (h.fset.fset.ite h.fset).ite ((h.fset.fset.ite h.fset).ite (h.fset.fset.ite h.fset))

theorem powerRequest (h : s.Keeps t) {x : Master} {n m : Nat} : s.Keeps (t.powerRequest x n m) :=
  h.report.ite (h.ite h.fset.fset.islandUpdate)

theorem execDevPwrReq_runs (h : s.Keeps t) {n : Nat} {x : Master} {m k : Nat} : s.Runs (execDevPwrReq n x m k t) :=
  .next h.tick.powerRequest

theorem releaseWrite (h : s.Keeps t) {n : Nat} {f : Bool} : s.Keeps (t.releaseWrite n f) := h.fset.islandUpdate.ite h

theorem execIslandReleaseWrite_runs (h : s.Keeps t) {n m : Nat} {f : Bool} : s.Runs (execIslandReleaseWrite n m f t) :=
  .next h.tick.releaseWrite

theorem portLost (h : s.Keeps t) {n : Nat} : s.Keeps (t.portLost n) := h.setReg.raiseIrq.ite h.setReg

theorem poweredUp (h : s.Keeps t) {n : Nat} : s.Keeps (t.poweredUp n) := h.fset.islandUpdate.ite h

theorem execAsvRecordPop_runs (h : s.Keeps t) {n : Nat} : s.Runs (execAsvRecordPop n t) := .next h.tick.emit.withWld

theorem execDebugHaltRequest_runs (h : s.Keeps t) {n m : Nat} : s.Runs (execDebugHaltRequest n m t) := by
  unfold execDebugHaltRequest
  extract_lets u _
  have hu : s.Keeps u := h.tick
  exact .ite (.next hu) (.ite (.next hu.setPair.resolveHalt) (.ite (.next hu.setPair) (.next hu.setPair)))

end

/-! ## Workspaces (R189 to R197) -/

section
variable {s t : State}

theorem setSpace (h : s.Keeps t) {n : Nat} {x : Workspace} : s.Keeps (t.setSpace n x) := h.withPke

theorem writeBack (h : s.Keeps t) {n : Nat} {x : List (Nat × Nat)} : s.Keeps (t.writeBack n x) := by
  unfold State.writeBack
  split
  · exact h
  · exact h.setSpace

theorem wsResidue (h : s.Keeps t) {n : Nat} {b : Bytes} : s.Keeps (t.wsResidue n b) := by
  unfold State.wsResidue
  split
  · exact h
  · exact h.setSpace

theorem opWsOpen_ends (h : s.Keeps t) {n : Nat} {p : Packet} : s.Ends (s.Keeps ·.s) (opWsOpen t n p) :=
  .bind h.handles fun _ _ => .req <| .req <| .okDid h.withFree.setSpace

theorem spaceOf (_h : s.Keeps t) {p : Packet} {n : Nat} : s.Ends (fun _ => True) (t.spaceOf p n) := by
  unfold State.spaceOf
  split
  · exact .ite (.ok trivial) .failWith
  · exact .failWith

theorem opWsWrite_ends (h : s.Keeps t) {n : Nat} {p : Packet} : s.Ends (s.Keeps ·.s) (opWsWrite t n p) :=
  .bind h.handles fun _ _ => .bind h.spaceOf fun _ _ => .req <| .okDid h.setSpace

theorem opWsRead_ends (h : s.Keeps t) {n : Nat} {p : Packet} : s.Ends (s.Keeps ·.s) (opWsRead t n p) :=
  .bind h.handles fun _ _ => .bind h.spaceOf fun _ _ => .req <| .okDid h

theorem opWsClose_ends (h : s.Keeps t) {n : Nat} {p : Packet} : s.Ends (s.Keeps ·.s) (opWsClose t n p) :=
  .bind h.handles fun _ _ => .bind h.spaceOf fun _ _ => .req <| .okDid h.withPke

end

/-! ## Public-key jobs (R164 to R188) -/

section
variable {s t : State}

theorem setJob (h : s.Keeps t) {n : Nat} {x : Job} : s.Keeps (t.setJob n x) := h.withPke

theorem dropJob (h : s.Keeps t) {n : Nat} : s.Keeps (t.dropJob n) := h.withPkeBlk

theorem accept (h : s.Keeps t) {n : Nat} {p : Packet} {f : Bool} {x : JobKind} {y : Fig} {g : Bool} {m k : Nat} {f' : Bool} {i j : Nat} :
    s.Keeps (t.accept n p f x y g m k f' i j) := (h.setV.ite h).withFreePke.setJob.setPacket

theorem clearArea (h : s.Keeps t) {n : Nat} {x : Area} : s.Keeps (t.clearArea n x) := h.withPke

theorem chargeDispatch (h : s.Keeps t) {x : Job} : s.Keeps (t.chargeDispatch x) := h.ite h.withPke.charge

theorem jobKey (h : s.Keeps t) {x : Job} : s.Keeps (t.jobKey x).2 := by
  unfold State.jobKey
  split
  · exact h.inSnd
  · split
    · exact h.inSnd
    · split
      · exact h.slotBad.inSnd
      · exact h.pmc.inSnd

theorem freshWords (h : s.Keeps t) {n : Nat} {p : Packet} {x : Job} : s.Keeps (t.freshWords n p x).1 :=
  h.drbgCall.withFree.setPacket.iteFst h.inFst

theorem startJob (h : s.Keeps t) {n : Nat} {x : Job} {m k : Nat} : s.Keeps (t.startJob n x m k) := by
  unfold State.startJob
  split
  · exact h.dropJob
  · refine .ite h.dropJob.fail ?_
    extract_lets _ _
    split
    next e1 =>
      have fresh := h.freshWords.fst e1
      split
      next e2 =>
        have named := (fresh.inSnd.iteSnd fresh.jobKey).snd e2
        extract_lets _
        split
        exact named.chargeDispatch.withFree.setPacket.setJob.countStart

theorem unassign (h : s.Keeps t) {n : Nat} {x : Job} : s.Keeps (t.unassign n x) := h.setJob

theorem coreNext (h : s.Keeps t) {n m : Nat} : s.Keeps (t.coreNext n m) := by
  unfold State.coreNext
  extract_lets _
  split
  · exact h.setJob
  · split
    · exact h.startJob.ite h.unassign
    · exact h

theorem pauseFor (h : s.Keeps t) {n m : Nat} : s.Keeps (t.pauseFor n m) := by
  unfold State.pauseFor
  extract_lets _ u
  have hu : s.Keeps u := by
    unfold u
    split
    · exact h.setJob
    · exact h
  split
  · exact hu.setJob
  · exact hu

theorem placeVerify (h : s.Keeps t) {n : Nat} : s.Keeps (t.placeVerify n) := by
  unfold State.placeVerify
  split
  · extract_lets _
    split
    · split
      · exact h
      · exact h.pauseFor.setJob
    · exact h
  · exact h

theorem serveVerify (h : s.Keeps t) : s.Keeps t.serveVerify := h.foldl fun _ _ hv => hv.placeVerify

theorem toGate (h : s.Keeps t) {n : Nat} {x : Job} {m k : Nat} : s.Keeps (t.toGate n x m k) := h.setJob

theorem jobKeyOut (h : s.Keeps t) {p : Packet} {x : JobRes} : s.Keeps (t.jobKeyOut p x).1 := by
  unfold State.jobKeyOut
  split
  · split
    next e => exact (h.enterKey _ e).hwuLoad.inFst
    · exact h.inFst
  · exact h.inFst
  · exact h.inFst

theorem jobOutput (h : s.Keeps t) {n : Nat} {x : Job} : s.Keeps (t.jobOutput n x).1 := by
  unfold State.jobOutput
  extract_lets u
  have hu : s.Keeps u := h.ite h.writeBack
  split
  · exact h.inFst
  · split
    · exact h.inFst
    · split
      next e => exact (hu.jobKeyOut.fst e).inFst

theorem unmakeKey (h : s.Keeps t) {n : Nat} : s.Keeps (t.unmakeKey n) := h.freeRecord.ite h

theorem releaseJob (h : s.Keeps t) {n : Nat} {x : Job} {m : Nat} : s.Keeps (t.releaseJob n x m) := by
  unfold State.releaseJob
  extract_lets u
  have hu : s.Keeps u := h.dropJob
  split
  · exact hu
  · extract_lets _
    split
    · split
      · exact hu.unmakeKey.writeRefused.complete
      · exact hu.writeOut.complete
    · exact hu.complete

theorem noteLate (h : s.Keeps t) {n m : Nat} : s.Keeps (t.noteLate n m) := h.bumpSat.event.ite h

theorem releaseC (h : s.Keeps t) {n : Nat} {x : Job} {m k : Nat} : s.Keeps (t.releaseC n x m k) := by
  unfold State.releaseC
  extract_lets u
  have hu : s.Keeps u := h.bumpSat.ite h
  split
  · exact h.dropJob
  · exact h.ite hu.releaseJob

theorem passGate (h : s.Keeps t) {n : Nat} {x : Job} {m k : Nat} : s.Keeps (t.passGate n x m k) := h.toGate.releaseC.ite h.toGate

theorem finishJob (h : s.Keeps t) {n : Nat} {x : Job} {m k : Nat} : s.Keeps (t.finishJob n x m k) := by
  unfold State.finishJob
  split
  next e => exact (h.jobOutput.fst e).passGate

theorem endMain (h : s.Keeps t) {n : Nat} {x : Job} {m k : Nat} : s.Keeps (t.endMain n x m k) := by
  unfold State.endMain
  extract_lets u
  have hu : s.Keeps u := h.clearArea
  split
  · exact hu.passGate.coreNext
  · split
    · exact hu.finishJob.coreNext.ite hu.setJob.coreNext
    · exact hu.finishJob.coreNext

theorem endVerify (h : s.Keeps t) {n : Nat} {x : Job} {m k : Nat} : s.Keeps (t.endVerify n x m k) := by
  unfold State.endVerify
  extract_lets u
  have hu : s.Keeps u := by
    unfold u
    split
    · exact h.clearArea
    · exact h
  exact hu.finishJob

theorem residue (h : s.Keeps t) {n : Nat} {x : Job} : s.Keeps (t.residue n x) := by
  unfold State.residue
  extract_lets u
  have hu : s.Keeps u := by
    unfold u
    split
    · exact h.clearArea
    · exact h
  split
  · exact hu
  · exact hu
  · exact hu
  · exact hu.wsResidue.ite hu
  · exact hu

theorem jobFails (h : s.Keeps t) {n : Nat} {x : Job} {y : Status} {m : Nat} : s.Keeps (t.jobFails n x y m) := h.residue.passGate

theorem jobStops (h : s.Keeps t) {n : Nat} {x : Job} {y : Status} : s.Keeps (t.jobStops n x y) := by
  unfold State.jobStops
  extract_lets u
  have hu : s.Keeps u := h.jobFails
  split
  · exact hu.coreNext
  · exact hu

theorem jobFaults (h : s.Keeps t) {n : Nat} {x : Job} : s.Keeps (t.jobFaults n x) := by
  unfold State.jobFaults
  split
  · exact h.dropJob.fail
  · exact h.dropJob.fail
  · exact h.jobStops.ite h.dropJob.fail
  · exact h.jobStops.ite h.dropJob.fail
  · exact h.jobStops

theorem abortJob (h : s.Keeps t) {n : Nat} {x : Job} {m : Nat} : s.Keeps (t.abortJob n x m) := h.jobFails.ite h.residue.setJob

theorem abortCore (h : s.Keeps t) {n : Nat} : s.Keeps (t.abortCore n) := by
  unfold State.abortCore
  refine h.foldl fun v2 a3 hv => ?_
  extract_lets _
  split
  · exact hv.jobFails.ite hv.clearArea.setJob
  · exact hv.unassign
  · exact hv.abortJob

theorem eraseJobs (h : s.Keeps t) : s.Keeps t.eraseJobs := by
  unfold State.eraseJobs
  refine h.foldl fun v2 a3 hv => ?_
  split
  · extract_lets _ _
    split
    · exact hv
    · split
      · split
        · split
          · exact hv.unassign
          · exact hv
        · exact hv.dropJob.fail
      · exact hv.jobFails

end

/-! ## Opcodes of time classes M and C (R177 to R210) -/

section
variable {s t : State}

theorem askKey (h : s.Keeps t) {n m : Nat} {p : Packet} : s.Ends (fun _ => True) (t.askKey n m p) := by
  unfold State.askKey
  extract_lets _
  split
  · exact .ok trivial
  · split
    · exact .ok trivial
    next e => exact .ite (.ok trivial) (h.checkHandles.error e)

theorem askAsym (h : s.Keeps t) {n m : Nat} {p : Packet} : s.Ends s.Keeps (t.askAsym n m p) := by
  unfold State.askAsym
  refine .bind h.askKey fun _ _ => ?_
  split
  · extract_lets _ _
    refine .req ?_
    refine .req ?_
    refine .req ?_
    refine .req ?_
    split
    · exact .ok h.accept
    · exact .ok h.accept

theorem accepted (h : s.Keeps t) {n : Nat} {x : Except Stop State} (hx : s.Ends s.Keeps x) : s.Keeps (t.accepted n x) := by
  unfold State.accepted
  cases x with
  | error e =>
    have left : s.Keeps (e.s.getD t) := Gives.getD (fun u hu => hx.2 e u rfl hu) h
    exact left.fail
  | ok u => exact hx.1 u rfl

theorem runAsym (h : s.Keeps t) {n m : Nat} {x : PktData} : s.Keeps (t.runAsym n m x) :=
  h.runPacket (fun _ _ _ hv => hv.accepted hv.askAsym)

theorem execKeyAgree_runs (h : s.Keeps t) {n m : Nat} {x : PktData} : s.Runs (execKeyAgree n m x t) := .next h.tick.runAsym

theorem execKemEncaps_runs (h : s.Keeps t) {n m : Nat} {x : PktData} : s.Runs (execKemEncaps n m x t) := .next h.tick.runAsym

theorem execKemDecaps_runs (h : s.Keeps t) {n m : Nat} {x : PktData} : s.Runs (execKemDecaps n m x t) := .next h.tick.runAsym

theorem execRsaEncrypt_runs (h : s.Keeps t) {n m : Nat} {x : PktData} : s.Runs (execRsaEncrypt n m x t) := .next h.tick.runAsym

theorem execRsaDecrypt_runs (h : s.Keeps t) {n m : Nat} {x : PktData} : s.Runs (execRsaDecrypt n m x t) := .next h.tick.runAsym

theorem askGenerate (h : s.Keeps t) {n : Nat} {p : Packet} : s.Ends s.Keeps (t.askGenerate n p) := by
  unfold State.askGenerate
  extract_lets _
  refine .bind h.askKey fun _ _ => ?_
  split
  · refine .req ?_
    refine .req ?_
    refine .req ?_
    split
    · exact .ok h.accept
    · exact .ok h.accept

theorem keyGenerate (h : s.Keeps t) {n : Nat} {p : Packet} : s.Keeps (t.keyGenerate n p) :=
  (h.conclude h.opGenTraffic_ends).ite ((h.accepted h.askGenerate).ite (h.conclude (.bind h.handles fun _ _ => .failWith)))

theorem execKeyGenerate_runs (h : s.Keeps t) {n m : Nat} {x : PktData} : s.Runs (execKeyGenerate n m x t) :=
  .next (h.tick.runPacket (fun _ _ _ hv => hv.keyGenerate))

theorem askDevice (h : s.Keeps t) {n : Nat} {p : Packet} {x : Fig} {f : Bool} : s.Ends s.Keeps (t.askDevice n p x f) :=
  .bind h.askKey fun _ _ => .req <| .req <| .ok h.accept

theorem execAttest_runs (h : s.Keeps t) {n m : Nat} {x : PktData} : s.Runs (execAttest n m x t) :=
  .next (h.tick.runPacket (fun _ _ _ hv => hv.accepted hv.askDevice))

theorem meterInterim (h : s.Keeps t) {n : Nat} {p : Packet} : s.Keeps (t.meterInterim n p) := (h.accepted h.askDevice).ite h

theorem execMeterReadInterim_runs (h : s.Keeps t) {n m : Nat} {x : PktData} : s.Runs (execMeterReadInterim n m x t) := by
  unfold execMeterReadInterim
  extract_lets u
  have hu : s.Keeps u := h.tick
  split
  · exact .ite (.next (hu.runPacket (fun _ _ _ hv => hv.meterInterim))) (.next hu)
  · exact .next hu

theorem opMeterStatement_ends (h : s.Keeps t) {n : Nat} {p : Packet} : s.Ends (s.Keeps ·.s) (opMeterStatement t n p) :=
  .bind h.handles fun _ _ => .req <| .req <| .okDid h

theorem execMeterReadStatement_runs (h : s.Keeps t) {n m : Nat} {x : PktData} : s.Runs (execMeterReadStatement n m x t) := by
  unfold execMeterReadStatement
  extract_lets u
  have hu : s.Keeps u := h.tick
  split
  · exact .ite (.next hu) (.next (hu.runOp (fun _ _ _ hv => hv.opMeterStatement_ends)))
  · exact .next hu

theorem wsOp_keeps (h : s.Keeps t) {n m : Nat} {p : Packet} : s.Ends (s.Keeps ·.s) (wsOp n t m p) := by
  unfold wsOp
  split
  · exact h.opWsOpen_ends
  · exact h.opWsClose_ends
  · exact h.opWsWrite_ends
  · exact h.opWsRead_ends

theorem runSlots (h : s.Keeps t) {n : Nat} {x : Job} : s.Keeps (t.runSlots n x) := by
  unfold State.runSlots
  split
  · exact h.dropJob
  next p _ =>
    have run : s.Ends (s.Keeps ·.s) (if x.reject then (do let _ ← t.handles n p; failWith .rejected) else wsOp p.opcode t n p) :=
      .ite (.bind h.handles fun _ _ => .failWith) h.wsOp_keeps
    dsimp only
    split
    next d e =>
      have hd : s.Keeps d.s := run.1 d e
      exact hd.setPacket.releaseJob.ite hd.setPacket.setJob
    · exact (h.setPacket.releaseJob.ite h.setPacket.setJob).ite h.setPacket.dropJob.fail

theorem askSlots (h : s.Keeps t) {n : Nat} {p : Packet} : s.Keeps (t.askSlots n p) := by
  unfold State.askSlots
  extract_lets _ u
  have hu : s.Keeps u := h.accept
  split
  · exact h.fail
  · split
    · exact hu.runSlots.ite hu
    · exact hu

theorem execWsOpen_runs (h : s.Keeps t) {n m : Nat} {x : PktData} : s.Runs (execWsOpen n m x t) :=
  .next (h.tick.runPacket (fun _ _ _ hv => hv.askSlots))

theorem execWsClose_runs (h : s.Keeps t) {n m : Nat} {x : PktData} : s.Runs (execWsClose n m x t) :=
  .next (h.tick.runPacket (fun _ _ _ hv => hv.askSlots))

theorem execWsWrite_runs (h : s.Keeps t) {n m : Nat} {x : PktData} : s.Runs (execWsWrite n m x t) :=
  .next (h.tick.runPacket (fun _ _ _ hv => hv.askSlots))

theorem execWsRead_runs (h : s.Keeps t) {n m : Nat} {x : PktData} : s.Runs (execWsRead n m x t) :=
  .next (h.tick.runPacket (fun _ _ _ hv => hv.askSlots))

theorem askExec (h : s.Keeps t) {n : Nat} {p : Packet} : s.Ends s.Keeps (t.askExec n p) := by
  unfold State.askExec
  extract_lets _
  refine .bind h.askKey fun _ _ => ?_
  split
  · refine .req ?_
    split
    · exact .ok h.accept
    · exact .ok h.accept

theorem execWsExec_runs (h : s.Keeps t) {n m : Nat} {x : PktData} : s.Runs (execWsExec n m x t) :=
  .next (h.tick.runPacket (fun _ _ _ hv => hv.accepted hv.askExec))

theorem execPkeDispatch_runs (h : s.Keeps t) {n : Nat} {x : Option Nat} : s.Runs (execPkeDispatch n x t) := by
  unfold execPkeDispatch
  extract_lets u
  have hu : s.Keeps u := h.tick.serveVerify
  split
  · exact .next hu
  · split
    · exact .next hu.startJob
    · exact .ite (.next hu.chargeDispatch.setJob) (.next hu)
    · exact .next hu

theorem execVerifyJobPlacement_runs (h : s.Keeps t) {n m : Nat} : s.Runs (execVerifyJobPlacement n m t) := .next h.tick.placeVerify

theorem execYieldPoint_runs (h : s.Keeps t) {n m k : Nat} : s.Runs (execYieldPoint n m k t) := by
  unfold execYieldPoint
  extract_lets u1
  have hu1 : s.Keeps u1 := h.tick
  split
  · extract_lets _ u2
    have hu2 : s.Keeps u2 := hu1.setJob
    split
    · exact .ite (.next hu2.bumpSat.startJob) (.next hu1)
    · exact .next hu1
  · exact .next hu1

theorem nextQuantum (h : s.Keeps t) {n : Nat} {x : Job} {p : Packet} {m : Nat} : s.Keeps (t.nextQuantum n x p m) := by
  unfold State.nextQuantum
  extract_lets p1 q
  split
  next e =>
    have drawn := (h.drbgCall.withFree.setPacket.inFst.iteFst h.inFst).fst e
    split
    extract_lets _ _ _ u1 u2
    have hu1 : s.Keeps u1 := drawn.ite drawn.clearArea
    have hu2 : s.Keeps u2 := hu1.setJob
    exact hu2.ite hu2.coreNext

theorem execLatticeQuantumBoundary_runs (h : s.Keeps t) {n m : Nat} : s.Runs (execLatticeQuantumBoundary n m t) := by
  unfold execLatticeQuantumBoundary
  extract_lets u1
  have hu1 : s.Keeps u1 := h.tick
  split
  · extract_lets u2 _
    have hu2 : s.Keeps u2 := hu1.bumpSat.ite hu1
    split
    · exact .ite (.next hu1) (.ite (.next hu2.clearArea.passGate.coreNext) (.ite (.next hu1.setJob) (.next hu1.nextQuantum)))
    · exact .next hu1
  · exact .next hu1

theorem execRandomDrawTimeout_runs (h : s.Keeps t) {n m : Nat} : s.Runs (execRandomDrawTimeout n m t) := by
  unfold execRandomDrawTimeout
  extract_lets u
  have hu : s.Keeps u := h.tick
  split
  · exact .next hu
  · split
    · exact .next hu
    · split
      · exact .next hu
      · split
        · exact .next hu.jobStops
        · exact .next hu.jobStops
        · exact .next hu

theorem zeroCore (h : s.Keeps t) {n : Nat} : s.Keeps (t.zeroCore n) := h.withPke

theorem execPkeCoreZero_runs (h : s.Keeps t) {n m k : Nat} : s.Runs (execPkeCoreZero n m k t) := .ite (.next h.tick.zeroCore) (.next h.tick)

end

/-! ## Bulk clusters (R224 to R243) -/

section
variable {s t : State}

theorem askSym (h : s.Keeps t) {n m : Nat} {p : Packet} : s.Ends s.Keeps (t.askSym n m p) := by
  unfold State.askSym
  refine .bind h.handles fun _ _ => ?_
  exact .req <| .req <| .req <| .ok h.setPacket

theorem runSym (h : s.Keeps t) {n m : Nat} {x : PktData} : s.Keeps (t.runSym n m x) :=
  h.runPacket (fun _ _ _ hv => hv.accepted hv.askSym)

theorem execAeadSeal_runs (h : s.Keeps t) {n m : Nat} {x : PktData} : s.Runs (execAeadSeal n m x t) := .next h.tick.runSym

theorem execAeadOpen_runs (h : s.Keeps t) {n m : Nat} {x : PktData} : s.Runs (execAeadOpen n m x t) := .next h.tick.runSym

theorem execXtsEncrypt_runs (h : s.Keeps t) {n m : Nat} {x : PktData} : s.Runs (execXtsEncrypt n m x t) := .next h.tick.runSym

theorem execXtsDecrypt_runs (h : s.Keeps t) {n m : Nat} {x : PktData} : s.Runs (execXtsDecrypt n m x t) := .next h.tick.runSym

theorem execCmacGenerate_runs (h : s.Keeps t) {n m : Nat} {x : PktData} : s.Runs (execCmacGenerate n m x t) := .next h.tick.runSym

theorem execCmacVerify_runs (h : s.Keeps t) {n m : Nat} {x : PktData} : s.Runs (execCmacVerify n m x t) := .next h.tick.runSym

theorem execHash_runs (h : s.Keeps t) {n m : Nat} {x : PktData} : s.Runs (execHash n m x t) := .next h.tick.runSym

theorem execHmacGenerate_runs (h : s.Keeps t) {n m : Nat} {x : PktData} : s.Runs (execHmacGenerate n m x t) := .next h.tick.runSym

theorem execHmacVerify_runs (h : s.Keeps t) {n m : Nat} {x : PktData} : s.Runs (execHmacVerify n m x t) := .next h.tick.runSym

theorem execHkdf_runs (h : s.Keeps t) {n m : Nat} {x : PktData} : s.Runs (execHkdf n m x t) := .next h.tick.runSym

theorem execTlsProtect_runs (h : s.Keeps t) {n m : Nat} {x : PktData} : s.Runs (execTlsProtect n m x t) := .next h.tick.runSym

theorem execTlsUnprotect_runs (h : s.Keeps t) {n m : Nat} {x : PktData} : s.Runs (execTlsUnprotect n m x t) := .next h.tick.runSym

theorem setBucket (h : s.Keeps t) {n : Nat} {x : ℤ} : s.Keeps (t.setBucket n x) := h.withSlc

theorem touch (h : s.Keeps t) {n : Nat} {x : KeyTag} : s.Keeps (t.touch n x) := by
  unfold State.touch
  extract_lets _
  split
  · exact h.withBlk
  · exact h

theorem fillPool (h : s.Keeps t) : s.Keeps t.fillPool := h.foldl (fun _ _ hv => hv.withBlk.ite hv)

theorem takeEntry (h : s.Keeps t) {n : Nat} {x : KeyTag} : s.Keeps (t.takeEntry n x) := by
  unfold State.takeEntry
  extract_lets _ _
  split
  · exact h.withBlk
  · split
    · exact h
    · exact h.bumpSat.withBlk

theorem place (h : s.Keeps t) {n : Nat} {x : BlkJob} {m : Nat} : s.Keeps (t.place n x m) := by
  unfold State.place
  extract_lets _
  split
  · exact h.withBlk
  · exact h.touch.withBlk.ite h.takeEntry.withBlk

theorem steerWaiting (h : s.Keeps t) : s.Keeps t.steerWaiting := by
  unfold State.steerWaiting
  refine h.foldl fun v2 a3 hv => ?_
  split
  · exact hv.place
  · exact hv

theorem addBlk (h : s.Keeps t) {n : Nat} {x : BlkJob} : s.Keeps (t.addBlk n x) := h.withBlk

theorem startSym (h : s.Keeps t) {n : Nat} {p : Packet} : s.Keeps (t.startSym n p) := by
  unfold State.startSym
  extract_lets _ u1 u2 u3 u4 u5
  have hu1 : s.Keeps u1 := h.setBucket
  have hu2 : s.Keeps u2 := hu1.setPacket
  have hu3 : s.Keeps u3 := hu2.addBlk
  have hu4 : s.Keeps u4 := hu3.countStart
  have hu5 : s.Keeps u5 := hu4.bumpSat.ite hu4
  exact h.fail.ite (h.fail.ite hu5.fillPool.steerWaiting)

theorem execTokenBucketStart_runs (h : s.Keeps t) {n m : Nat} : s.Runs (execTokenBucketStart n m t) := by
  unfold execTokenBucketStart
  extract_lets u
  have hu : s.Keeps u := h.tick
  split
  · exact .next hu
  · split
    · exact .next hu
    · exact .ite (.next hu.startSym) (.next hu)

theorem zeroFill (h : s.Keeps t) {p : Packet} {n : Nat} : s.Keeps (t.zeroFill p n) := h.writeOut

theorem dropBlk (h : s.Keeps t) {n : Nat} : s.Keeps (t.dropBlk n) := h.withBlk.fillPool.steerWaiting

theorem writeChunk (h : s.Keeps t) {p : Packet} {b : Bytes} {x : BlkJob} {n : Nat} : s.Keeps (t.writeChunk p b x n).1 := by
  unfold State.writeChunk
  extract_lets _ _
  split
  · split
    · exact h.writePart.inFst
    · exact h.inFst
  · exact h.inFst

theorem takeChunk (h : s.Keeps t) {n : Nat} {x : Nat × BlkJob} : s.Keeps (t.takeChunk n x) := by
  unfold State.takeChunk
  extract_lets _ _ u1 _ u2
  have hu1 : s.Keeps u1 := h.pmc
  have hu2 : s.Keeps u2 := hu1.withBlk
  split
  next e =>
    split at e
    · exact (hu2.writeChunk.fst e).withBlk
    · exact (hu2.inFst.fst e).withBlk

theorem sequence (h : s.Keeps t) {n : Nat} : s.Keeps (t.sequence n) := by
  unfold State.sequence
  split
  · exact h.takeChunk
  · exact h

theorem sequenceUntil (h : s.Keeps t) {n m k : Nat} : s.Keeps (t.sequenceUntil n m k) := by
  induction k generalizing t with
  | zero => exact h
  | succ k ih =>
    unfold State.sequenceUntil
    exact h.ite (ih h.sequence)

theorem workOn (h : s.Keeps t) {n m : Nat} : s.Keeps (t.workOn n m) := h.sequenceUntil

theorem clustersWork (h : s.Keeps t) : s.Keeps t.clustersWork := h.foldl fun _ _ hv => hv.sequence

theorem finishSym (h : s.Keeps t) {n : Nat} {p : Packet} {m k : Nat} {x : SymRes} : s.Keeps (t.finishSym n p m k x) :=
  ((h.writePart.ite h).zeroFill.bumpSat.ite (h.writePart.ite h).zeroFill).complete

theorem rejectSym (h : s.Keeps t) {n : Nat} {p : Packet} {m : Nat} : s.Keeps (t.rejectSym n p m) := h.zeroFill.complete

theorem decideSym (h : s.Keeps t) {n : Nat} {p : Packet} {m k : Nat} {x : SymRes} : s.Keeps (t.decideSym n p m k x) := by
  unfold State.decideSym
  split
  · exact h.writePart.rejectSym
  · exact h.finishSym

theorem hashEnds (h : s.Keeps t) {n : Nat} : s.Keeps (t.hashEnds n) := by
  unfold State.hashEnds
  split
  · exact h.setJob.ite h
  · exact h

theorem blkEnds (h : s.Keeps t) {n m : Nat} {x : BlkJob} {p : Packet} : s.Keeps (t.blkEnds n m x p) := by
  unfold State.blkEnds
  split
  · exact h.hashEnds.dropBlk.ite h
  · split
    · exact h.rejectSym.dropBlk
    · split
      · exact h.pmc.decideSym.dropBlk.ite h
      · exact h

theorem lookasideEnds (h : s.Keeps t) {n : Nat} : s.Keeps (t.lookasideEnds n) := by
  unfold State.lookasideEnds
  split
  · split
    · exact h
    · exact h.ite h.workOn.blkEnds
  · exact h

theorem loadEntry (h : s.Keeps t) {n : Nat} {x : KeyTag} {m : Nat} {b : Bytes} : s.Keeps (t.loadEntry n x m b) := by
  unfold State.loadEntry
  extract_lets _
  split
  · exact h.withBlk.bumpSat
  · exact h

theorem untake (h : s.Keeps t) {n m : Nat} : s.Keeps (t.untake n m) := h.withBlk

theorem failWaiting (h : s.Keeps t) {n m : Nat} {x : Status} : s.Keeps (t.failWaiting n m x) :=
  h.untake.foldl fun _ _ hv => hv.fail.dropBlk

theorem faultSym (h : s.Keeps t) {n : Nat} : s.Keeps (t.faultSym n) := by
  unfold State.faultSym
  extract_lets _ _ u
  have hu : s.Keeps u := h.withBlk.fillPool
  split
  · exact hu.jobFaults
  · exact hu.zeroFill.fail
  · exact hu

theorem unsteer (h : s.Keeps t) {n : Nat} {x : BlkJob} : s.Keeps (t.unsteer n x) := h.withBlk

theorem clusterFault (h : s.Keeps t) {n : Nat} : s.Keeps (t.clusterFault n) :=
  (h.foldl (fun _ _ hv => hv.unsteer.ite hv.faultSym)).withBlk

theorem tokensErased (h : s.Keeps t) : s.Keeps t.tokensErased := h.foldl (fun _ _ hv => hv.fail.ite hv)

theorem blkErase (h : s.Keeps t) : s.Keeps t.blkErase := (h.withBlk.bumpSat.foldl (fun _ _ hv => hv.faultSym)).tokensErased.steerWaiting

theorem wipeUses (h : s.Keeps t) : s.Keeps t.wipeUses := by
  unfold State.wipeUses
  extract_lets u1 u2
  have hu1 : s.Keeps u1 := h.foldl (fun _ _ hv1 => hv1.jobFaults.ite hv1)
  have hu2 : s.Keeps u2 := hu1.foldl (fun _ _ hv2 => hv2.faultSym)
  exact hu2.tokensErased.steerWaiting

end

/-! ## Table memory (R274 to R296) -/

section
variable {s t : State}

theorem idxInsert (h : s.Keeps t) {n : Nat} : s.Keeps (t.idxInsert n) := by
  unfold State.idxInsert
  extract_lets _ _
  split
  · exact h
  · exact h.withTbl

theorem idxRemove (h : s.Keeps t) {n : Nat} : s.Keeps (t.idxRemove n) := h.withTbl

theorem putEntry (h : s.Keeps t) {x : BankPos} {y : FlowEntry} : s.Keeps (t.putEntry x y) := by
  unfold State.putEntry
  extract_lets _
  split
  · exact h.withTbl
  · exact h.withTbl

theorem dropEntry (h : s.Keeps t) {x : BankPos} : s.Keeps (t.dropEntry x) := by
  unfold State.dropEntry
  extract_lets _
  split
  · exact h.withTbl
  · exact h.withTbl

theorem bankHit (h : s.Keeps t) {n : Nat} {x : BankPos} {y : FlowEntry} : s.Keeps (t.bankHit n x y) := h.putEntry.bumpSat.pmc

theorem bankMiss (h : s.Keeps t) {n : Nat} : s.Keeps (t.bankMiss n) := h.bumpSat.pmc

theorem setLearn (h : s.Keeps t) {n : Nat} {x : List FlowEntry} : s.Keeps (t.setLearn n x) := h.withTbl

theorem learnRequest (h : s.Keeps t) {n : Nat} {x : FlowEntry} : s.Keeps (t.learnRequest n x) := h.ite (h.bumpSat.ite h.setLearn)

theorem lfsrPick (h : s.Keeps t) {n : Nat} {x : Option Nat} : s.Keeps (t.lfsrPick n x).2 := h.withTbl

theorem kickChain (h : s.Keeps t) {n m : Nat} {x : Option Nat} {y : FlowEntry} : s.Keeps (State.kickChain n m x y t).2 := by
  induction m generalizing t x y with
  | zero => exact h
  | succ m ih =>
    unfold State.kickChain
    split
    next e =>
      have picked := h.lfsrPick.snd e
      extract_lets k u
      have hu : s.Keeps u := picked.putEntry
      split
      · exact hu.inSnd
      · split
        · exact hu.putEntry.inSnd
        · exact ih hu

theorem placeEntry (h : s.Keeps t) {n : Nat} {x : FlowEntry} : s.Keeps (t.placeEntry n x).2 := by
  unfold State.placeEntry
  split
  · exact h.putEntry.inSnd
  · exact h.kickChain

theorem requestRehash (h : s.Keeps t) {n : Nat} : s.Keeps (t.requestRehash n) := h.ite h.fset.event.deviceCause

theorem stashPut (h : s.Keeps t) {n : Nat} {x : FlowEntry} : s.Keeps (t.stashPut n x) := by
  unfold State.stashPut
  split
  · exact h.putEntry.requestRehash
  · exact h.bumpSat

theorem learnServe (h : s.Keeps t) {n : Nat} {x : FlowEntry} : s.Keeps (t.learnServe n x) := by
  unfold State.learnServe
  split
  · exact h.putEntry
  · split
    · split
      next e1 => exact (h.placeEntry.snd e1).bumpSat
      next e2 => exact (h.placeEntry.snd e2).stashPut.bumpSat.ite (h.placeEntry.snd e2).stashPut

theorem execLearnInsert_runs (h : s.Keeps t) {n m : Nat} : s.Runs (execLearnInsert n m t) := by
  unfold execLearnInsert
  extract_lets u
  have hu : s.Keeps u := h.tick
  split
  · exact .next hu
  · exact .ite (.next (hu.setLearn.learnServe.ite hu.setLearn)) (.next hu)

theorem execStashReinsert_runs (h : s.Keeps t) {n m : Nat} : s.Runs (execStashReinsert n m t) := by
  unfold execStashReinsert
  extract_lets u
  have hu : s.Keeps u := h.tick
  split
  · exact .next hu
  · split
    · split
      · split
        next e1 => exact .next (hu.dropEntry.placeEntry.snd e1)
        next e2 => exact .next (hu.dropEntry.placeEntry.snd e2).putEntry
    · exact .next hu

theorem sweepEntry (h : s.Keeps t) {n : Nat} {x : BankPos} {y : FlowEntry} : s.Keeps (t.sweepEntry n x y) :=
  h.dropEntry.bumpSat.ite (h.putEntry.ite (h.putEntry.ite h.dropEntry.bumpSat))

theorem execSweeperVisit_runs (h : s.Keeps t) {n m : Nat} : s.Runs (execSweeperVisit n m t) := by
  unfold execSweeperVisit
  extract_lets u1 _ _ u2
  have hu1 : s.Keeps u1 := h.tick
  have hu2 : s.Keeps u2 := hu1.withTbl
  split
  · split
    · split
      · exact .next hu2.sweepEntry
      · exact .next hu2
    · split
      · exact .next hu2.sweepEntry
      · exact .next hu2
  · exact .next hu1

theorem directedFlush (h : s.Keeps t) {n : Nat} : s.Keeps (t.directedFlush n) := h.withTbl.foldl fun _ _ hv => hv.bumpSat

theorem execDirectedFlush_runs (h : s.Keeps t) {n m : Nat} : s.Runs (execDirectedFlush n m t) :=
  .ite (.next h.tick.directedFlush) (.next h.tick)

theorem advanceEpoch (h : s.Keeps t) {n : Nat} : s.Keeps (t.advanceEpoch n) := by
  unfold State.advanceEpoch
  split
  · exact h
  · exact (h.directedFlush.ite h).withTbl

theorem bankClear (h : s.Keeps t) {n : Nat} : s.Keeps (t.bankClear n) := h.withTbl.setLearn

theorem bankFlush (h : s.Keeps t) {n : Nat} : s.Keeps (t.bankFlush n) := h.bankClear.fset

theorem bankSeed (h : s.Keeps t) {n : Nat} {b : Bytes} : s.Keeps (t.bankSeed n b) := h.withTbl

theorem opTblRehash_ends (h : s.Keeps t) {n : Nat} {p : Packet} : s.Ends (s.Keeps ·.s) (opTblRehash t n p) := by
  unfold opTblRehash
  extract_lets u
  have hu : s.Keeps u := h.foldl fun _ _ hv => hv.bankFlush.bankSeed.bumpSat
  exact .bind h.handles fun _ _ => .req <| .okDid hu

theorem execTblRehash_runs (h : s.Keeps t) {n m : Nat} {x : PktData} : s.Runs (execTblRehash n m x t) :=
  .next (h.tick.runOp (fun _ _ _ hv => hv.opTblRehash_ends))

theorem opTblFlush_ends (h : s.Keeps t) {n : Nat} {p : Packet} : s.Ends (s.Keeps ·.s) (opTblFlush t n p) :=
  .bind h.handles fun _ _ => .req <| .okDid (h.foldl (fun _ _ hv => hv.bankFlush))

theorem execTblFlush_runs (h : s.Keeps t) {n m : Nat} {x : PktData} : s.Runs (execTblFlush n m x t) :=
  .next (h.tick.runOp (fun _ _ _ hv => hv.opTblFlush_ends))

theorem placePolicy (h : s.Keeps t) {n : Nat} {x : Policy} : s.Keeps (t.placePolicy n x) := h.withTbl

theorem policyInsert (h : s.Keeps t) {n m : Nat} {b : Bytes} : s.Keeps (t.policyInsert n m b).2 := h.placePolicy.withFree.advanceEpoch

theorem opPolicyAdd_ends (h : s.Keeps t) {n : Nat} {p : Packet} : s.Ends (s.Keeps ·.s) (opPolicyAdd t n p) := by
  unfold opPolicyAdd
  extract_lets _
  exact .bind h.handles fun _ _ => .req <| .req <| .got fun _ => .req <| .okDid h.placePolicy.withFree.advanceEpoch

theorem execPolicyAdd_runs (h : s.Keeps t) {n m : Nat} {x : PktData} : s.Runs (execPolicyAdd n m x t) :=
  .next (h.tick.runOp (fun _ _ _ hv => hv.opPolicyAdd_ends))

theorem policyRemove (h : s.Keeps t) {n : Nat} : s.Keeps (t.policyRemove n) := by
  unfold State.policyRemove
  extract_lets _ u
  have hu : s.Keeps u := h.withTbl
  split
  · exact h
  · exact hu.advanceEpoch

theorem dropLost (h : s.Keeps t) {n m : Nat} : s.Keeps (t.dropLost n m) := by
  unfold State.dropLost
  extract_lets _
  split
  · exact h.withTbl
  · exact h

theorem mend (h : s.Keeps t) {n : Nat} : s.Keeps (t.mend n) := by
  unfold State.mend
  extract_lets _
  split
  · exact h.withTbl.ite h
  · exact h

theorem opPolicyDelete_ends (h : s.Keeps t) {n : Nat} {p : Packet} : s.Ends (s.Keeps ·.s) (opPolicyDelete t n p) := by
  unfold opPolicyDelete
  extract_lets _
  refine .bind h.handles fun _ _ => ?_
  refine .req ?_
  split
  · exact .okDid h.policyRemove.mend
  · exact .got fun _ => .okDid h.dropLost.mend

theorem execPolicyDelete_runs (h : s.Keeps t) {n m : Nat} {x : PktData} : s.Runs (execPolicyDelete n m x t) :=
  .next (h.tick.runOp (fun _ _ _ hv => hv.opPolicyDelete_ends))

theorem policiesDelete (h : s.Keeps t) {n : Nat} : s.Keeps (t.policiesDelete n) := h.foldl fun _ _ hv => hv.policyRemove

theorem tablesErase (h : s.Keeps t) : s.Keeps t.tablesErase := (h.foldl (fun _ _ hv => hv.bankClear)).withTbl

end

/-! ## Security associations (R260 to R273) -/

section
variable {s t : State}

theorem setSa (h : s.Keeps t) {n : Nat} {x : SaCtx} : s.Keeps (t.setSa n x) := h.withTbl

theorem saEvent (h : s.Keeps t) {n m k i : Nat} : s.Keeps (t.saEvent n m k i) := h.setSaEvents.saAnswer

theorem saExhaust (h : s.Keeps t) {n : Nat} : s.Keeps (t.saExhaust n) := by
  unfold State.saExhaust
  split
  · exact h.setSa.saEvent.ite (h.setSa.saEvent.ite h)
  · exact h

theorem saLimits (h : s.Keeps t) {n m : Nat} : s.Keeps (t.saLimits n m) := by
  unfold State.saLimits
  split
  · exact h
  · exact (h.setSa.saEvent.ite h).saExhaust.ite (h.setSa.saEvent.ite h)

theorem saNext (h : s.Keeps t) {n : Nat} : s.Keeps (t.saNext n).2 := by
  unfold State.saNext
  split
  · exact h.inSnd
  · exact h.saExhaust.inSnd.iteSnd (h.setSa.saExhaust.ite h.setSa)

theorem saUse (h : s.Keeps t) {n m : Nat} : s.Keeps (t.saUse n m) := h.fset

theorem saUnuse (h : s.Keeps t) {n m : Nat} : s.Keeps (t.saUnuse n m) := h.fset

theorem saAdd (h : s.Keeps t) {x : SaCtx} : Gives (s.Keeps ·.2) (t.saAdd x) := by
  unfold State.saAdd
  extract_lets put
  have hput (n : Nat) (a : SaCtx) : s.Keeps (put n a).2 := (h.withFree.setSa.saUse.idxInsert.ite h.withFree.setSa.saUse).inSnd
  refine .ite (.map .any fun _ _ => ?_) (.map .any fun _ _ => ?_)
  · exact hput _ _
  · exact hput _ _

theorem bumpSa (h : s.Keeps t) {n : Nat} : s.Keeps (t.bumpSa n) := h.withTbl

theorem saFree (h : s.Keeps t) {n : Nat} : s.Keeps (t.saFree n) := by
  unfold State.saFree
  split
  · exact h
  · extract_lets u1 _ u2 u3
    have hu1 : s.Keeps u1 := h.idxRemove.saUnuse
    have hu2 : s.Keeps u2 := hu1.withTbl.bumpSa
    have hu3 : s.Keeps u3 := by
      unfold u3
      split
      · exact hu2.bumpSa
      · exact hu2
    split
    · exact hu3.finish
    · exact hu3

theorem saDrain (h : s.Keeps t) {n : Nat} {x : Option Nat} : s.Keeps (t.saDrain n x) := by
  unfold State.saDrain
  split
  · exact h
  · exact h.idxRemove.setSa.ite h.idxRemove.setSa.saFree

theorem saDrained (h : s.Keeps t) {n : Nat} : s.Keeps (t.saDrained n) := by
  unfold State.saDrained
  split
  · exact h.saFree.ite h
  · exact h

theorem saJudge (_h : s.Keeps t) {x : Key} {y : SaCtx} {z : Option Nat} : s.Ends (fun _ => True) (t.saJudge x y z) :=
  .req <| .req <| .req <| .req <| .req <| .require

theorem opSaInstall_ends (h : s.Keeps t) {n : Nat} {p : Packet} : s.Ends (s.Keeps ·.s) (opSaInstall t n p) := by
  unfold opSaInstall
  extract_lets _
  exact .bind h.keyOf fun _ _ => .req <| .bind h.saJudge fun _ _ => .bind (.getOr h.saAdd) fun _ hx => .okDid hx

theorem execSaInstall_runs (h : s.Keeps t) {n m : Nat} {x : PktData} : s.Runs (execSaInstall n m x t) :=
  .next (h.tick.runOp (fun _ _ _ hv => hv.opSaInstall_ends))

theorem policiesRename (h : s.Keeps t) {n m : Nat} : s.Keeps (t.policiesRename n m) := h.withTbl.foldl fun _ _ hv => hv.advanceEpoch

theorem opSaRekey_ends (h : s.Keeps t) {n : Nat} {p : Packet} : s.Ends (s.Keeps ·.s) (opSaRekey t n p) := by
  unfold opSaRekey
  extract_lets _
  exact .bind h.keyOf fun _ _ => .req <| .got fun _ => .req <| .bind h.saJudge fun _ _ => .bind (.getOr h.saAdd) fun _ hx =>
    .okDid hx.policiesRename.saDrain

theorem execSaRekey_runs (h : s.Keeps t) {n m : Nat} {x : PktData} : s.Runs (execSaRekey n m x t) :=
  .next (h.tick.runOp (fun _ _ _ hv => hv.opSaRekey_ends))

theorem askRetire (h : s.Keeps t) {n : Nat} {p : Packet} : s.Ends s.Keeps (t.askRetire n p) :=
  .bind h.handles fun _ _ => .req <| .got fun _ => .req <| .ok h.setPacket.saDrain

theorem execSaRetire_runs (h : s.Keeps t) {n m : Nat} {x : PktData} : s.Runs (execSaRetire n m x t) :=
  .next (h.tick.runPacket (fun _ _ _ hv => hv.accepted hv.askRetire))

theorem opSaQueryState_ends (h : s.Keeps t) {n : Nat} {p : Packet} : s.Ends (s.Keeps ·.s) (opSaQueryState t n p) :=
  .bind h.handles fun _ _ => .req <| .got fun _ => .okDid h

theorem execSaQueryState_runs (h : s.Keeps t) {n m : Nat} {x : PktData} : s.Runs (execSaQueryState n m x t) :=
  .ite (.next h.tick) (.next (h.tick.runOp (fun _ _ _ hv => hv.opSaQueryState_ends)))

theorem askWait (h : s.Keeps t) {n : Nat} {p : Packet} : s.Ends s.Keeps (t.askWait n p) := by
  unfold State.askWait
  extract_lets u _ _
  have hu : s.Keeps u := h.setPacket
  exact .bind h.handles fun _ _ => .req <| .req <| .ite (.ok hu.saReport) (.ok hu.withTbl)

theorem execSaQueryWait_runs (h : s.Keeps t) {n m : Nat} {x : PktData} : s.Runs (execSaQueryWait n m x t) :=
  .ite (.next (h.tick.runPacket (fun _ _ _ hv => hv.accepted hv.askWait))) (.next h.tick)

theorem execSaQueryTimeout_runs (h : s.Keeps t) {n m : Nat} : s.Runs (execSaQueryTimeout n m t) := by
  unfold execSaQueryTimeout
  extract_lets u
  have hu : s.Keeps u := h.tick
  split
  · exact .ite (.next hu.saAnswer) (.next hu)
  · exact .next hu

theorem saFreedByDevice (h : s.Keeps t) {n : Nat} : s.Keeps (t.saFreedByDevice n) := by
  unfold State.saFreedByDevice
  split
  · exact h.saEvent.saFree
  · exact h

theorem sasErase (h : s.Keeps t) : s.Keeps t.sasErase := h.foldl fun _ _ hv => hv.saFreedByDevice

theorem sasRetire (h : s.Keeps t) {n : Nat} : s.Keeps (t.sasRetire n) := (h.foldl (fun _ _ hv => hv.saDrain)).withTbl

end

/-! ## The inline path (R244 to R273) -/

section
variable {s t : State}

theorem dropFrame (h : s.Keeps t) {n : Nat} {x : Drop} : s.Keeps (t.dropFrame n x) := h.bumpSat.pmc

theorem dropSa (h : s.Keeps t) {n m : Nat} {x : Drop} : s.Keeps (t.dropSa n m x) := by
  unfold State.dropSa
  extract_lets u
  have hu : s.Keeps u := h.dropFrame
  split
  · exact hu.setSa
  · exact hu

theorem addFrame (h : s.Keeps t) {n : Nat} {b : Bytes} {m k i : Nat} {x : FrameAt} : s.Keeps (t.addFrame n b m k i x).2 := h.withTbl

theorem eraseFrame (h : s.Keeps t) {n : Nat} : s.Keeps (t.eraseFrame n) := h.withTbl

theorem bypass (h : s.Keeps t) {n : Nat} {b : Bytes} : s.Keeps (t.bypass n b) := h.addFrame

theorem act (h : s.Keeps t) {n : Nat} {b : Bytes} {f : Bool} {x : Drop} : s.Keeps (t.act n b f x) := h.dropFrame.ite h.bypass

theorem dispatchFrame (h : s.Keeps t) {n : Nat} {b : Bytes} {m : Nat} {x : SaCtx} {k : Nat} : s.Keeps (t.dispatchFrame n b m x k) := by
  unfold State.dispatchFrame
  extract_lets _
  split
  next e =>
    extract_lets _ u
    have hu : s.Keeps u := (h.addFrame.snd e).addBlk
    split
    · exact hu.place
    · exact hu

theorem mapStep (h : s.Keeps t) {n : Nat} {b : Bytes} {x : Eth} {f g : Bool} {y : Drop} {z : Nat → MapEntry → Nat → State}
    (hz : ∀ (a1 : Nat) (a2 : MapEntry) (a3 : Nat), s.Keeps (z a1 a2 a3)) :
    s.Keeps (t.mapStep n b x f g y z) := by
  unfold State.mapStep
  split
  · exact h.dropFrame
  · split
    · exact h.dropFrame
    · split
      · exact h.act
      · exact h.dropFrame.ite (h.act.ite (hz _ _ _))

theorem macOutSteps (h : s.Keeps t) {n : Nat} {b : Bytes} {x : Eth} {m : Nat} : s.Keeps (t.macOutSteps n b x m) := by
  unfold State.macOutSteps
  split
  · exact h.dropFrame
  · split
    · exact h.dropSa
    · split
      next e1 => exact (h.saNext.snd e1).dropSa
      next e2 => exact (h.saNext.snd e2).dropSa.ite (h.saNext.snd e2).dispatchFrame

theorem macOutFrame (h : s.Keeps t) {n : Nat} {b : Bytes} : s.Keeps (t.macOutFrame n b) := h.mapStep (fun _ _ _ => h.macOutSteps)

theorem lookupS (h : s.Keeps t) {n : Nat} {f : Bool} {m k : Nat} : s.Keeps (t.lookupS n f m k).2 := by
  unfold State.lookupS
  extract_lets _
  split
  extract_lets found valid u1 u2
  clear_value valid found
  have hu1 : s.Keeps u1 := by
    unfold u1
    split
    · exact h.dropEntry
    · exact h
  have hu2 : s.Keeps u2 := hu1.bankMiss
  split
  · exact h.bankHit.inSnd
  · split
    · exact hu2.learnRequest.inSnd
    · exact hu2.inSnd

theorem macInSteps (h : s.Keeps t) {n : Nat} {b : Bytes} : s.Keeps (t.macInSteps n b) := by
  unfold State.macInSteps
  extract_lets _
  split
  · exact h.dropFrame
  · split
    next e1 => exact (h.lookupS.snd e1).dropFrame
    next e2 =>
      split
      · exact (h.lookupS.snd e2).dropFrame
      · extract_lets _
        split
        · exact (h.lookupS.snd e2).dropFrame
        · split
          · exact (h.lookupS.snd e2).dropSa
          · exact (h.lookupS.snd e2).dispatchFrame.ite (h.lookupS.snd e2).dropSa

theorem macInFrame (h : s.Keeps t) {n : Nat} {b : Bytes} : s.Keeps (t.macInFrame n b) :=
  h.mapStep (fun _ _ _ => h.act.ite (h.dropFrame.ite h.macInSteps))

theorem lookupP (h : s.Keeps t) {n m : Nat} {x : MapEntry} {k i : Nat} {b : Bytes} : s.Keeps (t.lookupP n m x k i b).2 := by
  unfold State.lookupP
  extract_lets _ _
  split
  · split
    · extract_lets u
      have hu : s.Keeps u := h.bankMiss.learnRequest
      split
      · exact h.bankHit.inSnd.iteSnd hu.inSnd
      · exact hu.inSnd

theorem espProtect (h : s.Keeps t) {n : Nat} {b : Bytes} {x : Eth} {y : Ip} {m k : Nat} : s.Keeps (t.espProtect n b x y m k) := by
  unfold State.espProtect
  split
  · exact h.dropFrame
  · split
    · exact h.dropFrame
    · split
      · exact h.dropSa
      · split
        · exact h.dropSa
        · split
          next e1 => exact (h.saNext.snd e1).dropSa
          next e2 => exact (h.saNext.snd e2).dropSa.ite (h.saNext.snd e2).dispatchFrame

theorem espOutFrame (h : s.Keeps t) {n : Nat} {b : Bytes} : s.Keeps (t.espOutFrame n b) := by
  unfold State.espOutFrame
  extract_lets
  refine h.mapStep fun _ _ _ => ?_
  split
  · exact h.lookupP.espProtect.ite (h.lookupP.bypass.ite (h.lookupP.dropFrame.ite h.lookupP.act))
  · exact h.act

theorem espInSteps (h : s.Keeps t) {n : Nat} {b : Bytes} {x : Ip} {m : Nat} : s.Keeps (t.espInSteps n b x m) := by
  unfold State.espInSteps
  split
  · exact h.dropFrame
  · split
    · exact h.dropFrame
    · split
      next e1 => exact (h.lookupS.snd e1).dropFrame
      next e2 =>
        split
        · exact (h.lookupS.snd e2).dropFrame
        · extract_lets _
          split
          · exact (h.lookupS.snd e2).dropFrame
          · split
            · exact (h.lookupS.snd e2).dropSa
            · exact (h.lookupS.snd e2).dispatchFrame.ite (h.lookupS.snd e2).dropSa

theorem espInFrame (h : s.Keeps t) {n : Nat} {b : Bytes} : s.Keeps (t.espInFrame n b) := by
  unfold State.espInFrame
  extract_lets
  refine h.mapStep fun _ _ _ => ?_
  split
  · exact h.espInSteps.ite h.act
  · exact h.act

theorem frameSteps (h : s.Keeps t) {n : Nat} {b : Bytes} : s.Keeps (t.frameSteps n b) := by
  unfold State.frameSteps
  extract_lets _ u
  have hu : s.Keeps u := h.pmc
  split
  · exact hu.macOutFrame
  · exact hu.macInFrame
  · exact hu.espOutFrame
  · exact hu.espInFrame

theorem arrive (h : s.Keeps t) {n : Nat} {b : Bytes} {f g : Bool} : s.Keeps (t.arrive n b f g) := by
  unfold State.arrive
  extract_lets u _
  have hu : s.Keeps u := h.pmc
  exact h.bumpSat.ite (h.bumpSat.ite (h.bumpSat.ite (hu.dropFrame.ite ((hu.dropFrame.ite hu.withTbl).ite hu.frameSteps))))

theorem takeStaged (h : s.Keeps t) : s.Keeps t.takeStaged := h.withTbl.foldl fun _ _ hv => hv.frameSteps

theorem execMacsecOutboundFrame_runs (h : s.Keeps t) {n m : Nat} {b : Bytes} {f g : Bool} :
    s.Runs (execMacsecOutboundFrame n m b f g t) := .ite (.next h.tick.arrive) (.next h.tick)

theorem execMacsecInboundFrame_runs (h : s.Keeps t) {n m : Nat} {b : Bytes} {f g : Bool} : s.Runs (execMacsecInboundFrame n m b f g t) :=
  .ite (.next h.tick.arrive) (.next h.tick)

theorem execEspOutboundFrame_runs (h : s.Keeps t) {n m : Nat} {b : Bytes} {f g : Bool} : s.Runs (execEspOutboundFrame n m b f g t) :=
  .ite (.next h.tick.arrive) (.next h.tick)

theorem execEspInboundFrame_runs (h : s.Keeps t) {n m : Nat} {b : Bytes} {f g : Bool} : s.Runs (execEspInboundFrame n m b f g t) :=
  .ite (.next h.tick.arrive) (.next h.tick)

theorem meterFrame (h : s.Keeps t) {x : SaCtx} {n : Nat} : s.Keeps (t.meterFrame x n) := by
  unfold State.meterFrame
  extract_lets _ _
  split
  · exact h.withMet
  · exact h

theorem dropFrameJob (h : s.Keeps t) {n : Nat} : s.Keeps (t.dropFrameJob n) := h.dropBlk

theorem loseFrame (h : s.Keeps t) {n : Nat} {x : Drop} : s.Keeps (t.loseFrame n x) := by
  unfold State.loseFrame
  extract_lets _ u
  have hu : s.Keeps u := h.withBlk.eraseFrame
  split
  · exact h
  · exact hu.dropFrame.ite hu.dropSa

theorem countFrame (h : s.Keeps t) {x : Frame} {y : SaCtx} : s.Keeps (t.countFrame x y) := h.setSa.ite h.setSa.saLimits

theorem clusterDone (h : s.Keeps t) {n m : Nat} {x : Frame} {b : Bytes} : s.Keeps (t.clusterDone n m x b) := by
  unfold State.clusterDone
  extract_lets u1
  have hu1 : s.Keeps u1 := h.pmc
  split
  · exact h.loseFrame
  · extract_lets u2 _
    have hu2 : s.Keeps u2 := hu1.countFrame.meterFrame
    split
    · exact hu2.loseFrame.fillPool.steerWaiting
    · exact hu2.withFreeTbl.dropFrameJob

theorem execInlineClusterDone_runs (h : s.Keeps t) {n m : Nat} : s.Runs (execInlineClusterDone n m t) := by
  unfold execInlineClusterDone
  extract_lets u1
  have hu1 : s.Keeps u1 := h.tick
  split
  · split
    · extract_lets u2
      have hu2 : s.Keeps u2 := hu1.workOn
      split
      · exact .ite (.next hu2.clusterDone) (.next hu2)
      · exact .next hu1
    · exact .next hu1
  · exact .next hu1

theorem transmit (h : s.Keeps t) {n : Nat} {x : Frame} {b : Bytes} {f : Bool} : s.Keeps (t.transmit n x b f) :=
  (h.eraseFrame.pmc.bumpSat.ite h.eraseFrame.pmc.bumpSat).emit

theorem lookupX (h : s.Keeps t) {x : Frame} {y : SaCtx} {n : Nat} {b : Bytes} : s.Keeps (t.lookupX x y n b).2 := by
  unfold State.lookupX
  extract_lets _ _ _
  split
  · split
    · split
      · exact h.bankHit.inSnd
      · exact h.bankMiss.learnRequest.inSnd
  · exact h.inSnd

theorem espFinish (h : s.Keeps t) {x : Frame} {y : SaCtx} : s.Keeps (t.espFinish x y).2 := by
  unfold State.espFinish
  extract_lets _
  split
  · split
    · exact h.inSnd
    · split
      · split
        · exact h.inSnd
        · split
          · exact h.inSnd
          · split
            next e1 => exact (h.lookupX.snd e1).inSnd.iteSnd (h.lookupX.snd e1).inSnd
      · split
        next e2 => exact (h.lookupX.snd e2).inSnd.iteSnd (h.lookupX.snd e2).inSnd
  · exact h.inSnd

theorem commitFrame (h : s.Keeps t) {x : Frame} {y : SaCtx} : s.Keeps (t.commitFrame x y) := h.setSa.saLimits

theorem txFinish (h : s.Keeps t) {n : Nat} {x : Frame} {f : Bool} : s.Keeps (t.txFinish n x f) := by
  unfold State.txFinish
  split
  · exact h.loseFrame
  · refine .ite (h.transmit.ite h.loseFrame) (.ite h.loseFrame ?_)
    extract_lets u
    have hu : s.Keeps u := h.commitFrame
    split
    next e =>
      split at e
      · have opened := hu.inSnd.snd e
        split
        · exact opened.loseFrame
        · exact opened.transmit.ite opened.loseFrame
      · have opened := hu.espFinish.snd e
        split
        · exact opened.loseFrame
        · exact opened.transmit.ite opened.loseFrame

theorem txEnds (h : s.Keeps t) {n : Nat} {f : Bool} : s.Keeps (t.txEnds n f) := by
  unfold State.txEnds
  split
  · exact h
  · extract_lets _ u
    have hu : s.Keeps u := h.pmc
    split
    · exact h
    · split
      · exact hu
      · exact hu.transmit.ite hu.loseFrame
      · exact hu.txFinish

theorem loseWaiting (h : s.Keeps t) {n m : Nat} : s.Keeps (t.loseWaiting n m) := h.foldl fun _ _ hv => hv.loseFrame

theorem execKeyFileKeyDelivered_runs (h : s.Keeps t) {n m k : Nat} : s.Runs (execKeyFileKeyDelivered n m k t) := by
  unfold execKeyFileKeyDelivered
  extract_lets u
  have hu : s.Keeps u := h.tick
  split
  · exact .next hu
  · split
    · exact .next hu
    · split
      · exact .next hu.failWaiting
      · split
        · exact .next hu.failWaiting.loseWaiting
        · split
          · exact .next hu.slotBad.failWaiting.loseWaiting
          · exact .next hu.loadEntry.pmc

theorem framesErase (h : s.Keeps t) : s.Keeps t.framesErase := h.foldl fun _ _ hv => hv.loseFrame

theorem framesFault (h : s.Keeps t) {n : Nat} : s.Keeps (t.framesFault n) := h.foldl fun _ _ hv => hv.loseFrame

end

/-! ## Slices and the dirty-page log (R69 to R89) -/

section
variable {s t : State}

theorem setSliceState (h : s.Keeps t) {n m : Nat} : s.Keeps (t.setSliceState n m) := h.fset

theorem putShare (h : s.Keeps t) {n : Nat} {b : Bytes} : s.Keeps (t.putShare n b) := h.fset.fset.fset.fset.fset.fset.fset.fset.fset.fset

theorem countEnduring (h : s.Keeps t) : s.Keeps t.countEnduring := h.fset

theorem setClass (h : s.Keeps t) {n m : Nat} : s.Keeps (t.setClass n m) := h.fset.fset.countEnduring

theorem clearDlog (h : s.Keeps t) {n : Nat} : s.Keeps (t.clearDlog n) := h.setReg.setReg.setReg.setReg.setReg.withSlc

theorem bindSlice (h : s.Keeps t) {n m : Nat} {b : Bytes} : s.Keeps (t.bindSlice n m b) :=
  h.fset.fset.putShare.fset.fset.fset.setSliceState.setClass.clearDlog.setBucket.meterBegin

theorem opSliceBind_ends (h : s.Keeps t) {n : Nat} {p : Packet} : s.Ends (s.Keeps ·.s) (opSliceBind t n p) :=
  .bind h.handles fun _ _ => .req <| .req <| .okDid h.bindSlice

theorem execSliceBind_runs (h : s.Keeps t) {n m : Nat} {x : PktData} : s.Runs (execSliceBind n m x t) :=
  .next (h.tick.runOp (fun _ _ _ hv => hv.opSliceBind_ends))

theorem stopSlice (h : s.Keeps t) {n : Nat} : s.Keeps (t.stopSlice n) := h.foldl fun _ _ hv => hv.stopQp

theorem dropMirrors (h : s.Keeps t) {n : Nat} : s.Keeps (t.dropMirrors n) := by
  unfold State.dropMirrors
  extract_lets u1
  have hu1 : s.Keeps u1 := by
    unfold u1
    refine h.foldl fun v4 a5 hv1 => ?_
    extract_lets _ _ u2
    have hu2 : s.Keeps u2 := hv1.withKs
    split
    · exact hu2.bumpGen.kcSub
    · exact hv1.kcSub
  refine hu1.foldl fun v8 a9 hv2 => ?_
  extract_lets _ _ u3
  have hu3 : s.Keeps u3 := hv2.setSa.saUnuse
  split
  · exact hu3.bumpSa
  · exact hu3

theorem mirrorRecord (h : s.Keeps t) {x : Nat × KeyRec} : Gives s.Keeps (t.mirrorRecord x) := by
  unfold State.mirrorRecord
  extract_lets _ u _ _
  have hu : s.Keeps u := h.withFree
  split
  · exact .some h
  · exact .map .any fun _ _ => hu.withKs.kcAdd

theorem mirrorSa (h : s.Keeps t) {x : Nat × SaCtx} : Gives s.Keeps (t.mirrorSa x) := by
  unfold State.mirrorSa
  extract_lets _
  split
  · exact .some h
  · exact .map .any fun _ _ => h.withFree.setSa.saUse

theorem buildMirrors (h : s.Keeps t) {n : Nat} : Gives s.Keeps (t.buildMirrors n) := by
  unfold State.buildMirrors
  extract_lets o
  have ho : Gives s.Keeps o := .foldl (.some h) fun _ _ hv => .bind hv fun _ hx => hx.mirrorRecord
  exact .bind ho fun _ hx => .foldl (.some hx) fun _ _ hv => .bind hv fun _ hy => hy.mirrorSa

theorem endBuild (h : s.Keeps t) {n : Nat} {x : Status} : s.Keeps (t.endBuild n x) := by
  unfold State.endBuild
  extract_lets _
  split
  · exact h
  · exact h.withSlc.dropMirrors.countPid.fail

theorem switchShare (h : s.Keeps t) {n : Nat} {b : Bytes} : s.Keeps (t.switchShare n b) :=
  (h.putShare.fset.setClass.dropMirrors.ite h.putShare.fset.setClass).setBucket

theorem askShare (h : s.Keeps t) {n : Nat} {p : Packet} : s.Ends (fun _ => True) (t.askShare n p) := by
  unfold State.askShare
  extract_lets _ _
  exact .bind h.handles fun _ _ => .req <| .req <| .req <| .req <| .ok trivial

theorem shareSet (h : s.Keeps t) {n : Nat} {p : Packet} : s.Keeps (t.shareSet n p) := by
  unfold State.shareSet
  split
  next e1 => exact h.conclude (h.askShare.error e1)
  · extract_lets _
    split
    · split
      next e2 => exact (h.buildMirrors _ e2).withSlc.setPacket.ite (h.conclude .failWith)
      · exact h.conclude .failWith
    · exact h.conclude (.okDid h.switchShare)

theorem execShareSet_runs (h : s.Keeps t) {n m : Nat} {x : PktData} : s.Runs (execShareSet n m x t) :=
  .next (h.tick.runPacket (fun _ _ _ hv => hv.shareSet))

theorem execMirrorBuildDone_runs (h : s.Keeps t) {n m : Nat} : s.Runs (execMirrorBuildDone n m t) := by
  unfold execMirrorBuildDone
  extract_lets u
  have hu : s.Keeps u := h.tick
  split
  · exact .next hu
  · split
    next e => exact .ite (.next (hu.buildMirrors _ e).withSlc.switchShare.countPid.finish) (.next hu.endBuild)
    · exact .next hu.endBuild

theorem clearShare (h : s.Keeps t) {n : Nat} : s.Keeps (t.clearShare n) :=
  h.setReg.setReg.setReg.setReg.setReg.setReg.setReg.setReg.countEnduring.withSlc

theorem endChallenges (h : s.Keeps t) {n : Nat} : s.Keeps (t.endChallenges n) := h.withVlt

theorem endVault (h : s.Keeps t) {n : Nat} : s.Keeps (t.endVault n) := ((h.vaultAdvance).getD h).ite h

theorem destroySlice (h : s.Keeps t) {n : Nat} : s.Keeps (t.destroySlice n) := h.withPke.policiesDelete.freeSlice.endChallenges

theorem unbindEnd (h : s.Keeps t) {n m : Nat} : s.Keeps (t.unbindEnd n m) := h.destroySlice.endVault.clearDlog.clearShare.finish

theorem unbindNow (h : s.Keeps t) {n m : Nat} : s.Keeps (t.unbindNow n m) :=
  h.ite ((h.finalRecord.sasRetire.ite h).ite (h.finalRecord.sasRetire.ite h).withCmd.unbindEnd)

theorem askUnbind (h : s.Keeps t) {n : Nat} {p : Packet} : s.Ends s.Keeps (t.askUnbind n p) := by
  unfold State.askUnbind
  extract_lets _
  exact .bind h.handles fun _ _ => .req <| .req <| .bind (.getOr h.meterReserve) fun _ hx => .req <| .ok hx

theorem unbind (h : s.Keeps t) {n : Nat} {p : Packet} : s.Keeps (t.unbind n p) := by
  unfold State.unbind
  extract_lets _
  split
  next e1 => exact h.conclude (h.askUnbind.error e1)
  next e2 => exact (h.askUnbind.1 _ e2).endBuild.countPid.setPacket.setSliceState.stopSlice.withCmd.unbindNow

theorem execSliceUnbind_runs (h : s.Keeps t) {n m : Nat} {x : PktData} : s.Runs (execSliceUnbind n m x t) :=
  .next (h.tick.runPacket (fun _ _ _ hv => hv.unbind))

theorem dlogEnable (h : s.Keeps t) {n : Nat} : s.Keeps (t.dlogEnable n) := h.ite (h.fset.fset.setReg.withSlc.ite h.fset)

theorem execDlogEnable_runs (h : s.Keeps t) {n m : Nat} : s.Runs (execDlogEnable n m t) := .ite (.next h.tick.dlogEnable) (.next h.tick)

theorem dlogDisable (h : s.Keeps t) {n : Nat} : s.Keeps (t.dlogDisable n) := h.fset

theorem execDlogDisable_runs (h : s.Keeps t) {n m : Nat} : s.Runs (execDlogDisable n m t) := .ite (.next h.tick.dlogDisable) (.next h.tick)

theorem dlogFlip (h : s.Keeps t) {n : Nat} : s.Keeps (t.dlogFlip n) := h.fset.withSlc.ite h

theorem execDlogFlip_runs (h : s.Keeps t) {n m : Nat} : s.Runs (execDlogFlip n m t) := .ite (.next h.tick.dlogFlip) (.next h.tick)

theorem execDlogFlipDone_runs (h : s.Keeps t) {n m : Nat} : s.Runs (execDlogFlipDone n m t) :=
  .ite (.next h.tick.fset.fset.setReg) (.next h.tick)

end

/-! ## Migration (R90 to R95) -/

section
variable {s t : State}

theorem endOffer (h : s.Keeps t) {n : Nat} : s.Keeps (t.endOffer n) := h.withSlc.setReg.setReg.ite h

theorem opSliceOffer_ends (h : s.Keeps t) {n : Nat} {p : Packet} : s.Ends (s.Keeps ·.s) (opSliceOffer t n p) := by
  unfold opSliceOffer
  extract_lets _ _ u1 _ _ _ _ u2 _ _
  have hu1 : s.Keeps u1 := h.endOffer
  have hu2 : s.Keeps u2 := hu1.setSliceState.fset.fset
  exact .bind h.handles fun _ _ => .req <| .req <| .req <| .okDid hu2.withFreeSlc

theorem execSliceImportOffer_runs (h : s.Keeps t) {n m : Nat} {x : PktData} : s.Runs (execSliceImportOffer n m x t) := by
  unfold execSliceImportOffer
  extract_lets u
  have hu : s.Keeps u := h.tick
  split
  · exact .ite (.next (hu.runOp (fun _ _ _ hv => hv.opSliceOffer_ends))) (.next hu)
  · exact .next hu

theorem execOfferExpiry_runs (h : s.Keeps t) {n m : Nat} : s.Runs (execOfferExpiry n m t) := by
  unfold execOfferExpiry
  extract_lets u
  have hu : s.Keeps u := h.tick
  split
  · exact .ite (.next hu.endOffer) (.next hu)
  · exact .next hu

theorem freezeSas (h : s.Keeps t) {n : Nat} {f : Bool} : s.Keeps (t.freezeSas n f) := h.withTbl

theorem resumeQp (h : s.Keeps t) {n : Nat} : s.Keeps (t.resumeQp n) := h.fset.fset

theorem resumeSlice (h : s.Keeps t) {n m : Nat} : s.Keeps (t.resumeSlice n m) := h.foldl (fun _ _ hv => hv.resumeQp.ite hv)

theorem dropExport (h : s.Keeps t) {n : Nat} : s.Keeps (t.dropExport n) := h.withCmd

theorem exportFails (h : s.Keeps t) {n m k : Nat} {x : Status} : s.Keeps (t.exportFails n m k x) :=
  h.dropExport.freezeSas.resumeSlice.setSliceState.meterRelease.fail

theorem exportCommit (h : s.Keeps t) {p : Packet} {n : Nat} {b : Bytes} : s.Keeps (t.exportCommit p n b) :=
  (h.writeOut.withBb.vaultAdvance).getD h.writeOut.withBb

theorem exportDestroy (h : s.Keeps t) {n : Nat} : s.Keeps (t.exportDestroy n) := by
  unfold State.exportDestroy
  extract_lets u1 _ u2
  have hu1 : s.Keeps u1 := h.foldl fun _ _ hv => hv.saFree
  have hu2 : s.Keeps u2 := hu1.withTbl
  exact hu2.destroySlice.clearShare

theorem exportSign (h : s.Keeps t) {p : Packet} {n : Nat} {b : Bytes} : s.Keeps (t.exportSign p n b) := h.ite h.writeRanges

theorem drainedSas (h : s.Keeps t) {n : Nat} : s.Keeps (t.drainedSas n) := h.foldl fun _ _ hv => hv.saDrained

theorem exportEnd (h : s.Keeps t) {n m k i : Nat} {p : Packet} : s.Keeps (t.exportEnd n m k i p) := by
  unfold State.exportEnd
  extract_lets u1 _ _ u2 u3 _ u4 u5
  have hu1 : s.Keeps u1 := h.drainedSas
  have hu2 : s.Keeps u2 := hu1.withFree.dropExport.finalRecord
  have hu3 : s.Keeps u3 := hu2.exportCommit.exportSign
  have hu4 : s.Keeps u4 := hu3.withBb.dlogDisable
  have hu5 : s.Keeps u5 := hu4.exportDestroy
  split
  · exact hu1.slotBad.exportFails
  · exact hu5.complete.ite hu1.exportFails

theorem exportNow (h : s.Keeps t) {n m k i : Nat} : s.Keeps (t.exportNow n m k i) := by
  unfold State.exportNow
  split
  · exact h
  · exact h.exportEnd.ite h

theorem exportCut (h : s.Keeps t) : s.Keeps t.exportCut := by
  unfold State.exportCut
  refine h.foldl fun v2 a3 hv => ?_
  split
  · split
    · exact hv.finalRecord.exportCommit.ite hv
    · exact hv
  · exact hv

theorem askExport (h : s.Keeps t) {n : Nat} {p : Packet} : s.Ends (s.Keeps ·.1) (t.askExport n p) := by
  unfold State.askExport
  extract_lets _ _ _ _
  exact .bind h.handles fun _ _ => .req <| .bind h.vaultNow fun _ _ => .req <| .bind (.getOr h.vaultQuorum) fun _ hx1 => .reqIn hx1 <|
    .bind (.getIn hx1 hx1.meterReserve) fun _ hx2 => .reqIn hx1 <| .okFst hx2

theorem exportSlice (h : s.Keeps t) {n : Nat} {p : Packet} : s.Keeps (t.exportSlice n p) := by
  unfold State.exportSlice
  extract_lets _
  split
  next e1 => exact h.conclude (h.askExport.error e1)
  next e2 => exact (h.askExport.1 _ e2).endBuild.countPid.setPacket.setSliceState.freezeSas.stopSlice.withCmd.exportNow

theorem execSliceExport_runs (h : s.Keeps t) {n m : Nat} {x : PktData} : s.Runs (execSliceExport n m x t) :=
  .ite (.next h.tick) (.next (h.tick.runPacket (fun _ _ _ hv => hv.exportSlice)))

theorem opExportSize_ends (h : s.Keeps t) {n : Nat} {p : Packet} : s.Ends (s.Keeps ·.s) (opExportSize t n p) := by
  unfold opExportSize
  extract_lets _
  exact .bind h.handles fun _ _ => .req <| .req <| .req <| .okDid h

theorem execSliceExportSizeQuery_runs (h : s.Keeps t) {n m : Nat} {x : PktData} : s.Runs (execSliceExportSizeQuery n m x t) :=
  .ite (.next (h.tick.runOp (fun _ _ _ hv => hv.opExportSize_ends))) (.next h.tick)

theorem opExportSign_ends (h : s.Keeps t) {n : Nat} {p : Packet} : s.Ends (s.Keeps ·.s) (opExportSign t n p) := by
  unfold opExportSign
  extract_lets _
  exact .bind h.handles fun _ _ => .req <| .got fun _ => .req <| .okDid h.withBb

theorem execSliceExportSignPending_runs (h : s.Keeps t) {n m : Nat} {x : PktData} : s.Runs (execSliceExportSignPending n m x t) :=
  .ite (.next (h.tick.runOp (fun _ _ _ hv => hv.opExportSign_ends))) (.next h.tick)

theorem opExportDiscard_ends (h : s.Keeps t) {n : Nat} {p : Packet} : s.Ends (s.Keeps ·.s) (opExportDiscard t n p) :=
  .bind h.handles fun _ _ => .req <| .got fun _ => .okDid h.withBb

theorem execSliceExportDiscardPending_runs (h : s.Keeps t) {n m : Nat} {x : PktData} : s.Runs (execSliceExportDiscardPending n m x t) :=
  .ite (.next (h.tick.runOp (fun _ _ _ hv => hv.opExportDiscard_ends))) (.next h.tick)

theorem moveVault (h : s.Keeps t) {n : Nat} {b : Bytes} {x : List Bytes} : s.Ends s.Keeps (t.moveVault n b x) := by
  unfold State.moveVault
  split
  · exact .ok h
  · exact .got fun _ => .req <| .bind (.getOr h.addRecord) fun _ hx => .ok hx

theorem moveKey_ends {t : Moved} (h : s.Keeps t.s) {n : Nat} {b c d e : Bytes} : s.Ends (s.Keeps ·.s) (moveKey n b c d t e) :=
  .got fun _ => .bind (.getOr h.addRecord) fun _ hx => .ok hx

theorem moveSa_ends {t : Moved} (h : s.Keeps t.s) {n : Nat} {b : Bytes} : s.Ends (s.Keeps ·.s) (moveSa n t b) := by
  unfold moveSa
  extract_lets _ _
  exact .got fun _ => .req <| .req <| .bind (.getOr h.saAdd) fun _ hx => .ok hx

theorem movePolicy_ends {t : Moved} (h : s.Keeps t.s) {n : Nat} {b : Bytes} : s.Ends (s.Keeps ·.s) (movePolicy n t b) := by
  unfold movePolicy
  refine .got fun _ => ?_
  exact .req <| .got fun _ => .req <| .ok h.policyInsert

theorem moveSpace_ends {t : Moved} (h : s.Keeps t.s) {n : Nat} {b : Bytes} : s.Ends (s.Keeps ·.s) (moveSpace n t b) :=
  .req <| .req <| .ok h.setSpace

theorem moveQp (h : s.Keeps t) {n : Nat} {b : Bytes} : s.Keeps (t.moveQp n b) := by
  unfold State.moveQp
  extract_lets _ _ u1 u2 u3 u4
  have hu1 : s.Keeps u1 := h.setReg.setReg.setReg
  have hu2 : s.Keeps u2 := hu1.setReg.setReg.setReg
  have hu3 : s.Keeps u3 := hu2.setReg.fset
  have hu4 : s.Keeps u4 := hu3.fset
  exact hu4.resumeQp.ite hu4

theorem moveSeal (h : s.Keeps t) {n : Nat} : s.Ends (s.Keeps ·.1) (t.moveSeal n) := by
  unfold State.moveSeal
  split
  · exact .okFst h
  · exact .getOr h.issueSeal

theorem installPackage (h : s.Keeps t) {x : Offer} {p : Packet} {y : List (Nat × Bytes)} {b : Bytes} :
    s.Ends (s.Keeps ·.s) (t.installPackage x p y b) := by
  unfold State.installPackage
  refine .req <| .bind h.withSlc.bindSlice.moveVault fun _ hu => ?_
  refine .bind (.foldlM (P := (s.Keeps ·.s)) (fun _ _ hm => hm.moveKey_ends) hu) fun _ hm => ?_
  refine .bind (.foldlM (P := (s.Keeps ·.s)) (fun _ _ hm => hm.moveSa_ends) hm) fun _ hm => ?_
  refine .bind (.foldlM (P := (s.Keeps ·.s)) (fun _ _ hm => hm.movePolicy_ends) hm) fun _ hm => ?_
  refine .bind (.foldlM (P := (s.Keeps ·.s)) (fun _ _ hm => hm.moveSpace_ends) hm) fun _ hm => ?_
  exact .req <| .bind (hm.foldl fun _ _ hv => hv.moveQp).moveSeal fun _ hx => .req <| .okDid hx

theorem importSlice (h : s.Keeps t) {x : Offer} {p : Packet} : s.Ends (s.Keeps ·.s) (t.importSlice x p) :=
  .got fun _ => h.installPackage

theorem opSliceImport_ends (h : s.Keeps t) {n : Nat} {p : Packet} : s.Ends (s.Keeps ·.s) (opSliceImport t n p) :=
  .bind h.handles fun _ _ => .req <| .req <| .got fun _ => h.importSlice

theorem execSliceImport_runs (h : s.Keeps t) {n m : Nat} {x : PktData} : s.Runs (execSliceImport n m x t) := by
  unfold execSliceImport
  extract_lets u
  have hu : s.Keeps u := h.tick
  split
  · exact .ite (.next hu) (.next (hu.runOp (fun _ _ _ hv => hv.opSliceImport_ends)))
  · exact .next hu

end

/-! ## The Gauntlet (R379 to R401) -/

section
variable {s t : State}

theorem noteLifted (h : s.Keeps t) {n m : Nat} : s.Keeps (t.noteLifted n m) := h.withPke

theorem gntSync (h : s.Keeps t) : s.Keeps t.gntSync := h.noteLifted.setReg.fset.fset.fset.foldl fun _ _ hv => hv.fset

theorem stage (h : s.Keeps t) {b : Bytes} : s.Keeps (t.stage b) := h.withGnt.ite (h.withGnt.bumpSat.raiseIrq.ite h.withGnt)

theorem evidence (h : s.Keeps t) {n m k : Nat} {f : Bool} : s.Keeps (t.evidence n m k f) :=
  (h.stage.setReg.event.raiseIrq.ite h.stage.setReg.event).ite h.stage.setReg

theorem rngZeroize (h : s.Keeps t) : s.Keeps t.rngZeroize := (h.fset.fset.foldl (fun _ _ hv => hv.setReg)).withRng

theorem suspendSeal (h : s.Keeps t) : s.Keeps t.suspendSeal := by
  unfold State.suspendSeal
  extract_lets _ _ _
  split
  · exact h.withBbFw.fset.fail.ite h
  · exact h

theorem eraseWork (h : s.Keeps t) : s.Keeps t.eraseWork := by
  unfold State.eraseWork
  exact h.eraseJobs.framesErase.blkErase.withPke.wipeCache.sasErase.tablesErase.rngZeroize.suspendSeal

theorem clockRestarts (h : s.Keeps t) {n : Nat} : s.Keeps (t.clockRestarts n) := h.fset.ite h

theorem eraseBegin (h : s.Keeps t) : s.Keeps t.eraseBegin :=
  h.ite (h.fset.fset.foldl (fun _ _ hv => hv.clockRestarts)).withGnt.endCard.eraseWork

theorem kaErase (h : s.Keeps t) : s.Keeps t.kaErase := h.withFree.withBb.ite h.withFree.withBb.evidence

theorem askRpReset (h : s.Keeps t) : s.Keeps t.askRpReset := h.withGnt.ite h

theorem respond (h : s.Keeps t) {n : Nat} : s.Keeps (t.respond n) :=
  (h.fset.kaErase.ite h).ite (h.raiseIrq.ite ((h.ite h.raiseIrq.eraseBegin).ite ((h.ite h.raiseIrq.fset.kaErase.eraseBegin.askRpReset).ite
    h)))

theorem alarm (h : s.Keeps t) {n m k : Nat} {f : Bool} : s.Keeps (t.alarm n m k f) := h.bumpSat.evidence.deviceCause.ite h.bumpSat.evidence

theorem stepLfsr (h : s.Keeps t) {f : Bool} : s.Keeps (t.stepLfsr f) := h.withGnt.ite h.withGnt

theorem awaitSecond (h : s.Keeps t) {n m k : Nat} : s.Keeps (t.awaitSecond n m k) := h.ite h.stepLfsr.withGnt

theorem condBegin (h : s.Keeps t) {n m k i j : Nat} : s.Keeps (t.condBegin n m k i j) :=
  h.ite (h.withGnt.respond.alarm.ite h.withGnt.respond).awaitSecond.gntSync

theorem execRailWarningExcursion_runs (h : s.Keeps t) {n m : Nat} {f : Bool} {k : Nat} : s.Runs (execRailWarningExcursion n m f k t) :=
  .ite (.next h.tick.fset.condBegin) (.next h.tick)

theorem execGlitch_runs (h : s.Keeps t) {n m : Nat} {f : Bool} {k : Nat} : s.Runs (execGlitch n m f k t) :=
  .ite (.next h.tick.condBegin) (.next h.tick)

theorem execClockFrequency_runs (h : s.Keeps t) {n m : Nat} : s.Runs (execClockFrequency n m t) :=
  .ite (.next h.tick.condBegin) (.next h.tick)

theorem execShortCycle_runs (h : s.Keeps t) {n m : Nat} : s.Runs (execShortCycle n m t) := .ite (.next h.tick.condBegin) (.next h.tick)

theorem execReferenceLost_runs (h : s.Keeps t) {n m : Nat} : s.Runs (execReferenceLost n m t) :=
  .ite (.next h.tick.condBegin) (.next h.tick)

theorem meshFault (h : s.Keeps t) {n m k : Nat} : s.Keeps (t.meshFault n m k) := by
  unfold State.meshFault
  extract_lets _
  split
  · exact h.condBegin
  · exact h.condBegin
  · exact h.condBegin
  · exact h.condBegin

theorem execMeshCheck_runs (h : s.Keeps t) {n m k i : Nat} : s.Runs (execMeshCheck n m k i t) :=
  .ite (.next h.tick.meshFault) (.next h.tick)

theorem execTamperSwitch_runs (h : s.Keeps t) {n m : Nat} {f : Bool} : s.Runs (execTamperSwitch n m f t) :=
  .ite (.next h.tick.condBegin) (.next h.tick)

theorem execZeroize_runs (h : s.Keeps t) {n : Nat} : s.Runs (execZeroize n t) := .next h.tick.condBegin

theorem execTemperature_runs (h : s.Keeps t) {n m : Nat} : s.Runs (execTemperature n m t) :=
  .ite (.next (h.tick.fset.foldl (fun _ _ hv => hv.condBegin))) (.next h.tick)

theorem execVbakLow_runs (h : s.Keeps t) {n m : Nat} : s.Runs (execVbakLow n m t) := .ite (.next h.tick.fset.condBegin) (.next h.tick)

theorem execVbakOver_runs (h : s.Keeps t) {n m : Nat} : s.Runs (execVbakOver n m t) := .ite (.next h.tick.fset.condBegin) (.next h.tick)

theorem raiseCond (h : s.Keeps t) {n m : Nat} : s.Keeps (t.raiseCond n m) := by
  unfold State.raiseCond
  extract_lets _
  split
  · exact h.withGnt
  · exact h

theorem decide2 (h : s.Keeps t) {n m k : Nat} {x : Second} : s.Keeps (t.decide2 n m k x) :=
  h.withGnt.ite (h.withGnt.raiseCond.respond.ite h.withGnt).gntSync.condBegin

theorem execSecondDecision_runs (h : s.Keeps t) {n m k i : Nat} : s.Runs (execSecondDecision n m k i t) := by
  unfold execSecondDecision
  extract_lets u
  have hu : s.Keeps u := h.tick
  split
  · exact .ite (.next hu.decide2) (.next hu)
  · exact .next hu

theorem noteReading (h : s.Keeps t) {n m k : Nat} : s.Keeps (t.noteReading n m k) := h.fset.ite (h.fset.ite (h.fset.ite (h.fset.ite h)))

theorem condEnd (h : s.Keeps t) {n : Nat} {x : Cond} : s.Keeps (t.condEnd n x) := by
  unfold State.condEnd
  exact (h.withGnt.withGnt.ite h.withGnt).gntSync

theorem execConditionEnd_runs (h : s.Keeps t) {n m k i : Nat} : s.Runs (execConditionEnd n m k i t) := by
  unfold execConditionEnd
  extract_lets u _
  have hu : s.Keeps u := h.tick
  split
  · exact .ite (.next hu.noteReading.condEnd) (.next hu)
  · exact .next hu

theorem lift (h : s.Keeps t) {n : Nat} : s.Keeps (t.lift n) := h.withGnt.gntSync.raiseIrq.ite h.withGnt.gntSync

theorem holdLifts (h : s.Keeps t) {n m : Nat} : s.Keeps (t.holdLifts n m) := by
  unfold State.holdLifts
  extract_lets _
  split
  · split
    · exact h.lift.ite h
    · exact h
  · exact h

theorem deriveKeys (h : s.Keeps t) : s.Keeps t.deriveKeys := h.withFreeMetKs

theorem eraseEnds (h : s.Keeps t) : s.Keeps t.eraseEnds :=
  ((h.fset.fset.ite h.fset.fset.deriveKeys).foldl (fun _ _ hv => hv.islandUpdate)).gntSync.ite h

theorem execClearHoldRelease_runs (h : s.Keeps t) {n : Nat} : s.Runs (execClearHoldRelease n t) := .ite (.next h.tick.fset) (.next h.tick)

/-- A commit takes the first free index, so it keeps every record of a log without gaps (R396, R398). -/
theorem commitRecord (h : s.Keeps t) {b : Bytes} {x : List Bytes} : s.Keeps (t.commitRecord b x) := by
  cases hl : t.logTakes b with
  | false =>
    rw [State.commitRecord_drops hl]
    exact h.withGnt.bumpSat
  | true =>
    obtain ⟨w, commit⟩ := State.commitRecord_takes hl x
    rw [commit]
    refine ⟨h.otp, fun d => ?_, h.queue⟩
    obtain ⟨dense, kept⟩ := h.log d
    exact ⟨NMap.Dense.insert dense _, fun n r e => NMap.Dense.get?_insert_last dense (kept n r e) _⟩

theorem execEvidenceCommit_runs (h : s.Keeps t) {n : Nat} : s.Runs (execEvidenceCommit n t) := by
  unfold execEvidenceCommit
  extract_lets u
  have hu : s.Keeps u := h.tick
  split
  · exact .ite (.next hu.commitRecord) (.next hu)
  · exact .next hu

theorem execGntLock_runs (h : s.Keeps t) {n : Nat} : s.Runs (execGntLock n t) := .next h.tick.fset

theorem writeSensor (h : s.Keeps t) {n m : Nat} : s.Keeps (t.writeSensor n m) := h.ite h.fset

theorem execPfwNAsserted_runs (h : s.Keeps t) {n : Nat} : s.Runs (execPfwNAsserted n t) :=
  .ite (.next (h.tick.endCard.ite h.tick).withGnt.fset) (.next h.tick)

theorem pfwEnds (h : s.Keeps t) : s.Keeps t.pfwEnds := h.withGnt

end

/-! ## Entropy (R297 to R312) -/

section
variable {s t : State}

theorem countTests (h : s.Keeps t) {x : Run} {n m k : Nat} : s.Keeps (t.countTests x n m k) := by
  unfold State.countTests
  extract_lets u1 u2 u3
  have hu1 : s.Keeps u1 := h.bumpSat.ite h
  have hu2 : s.Keeps u2 := hu1.bumpSat.ite hu1
  have hu3 : s.Keeps u3 := hu2.bumpSat.ite hu2
  exact hu3.bumpSat.ite hu3

theorem notePairs (h : s.Keeps t) {n m : Nat} : s.Keeps (t.notePairs n m) := h.fset.fset

theorem entropyEvent (h : s.Keeps t) {n m : Nat} : s.Keeps (t.entropyEvent n m) := h.event

theorem entropyFatal (h : s.Keeps t) : s.Keeps t.entropyFatal := h.fset.fset.rngZeroize.fset.evidence

theorem restartSirocco (h : s.Keeps t) : s.Keeps t.restartSirocco := h.withRng.fset

theorem blockFails (h : s.Keeps t) {n : Nat} : s.Keeps (t.blockFails n) :=
  h.entropyEvent.withRng.entropyFatal.ite h.entropyEvent.withRng.restartSirocco

theorem katFails (h : s.Keeps t) {n : Nat} : s.Keeps (t.katFails n) :=
  h.fset.setReg.withRng.entropyEvent.entropyFatal.ite h.fset.setReg.withRng.entropyEvent

theorem instantiate (h : s.Keeps t) {n : Nat} : s.Keeps (t.instantiate n) := h.fset.fset.setReg.withRng

theorem serveSeeds (h : s.Keeps t) {n m : Nat} : s.Keeps (State.serveSeeds n m t) := by
  induction m generalizing t with
  | zero => exact h
  | succ m ih =>
    unfold State.serveSeeds
    refine .ite h ?_
    split
    · exact h.katFails.ite (ih h.instantiate)
    · split
      · exact ih h.reseed
      · exact h

theorem condition (h : s.Keeps t) {n : Nat} : s.Keeps (t.condition n) := h.withRng.ite h.withRng.bumpSat.serveSeeds

theorem blockPasses (h : s.Keeps t) {n : Nat} : s.Keeps (t.blockPasses n) :=
  (h.withRng.fset.ite h.withRng).ite (h.ite ((h.withRng.fset.ite h.withRng).ite h.condition))

theorem fifoPut (h : s.Keeps t) {x : List Nat} : s.Keeps (t.fifoPut x) := h.withRng.bumpSat

theorem rawBlock (h : s.Keeps t) {n m : Nat} : s.Keeps (t.rawBlock n m) := (h.ite h.fset).fifoPut

theorem patternBlock (h : s.Keeps t) {n m : Nat} : s.Keeps (t.patternBlock n m) := by
  unfold State.patternBlock
  extract_lets _ u1 _ u2 u3 _
  have hu1 : s.Keeps u1 := h.withRng
  have hu2 : s.Keeps u2 := hu1.withRng.ite hu1.fset
  have hu3 : s.Keeps u3 := hu2.fset.ite hu2
  exact hu3.withFree.fifoPut.ite hu3

theorem noteRef (h : s.Keeps t) {f : Bool} {x : List Nat} : s.Keeps (t.noteRef f x) := h.withRng.ite h

theorem entropyBlock (h : s.Keeps t) {n : Nat} {x : List Nat} {m : Nat} : s.Keeps (t.entropyBlock n x m) := by
  unfold State.entropyBlock
  extract_lets _ _ _ _ _
  exact h.withRng.notePairs.countTests.patternBlock.ite (h.withRng.notePairs.countTests.rawBlock.ite
    (h.withRng.notePairs.countTests.blockPasses.noteRef.ite h.withRng.notePairs.countTests.blockFails))

theorem execEntropyBlock_runs (h : s.Keeps t) {n m : Nat} {x y : List Nat} {k : Nat} : s.Runs (execEntropyBlock n m x y k t) :=
  .ite (.next h.tick.entropyBlock) (.next h.tick)

theorem execSiroccoRestartDone_runs (h : s.Keeps t) {n : Nat} : s.Runs (execSiroccoRestartDone n t) :=
  .ite (.next h.tick.fset.fset) (.next h.tick)

theorem askRestart (h : s.Keeps t) : s.Keeps t.askRestart := h.ite h.restartSirocco.fset

theorem execRngRestart_runs (h : s.Keeps t) {n : Nat} : s.Runs (execRngRestart n t) := .next h.tick.askRestart

theorem execDrbgKatRepeat_runs (h : s.Keeps t) {n m : Nat} {f : Bool} : s.Runs (execDrbgKatRepeat n m f t) :=
  .ite (.ite (.next h.tick.withRng) (.next h.tick.katFails)) (.next h.tick)

theorem enterTest (h : s.Keeps t) : s.Keeps t.enterTest := h.rngZeroize.fset.fset.setReg.withRng

theorem askTest (h : s.Keeps t) {x : Master} : s.Keeps (t.askTest x) := h.report.ite (h.report.ite (h.ite h.enterTest))

theorem execEntropyTestModeEnter_runs (h : s.Keeps t) {n : Nat} {x : Master} : s.Runs (execEntropyTestModeEnter n x t) :=
  .next h.tick.askTest

theorem leaveTest (h : s.Keeps t) : s.Keeps t.leaveTest := h.rngZeroize.fset.fset.setReg.fset.fset.withRng

theorem execEntropyTestModeExit_runs (h : s.Keeps t) {n : Nat} : s.Runs (execEntropyTestModeExit n t) :=
  .ite (.next h.tick.leaveTest) (.next h.tick)

theorem askPattern (h : s.Keeps t) {x : Master} : s.Keeps (t.askPattern x) := h.report.ite (h.report.ite h.fset.fset.withRng)

theorem execRngTestPattern_runs (h : s.Keeps t) {n : Nat} {x : Master} : s.Runs (execRngTestPattern n x t) := .next h.tick.askPattern

theorem execRngRawRead_runs (h : s.Keeps t) {n : Nat} : s.Runs (execRngRawRead n t) := by
  unfold execRngRawRead
  extract_lets u _
  have hu : s.Keeps u := h.tick
  split
  · exact .ite (.next hu.withRng.emit) (.next hu.emit)
  · exact .next hu.emit

end

/-! ## Steps of a transition and their interruption (R347 to R350) -/

section
variable {s t : State}

theorem lcErase (h : s.Keeps t) {x : LcRun} : s.Keeps (t.lcErase x) := h.kaErase.evidence

theorem lcShare (h : s.Keeps t) {x : LcRun} : s.Keeps (t.lcShare x) := (h.reseed.drbgCall.withFree.withOtp (.programShare ..)).ite h

theorem lcStep (h : s.Keeps t) {x : LcRun} {n m : Nat} : s.Keeps (t.lcStep x n m) := by
  unfold State.lcStep
  extract_lets u
  have hu : s.Keeps u := h.lcErase.ite (h.lcShare.ite ((h.withOtp (.setCopy ..)).ite ((h.withOtp (.setCopy ..)).ite ((h.withOtp (.setCopy
    ..)).ite h))))
  exact hu.withOtp (.markStep ..)

theorem scrapStep (h : s.Keeps t) {x : LcRun} {n : Nat} : s.Keeps (t.scrapStep x n) := by
  unfold State.scrapStep
  split
  · exact h.lcErase
  · exact h.withOtp (.setCopy ..)
  · exact h.withOtp (.setCopy ..)
  · exact h.withOtp (.setCopy ..)
  · exact h.withOtp (.burnShare ..)
  · exact h.withOtp (.burnTrim ..)

theorem lcNext (h : s.Keeps t) : s.Keeps t.lcNext := by
  unfold State.lcNext
  split
  · exact h
  · split
    · exact h
    · extract_lets u _ _
      have hu : s.Keeps u := h.scrapStep
      split
      · split
        · exact h
        · exact h.lcStep.withBootGnt.ite h.lcStep
      · exact hu.withBootGnt.ite hu.withBoot

theorem lcCut (h : s.Keeps t) : s.Keeps t.lcCut := by
  unfold State.lcCut
  extract_lets u _ _
  have hu : s.Keeps u := h.lcNext
  refine .ite ?_ h
  split
  next e => exact h.withFree.ite ((hu.choose.snd e).setOtp (h.otp.trans (.foldl _ (fun o b => .program o b) _)))

end

/-! ## Resets and supplies (R356, R357, R381, R392) -/

section
variable {s t : State}

theorem resetViews (h : s.Keeps t) {u : State} : s.Keeps (t.resetViews u) := by
  unfold State.resetViews
  extract_lets u1 u2 u3
  have hu1 : s.Keeps u1 := h.fset
  have hu2 : s.Keeps u2 := hu1.fset
  have hu3 : s.Keeps u3 := hu2.fset
  exact hu3.gntSync

theorem deviceReset (h : s.Keeps t) {f : Bool} : s.Keeps (t.deviceReset f) := by
  unfold State.deviceReset
  refine resetViews ?_
  exact h.same rfl rfl rfl

theorem resetWith (h : s.Keeps t) {f g : Bool} : s.Keeps (t.resetWith f g) :=
  ((h.exportCut.ite h).ite (h.exportCut.ite h).lcCut).deviceReset

theorem execPowerOnReset_runs (h : s.Keeps t) {n : Nat} {f : Bool} : s.Runs (execPowerOnReset n f t) :=
  .next h.tick.withGnt.resetWith.bumpSat

theorem execColdReset_runs (h : s.Keeps t) {n : Nat} {f : Bool} : s.Runs (execColdReset n f t) :=
  .ite (.next h.tick.resetWith) (.next h.tick)

theorem execRpReset_runs (h : s.Keeps t) {n : Nat} {f : Bool} : s.Runs (execRpReset n f t) := .ite (.next h.tick.resetWith) (.next h.tick)

theorem cutPackets (h : s.Keeps t) {x : Nat → Bool} : s.Keeps (t.cutPackets x) := h.withCmdPkeBlk

theorem cutQueues (h : s.Keeps t) {x : Nat → Bool} : s.Keeps (t.cutQueues x) := h.foldl fun _ _ hv => hv.clearQp

theorem cutManager (h : s.Keeps t) : s.Keeps t.cutManager := (h.foldl (fun _ _ hv => hv.fset)).fset.fset

theorem cutHost (h : s.Keeps t) {f g : Bool} : s.Keeps (t.cutHost f g) := h.cutPackets.cutQueues.cutManager.ite h.cutPackets.cutQueues

theorem linkDrop (h : s.Keeps t) : s.Keeps t.linkDrop := h.setReg.setReg.withLnk

theorem execHostLinkReset_runs (h : s.Keeps t) {n : Nat} : s.Runs (execHostLinkReset n t) := .next h.tick.cutHost.linkDrop

theorem execFunctionLevelReset_runs (h : s.Keeps t) {n : Nat} {f : Bool} : s.Runs (execFunctionLevelReset n f t) := .next h.tick.cutHost

theorem execHostLinkUp_runs (h : s.Keeps t) {n m k : Nat} {f : Bool} : s.Runs (execHostLinkUp n m k f t) :=
  .ite (.next h.tick.fset.fset.fset.fset) (.next h.tick)

theorem railLoss (h : s.Keeps t) {f g : Bool} : s.Keeps (t.railLoss f g) := (h.withGnt.ite h).resetWith

theorem execUnannouncedPowerLoss_runs (h : s.Keeps t) {n m k : Nat} {f g : Bool} : s.Runs (execUnannouncedPowerLoss n m k f g t) :=
  .ite (.next h.tick.fset.condBegin.railLoss) (.next h.tick)

theorem execOrderlyPowerLoss_runs (h : s.Keeps t) {n m k : Nat} {f g : Bool} : s.Runs (execOrderlyPowerLoss n m k f g t) :=
  .ite (.next h.tick.railLoss) (.next h.tick)

theorem execOverVoltage_runs (h : s.Keeps t) {n m k : Nat} {f : Bool} : s.Runs (execOverVoltage n m k f t) :=
  .ite (.next h.tick.fset.condBegin.resetWith) (.next h.tick)

theorem execKaSupplyLost_runs (h : s.Keeps t) {n : Nat} : s.Runs (execKaSupplyLost n t) :=
  .ite (.next h.tick.fset.fset.withBbGnt.gntSync) (.next h.tick)

theorem execKaSupplyRestored_runs (h : s.Keeps t) {n : Nat} : s.Runs (execKaSupplyRestored n t) :=
  .ite (.next h.tick.withGnt) (.next h.tick)

end

/-! ## The life cycle (R337 to R355) -/

section
variable {s t : State}

theorem lcRuns (h : s.Keeps t) {n : Nat} : s.Keeps (State.lcRuns n t) := by
  induction n generalizing t with
  | zero => exact h
  | succ n ih => exact ih h.lcNext

theorem execLcStepsRun_runs (h : s.Keeps t) {n m : Nat} : s.Runs (execLcStepsRun n m t) := .ite (.next h.tick.lcRuns) (.next h.tick)

theorem lcResume (h : s.Keeps t) {n m : Nat} : s.Keeps (t.lcResume n m) := h.withBoot.lcRuns

theorem execManufacturingProgramTrim_runs (h : s.Keeps t) {n : Nat} {b : Bytes} : s.Runs (execManufacturingProgramTrim n b t) :=
  .ite (.next (h.tick.withOtp (.setTrim _ (.or _ _)))) (.next h.tick)

theorem execManufacturingTransitionFactory_runs (h : s.Keeps t) {n : Nat} : s.Runs (execManufacturingTransitionFactory n t) := by
  unfold execManufacturingTransitionFactory
  extract_lets u
  have hu : s.Keeps u := h.tick
  split
  · exact .ite (.next (hu.withBootOtp (.intend ..))) (.next hu)
  · exact .next hu

theorem execManufacturingTransitionScrap_runs (h : s.Keeps t) {n : Nat} : s.Runs (execManufacturingTransitionScrap n t) :=
  .ite (.next h.tick.withBoot) (.next h.tick)

end

/-! ## Boot and Recovery (R358 to R367) -/

section
variable {s t : State}

theorem toPhase (h : s.Keeps t) {n : Nat} : s.Keeps (t.toPhase n) := h.fset

theorem extendMr (h : s.Keeps t) {n : Nat} {b : Bytes} : s.Keeps (t.extendMr n b) := h.withBoot

theorem decodeLc (h : s.Keeps t) {f : Bool} : s.Keeps (t.decodeLc f) := h.fset.fset.fset.fset.fset.fset

theorem scrapBoot (h : s.Keeps t) {f : Bool} : s.Keeps (t.scrapBoot f) :=
  (h.ite (h.withOtp (((Otp.Keeps.setFlag ..).trans (.burnShare ..)).trans (.burnTrim ..)))).kaErase.toPhase

theorem islandsBegin (h : s.Keeps t) {n : Nat} : s.Keeps (t.islandsBegin n) := h.setReg.toPhase.event

theorem afterDecode (h : s.Keeps t) {f : Bool} {n : Nat} : s.Keeps (t.afterDecode f n) := h.ite (h.scrapBoot.ite h.islandsBegin)

theorem romPhase (h : s.Keeps t) {n : Nat} : s.Keeps (t.romPhase n) := by
  unfold State.romPhase
  extract_lets u1 _ u2
  have hu1 : s.Keeps u1 := h.toPhase.extendMr
  have hu2 : s.Keeps u2 := hu1.withOtp (.voidRecords ..)
  split
  · exact hu1.decodeLc.afterDecode
  · split
    · exact hu2.lcResume
    · exact hu2.decodeLc.afterDecode

theorem execBootPhaseRom_runs (h : s.Keeps t) {n m : Nat} : s.Runs (execBootPhaseRom n m t) := .ite (.next h.tick.romPhase) (.next h.tick)

theorem checkSeed (h : s.Keeps t) : s.Keeps t.checkSeed :=
  h.fset.ite h.reseed.drbgCall.withFree.drbgCall.withFree.withBb.withBb.fset.fset.event

theorem keysPhase (h : s.Keeps t) : s.Keeps t.keysPhase :=
  h.withFreeKs.fset.checkSeed.drbgCall.withFree.withKs.deriveKeys.withBoot.passBegin.fset.toPhase

theorem execBootPhaseKeys_runs (h : s.Keeps t) {n : Nat} : s.Runs (execBootPhaseKeys n t) :=
  .ite (.ite (.next h.tick.keysPhase) (.next h.tick.toPhase)) (.next h.tick)

theorem measureCustody (h : s.Keeps t) {b : Bytes} : s.Keeps (t.measureCustody b) := h.extendMr.extendMr

theorem measureSteward (h : s.Keeps t) {b : Bytes} : s.Keeps (t.measureSteward b) := h.extendMr.extendMr

theorem certify (h : s.Keeps t) : s.Keeps t.certify := h.deriveKeys.withMetBoot.withBoot

theorem writeMpu (h : s.Keeps t) {b : Bytes} : s.Keeps (t.writeMpu b) := h.foldl fun _ _ hv => hv.setReg.setReg

theorem putWords (h : s.Keeps t) {x : RegName} {n : Nat} {b : Bytes} : s.Keeps (t.putWords x n b) := h.foldl fun _ _ hv => hv.setReg

theorem cfgRegs (h : s.Keeps t) {n : Nat} : s.Keeps (t.cfgRegs n) := h.fset.fset.fset.putWords

theorem ovlRegs (h : s.Keeps t) {x : List Overlay} : s.Keeps (t.ovlRegs x) := by
  unfold State.ovlRegs
  refine h.foldl fun v2 a3 hv => ?_
  split
  · exact hv.fset.fset.fset
  · exact hv

theorem applyLive (h : s.Keeps t) {x : BaseCfg} : s.Keeps (t.applyLive x) := h.withTblPairs.fset.ovlRegs.fset

theorem applyAssign (h : s.Keeps t) {x : BaseCfg} : s.Keeps (t.applyAssign x) := by
  unfold State.applyAssign
  extract_lets u1 u2
  have hu1 : s.Keeps u1 := h.foldl (fun _ _ hv1 => hv1.fset)
  have hu2 : s.Keeps u2 := hu1.setReg
  exact hu2.foldl (fun _ _ hv2 => hv2.fset.fset.ite (hv2.fset.fset.ite hv2.fset))

theorem applyDebug (h : s.Keeps t) {x : BaseCfg} : s.Keeps (t.applyDebug x) := h.fset.fset.fset.fset.fset

theorem applyBoot (h : s.Keeps t) {x : BaseCfg} : s.Keeps (t.applyBoot x) :=
  h.putWords.applyAssign.applyDebug.foldl fun _ _ hv => hv.setReg

theorem setSucc (h : s.Keeps t) {b : Bytes} : s.Keeps (t.setSucc b) := h.putWords.fset

theorem journalBoot (h : s.Keeps t) : s.Keeps t.journalBoot := h.ite (h.withBb.ite (h.withBb.setSucc.ite h.withBb))

theorem configPhase (h : s.Keeps t) {b : Bytes} : s.Keeps (t.configPhase b) := by
  unfold State.configPhase
  split
  · extract_lets u1 u2
    have hu1 : s.Keeps u1 := h.fset.fset
    have hu2 : s.Keeps u2 := hu1.fset.fset
    exact hu2.withCfg.cfgRegs.applyLive.applyBoot.writeMpu.extendMr.extendMr.extendMr.journalBoot.toPhase

theorem imagesPhase (h : s.Keeps t) : s.Keeps t.imagesPhase := by
  unfold State.imagesPhase
  extract_lets _
  split
  · extract_lets u1 u2
    have hu1 : s.Keeps u1 := h.fset.fset
    have hu2 : s.Keeps u2 := hu1.fset
    split
    · extract_lets u3 u4
      have hu3 : s.Keeps u3 := hu2.fset.fset
      have hu4 : s.Keeps u4 := hu3.fset.fset
      split
      · exact hu2.toPhase
      · extract_lets _ u5 u6
        have hu5 : s.Keeps u5 := hu4.measureCustody
        have hu6 : s.Keeps u6 := by
          unfold u6
          split
          · exact hu5.measureSteward
          · exact hu5
        exact hu6.certify.configPhase

theorem execBootPhaseImages_runs (h : s.Keeps t) {n : Nat} : s.Runs (execBootPhaseImages n t) :=
  .ite (.next h.tick.imagesPhase) (.next h.tick)

theorem recoveryGo (h : s.Keeps t) {b : Bytes} {f : Bool} : s.Keeps (t.recoveryGo b f) := h.fset.ite h.withFlash.fset.withGnt

theorem execRecoveryGo_runs (h : s.Keeps t) {n : Nat} {b : Bytes} {f : Bool} : s.Runs (execRecoveryGo n b f t) :=
  .ite (.ite (.next h.tick) (.next h.tick.recoveryGo)) (.next h.tick.report)

end

/-! ## Replicated units (R402 to R419) -/

section
variable {s t : State}

theorem setRole (h : s.Keeps t) {n m k : Nat} : s.Keeps (t.setRole n m k) := h.fset

theorem settled (h : s.Keeps t) {n m : Nat} : s.Keeps (t.settled n m) := h.withRot

theorem toTest (h : s.Keeps t) {n m : Nat} : s.Keeps (t.toTest n m) := h.settled.withRot

theorem pdRegs (h : s.Keeps t) : s.Keeps t.pdRegs := by
  unfold State.pdRegs
  extract_lets at_
  have hat (v : State) (f : Fld) (n : Nat) (hv : s.Keeps v) : s.Keeps (at_ v f n) := by
    unfold at_
    split
    · exact hv.fset
    · exact hv.fset.ite hv
    · exact hv
  exact hat _ _ _ (hat _ _ _ (hat _ _ _ (hat _ _ _ h)))

theorem assignPds (h : s.Keeps t) : s.Keeps t.assignPds := ((h.foldl (fun _ _ hv1 => hv1.fset)).foldl (fun _ _ hv2 => hv2.fset)).pdRegs

theorem movePd (h : s.Keeps t) {n m : Nat} : s.Keeps (t.movePd n m) := h.fset.fset.assignPds

theorem movePackets (h : s.Keeps t) {n m : Nat} : s.Keeps (t.movePackets n m) := h.withCmd

theorem zeroUnit (h : s.Keeps t) {n m : Nat} : s.Keeps (t.zeroUnit n m) := by
  unfold State.zeroUnit
  extract_lets _
  split
  · exact h.withBlk
  · exact h.zeroCore
  · exact h

theorem bringUp (h : s.Keeps t) {n m : Nat} : s.Keeps (t.bringUp n m) := ((h.zeroUnit.ite h).withRot.ite (h.zeroUnit.ite h)).settled.setRole

theorem pairFault (h : s.Keeps t) {n : Nat} : s.Keeps (t.pairFault n) := by
  unfold State.pairFault
  extract_lets u1
  have hu1 : s.Keeps u1 := by
    unfold u1
    refine h.foldl fun v4 a5 hv => ?_
    extract_lets _ u2 _
    have hu2 : s.Keeps u2 := hv.withTbl
    split
    · exact hu2.setPacket.jobFaults
    · exact hu2.faultSym.ite hu2.fail
  exact hu1.setPair

theorem coveredFails (h : s.Keeps t) {n m : Nat} : s.Keeps (t.coveredFails n m) := by
  unfold State.coveredFails
  extract_lets u _
  have hu : s.Keeps u := h.foldl fun _ _ hv => hv.loseFrame
  split
  · exact h.pairFault
  · exact hu.withTbl
  · exact h.clusterFault.framesFault
  · exact h.abortCore

theorem replaceUnit (h : s.Keeps t) {n m : Nat} : s.Keeps (t.replaceUnit n m) := by
  unfold State.replaceUnit
  extract_lets u
  have hu : s.Keeps u := by
    unfold u
    split
    · exact h.bringUp.movePd.ite h.bringUp
    · exact h.assignPds.ite h
  exact hu.steerWaiting.ite hu

theorem retireUnit (h : s.Keeps t) {n m : Nat} : s.Keeps (t.retireUnit n m) := h.settled.setRole.event.event.ite h.settled.setRole.event

theorem fence (h : s.Keeps t) {n m : Nat} : s.Keeps (t.fence n m) := by
  unfold State.fence
  extract_lets _ u1 u2 u3 u4 u5
  have hu1 : s.Keeps u1 := h.fset
  have hu2 : s.Keeps u2 := hu1.setRole
  have hu3 : s.Keeps u3 := hu2.event
  have hu4 : s.Keeps u4 := hu3.coveredFails
  have hu5 : s.Keeps u5 := hu4.replaceUnit.ite hu4
  exact h.ite (hu5.retireUnit.ite hu5.toTest)

theorem verifyFailed (h : s.Keeps t) {n : Nat} : s.Keeps (t.verifyFailed n) :=
  (h.fset.setRole.coveredFails.replaceUnit.ite h.fset.setRole.coveredFails).retireUnit.ite h.fset

theorem islandFault (h : s.Keeps t) {n : Nat} : s.Keeps (t.islandFault n) :=
  h.fence.ite (h.fence.ite (h.fence.ite ((h.foldl (fun _ _ hv => hv.fence)).ite h)))

theorem islandFails (h : s.Keeps t) {n : Nat} : s.Keeps (t.islandFails n) := h.islandFault.ite h.withBoot

theorem execIslandSelftestDone_runs (h : s.Keeps t) {n m : Nat} {f : Bool} : s.Runs (execIslandSelftestDone n m f t) :=
  .ite (.ite (.next h.tick.withBoot) (.next h.tick.withBoot.islandFails)) (.next h.tick)

theorem restUnits (h : s.Keeps t) : s.Keeps t.restUnits := by
  unfold State.restUnits
  extract_lets _ u
  have hu : s.Keeps u := ((h.setRole.ite h).setRole.ite (h.setRole.ite h)).setRole.ite ((h.setRole.ite h).setRole.ite (h.setRole.ite h))
  exact (hu.foldl (fun _ _ hv => hv.setRole.ite hv)).assignPds

theorem applyMode (h : s.Keeps t) {n : Nat} : s.Keeps (t.applyMode n) := h.fset.fset

theorem trainLinks (h : s.Keeps t) : s.Keeps t.trainLinks := h.foldl (fun _ _ hv => hv.fset.ite hv)

theorem netRelease (h : s.Keeps t) {f : Bool} : s.Keeps (t.netRelease f) := h.foldl fun _ _ hv => hv.fset.islandUpdate

theorem drawSeeds (h : s.Keeps t) : s.Keeps t.drawSeeds :=
  h.drbgCall.withFree.withTbl.foldl fun _ _ hv => hv.drbgCall.withFree.bankSeed

theorem makeStatement (h : s.Keeps t) : s.Keeps t.makeStatement := h.withMet

theorem firmwarePhase (h : s.Keeps t) : s.Keeps t.firmwarePhase := by
  unfold State.firmwarePhase
  extract_lets u
  have hu : s.Keeps u := h.drawSeeds
  exact (hu.drbgCall.withFree.withMet.compatLock.fset.restUnits.applyMode.netRelease.ite
    hu.drbgCall.withFree.withMet.compatLock.fset.restUnits.applyMode.trainLinks).makeStatement.toPhase

theorem execBootPhaseFirmware_runs (h : s.Keeps t) {n : Nat} : s.Runs (execBootPhaseFirmware n t) :=
  .ite (.next h.tick.firmwarePhase) (.next h.tick)

theorem readyPhase (h : s.Keeps t) : s.Keeps t.readyPhase :=
  h.toPhase.fset.event.deviceCause.deviceCause.ite h.toPhase.fset.event.deviceCause

theorem execBootReady_runs (h : s.Keeps t) {n : Nat} : s.Runs (execBootReady n t) := .ite (.next h.tick.readyPhase) (.next h.tick)

theorem noteCycle (h : s.Keeps t) {n m : Nat} : s.Keeps (t.noteCycle n m) := by
  unfold State.noteCycle
  extract_lets _ _ _ u _
  have hu : s.Keeps u := h.withRot
  split
  · exact h
  · split
    · exact hu
    · exact hu.withRot.fset.fset.event.ite hu.withRot.fset

theorem requeue (h : s.Keeps t) {n : Nat} : s.Keeps (t.requeue n) := (h.foldl (fun _ _ hv => hv.unsteer.ite hv)).steerWaiting

theorem handOff (h : s.Keeps t) {n m : Nat} {x : Option Nat} : s.Keeps (t.handOff n m x) := by
  unfold State.handOff
  split
  · exact h.movePackets
  · exact h.movePackets
  · exact h.movePd
  · exact h.requeue
  · exact h

theorem visitBegin (h : s.Keeps t) {n m : Nat} : s.Keeps (t.visitBegin n m) := by
  unfold State.visitBegin
  extract_lets u1 r u2 u3 _ u4
  have hu1 : s.Keeps u1 := h.noteCycle
  have hu2 : s.Keeps u2 := by
    unfold u2
    cases r with
    | none => exact hu1
    | some r => exact hu1.bringUp
  have hu3 : s.Keeps u3 := hu2.setRole
  have hu4 : s.Keeps u4 := hu3.withRot
  exact hu4.fset.handOff

theorem execOasisVisitStart_runs (h : s.Keeps t) {n m k : Nat} : s.Runs (execOasisVisitStart n m k t) := by
  unfold execOasisVisitStart
  extract_lets u _
  have hu : s.Keeps u := h.tick
  split
  · split
    · exact .ite (.next hu) (.next hu.visitBegin)
    · exact .next hu
  · exact .next hu

theorem closeUnit (h : s.Keeps t) {n m : Nat} : s.Keeps (t.closeUnit n m) := by
  unfold State.closeUnit
  extract_lets _ _
  split
  · split
    · exact h.setPair.setPair
    · exact h.setPair
  · exact h.withBlk
  · exact h

theorem execOasisDrainDone_runs (h : s.Keeps t) {n m k : Nat} : s.Runs (execOasisDrainDone n m k t) :=
  .ite (.next h.tick.closeUnit.toTest) (.next h.tick)

theorem unitReturns (h : s.Keeps t) {n m : Nat} : s.Keeps (t.unitReturns n m) := by
  unfold State.unitReturns
  extract_lets _ u1 u2 u3 u4
  have hu1 : s.Keeps u1 := h.zeroUnit.settled
  have hu2 : s.Keeps u2 := hu1.setRole
  have hu3 : s.Keeps u3 := hu2.event
  have hu4 : s.Keeps u4 := hu3.assignPds.ite hu3
  exact hu4.steerWaiting.ite hu4

theorem visitEnds (h : s.Keeps t) {n m : Nat} : s.Keeps (t.visitEnds n m) := by
  unfold State.visitEnds
  extract_lets u1 u2 u3
  have hu1 : s.Keeps u1 := h.zeroUnit.settled
  have hu2 : s.Keeps u2 := hu1.setRole
  have hu3 : s.Keeps u3 := hu2.assignPds.ite hu2
  exact (hu3.steerWaiting.ite hu3).ite hu1

theorem execUnitSelftestDone_runs (h : s.Keeps t) {n m k : Nat} {f : Bool} : s.Runs (execUnitSelftestDone n m k f t) :=
  .ite (.ite (.next h.tick.fence) (.ite (.next h.tick.unitReturns) (.next h.tick.visitEnds))) (.next h.tick)

theorem execKnownAnswerCheck_runs (h : s.Keeps t) {n m k : Nat} {f : Bool} : s.Runs (execKnownAnswerCheck n m k f t) :=
  .ite (.next h.tick.fence) (.next h.tick)

theorem noteCheck (h : s.Keeps t) {n m k i : Nat} : s.Keeps (t.noteCheck n m k i) := by
  unfold State.noteCheck
  split
  · exact h.ksRefuse
  · exact h.fset
  · exact h.fset
  · exact h.fset
  · exact h.fset
  · exact h.fset
  · exact h.fset
  · exact h.fset
  · exact h.fset
  · exact h.fset
  · exact h

theorem giveDescriptor (h : s.Keeps t) {n m : Nat} : s.Keeps (t.giveDescriptor n m) := by
  unfold State.giveDescriptor
  extract_lets _ u
  have hu : s.Keeps u := h.fset
  split
  · split
    · exact hu.jobFaults
    · exact hu
  · exact h

theorem fabricCheck (h : s.Keeps t) {n m k : Nat} : s.Keeps (t.fabricCheck n m k) := by
  unfold State.fabricCheck
  extract_lets _
  split
  · exact h.withFab
  · exact h.event
  · exact h

theorem execFaultCheckFired_runs (h : s.Keeps t) {n m k i j : Nat} : s.Runs (execFaultCheckFired n m k i j t) := by
  unfold execFaultCheckFired
  extract_lets u
  have hu : s.Keeps u := h.tick
  exact .ite (.ite (.next hu.fabricCheck) (.next hu)) (.ite (.ite (.next hu.giveDescriptor) (.ite (.next hu.bumpSat) (.next
    hu.noteCheck.fence))) (.next hu))

theorem execLockstepMismatch_runs (h : s.Keeps t) {n m : Nat} : s.Runs (execLockstepMismatch n m t) :=
  .ite (.next h.tick.fence) (.next h.tick)

theorem execMemoryScrubPass_runs (h : s.Keeps t) {n m : Nat} : s.Runs (execMemoryScrubPass n m t) := .next h.tick

theorem judgeRecord (h : s.Keeps t) {x : Master} {n : Nat} : s.Keeps (t.judgeRecord x n) := h.islandFault.ite h

theorem execAccessViolation_runs (h : s.Keeps t) {n : Nat} {x : Master} {y : AccKind} {z : AddrSpace} {m k : Nat} :
    s.Runs (execAccessViolation n x y z m k t) := by
  unfold execAccessViolation
  extract_lets u
  have hu : s.Keeps u := h.tick
  split
  · exact .ite (.next hu.report.judgeRecord) (.next hu.report.judgeRecord.emit)
  · exact .next hu

end

/-! ## Firmware in service (R133 to R136, R420 to R424) -/

section
variable {s t : State}

theorem writeImage (h : s.Keeps t) {n : Nat} {b : Bytes} : s.Keeps (t.writeImage n b) := h.withFlash

theorem noteStage (h : s.Keeps t) {n : Nat} {f : Bool} {b : Bytes} : s.Keeps (t.noteStage n f b) := (h.setSucc.ite h.fset).ite h.fset

theorem opFwStage_ends (h : s.Keeps t) {n : Nat} {p : Packet} : s.Ends (s.Keeps ·.s) (opFwStage t n p) := by
  unfold opFwStage
  extract_lets _ _ u1 _ u2
  have hu1 : s.Keeps u1 := h.writeImage
  have hu2 : s.Keeps u2 := hu1.noteStage
  exact .bind h.handles fun _ _ => .req <| .req <| .reqIn hu2 <| .okDid hu2

theorem execFwStage_runs (h : s.Keeps t) {n m : Nat} {x : PktData} : s.Runs (execFwStage n m x t) :=
  .next (h.tick.runOp (fun _ _ _ hv => hv.opFwStage_ends))

theorem setJournal (h : s.Keeps t) {x : Journal} : s.Keeps (t.setJournal x) := h.withBb

theorem setAct (h : s.Keeps t) {x : Option Act} : s.Keeps (t.setAct x) := h.withFw

theorem beginSwitch (h : s.Keeps t) {x : Act} : s.Keeps (t.beginSwitch x) := (h.foldl (fun _ _ hv => hv.freeSlice)).setJournal.setAct

theorem sealingEnds (h : s.Keeps t) : s.Keeps t.sealingEnds := by
  unfold State.sealingEnds
  split
  · exact h.beginSwitch.ite h
  · exact h

theorem reserveClose (h : s.Keeps t) {n : Nat} : Gives (s.Keeps ·.2) (t.reserveClose n) :=
  .ite (.someSnd h) (.ite (.someSnd h) (.map h.meterReserve fun _ hx => hx))

theorem askActivate (h : s.Keeps t) {n : Nat} {p : Packet} : s.Ends (s.Keeps ·.1) (t.askActivate n p) := by
  unfold State.askActivate
  extract_lets _ _ _
  exact .bind h.handles fun _ _ => .req <| .req <| .req <| .req <| .bind (.getOr h.deviceQuorum) fun _ hx1 =>
    .bind (.getIn hx1 hx1.reserveClose) fun _ hx2 => .reqIn hx1 <| .reqIn hx1 <| .okFst hx2

theorem forwardSeal (h : s.Keeps t) {p : Packet} {x : Act} : s.Keeps (t.forwardSeal p x) := by
  unfold State.forwardSeal
  exact h.openStops.setJournal.writeOut.setAct.sealingEnds

theorem activate (h : s.Keeps t) {n : Nat} {p : Packet} : s.Keeps (t.activate n p) := by
  unfold State.activate
  split
  next e1 => exact h.conclude (h.askActivate.error e1)
  next e2 => exact (h.askActivate.1 _ e2).countPid.setPacket.forwardSeal.ite (h.askActivate.1 _ e2).countPid.setPacket.setAct

theorem execFwActivate_runs (h : s.Keeps t) {n m : Nat} {x : PktData} : s.Runs (execFwActivate n m x t) :=
  .ite (.next h.tick) (.next (h.tick.runPacket (fun _ _ _ hv => hv.activate)))

theorem opResealApprove_ends (h : s.Keeps t) {n : Nat} {p : Packet} : s.Ends (s.Keeps ·.s) (opResealApprove t n p) := by
  unfold opResealApprove
  extract_lets _ _
  exact .bind h.handles fun _ _ => .req <| .bind h.vaultNow fun _ _ => .req <| .bind (.getOr h.vaultQuorum) fun _ hx1 => .reqIn hx1 <|
    .ite (.okDid hx1) (.ite (.bind (.okFst hx1) fun _ hx2 => .reqIn hx1 <| .reqIn hx1 <| .reqIn hx1 <|
    .okDid hx2.setJournal.sealingEnds) (.bind (.getIn hx1 hx1.reissue) fun _ hx3 => .reqIn hx1 <| .reqIn hx1 <| .reqIn hx1 <|
    .okDid hx3.setJournal.sealingEnds))

theorem execResealApprove_runs (h : s.Keeps t) {n m : Nat} {x : PktData} : s.Runs (execResealApprove n m x t) :=
  .next (h.tick.runOp (fun _ _ _ hv => hv.opResealApprove_ends))

theorem execResealDeadline_runs (h : s.Keeps t) {n : Nat} : s.Runs (execResealDeadline n t) := by
  unfold execResealDeadline
  extract_lets u
  have hu : s.Keeps u := h.tick
  split
  · exact .ite (.next hu.beginSwitch) (.next hu)
  · exact .next hu

theorem withdrawPair (h : s.Keeps t) {n : Nat} {x : Option Nat} : s.Keeps (t.withdrawPair n x) := h.setRole.movePackets.withRot

theorem closeAll (h : s.Keeps t) : s.Keeps t.closeAll := by
  unfold State.closeAll
  refine List.foldlRecOn _ _ (motive := fun r : Nat × State => s.Keeps r.2) h fun r hr e _ => ?_
  have closed (n : Nat) : s.Keeps (r.2.closeInterval e.1 n e.2).2 := hr.closeInterval
  exact ((closed 0x04).fset.ite (closed 0x04)).meterPlace

theorem swapSlot (h : s.Keeps t) {n : Nat} : s.Keeps (t.swapSlot n) := h.withFlash

theorem replaceMrs (h : s.Keeps t) : s.Keeps t.replaceMrs := h.withBoot.extendMr

theorem activationPoint (h : s.Keeps t) {x : Act} : s.Keeps (t.activationPoint x) :=
  h.closeAll.replaceMrs.certify.makeStatement.swapSlot.setJournal.fset.setAct.event.complete

theorem stewardPoint (h : s.Keeps t) {x : Act} : s.Keeps (t.stewardPoint x) := h.withBoot.measureSteward.swapSlot.fset.setAct.event.complete

theorem abandonAct (h : s.Keeps t) {x : Act} : s.Keeps (t.abandonAct x) := by
  unfold State.abandonAct
  extract_lets _ u1 u2 u3
  have hu1 : s.Keeps u1 := h.setJournal.fset.fset
  have hu2 : s.Keeps u2 := hu1.setAct
  have hu3 : s.Keeps u3 := by
    unfold u3
    split
    · exact hu2.writeOut
    · exact hu2
  exact hu3.fail

theorem pairLoaded (h : s.Keeps t) {x : Act} {n : Nat} : s.Keeps (t.pairLoaded x n) := by
  unfold State.pairLoaded
  extract_lets _ u1 u2
  have hu1 : s.Keeps u1 := h.setAct
  have hu2 : s.Keeps u2 := h.closeUnit.settled
  split
  · exact hu1.stewardPoint.ite hu1
  · split
    · exact hu2.setRole.withdrawPair.setAct
    · exact hu2.setAct.activationPoint

theorem pairReverted (h : s.Keeps t) {x : Act} {n : Nat} : s.Keeps (t.pairReverted x n) := h.abandonAct.ite h.setAct

theorem execPairSwitchDone_runs (h : s.Keeps t) {n m : Nat} : s.Runs (execPairSwitchDone n m t) := by
  unfold execPairSwitchDone
  extract_lets u
  have hu : s.Keeps u := h.tick
  split
  · exact .ite (.next hu) (.ite (.next hu.pairLoaded) (.ite (.next hu.pairReverted) (.next hu)))
  · exact .next hu

theorem beginAbandon (h : s.Keeps t) {x : Act} : s.Keeps (t.beginAbandon x) := by
  unfold State.beginAbandon
  extract_lets u
  have hu : s.Keeps u := by
    unfold u
    split
    · exact h.settled
    · exact h
  exact hu.abandonAct.ite hu.setAct

theorem execActivationPairFailure_runs (h : s.Keeps t) {n m : Nat} : s.Runs (execActivationPairFailure n m t) := by
  unfold execActivationPairFailure
  extract_lets u1 u2
  have hu1 : s.Keeps u1 := h.tick
  have hu2 : s.Keeps u2 := hu1.fence
  split
  · extract_lets _
    split
    · split
      · exact .next hu2.beginAbandon
      · split
        · exact .ite (.next hu2.setAct) (.next hu2.withdrawPair.setAct)
        · exact .next (hu2.stewardPoint.ite hu2.setAct.activationPoint)
    · exact .next hu1
  · exact .next hu1

theorem succAbandon (h : s.Keeps t) : s.Keeps t.succAbandon := by
  unfold State.succAbandon
  split
  · exact h.beginAbandon.ite h.setJournal.fset
  · exact h.setJournal.fset

theorem execKsSuccAbandon_runs (h : s.Keeps t) {n : Nat} : s.Runs (execKsSuccAbandon n t) := .next h.tick.succAbandon

end

/-! ## Modes, configuration and the life-cycle command (R343 to R345, R374 to R378) -/

section
variable {s t : State}

theorem linksDown (h : s.Keeps t) : s.Keeps t.linksDown := h.foldl fun _ _ hv => hv.portLost

theorem dropDeferred (h : s.Keeps t) {n : Nat} : s.Keeps (t.dropDeferred n) := h.withCmd

theorem defer (h : s.Keeps t) {n : Nat} {p : Packet} {x : Deferred} : s.Keeps (t.defer n p x) := h.countPid.setPacket.withCmd

theorem askMode (h : s.Keeps t) {n : Nat} {p : Packet} : s.Ends (fun _ => True) (t.askMode n p) :=
  .bind h.handles fun _ _ => .req <| .req <| .ok trivial

theorem modeEnd (h : s.Keeps t) {n m : Nat} : s.Keeps (t.modeEnd n m) := by
  unfold State.modeEnd
  extract_lets _ u1 u2 u3
  have hu1 : s.Keeps u1 := h.dropDeferred.applyMode
  have hu2 : s.Keeps u2 := hu1.linksDown.netRelease.ite hu1.trainLinks
  have hu3 : s.Keeps u3 := hu2.extendMr.fset
  exact hu3.event.deviceCause.finish

theorem modeNow (h : s.Keeps t) {n m : Nat} : s.Keeps (t.modeNow n m) := h.ite ((h.modeEnd.ite h).ite (h.modeEnd.ite h))

theorem modeSwitch (h : s.Keeps t) {n : Nat} {p : Packet} : s.Keeps (t.modeSwitch n p) := by
  unfold State.modeSwitch
  extract_lets _
  split
  next e => exact h.conclude (h.askMode.error e)
  · exact (h.conclude (.okDid h)).ite (h.defer.fset.netRelease.ite h.defer.fset).modeNow

theorem execModeSwitch_runs (h : s.Keeps t) {n m : Nat} {x : PktData} : s.Runs (execModeSwitch n m x t) :=
  .next (h.tick.runPacket (fun _ _ _ hv => hv.modeSwitch))

theorem askConfig (h : s.Keeps t) {n : Nat} {p : Packet} : s.Ends (s.Keeps ·.1) (t.askConfig n p) := by
  unfold State.askConfig
  refine .bind h.handles fun _ _ => ?_
  refine .req ?_
  refine .got fun _ => ?_
  refine .req ?_
  refine .bind (.getOr h.deviceQuorum) fun _ hx => ?_
  exact .reqIn hx <| .reqIn hx <| .okFst hx

theorem storeConfig (h : s.Keeps t) {b : Bytes} : s.Keeps (t.storeConfig b) := h.withFlash

theorem replacePolicies (h : s.Keeps t) {x : BaseCfg} : s.Keeps (t.replacePolicies x) := by
  unfold State.replacePolicies
  extract_lets _ _ u
  have hu : s.Keeps u := h.withTbl
  refine hu.foldl fun v3 a4 hv => ?_
  extract_lets _
  split
  · exact hv.placePolicy
  · exact hv

theorem reseedBanks (h : s.Keeps t) {b : Bytes} : s.Keeps (t.reseedBanks b) := h.foldl fun _ _ hv => hv.bankClear.bankSeed

theorem switchConfig (h : s.Keeps t) {x : BaseCfg} {b : Bytes} : s.Keeps (t.switchConfig x b) :=
  (h.linksDown.ite h).replacePolicies.reseedBanks.withPairs.fset.ovlRegs.fset.applyMode.trainLinks

theorem configEnd (h : s.Keeps t) {n : Nat} {b c : Bytes} {m : Nat} : s.Keeps (t.configEnd n b c m) :=
  h.dropDeferred.switchConfig.withCfg.extendMr.cfgRegs.fset.event.fset.finish.deviceCause

theorem configNow (h : s.Keeps t) {n : Nat} {b c : Bytes} {m : Nat} : s.Keeps (t.configNow n b c m) := h.ite h.configEnd

theorem configLoad (h : s.Keeps t) {n : Nat} {p : Packet} : s.Keeps (t.configLoad n p) := by
  unfold State.configLoad
  extract_lets _
  split
  next e1 => exact h.conclude (h.askConfig.error e1)
  next e2 => exact (h.askConfig.1 _ e2).defer.storeConfig.fset.configNow

theorem execConfigLoad_runs (h : s.Keeps t) {n m : Nat} {x : PktData} : s.Runs (execConfigLoad n m x t) :=
  .ite (.next h.tick) (.next (h.tick.runPacket (fun _ _ _ hv => hv.configLoad)))

theorem maskWrite (h : s.Keeps t) {n : Nat} : s.Keeps (t.maskWrite n) := h.fset.sendMsix.ite h.fset

theorem execDevIrqMaskWrite_runs (h : s.Keeps t) {n m : Nat} : s.Runs (execDevIrqMaskWrite n m t) := .next h.tick.maskWrite

theorem consents (h : s.Keeps t) {b : Bytes} {x : List (Bytes × List (Bytes × Bytes))} {n : Nat} :
    Gives (s.Keeps ·.1) (t.consents b x n) := by
  unfold State.consents
  split
  · exact .someFst h
  · split
    · exact .none
    · split
      · exact .someFst h
      · split
        · exact .none
        · exact .map h.vaultQuorum fun _ hx => hx

theorem allConsent (h : s.Keeps t) {b : Bytes} {x : List (Bytes × List (Bytes × Bytes))} : Gives (s.Keeps ·.1) (t.allConsent b x) := by
  unfold State.allConsent
  exact .foldl (.someFst h) fun _ _ hv => .bind hv fun _ hx => .map hx.consents fun _ hy => hy.inFst

theorem askLc (h : s.Keeps t) {n : Nat} {p : Packet} {x : List (Bytes × List (Bytes × Bytes))} : s.Ends (s.Keeps ·.1) (t.askLc n p x) := by
  unfold State.askLc
  extract_lets _ _
  exact .bind h.handles fun _ _ => .req <| .got fun _ => .req <| .bind (.getOr h.deviceQuorum) fun _ hx1 =>
    .ite (.bind (.getIn hx1 hx1.allConsent) fun _ hx2 => .okFst hx2) (.bind (.okFst hx1) fun _ hx3 => .okFst hx3)

theorem stopOthers (h : s.Keeps t) {n : Nat} : s.Keeps (t.stopOthers n) := h.foldl (fun _ _ hv => hv.ite hv.stopQp)

theorem lcEnd (h : s.Keeps t) {n : Nat} {p : Packet} {x : LcRun} {m : Nat} : s.Keeps (t.lcEnd n p x m) := by
  unfold State.lcEnd
  extract_lets _ u1 u2 u3 _ _
  have hu1 : s.Keeps u1 := h.withCmd
  have hu2 : s.Keeps u2 := by
    unfold u2
    split
    · exact hu1.withOtp (.intend ..)
    · exact hu1
  have hu3 : s.Keeps u3 := hu2.dropDeferred.finish
  exact hu3.withBootGnt

theorem lcNow (h : s.Keeps t) {n : Nat} {x : LcRun} {m k : Nat} : s.Keeps (t.lcNow n x m k) := by
  unfold State.lcNow
  split
  · exact h
  · exact h.lcEnd.ite h

theorem lcTransition (h : s.Keeps t) {n : Nat} {p : Packet} {x : List (Bytes × List (Bytes × Bytes))} : s.Keeps (t.lcTransition n p x) := by
  unfold State.lcTransition
  split
  next e1 => exact h.conclude (h.askLc.error e1)
  next e2 => exact (h.askLc.1 _ e2).defer.stopOthers.lcNow

theorem execLcTransition_runs (h : s.Keeps t) {n m : Nat} {x : PktData} {y : List (Bytes × List (Bytes × Bytes))} :
    s.Runs (execLcTransition n m x y t) := .ite (.next h.tick) (.next (h.tick.runPacket (fun _ _ _ hv => hv.lcTransition)))

end

/-! ## The custody card (R470 to R484) -/

section
variable {s t : State}

theorem cardResolve (h : s.Keeps t) {x : Card} : s.Keeps (t.cardResolve x) := h.fset.fset.fset.fset

theorem cardGivenUp (h : s.Keeps t) : s.Keeps t.cardGivenUp := h.withCrd.fset

theorem cardVoltage (h : s.Keeps t) {x : Card} {n : Nat} : s.Keeps (t.cardVoltage x n) := h.emit.ite (h.emit.emit.emit.ite h.emit)

theorem cardReady (h : s.Keeps t) {x : Card} : s.Keeps (t.cardReady x) := by
  unfold State.cardReady
  split
  · exact h.cardGivenUp
  · exact (h.cardVoltage.fset.fset.fset.fset.fset.foldl (fun _ _ hv => hv.fset)).cardResolve.cardGivenUp.fset

theorem execCardInserted_runs (h : s.Keeps t) {n : Nat} {x : Card} : s.Runs (execCardInserted n x t) :=
  .ite (.next h.tick.emit.emit.emit.fset.fset.withCrd) (.next h.tick)

theorem execCardOperatingConditionPoll_runs (h : s.Keeps t) {n : Nat} {f : Bool} : s.Runs (execCardOperatingConditionPoll n f t) := by
  unfold execCardOperatingConditionPoll
  extract_lets u
  have hu : s.Keeps u := h.tick
  split
  · exact .ite (.next hu) (.ite (.next hu.cardReady) (.ite (.next hu.cardGivenUp.bumpSat) (.next hu)))
  · exact .next hu

theorem setRun (h : s.Keeps t) {x : Option CardRun} : s.Keeps (t.setRun x) := h.withCrd.fset

theorem cardStops (h : s.Keeps t) {x : CardRun} {y : Status} : s.Keeps (t.cardStops x y) := h.cutRun.setRun.fail

theorem cardShows (h : s.Keeps t) {x : CardRun} {n : Nat} {y : Card} : s.Keeps (t.cardShows x n y) := by
  unfold State.cardShows
  split
  · exact h.fset.fset
  · exact h.fset.fset.fset
  · exact h

theorem cardEnds (h : s.Keeps t) {x : CardRun} {y : Card} {n : Nat} : s.Keeps (t.cardEnds x y n) := h.cardShows.emit.withCrd.setRun.finish

theorem cardOn (h : s.Keeps t) {x : CardRun} {y : Option CardPhase} : s.Keeps (t.cardOn x y) := by
  unfold State.cardOn
  split
  · split
    · split
      · exact h.setRun.fail
      · split
        · exact h.cardStops
        · split
          · exact h.setRun.ite h.cardEnds
          · exact h.cardEnds
    · split
      · exact h.setRun.ite h.cardEnds
      · exact h.cardEnds
  · exact h.setRun.fail
  · exact h.setRun

theorem cardCommand (h : s.Keeps t) {x : CardJob} {y : Option CardPhase} {n : Nat} {p : Packet} : s.Keeps (cardCommand x y t n p) := by
  unfold State.cardCommand
  extract_lets u1 _ u2
  have hu1 : s.Keeps u1 := h.countPid.setPacket
  have hu2 : s.Keeps u2 := hu1.setRun
  split
  next e => exact h.conclude (h.handles.error e)
  · exact (h.conclude .stop).ite ((h.conclude .stop).ite (hu2.setRun.fail.ite (hu2.ite hu2.cardOn)))

theorem execVaultBackupInit_runs (h : s.Keeps t) {n m : Nat} {x : PktData} {y : Option CardPhase} :
    s.Runs (execVaultBackupInit n m x y t) := by
  unfold execVaultBackupInit
  extract_lets u
  have hu : s.Keeps u := h.tick
  split
  · exact .ite (.next (hu.runPacket (fun _ _ _ hv => hv.cardCommand))) (.next hu)
  · exact .next hu

theorem execVaultBackup_runs (h : s.Keeps t) {n m : Nat} {x : PktData} {y : Option CardPhase} : s.Runs (execVaultBackup n m x y t) := by
  unfold execVaultBackup
  extract_lets u
  have hu : s.Keeps u := h.tick
  split
  · exact .ite (.next hu) (.next (hu.runPacket (fun _ _ _ hv => hv.cardCommand)))
  · exact .next hu

theorem execVaultRestore_runs (h : s.Keeps t) {n m : Nat} {x : PktData} {y : Option CardPhase} : s.Runs (execVaultRestore n m x y t) :=
  .next (h.tick.runPacket (fun _ _ _ hv => hv.cardCommand))

theorem execEvidenceExport_runs (h : s.Keeps t) {n m : Nat} {x : PktData} {y : Option CardPhase} :
    s.Runs (execEvidenceExport n m x y t) := .next (h.tick.runPacket (fun _ _ _ hv => hv.cardCommand))

theorem settleCard (h : s.Keeps t) : s.Keeps t.settleCard := by
  unfold State.settleCard
  split
  · exact h
  · split
    · exact h.cardStops
    · exact h.ite h.cardOn

theorem cardGone (h : s.Keeps t) : s.Keeps t.cardGone := (h.setReg.setReg.fset.fset.foldl (fun _ _ hv => hv.setReg)).withCrd.emit

theorem execCardRemoved_runs (h : s.Keeps t) {n : Nat} : s.Runs (execCardRemoved n t) := by
  unfold execCardRemoved
  extract_lets u
  have hu : s.Keeps u := h.tick
  split
  · exact .next hu
  · split
    · exact .next hu.cardStops.bumpSat.cardGone
    · exact .next hu.cardGone

theorem cardError (h : s.Keeps t) {x : Option CardPhase} : s.Keeps (t.cardError x) := by
  unfold State.cardError
  extract_lets _
  split
  · exact h.ite (h.cardStops.ite (h.setRun.ite h.cardOn))
  · exact (h.cardGivenUp.ite h.withCrd).ite h

theorem execCardResponseTimeout_runs (h : s.Keeps t) {n : Nat} {x : CardErr} {y : Option CardPhase} :
    s.Runs (execCardResponseTimeout n x y t) := .ite (.next h.tick.bumpSat.cardError) (.next h.tick)

theorem execCardBusyTimeout_runs (h : s.Keeps t) {n : Nat} : s.Runs (execCardBusyTimeout n t) := by
  unfold execCardBusyTimeout
  extract_lets u
  have hu : s.Keeps u := h.tick
  split
  · exact .ite (.next hu.bumpSat.cardStops) (.next hu)
  · exact .next hu

end

/-! ## Memory errors (R417 to R419) -/

section
variable {s t : State}

theorem eccEvent (h : s.Keeps t) {n m : Nat} : s.Keeps (t.eccEvent n m) := h.event

theorem packetFaults (h : s.Keeps t) {n : Nat} : s.Keeps (t.packetFaults n) := by
  unfold State.packetFaults
  extract_lets _
  split
  · exact h.jobFaults
  · exact h.faultSym.steerWaiting.ite h.withTbl.fail

theorem mirrorLost (h : s.Keeps t) {n : Nat} {f : Bool} : s.Keeps (t.mirrorLost n f) := h.fset.ite h.fset.event

theorem lineError (h : s.Keeps t) {n m : Nat} {x : KeyRec} : s.Keeps (t.lineError n m x) := by
  unfold State.lineError
  extract_lets _
  split
  · exact h.freeRecord
  · exact h.withKs.mirrorLost

theorem keyLineError (h : s.Keeps t) {n : Nat} : s.Keeps (t.keyLineError n) := by
  unfold State.keyLineError
  split
  · exact h.lineError
  · split
    · exact h.ite h.slotBad
    · exact h

theorem saFramesFault (h : s.Keeps t) {n : Nat} : s.Keeps (t.saFramesFault n) := h.foldl fun _ _ hv => hv.loseFrame

theorem contextError (h : s.Keeps t) {n : Nat} : s.Keeps (t.contextError n) := by
  unfold State.contextError
  split
  · exact h
  · split
    · exact h.setSa.mirrorLost
    · exact h.saFramesFault.saFreedByDevice

theorem policyError (h : s.Keeps t) {n : Nat} : s.Keeps (t.policyError n) := by
  unfold State.policyError
  extract_lets u _
  have hu : s.Keeps u := h.policyRemove
  split
  · exact h
  · extract_lets _
    split
    · exact hu.withTbl
    · exact hu

theorem bankError (h : s.Keeps t) {n m : Nat} {f : Bool} : s.Keeps (t.bankError n m f) := h.dropEntry.bumpSat

theorem slotError (h : s.Keeps t) {n m k : Nat} : s.Keeps (t.slotError n m k) := by
  unfold State.slotError
  extract_lets u
  have hu : s.Keeps u := by
    unfold u
    split
    · split
      · exact h.setSpace
      · exact h
    · exact h
  exact hu.packetFaults

theorem meterForce (h : s.Keeps t) : s.Keeps t.meterForce := h.fset

theorem meterError (h : s.Keeps t) {n m : Nat} : s.Keeps (t.meterError n m) := by
  unfold State.meterError
  split
  · exact h
  · exact h.withMet.meterForce.meterPlace

theorem heldError (h : s.Keeps t) {n m : Nat} : s.Keeps (t.heldError n m) := h.withMet

theorem handshakeLost (h : s.Keeps t) {n m : Nat} : s.Keeps (t.handshakeLost n m) := h.withFab.event

theorem memError (h : s.Keeps t) {x : MemErr} : s.Keeps (t.memError x) := by
  unfold State.memError
  extract_lets _ _
  split
  · exact h.keyLineError
  · exact (h.deriveKeys.ite h).packetFaults
  · exact h.packetFaults
  · exact h.contextError
  · exact h.loseFrame
  · exact h
  · exact h.loseFrame
  · exact h.policyError
  · exact h.bankError
  · exact h.loseFrame
  · exact h.packetFaults
  · exact h.slotError
  · exact h.meterError
  · exact h.heldError
  · exact h.fset.fence.ite h
  · exact h.fence.ite h
  · exact h.handshakeLost.packetFaults
  · exact h.handshakeLost.loseFrame
  · exact h.handshakeLost.emit
  · exact h.handshakeLost
  · exact h.packetFaults
  · exact h.withFreeBb.fset
  · exact h.withBb
  · exact h.withRcd
  · exact h.withRcd
  · exact h

theorem execUncorrectableError_runs (h : s.Keeps t) {n : Nat} {x : MemErr} : s.Runs (execUncorrectableError n x t) :=
  .ite (.next h.tick.eccEvent.memError) (.next h.tick)

theorem rebuildRecord (h : s.Keeps t) {n : Nat} {x : KeyRec} : Gives s.Keeps (t.rebuildRecord n x) := .map .any fun _ _ => h.withFreeKs

theorem rebuildSa (h : s.Keeps t) {n : Nat} {x : SaCtx} : Gives s.Keeps (t.rebuildSa n x) := .map .any fun _ _ => h.withFree.setSa

theorem rebuilt (h : s.Keeps t) {n : Nat} : s.Keeps (t.rebuilt n) := h.fset.ite h

theorem execMirrorRebuildDone_runs (h : s.Keeps t) {n : Nat} {f : Bool} {m : Nat} : s.Runs (execMirrorRebuildDone n f m t) := by
  unfold execMirrorRebuildDone
  extract_lets u
  have hu : s.Keeps u := h.tick
  split
  · split
    · exact .ite (.next ((hu.rebuildRecord).getD hu).rebuilt) (.next hu)
    · exact .next hu
  · split
    · exact .ite (.next ((hu.rebuildSa).getD hu).rebuilt) (.next hu)
    · exact .next hu

end

/-! ## Commands of the recorder and the dumps (R429 to R439) -/

section
variable {s t : State}

theorem softEvent (h : s.Keeps t) {n : Nat} : s.Keeps (t.softEvent n) := h.ite h.event

theorem execSoftwareEvent_runs (h : s.Keeps t) {n m : Nat} : s.Runs (execSoftwareEvent n m t) := .next h.tick.softEvent

theorem execRecorderFlush_runs (h : s.Keeps t) {n : Nat} {f : Bool} : s.Runs (execRecorderFlush n f t) :=
  .ite (.next h.tick.fset.fset) (.ite (.next h.tick.flush) (.next h.tick.fset.fset.bumpSat))

theorem regionReset (h : s.Keeps t) : s.Keeps t.regionReset := h.fset.fset.withRcd

theorem execRecorderRegionReset_runs (h : s.Keeps t) {n : Nat} : s.Runs (execRecorderRegionReset n t) := .next h.tick.regionReset

theorem dump (h : s.Keeps t) : s.Keeps t.dump := h.withMet.bumpSat.ite (h.withMet.hostWrite.fset.sendMsix.ite h.withMet.hostWrite.fset)

theorem execDumpTick_runs (h : s.Keeps t) {n : Nat} : s.Runs (execDumpTick n t) := .ite (.next h.tick.dump) (.next h.tick)

theorem enableDump (h : s.Keeps t) : s.Keeps t.enableDump := h.ite (h.fset.fset.withMet.ite h.fset)

theorem execDumpEnable_runs (h : s.Keeps t) {n : Nat} : s.Runs (execDumpEnable n t) := .next h.tick.enableDump

end

/-! ## Management messages (R453 to R469) -/

section
variable {s t : State}

theorem reply (h : s.Keeps t) {n : Nat} {b : Bytes} : s.Keeps (t.reply n b) := h.emit

theorem respondSpdm (h : s.Keeps t) {n : Nat} {b : Bytes} : s.Keeps (t.respondSpdm n b) := h.reply.ite h.withFreeLnk.reply

theorem respondSecured (h : s.Keeps t) {n : Nat} {x : Session} {b : Bytes} : s.Keeps (t.respondSecured n x b) := h.reply

theorem setSessions (h : s.Keeps t) {x : List Session} : s.Keeps (t.setSessions x) := h.withLnk

theorem putSession (h : s.Keeps t) {x : Session} : s.Keeps (t.putSession x) := h.setSessions

theorem dropSession (h : s.Keeps t) {x : Session} : s.Keeps (t.dropSession x) := h.setSessions

theorem setConn (h : s.Keeps t) {n : Nat} : s.Keeps (t.setConn n) := h.withLnk

theorem spdmVersion (h : s.Keeps t) {n : Nat} : s.Keeps (t.spdmVersion n) := h.setConn.setSessions.respondSpdm

theorem spdmCaps (h : s.Keeps t) {n : Nat} : s.Keeps (t.spdmCaps n) := h.setConn.respondSpdm.ite h.respondSpdm

theorem spdmAlgorithms (h : s.Keeps t) {n : Nat} {f : Bool} : s.Keeps (t.spdmAlgorithms n f) :=
  h.respondSpdm.ite (h.setConn.respondSpdm.ite h.respondSpdm)

theorem spdmDigests (h : s.Keeps t) {n : Nat} : s.Keeps (t.spdmDigests n) := h.respondSpdm

theorem spdmCertificate (h : s.Keeps t) {n m k i : Nat} : s.Keeps (t.spdmCertificate n m k i) := h.respondSpdm.ite h.respondSpdm

theorem spdmChallenge (h : s.Keeps t) {n m : Nat} {b : Bytes} : s.Keeps (t.spdmChallenge n m b) :=
  h.drbgCall.withFree.respondSpdm.ite h.respondSpdm

theorem spdmMeasurements (h : s.Keeps t) {n m : Nat} {f : Bool} {b : Bytes} : s.Keeps (t.spdmMeasurements n m f b) := by
  unfold State.spdmMeasurements
  split
  · exact h.respondSpdm
  · exact h.drbgCall.withFree.respondSpdm

theorem spdmKeyExchange (h : s.Keeps t) {n m : Nat} {b : Bytes} : s.Keeps (t.spdmKeyExchange n m b) :=
  h.respondSpdm.ite (h.respondSpdm.ite h.drbgCall.withFree.setSessions.respondSpdm)

theorem spdmFinish (h : s.Keeps t) {n m : Nat} {b : Bytes} : s.Keeps (t.spdmFinish n m b) := by
  unfold State.spdmFinish
  split
  · exact h.respondSecured.ite (h.putSession.respondSecured.ite h.dropSession.respondSpdm)
  · exact h.respondSpdm

theorem inSession (h : s.Keeps t) {n m : Nat} {x : State → Session → State}
    (hx : ∀ (v : State) (a2 : Session), s.Keeps v → s.Keeps (x v a2)) :
    s.Keeps (t.inSession n m x) := by
  unfold State.inSession
  split
  · exact (hx _ _ h.putSession).ite h.respondSpdm
  · exact h.respondSpdm

theorem spdmEnd (h : s.Keeps t) {n m : Nat} : s.Keeps (t.spdmEnd n m) := h.inSession (fun _ _ hv => hv.dropSession.respondSecured)

theorem spdmHeartbeat (h : s.Keeps t) {n m : Nat} : s.Keeps (t.spdmHeartbeat n m) := h.inSession (fun _ _ hv => hv.respondSecured)

theorem spdmKeyUpdate (h : s.Keeps t) {n m k : Nat} : s.Keeps (t.spdmKeyUpdate n m k) :=
  h.inSession (fun _ _ hv => hv.putSession.respondSecured.ite (hv.respondSecured.ite hv.respondSecured))

theorem spdmChunkSend (h : s.Keeps t) {n m k : Nat} {f : Bool} {b : Bytes} : s.Keeps (t.spdmChunkSend n m k f b) := by
  unfold State.spdmChunkSend
  extract_lets _ _
  split
  · exact h.withLnk.respondSpdm
  · exact h.withLnk.respondSpdm.ite ((h.withLnk.respondSpdm.ite h.withLnk.respondSpdm).ite h.withLnk.respondSpdm)

theorem spdmChunkGet (h : s.Keeps t) {n m k : Nat} : s.Keeps (t.spdmChunkGet n m k) := by
  unfold State.spdmChunkGet
  extract_lets _
  split
  · exact (h.withLnk.ite h).reply.ite h.respondSpdm
  · exact h.respondSpdm

theorem ideKm (h : s.Keeps t) {n m : Nat} {x : State → Session → State} (hx : ∀ (v : State) (a2 : Session), s.Keeps v → s.Keeps (x v a2)) :
    s.Keeps (t.ideKm n m x) := (h.inSession (fun _ _ hv => hx _ _ hv)).ite h.respondSpdm

theorem setIde (h : s.Keeps t) {x : List IdeSet} : s.Keeps (t.setIde x) := h.withLnk.fset.fset

theorem keyProg (h : s.Keeps t) {n m k i j l : Nat} {b : Bytes} : s.Keeps (t.keyProg n m k i j l b) :=
  h.ideKm (fun _ _ hv => hv.setIde.respondSecured.ite hv.respondSecured)

theorem kSetGo (h : s.Keeps t) {n m k i j l : Nat} : s.Keeps (t.kSetGo n m k i j l) := h.ideKm (fun _ _ hv => hv.setIde.respondSecured)

theorem kSetStop (h : s.Keeps t) {n m k i j l : Nat} : s.Keeps (t.kSetStop n m k i j l) :=
  h.ideKm (fun _ _ hv => hv.setIde.respondSecured)

theorem ideQuery (h : s.Keeps t) {n m k : Nat} : s.Keeps (t.ideQuery n m k) := h.ideKm (fun _ _ hv => hv.respondSecured)

theorem afterAlgorithms (h : s.Keeps t) {n : Nat} {x : State → State} (hx : ∀ (v : State), s.Keeps v → s.Keeps (x v)) :
    s.Keeps (t.afterAlgorithms n x) := (hx _ h).ite h.respondSpdm

theorem setEid (h : s.Keeps t) {n m : Nat} : s.Keeps (t.setEid n m) := h.reply.ite h.withLnk.reply

theorem serveMgmt (h : s.Keeps t) {n : Nat} {x : MgmtReq} : s.Keeps (t.serveMgmt n x) := by
  unfold State.serveMgmt
  split
  · exact h.spdmVersion
  · exact h.spdmCaps
  · exact h.spdmAlgorithms
  · exact h.afterAlgorithms (fun _ hv1 => hv1.spdmDigests)
  · exact h.afterAlgorithms (fun _ hv2 => hv2.spdmCertificate)
  · exact h.afterAlgorithms (fun _ hv3 => hv3.spdmChallenge)
  · exact h.afterAlgorithms (fun _ hv4 => hv4.spdmMeasurements)
  · exact h.afterAlgorithms (fun _ hv5 => hv5.spdmKeyExchange)
  · exact h.spdmFinish
  · exact h.spdmEnd
  · exact h.spdmHeartbeat
  · exact h.spdmKeyUpdate
  · exact h.spdmChunkSend
  · exact h.spdmChunkGet
  · exact h.keyProg
  · exact h.kSetGo
  · exact h.kSetStop
  · exact h.ideQuery
  · exact h.respondSpdm
  · exact h.setEid
  · exact h.reply
  · exact h.reply.ite h.reply
  · exact h.reply
  · exact h.reply.ite h

theorem answerMgmt (h : s.Keeps t) {n : Nat} {x : MgmtReq} : s.Keeps (t.answerMgmt n x) := h.reply.ite h.serveMgmt

theorem mgmt (h : s.Keeps t) {n : Nat} {x : MgmtReq} : s.Keeps (t.mgmt n x) := h.ite ((h.withLnk.ite (h.ite h.emit)).ite h.answerMgmt)

theorem settleMgmt (h : s.Keeps t) : s.Keeps t.settleMgmt := h.withLnk.foldl (fun _ _ hv => hv.ite hv.answerMgmt)

theorem execGetVersion_runs (h : s.Keeps t) {n m : Nat} : s.Runs (execGetVersion n m t) := .next h.tick.mgmt

theorem execGetCapabilities_runs (h : s.Keeps t) {n m : Nat} : s.Runs (execGetCapabilities n m t) := .next h.tick.mgmt

theorem execNegotiateAlgorithms_runs (h : s.Keeps t) {n m : Nat} {f : Bool} : s.Runs (execNegotiateAlgorithms n m f t) := .next h.tick.mgmt

theorem execGetDigests_runs (h : s.Keeps t) {n m : Nat} : s.Runs (execGetDigests n m t) := .next h.tick.mgmt

theorem execGetCertificate_runs (h : s.Keeps t) {n m k i j : Nat} : s.Runs (execGetCertificate n m k i j t) := .next h.tick.mgmt

theorem execChallenge_runs (h : s.Keeps t) {n m k : Nat} {b : Bytes} : s.Runs (execChallenge n m k b t) := .next h.tick.mgmt

theorem execGetMeasurements_runs (h : s.Keeps t) {n m k : Nat} {f : Bool} {b : Bytes} : s.Runs (execGetMeasurements n m k f b t) :=
  .next h.tick.mgmt

theorem execKeyExchange_runs (h : s.Keeps t) {n m k : Nat} {b : Bytes} : s.Runs (execKeyExchange n m k b t) := .next h.tick.mgmt

theorem execFinish_runs (h : s.Keeps t) {n m k : Nat} {b : Bytes} : s.Runs (execFinish n m k b t) := .next h.tick.mgmt

theorem execEndSession_runs (h : s.Keeps t) {n m k : Nat} : s.Runs (execEndSession n m k t) := .next h.tick.mgmt

theorem execHeartbeat_runs (h : s.Keeps t) {n m k : Nat} : s.Runs (execHeartbeat n m k t) := .next h.tick.mgmt

theorem execKeyUpdate_runs (h : s.Keeps t) {n m k i : Nat} : s.Runs (execKeyUpdate n m k i t) := .next h.tick.mgmt

theorem execChunkSend_runs (h : s.Keeps t) {n m k i : Nat} {f : Bool} {b : Bytes} : s.Runs (execChunkSend n m k i f b t) :=
  .next h.tick.mgmt

theorem execChunkGet_runs (h : s.Keeps t) {n m k i : Nat} : s.Runs (execChunkGet n m k i t) := .next h.tick.mgmt

theorem execKeyProg_runs (h : s.Keeps t) {n m k i j l n' : Nat} {b : Bytes} : s.Runs (execKeyProg n m k i j l n' b t) := .next h.tick.mgmt

theorem execKSetGo_runs (h : s.Keeps t) {n m k i j l n' : Nat} : s.Runs (execKSetGo n m k i j l n' t) := .next h.tick.mgmt

theorem execKSetStop_runs (h : s.Keeps t) {n m k i j l n' : Nat} : s.Runs (execKSetStop n m k i j l n' t) := .next h.tick.mgmt

theorem execQuery_runs (h : s.Keeps t) {n m k i : Nat} : s.Runs (execQuery n m k i t) := .next h.tick.mgmt

theorem execSpdmUnsupportedRequest_runs (h : s.Keeps t) {n m k : Nat} : s.Runs (execSpdmUnsupportedRequest n m k t) := .next h.tick.mgmt

theorem execSetEndpointId_runs (h : s.Keeps t) {n : Nat} {f : Bool} {m : Nat} : s.Runs (execSetEndpointId n f m t) := .next h.tick.mgmt

theorem execGetEndpointId_runs (h : s.Keeps t) {n : Nat} {f : Bool} : s.Runs (execGetEndpointId n f t) := .next h.tick.mgmt

theorem execGetMctpVersionSupport_runs (h : s.Keeps t) {n : Nat} {f : Bool} {m : Nat} : s.Runs (execGetMctpVersionSupport n f m t) :=
  .next h.tick.mgmt

theorem execGetMessageTypeSupport_runs (h : s.Keeps t) {n : Nat} {f : Bool} : s.Runs (execGetMessageTypeSupport n f t) := .next h.tick.mgmt

theorem execMctpUnsupportedMessage_runs (h : s.Keeps t) {n : Nat} {f : Bool} {m k : Nat} :
    s.Runs (execMctpUnsupportedMessage n f m k t) := .next h.tick.mgmt

theorem execEntdaa_runs (h : s.Keeps t) {n m : Nat} : s.Runs (execEntdaa n m t) := .ite (.next h.tick.withLnk.reply) (.next h.tick)

end

/-! ## Ends of work in progress (R173 to R188) -/

section
variable {s t : State}

theorem settleOne (h : s.Keeps t) {x : Deferred} : s.Keeps (t.settleOne x) := by
  unfold State.settleOne
  split
  · exact h
  · split
    · exact h.ite h.dropDeferred.unloadNow
    · exact h.unbindNow
    · exact h.exportNow.ite h.exportFails
    · exact h.lcNow.ite h.dropDeferred
    · exact h.modeNow
    · exact h.configNow

theorem settleSlots (h : s.Keeps t) : s.Keeps t.settleSlots := by
  unfold State.settleSlots
  refine h.foldl fun v2 a3 hv => ?_
  split
  · exact hv.runSlots.ite hv
  · exact hv

theorem settleRounds (h : s.Keeps t) {n : Nat} : s.Keeps (State.settleRounds n t) := by
  induction n generalizing t with
  | zero => exact h
  | succ n ih => exact ih (h.settleSlots.foldl fun _ _ hv => hv.settleOne)

theorem settle (h : s.Keeps t) : s.Keeps t.settle := h.settleRounds.settleMgmt.settleCard.settleMeter.takeStaged

theorem idle (h : s.Keeps t) : s.Keeps t.idle := h.settle.fillPool.steerWaiting.clustersWork

theorem execQpStopComplete_runs (h : s.Keeps t) {n m k : Nat} : s.Runs (execQpStopComplete n m k t) :=
  .ite (.next h.tick.clearQp.settle) (.next h.tick)

theorem verifyEnds (h : s.Keeps t) {n : Nat} {x : Job} {m : Nat} : s.Keeps (t.verifyEnds n x m) := h.endVerify.ite h.endVerify.verifyFailed

theorem coreJobEnds (h : s.Keeps t) {n : Nat} {f : Bool} : s.Keeps (t.coreJobEnds n f) := by
  unfold State.coreJobEnds
  split
  · split
    · split
      · exact h.verifyEnds.ite h
      · exact h
    · exact h
  · split
    · exact h.endMain.ite h
    · exact h

theorem execPkeJobEnd_runs (h : s.Keeps t) {n m : Nat} {f : Bool} : s.Runs (execPkeJobEnd n m f t) := .next h.tick.coreJobEnds.settle

theorem releaseGate (h : s.Keeps t) {n : Nat} : s.Keeps (t.releaseGate n) := by
  unfold State.releaseGate
  split
  · split
    · exact h.ite (h.releaseC.ite (h.noteLate.releaseJob.ite h))
    · exact h
  · exact h

theorem execReleaseGate_runs (h : s.Keeps t) {n m : Nat} : s.Runs (execReleaseGate n m t) := .next h.tick.releaseGate.settle

theorem execLcStopDeadline_runs (h : s.Keeps t) {n : Nat} : s.Runs (execLcStopDeadline n t) := .next h.tick.settle

theorem askWipe (h : s.Keeps t) {n : Nat} : s.Keeps (t.askWipe n) := h.wipeUses.wipeCache.fset.ite h

theorem execKsWipe_runs (h : s.Keeps t) {n m : Nat} : s.Runs (execKsWipe n m t) := .next h.tick.askWipe

theorem execWipeDone_runs (h : s.Keeps t) {n : Nat} : s.Runs (execWipeDone n t) :=
  .ite (.next (h.tick.fset.deriveKeys.ite h.tick.fset)) (.next h.tick)

theorem execLookasideResult_runs (h : s.Keeps t) {n m : Nat} : s.Runs (execLookasideResult n m t) := .next h.tick.lookasideEnds.settle

theorem execSaDrainDone_runs (h : s.Keeps t) {n m : Nat} : s.Runs (execSaDrainDone n m t) := .next h.tick.saDrained.settle

theorem execTxPipelineFinish_runs (h : s.Keeps t) {n m : Nat} {f : Bool} : s.Runs (execTxPipelineFinish n m f t) :=
  .next h.tick.txEnds.settle

theorem execHoldLift_runs (h : s.Keeps t) {n m k : Nat} : s.Runs (execHoldLift n m k t) := .next h.tick.holdLifts.settle

theorem execClass2EraseDone_runs (h : s.Keeps t) {n : Nat} : s.Runs (execClass2EraseDone n t) := .next h.tick.eraseEnds.settle

theorem execPfwNDeasserted_runs (h : s.Keeps t) {n : Nat} : s.Runs (execPfwNDeasserted n t) := .next h.tick.pfwEnds.settle

theorem execIslandPoweredUp_runs (h : s.Keeps t) {n m : Nat} : s.Runs (execIslandPoweredUp n m t) :=
  .next h.tick.poweredUp.trainLinks.settle

end

/-! ## Register writes (R3, R4, R32 to R37) -/

section
variable {s t : State}

theorem writeFields (h : s.Keeps t) {x : RegRef} {y : Written} {f : Bool} {z : Fld → Bool} : s.Keeps (t.writeFields x y f z) := h.setReg

theorem writePlain (h : s.Keeps t) {x : RegRef} {y : Written} : s.Keeps (t.writePlain x y) := h.writeFields

theorem writeQpConfig (h : s.Keeps t) {x : RegRef} {y : Written} : s.Keeps (t.writeQpConfig x y) := h.fset.ite h.writePlain

theorem writeQpCtrl (h : s.Keeps t) {n : Nat} {x : Written} : s.Keeps (t.writeQpCtrl n x) := h.enableQp.ite (h.stopQp.ite h)

theorem writeDlogCtrl (h : s.Keeps t) {x : RegRef} {y : Written} : s.Keeps (t.writeDlogCtrl x y) := by
  unfold State.writeDlogCtrl
  extract_lets _ _ u1 u2
  have hu1 : s.Keeps u1 := h.writeFields
  have hu2 : s.Keeps u2 := (hu1.dlogEnable.ite hu1.dlogDisable).ite hu1
  exact hu2.dlogFlip.ite hu2

theorem writeDlogBuf (h : s.Keeps t) {x : RegRef} {y : Written} : s.Keeps (t.writeDlogBuf x y) := h.fset.ite h.writePlain

theorem writeLocked (h : s.Keeps t) {x : Master} {n : Nat} {f : Bool} {u : State} (h' : s.Keeps u) : s.Keeps (t.writeLocked x n f u) :=
  h.report.ite h'

theorem writeRngTest (h : s.Keeps t) {x : Master} {y : Written} : s.Keeps (t.writeRngTest x y) := by
  unfold State.writeRngTest
  extract_lets u
  have hu : s.Keeps u := h.ite (h.askTest.ite (h.leaveTest.ite h))
  exact hu.askPattern.ite (hu.fset.fset.ite hu)

theorem writePatternSeed (h : s.Keeps t) {x : RegRef} {y : Written} : s.Keeps (t.writePatternSeed x y) :=
  h.ite (h.writePlain.fset.ite h.writePlain)

theorem writeFcCtrl (h : s.Keeps t) {x : RegRef} {y : Written} : s.Keeps (t.writeFcCtrl x y) := h.writePlain.fset

theorem writeRule (h : s.Keeps t) {x : Master} {y : RegRef} {n : Nat} {z : Written} : s.Keeps (t.writeRule x y n z) := by
  unfold State.writeRule
  extract_lets u
  have hu : s.Keeps u := h.releaseWrite.ite h
  split
  next e => exact (hu.ruleWrite _ e).emit
  · exact hu.report

theorem writeRecovery (h : s.Keeps t) {x : Master} {y : RegRef} {n : Nat} {z : Written} : s.Keeps (t.writeRecovery x y n z) :=
  h.writeLocked (h.ite h.writePlain)

theorem writeRecCtrl (h : s.Keeps t) {x : RegRef} {y : Written} : s.Keeps (t.writeRecCtrl x y) := h.writeFields.softEvent

theorem writeNvCfg (h : s.Keeps t) {x : RegRef} {y : Written} : s.Keeps (t.writeNvCfg x y) :=
  (h.ite h.writeFields).regionReset.ite (h.ite h.writeFields)

theorem writeDumpCtrl (h : s.Keeps t) {x : RegRef} {y : Written} : s.Keeps (t.writeDumpCtrl x y) :=
  h.writeFields.ite (h.writeFields.enableDump.ite h.writeFields.fset)

theorem writeMeterCtrl (h : s.Keeps t) {x : RegRef} {y : Written} : s.Keeps (t.writeMeterCtrl x y) :=
  h.writeFields.ite (h.writeFields.enableMeter.ite (h.writeFields.fset.ite h.writeFields.fset))

theorem portFalls (h : s.Keeps t) {n : Nat} : s.Keeps (t.portFalls n) := (h.foldl (fun _ _ hv => hv.loseFrame)).portLost

theorem retrain (h : s.Keeps t) {n : Nat} : s.Keeps (t.retrain n) := h.portFalls.fset.ite h.portFalls.fset.fset

theorem writeLane (h : s.Keeps t) {x : RegRef} {y : Written} : s.Keeps (t.writeLane x y) := h.writePlain.retrain

theorem writeReg (h : s.Keeps t) {x : Master} {n : Nat} {y : RegRef} {z : Written} : s.Keeps (t.writeReg x n y z) := by
  unfold State.writeReg
  extract_lets _
  split
  · exact h.writeQpCtrl
  · exact h.writeQpConfig
  · exact h.writeQpConfig
  · exact h.writeQpConfig
  · exact h.writeQpConfig
  · exact h.sqDoorbell.ite h
  · exact h.cqDoorbell.ite h
  · exact h.writeDlogCtrl
  · exact h.writeDlogBuf
  · exact h.writeDlogBuf
  · exact h.writeDlogBuf
  · exact h.writeLocked h.writePlain
  · exact h.compatLock.ite h
  · exact h.succAbandon.ite h
  · exact h.askWipe
  · exact h.writePlain.ite h
  · exact h.zeroCore.ite h
  · exact h.writeFcCtrl
  · exact h.askRestart.ite h
  · exact h.writeRngTest
  · exact h.writePatternSeed
  · exact h.writeRule
  · exact h.writeRule
  · exact h.writeRule
  · exact h.writeRule
  · exact h.writeRule
  · exact h.writeRule
  · exact h.powerRequest.ite h
  · exact h.maskWrite.ite h
  · exact h.writeRecovery
  · exact h.writeRecovery
  · exact h.writeRecovery
  · exact h.writeLocked h.writeFields
  · exact h.writeLocked (h.writeSensor.ite h)
  · exact h.writeRecCtrl
  · exact h.writeNvCfg
  · exact h.writeDumpCtrl
  · exact h.ite h.writePlain
  · exact h.writeMeterCtrl
  · exact h.ite h.writePlain
  · exact h.meterHead.ite h
  · exact h.ite h.writePlain
  · exact h.writeLane
  · exact h.writePlain

theorem writeOperand (h : s.Keeps t) {n m k i j : Nat} : s.Keeps (t.writeOperand n m k i j) := h.ite h.withPke

theorem writePiece (h : s.Keeps t) {x : Master} {y : AddrSpace} {n m k i : Nat} : s.Keeps (t.writePiece x y n m k i) := by
  unfold State.writePiece
  extract_lets _ _
  split
  · exact h.writeOperand
  · split
    · exact h.writeReg.ite h
    · exact h

theorem rpStore (h : s.Keeps t) {n : Nat} {b : Bytes} : s.Keeps (t.rpStore n b) := h.withWld

theorem memoryWrite (h : s.Keeps t) {x : Master} {n : Nat} {b : Bytes} : s.Keeps (t.memoryWrite x n b) := by
  unfold State.memoryWrite
  split
  · exact h.emit
  · split
    · exact h.rpStore
    · split
      · exact h.memoryStore
      · exact h

theorem registerWrite (h : s.Keeps t) {x : Master} {y : AddrSpace} {n m k : Nat} : s.Keeps (t.registerWrite x y n m k) := by
  unfold State.registerWrite
  split
  · exact h.report.judgeRecord
  · exact h.ite (h.memoryWrite.ite (h.foldl (fun _ _ hv => hv.writePiece)))

theorem execRegisterWrite_runs (h : s.Keeps t) {n : Nat} {x : Master} {y : AddrSpace} {m k i : Nat} :
    s.Runs (execRegisterWrite n x y m k i t) := .next h.tick.registerWrite

theorem execNetLaneCfgWrite_runs (h : s.Keeps t) {n : Nat} {x : Master} {m k : Nat} : s.Runs (execNetLaneCfgWrite n x m k t) :=
  .ite (.next h.tick.registerWrite) (.next h.tick)

end

/-! ## Links and debug (R42, R49, R452 to R460) -/

section
variable {s t : State}

theorem execPortLinkUp_runs (h : s.Keeps t) {n m : Nat} {f : Bool} : s.Runs (execPortLinkUp n m f t) :=
  .ite (.next h.tick.setReg.fset.fset.fset.raiseIrq) (.next h.tick)

theorem execPortLinkDown_runs (h : s.Keeps t) {n m : Nat} : s.Runs (execPortLinkDown n m t) := .ite (.next h.tick.retrain) (.next h.tick)

theorem netForgets (h : s.Keeps t) {n : Nat} : s.Keeps (t.netForgets n) :=
  (h.foldl (fun _ _ hv1 => hv1.foldl (fun _ _ hv2 => hv2.setReg))).foldl (fun _ _ hv3 => hv3.setReg)

theorem netOff (h : s.Keeps t) {n m : Nat} : s.Keeps (t.netOff n m) :=
  (h.fset.foldl (fun _ _ hv1 => hv1.portFalls)).netForgets.ite (h.fset.foldl (fun _ _ hv2 => hv2.portFalls))

theorem execIslandGated_runs (h : s.Keeps t) {n m : Nat} : s.Runs (execIslandGated n m t) :=
  .ite (.ite (.next h.tick.fset) (.ite (.next h.tick.netOff) (.next h.tick.fset))) (.next h.tick)

theorem packetRefused (h : s.Keeps t) {n : Nat} : s.Keeps (t.packetRefused n) := by
  unfold State.packetRefused
  extract_lets _
  split
  · exact h
  · extract_lets _ u
    have hu : s.Keeps u := h.setPacket
    split
    · exact hu
    · split
      · exact hu.setJob.dropBlk
      · exact hu.setJob
      · exact hu.setJob
      · exact hu.unmakeKey.setJob
      · exact hu.setJob

theorem dmaFails (h : s.Keeps t) {x : DmaUse} : s.Keeps (t.dmaFails x) := by
  unfold State.dmaFails
  extract_lets u
  have hu : s.Keeps u := h.bumpSat
  split
  · exact hu.fset.stopQp.ite hu
  · exact hu.fset.stopQp.ite hu
  · exact hu.packetRefused
  · exact hu
  · exact hu

theorem execDmaRefused_runs (h : s.Keeps t) {n : Nat} {x : DmaUse} : s.Runs (execDmaRefused n x t) := .next h.tick.dmaFails.settle

theorem execDmaCompletionTimeout_runs (h : s.Keeps t) {n : Nat} {x : DmaUse} : s.Runs (execDmaCompletionTimeout n x t) :=
  .next h.tick.dmaFails.settle

theorem execLateCompletion_runs (h : s.Keeps t) {n : Nat} : s.Runs (execLateCompletion n t) := .next h.tick.bumpSat

theorem execIdeIntegrityFailure_runs (h : s.Keeps t) {n m : Nat} {x : Option DmaUse} : s.Runs (execIdeIntegrityFailure n m x t) := by
  unfold execIdeIntegrityFailure
  extract_lets u1 u2 u3
  have hu1 : s.Keeps u1 := h.tick
  have hu2 : s.Keeps u2 := hu1.bumpSat
  have hu3 : s.Keeps u3 := hu2.setIde
  split
  · refine .next ?_
    split
    · exact hu3.dmaFails.settle
    · exact hu3
  · exact .next hu1

theorem setTap (h : s.Keeps t) {n : Nat} : s.Keeps (t.setTap n) := h.withLnk

theorem execExtest_runs (h : s.Keeps t) {n : Nat} {x : List (String × Bool)} : s.Runs (execExtest n x t) :=
  .ite (.next (h.tick.setTap.foldl (fun _ _ hv => hv.emit))) (.next h.tick.setTap)

theorem execSamplePreload_runs (h : s.Keeps t) {n : Nat} : s.Runs (execSamplePreload n t) := .next h.tick.setTap

theorem execIdcode_runs (h : s.Keeps t) {n : Nat} : s.Runs (execIdcode n t) := .next h.tick.setTap

theorem execClamp_runs (h : s.Keeps t) {n : Nat} : s.Runs (execClamp n t) := .next h.tick.setTap

theorem execHighz_runs (h : s.Keeps t) {n : Nat} : s.Runs (execHighz n t) := .next h.tick.setTap

theorem execBypass_runs (h : s.Keeps t) {n : Nat} : s.Runs (execBypass n t) := .next h.tick.setTap

theorem readMemory (h : s.Keeps t) {n : Nat} : s.Keeps (t.readMemory n).2 := by
  unfold State.readMemory
  split
  · exact h.inSnd
  · exact h.choose

theorem debugRead (h : s.Keeps t) {n : Nat} : s.Keeps (t.debugRead n) := by
  unfold State.debugRead
  extract_lets u _
  have hu : s.Keeps u := h.emit
  split
  · split
    next e => exact (h.readMemory.snd e).emit
  · exact hu.withWld.ite hu

theorem debugAccess (h : s.Keeps t) {x : AccKind} {n m : Nat} : s.Keeps (t.debugAccess x n m) := by
  unfold State.debugAccess
  split
  · exact h.ite h.emit
  · split
    · exact h.registerWrite
    · split
      · exact h.report.emit
      · exact h.debugRead

theorem execPdp_runs (h : s.Keeps t) {n : Nat} {x : AccKind} {m k : Nat} : s.Runs (execPdp n x m k t) := .next h.tick.setTap.debugAccess

end

/-! ## SIGN and VERIFY (R205, R206) -/

section
variable {s t : State}

theorem hashMessage (h : s.Keeps t) {n : Nat} : s.Keeps (t.hashMessage n) := by
  unfold State.hashMessage
  split
  · exact h.setJob.addBlk.steerWaiting.ite h
  · exact h

theorem runSigned (h : s.Keeps t) {n m : Nat} {x : PktData} : s.Keeps (t.runSigned n m x) :=
  h.runPacket (fun _ _ _ hv => (hv.accepted hv.askAsym).hashMessage)

theorem execSign_runs (h : s.Keeps t) {n m : Nat} {x : PktData} : s.Runs (execSign n m x t) := .next h.tick.runSigned

theorem execVerify_runs (h : s.Keeps t) {n m : Nat} {x : PktData} : s.Runs (execVerify n m x t) := .next h.tick.runSigned

end

/-! ## The dispatch of commands -/

section
variable {s t : State}

theorem exec_runs (h : s.Keeps t) {x : Instr} : s.Runs (exec x t) := by
  unfold exec
  split
  · exact h.execPowerOnReset_runs
  · exact h.execColdReset_runs
  · exact h.execRpReset_runs
  · exact h.execHostLinkReset_runs
  · exact h.execFunctionLevelReset_runs
  · exact h.execBootPhaseRom_runs
  · exact h.execBootPhaseKeys_runs
  · exact h.execBootPhaseImages_runs
  · exact h.execIslandSelftestDone_runs
  · exact h.execBootPhaseFirmware_runs
  · exact h.execBootReady_runs
  · exact h.execRecoveryGo_runs
  · exact h.execQpEnable_runs
  · exact h.execQpStop_runs
  · exact h.execQpStopComplete_runs
  · exact h.execSqTailDoorbell_runs
  · exact h.execCqHeadDoorbell_runs
  · exact h.execSqEntryFetch_runs
  · exact h.execRandomnessReady_runs
  · exact h.execRandomnessHoldExpiry_runs
  · exact h.execTokenBucketStart_runs
  · exact h.execCompletionIrqDelayExpiry_runs
  · exact h.execKeyGenerate_runs
  · exact h.execKeyLoad_runs
  · exact h.execKeyUnload_runs
  · exact h.execKeyPublic_runs
  · exact h.execKeyDerive_runs
  · exact h.execKeyExport_runs
  · exact h.execKeyImport_runs
  · exact h.execKeyDelete_runs
  · exact h.execKeyAttr_runs
  · exact h.execAeadSeal_runs
  · exact h.execAeadOpen_runs
  · exact h.execXtsEncrypt_runs
  · exact h.execXtsDecrypt_runs
  · exact h.execCmacGenerate_runs
  · exact h.execCmacVerify_runs
  · exact h.execHash_runs
  · exact h.execHmacGenerate_runs
  · exact h.execHmacVerify_runs
  · exact h.execHkdf_runs
  · exact h.execTlsProtect_runs
  · exact h.execTlsUnprotect_runs
  · exact h.execKeyFileKeyDelivered_runs
  · exact h.execLookasideResult_runs
  · exact h.execSign_runs
  · exact h.execVerify_runs
  · exact h.execKeyAgree_runs
  · exact h.execKemEncaps_runs
  · exact h.execKemDecaps_runs
  · exact h.execRsaEncrypt_runs
  · exact h.execRsaDecrypt_runs
  · exact h.execWsOpen_runs
  · exact h.execWsClose_runs
  · exact h.execWsWrite_runs
  · exact h.execWsRead_runs
  · exact h.execWsExec_runs
  · exact h.execPkeDispatch_runs
  · exact h.execVerifyJobPlacement_runs
  · exact h.execYieldPoint_runs
  · exact h.execLatticeQuantumBoundary_runs
  · exact h.execPkeJobEnd_runs
  · exact h.execReleaseGate_runs
  · exact h.execFaultCheckFired_runs
  · exact h.execLockstepMismatch_runs
  · exact h.execVaultCreate_runs
  · exact h.execVaultLoad_runs
  · exact h.execVaultPolicySet_runs
  · exact h.execVaultDelete_runs
  · exact h.execQuorumChallenge_runs
  · exact h.execChallengeExpiry_runs
  · exact h.execResealApprove_runs
  · exact h.execDqChallenge_runs
  · exact h.execDqPolicySet_runs
  · exact h.execSaInstall_runs
  · exact h.execSaRekey_runs
  · exact h.execSaRetire_runs
  · exact h.execSaDrainDone_runs
  · exact h.execSaQueryState_runs
  · exact h.execSaQueryWait_runs
  · exact h.execSaQueryTimeout_runs
  · exact h.execPolicyAdd_runs
  · exact h.execPolicyDelete_runs
  · exact h.execDirectedFlush_runs
  · exact h.execTblRehash_runs
  · exact h.execTblFlush_runs
  · exact h.execAttest_runs
  · exact h.execMeterReadInterim_runs
  · exact h.execMeterReadStatement_runs
  · exact h.execMeasureRead_runs
  · exact h.execSliceBind_runs
  · exact h.execSliceUnbind_runs
  · exact h.execShareSet_runs
  · exact h.execMirrorBuildDone_runs
  · exact h.execMirrorRebuildDone_runs
  · exact h.execModeSwitch_runs
  · exact h.execFwStage_runs
  · exact h.execFwActivate_runs
  · exact h.execResealDeadline_runs
  · exact h.execPairSwitchDone_runs
  · exact h.execActivationPairFailure_runs
  · exact h.execLcTransition_runs
  · exact h.execLcStepsRun_runs
  · exact h.execSliceExport_runs
  · exact h.execSliceExportSizeQuery_runs
  · exact h.execSliceExportSignPending_runs
  · exact h.execSliceExportDiscardPending_runs
  · exact h.execSliceImportOffer_runs
  · exact h.execSliceImport_runs
  · exact h.execOfferExpiry_runs
  · exact h.execConfigLoad_runs
  · exact h.execVaultBackupInit_runs
  · exact h.execVaultBackup_runs
  · exact h.execVaultRestore_runs
  · exact h.execEvidenceExport_runs
  · exact h.execCardInserted_runs
  · exact h.execCardOperatingConditionPoll_runs
  · exact h.execCardRemoved_runs
  · exact h.execEntropyBlock_runs
  · exact h.execSiroccoRestartDone_runs
  · exact h.execRngRestart_runs
  · exact h.execDrbgKatRepeat_runs
  · exact h.execEntropyTestModeEnter_runs
  · exact h.execEntropyTestModeExit_runs
  · exact h.execRngTestPattern_runs
  · exact h.execRngRawRead_runs
  · exact h.execRemaskLine_runs
  · exact h.execRemaskPassEnd_runs
  · exact h.execRemaskLate_runs
  · exact h.execKsWipe_runs
  · exact h.execWipeDone_runs
  · exact h.execKsCompatLock_runs
  · exact h.execKsSuccAbandon_runs
  · exact h.execPkeCoreZero_runs
  · exact h.execDlogEnable_runs
  · exact h.execDlogDisable_runs
  · exact h.execDlogFlip_runs
  · exact h.execDlogFlipDone_runs
  · exact h.execMacsecOutboundFrame_runs
  · exact h.execMacsecInboundFrame_runs
  · exact h.execEspOutboundFrame_runs
  · exact h.execEspInboundFrame_runs
  · exact h.execInlineClusterDone_runs
  · exact h.execTxPipelineFinish_runs
  · exact h.execLearnInsert_runs
  · exact h.execStashReinsert_runs
  · exact h.execSweeperVisit_runs
  · exact h.execPortLinkUp_runs
  · exact h.execPortLinkDown_runs
  · exact h.execDmaRefused_runs
  · exact h.execDmaCompletionTimeout_runs
  · exact h.execLateCompletion_runs
  · exact h.execIdeIntegrityFailure_runs
  · exact h.execGetVersion_runs
  · exact h.execGetCapabilities_runs
  · exact h.execNegotiateAlgorithms_runs
  · exact h.execGetDigests_runs
  · exact h.execGetCertificate_runs
  · exact h.execChallenge_runs
  · exact h.execGetMeasurements_runs
  · exact h.execKeyExchange_runs
  · exact h.execFinish_runs
  · exact h.execEndSession_runs
  · exact h.execHeartbeat_runs
  · exact h.execKeyUpdate_runs
  · exact h.execChunkSend_runs
  · exact h.execChunkGet_runs
  · exact h.execKeyProg_runs
  · exact h.execKSetGo_runs
  · exact h.execKSetStop_runs
  · exact h.execQuery_runs
  · exact h.execSpdmUnsupportedRequest_runs
  · exact h.execSetEndpointId_runs
  · exact h.execGetEndpointId_runs
  · exact h.execGetMctpVersionSupport_runs
  · exact h.execGetMessageTypeSupport_runs
  · exact h.execEntdaa_runs
  · exact h.execWcallFromOpen_runs
  · exact h.execWcallFromSecure_runs
  · exact h.execYield_runs
  · exact h.execMsgSend_runs
  · exact h.execMsgRecv_runs
  · exact h.execInfo_runs
  · exact h.execSecureInterrupt_runs
  · exact h.execRuleWrite_runs
  · exact h.execAssignLock_runs
  · exact h.execDbgLock_runs
  · exact h.execDevPwrReq_runs
  · exact h.execIslandReleaseWrite_runs
  · exact h.execIslandGated_runs
  · exact h.execIslandPoweredUp_runs
  · exact h.execAccessViolation_runs
  · exact h.execAsvRecordPop_runs
  · exact h.execDebugHaltRequest_runs
  · exact h.execExtest_runs
  · exact h.execSamplePreload_runs
  · exact h.execIdcode_runs
  · exact h.execClamp_runs
  · exact h.execHighz_runs
  · exact h.execPdp_runs
  · exact h.execBypass_runs
  · exact h.execManufacturingProgramTrim_runs
  · exact h.execManufacturingTransitionFactory_runs
  · exact h.execManufacturingTransitionScrap_runs
  · exact h.execOasisVisitStart_runs
  · exact h.execOasisDrainDone_runs
  · exact h.execUnitSelftestDone_runs
  · exact h.execKnownAnswerCheck_runs
  · exact h.execMemoryScrubPass_runs
  · exact h.execUncorrectableError_runs
  · exact h.execRailWarningExcursion_runs
  · exact h.execUnannouncedPowerLoss_runs
  · exact h.execOrderlyPowerLoss_runs
  · exact h.execOverVoltage_runs
  · exact h.execGlitch_runs
  · exact h.execClockFrequency_runs
  · exact h.execShortCycle_runs
  · exact h.execReferenceLost_runs
  · exact h.execMeshCheck_runs
  · exact h.execTamperSwitch_runs
  · exact h.execZeroize_runs
  · exact h.execTemperature_runs
  · exact h.execVbakLow_runs
  · exact h.execVbakOver_runs
  · exact h.execSecondDecision_runs
  · exact h.execConditionEnd_runs
  · exact h.execHoldLift_runs
  · exact h.execClass2EraseDone_runs
  · exact h.execClearHoldRelease_runs
  · exact h.execEvidenceCommit_runs
  · exact h.execGntLock_runs
  · exact h.execPfwNAsserted_runs
  · exact h.execPfwNDeasserted_runs
  · exact h.execDevIrqMaskWrite_runs
  · exact h.execMeterTick_runs
  · exact h.execMeterEnable_runs
  · exact h.execDumpTick_runs
  · exact h.execDumpEnable_runs
  · exact h.execSoftwareEvent_runs
  · exact h.execRecorderFlush_runs
  · exact h.execRecorderRegionReset_runs
  · exact h.execRegisterWrite_runs
  · exact h.execUnknownOpcodeRelease_runs
  · exact h.execLcStopDeadline_runs
  · exact h.execRandomDrawTimeout_runs
  · exact h.execHostLinkUp_runs
  · exact h.execKaSupplyLost_runs
  · exact h.execKaSupplyRestored_runs
  · exact h.execMeterHeadWrite_runs
  · exact h.execNetLaneCfgWrite_runs
  · exact h.execCardResponseTimeout_runs
  · exact h.execCardBusyTimeout_runs
  · exact h.execMctpUnsupportedMessage_runs
  · exact h.execDeviceTimerExpiry_runs

end

end State.Keeps

/-! ## Every step (O4) -/

/-- What the block does while no command comes keeps all three parts. -/
theorem State.idle_keeps (s : State) : s.Keeps s.idle := (State.Keeps.refl s).idle

/-- A command keeps them, and leaves the queue behind it as it was. -/
theorem exec_keeps {s t : State} {c : Instr} (h : exec c s = .next t) : s.Keeps t := (State.Keeps.refl s).exec_runs t h

theorem State.Keeps.result {s t : State} (h : s.Keeps t) (d : s.LogDense) : s.Permanent t ∧ t.LogDense ∧ t.pending = s.pending := by
  obtain ⟨dense, kept⟩ := h.log d
  exact ⟨⟨h.otp, kept⟩, dense, h.queue⟩

/-- Settles O4: without a command the block's own work keeps OTP, log and queue; a command is run on the state with the rest of the queue. -/
theorem stepKeepsPermanentRecord : Obligations.StepKeepsPermanentRecord := by
  intro s t d h
  unfold step at h
  split at h
  next hp =>
    obtain rfl := Host.Outcome.next.inj h
    obtain ⟨permanent, dense, queue⟩ := s.idle_keeps.result d
    exact ⟨permanent, dense, queue.trans (by rw [hp]; rfl)⟩
  next c rest hp =>
    have kept : State.Keeps { s with pending := rest } t := exec_keeps h
    obtain ⟨permanent, dense, queue⟩ := kept.result d
    exact ⟨⟨permanent.otp, permanent.log⟩, dense, queue.trans (by rw [hp]; rfl)⟩

end Sys2Proof.Machine
end
